-- ==== Sys2Proof/Word.lean ====
section
/-! DEFINITION. The word types of the block: a register is a 32-bit word (R383), memory is made of bytes, STEP is a
48-bit counter (Table SCO-4 and R17). -/

namespace Sys2Proof

/-- One register word. -/
abbrev Word := BitVec 32

/-- One byte of memory or of a frame. -/
abbrev Byte := BitVec 8

/-- The STEP counter and every step tag (R17, R19). -/
abbrev StepTag := BitVec 48

/-- A natural number as a word, modulo 2^32. -/
abbrev word (n : Nat) : Word := BitVec.ofNat 32 n

end Sys2Proof
end

