-- ==== Sys2Proof/Syntax.lean ====
section
/-! DEFINITION. The commands: one constructor per row of the table of operations and events, with what its sender asserts
(the port and words of a host access, the axis and the measured facts of an event). -/

namespace Sys2Proof

/-- An upset of a memory word: in a plot store (word number 0x8000 per logical plot) or the granary, and whether it is
beyond correction. -/
structure Upset where
  plot   : Bool
  word   : Nat
  double : Bool
  deriving DecidableEq, Repr

/-- What a shunt ADC latched for one leg: its raw code, and whether the low-side gate output of the leg was high
throughout the sample's window (Table SNS-4, WIN). -/
structure LegSample where
  raw   : BitVec 14
  clean : Bool
  deriving DecidableEq, Repr

/-- A completed measurement of a command pin (Table SNS-5). -/
inductive CmdMeas where
  /-- A conversion of the analogue form. -/
  | code (c : BitVec 14)
  /-- A rising-to-rising period of the duty form: LCLK cycles high, and of the whole period. -/
  | duty (high period : Nat)
  /-- A rising edge of the frequency form: LCLK cycles since the previous rising edge, and since the last
  schedule-period boundary. -/
  | edge (period at_ : Nat)
  deriving DecidableEq, Repr

/-- A frame as the receiver's SerDes hands it over: its 64 bytes, and whether it had no code or disparity error and was
closed by EOF (Table TRL-3). -/
structure LinkFrame where
  bytes : List Byte
  clean : Bool
  deriving DecidableEq, Repr

/-- The condition met by a training state of Table TRL-6, with what it learned. -/
inductive TrainStep where
  /-- LANE_DETECT: both RX lanes show signal for 10 µs. -/
  | signal
  /-- SYMBOL_LOCK: 64 aligned commas on each lane without a code error. -/
  | lock
  /-- DESKEW: lane reversal corrected, polarity inversion corrected per lane, the skew in UI. -/
  | deskew (swap : Bool) (pol : BitVec 2) (skew : Nat)
  /-- CAPABILITY: the peer's stepping, IMG_HASH as eight words, CHIP_REPRO_SIG, FORCE, whether its schedule runs, and the
  role it keeps (0 none, 1 east, 2 west). -/
  | cap (stepping : BitVec 4) (hash : List Word) (sig : Word) (force : BitVec 2) (run : Bool) (kept : BitVec 2)
  /-- ELECT: the nonces drawn, this chip's and the peer's, in order. -/
  | elect (draws : List (Nat × Nat))
  /-- SLOT_ALIGN: LINK_DLY measured in UI, and whether the boundaries lie more than 5 ns apart. -/
  | align (dly : BitVec 12) (apart : Bool)
  deriving DecidableEq, Repr

/-- Who asks the Turnstile for tokens (chapter 03, "Turnstile"): scan channel `c`, unplanned silo access `n`, bulk descriptor
`i`, or the PD3 wake. -/
inductive TrnWho where
  | scan (c : Nat)
  | silo (n : Nat)
  | bulk (i : Nat)
  | pd3
  deriving DecidableEq, Repr

/-- The rows of the table of operations and events, in its order. -/
inductive Instr where
  /-- A schedule-period boundary cycle, with the level of NFLT_x (true: low) and of the overcurrent comparators U, V, W of each axis. -/
  | schedulePeriodBoundary (nflt : BitVec 4) (oc : BitVec 12)
  /-- The last LCLK cycle of a frame. -/
  | endOfFrameCheckpoint
  /-- A load point of axis `a` within a schedule period, with the levels of its trip inputs. -/
  | loadPoint (a : Fin 4) (nflt : Bool) (oc : BitVec 3)
  /-- The commit window of load group `g` opens. -/
  | commitWindow (g : Fin 4)
  /-- The timebase of axis `a` reaches the position of trigger `n`; `early` for a PRE trigger of the next set. -/
  | trig (a n : Fin 4) (early : Bool)
  /-- The shunt results and the VBUS result that are latched for axis `a` in this cycle. -/
  | conversionEnd (a : Fin 4) (u v w : Option LegSample) (vbus : Option (BitVec 14))
  /-- The slow item's code. -/
  | slowItemLatch (a : Fin 4) (code : BitVec 14)
  /-- Port `p` writes `v` with GO to SNS_CAL. -/
  | offsetCalibrationRequest (p : Fin 2) (a : Fin 4) (v : Word)
  /-- Offset calibration of axis `a` ends: the 64 raw codes of U, V and W at each of the four gains in order. -/
  | offsetCalibrationEnd (a : Fin 4) (codes : List (List (BitVec 14)))
  /-- The overcurrent comparators U, V, W of axis `a` now active. -/
  | overcurrentTrip (a : Fin 4) (oc : BitVec 3)
  /-- NFLT_x of axis `a` goes low. -/
  | nfltTrip (a : Fin 4)
  /-- The BLANK window of timer channel `c` of axis `a` ends, with the levels of the trip inputs. -/
  | blankWindowClose (a c : Fin 4) (nflt : Bool) (oc : BitVec 3)
  /-- Timer channel `c` of axis `a` reaches its start or period. -/
  | tchEvent (a c : Fin 4)
  /-- A switch-node edge of leg `l`, `d` LCLK cycles after the turn-off command; `lh` for the low-to-high edge. -/
  | switchNodeEdge (a : Fin 4) (l : Fin 3) (lh : Bool) (d : Nat)
  /-- No switch-node edge within DLY_WIN. -/
  | switchNodeMiss (a : Fin 4) (l : Fin 3) (lh : Bool)
  /-- A command-pin measurement completes. -/
  | commandMeasurement (a : Fin 4) (m : CmdMeas)
  /-- The loss-of-signal timer of axis `a` reaches its limit. -/
  | los (a : Fin 4)
  /-- Port `p` writes `v` with REQ to PWM_LOAD. -/
  | loadReq (p : Fin 2) (a : Fin 4) (v : Word)
  /-- Port `p` writes CLR to PWM_TRIP_CLR, with the levels of the trip inputs. -/
  | tripClr (p : Fin 2) (a : Fin 4) (nflt : Bool) (oc : BitVec 3)
  /-- A JTAG debug halt of the axes of `m`. -/
  | debugHalt (m : BitVec 4)
  /-- LCLK cycle PWM_PER - 2 of axis `a`. -/
  | drvMask (a : Fin 4)
  /-- Port `p` writes `v` with ACK to LPE_DRV_CTRL. -/
  | drvAck (p : Fin 2) (a : Fin 4) (v : Word)
  /-- Pass O of axis `a`, with the number of memory words corrected in it and the block that read an uncorrectable one. -/
  | passO (a : Fin 4) (ce : Nat) (ue : Option Nat)
  /-- Pass H of axis `a`, with the same facts. -/
  | passH (a : Fin 4) (ce : Nat) (ue : Option Nat)
  /-- Port `p` writes `v` with SWAP to LPE_BANK_CTRL. -/
  | bankSwapRequest (p : Fin 2) (a : Fin 4) (v : Word)
  /-- The guard check of axis `a` has run its 128 cycles. -/
  | bankGuardCheckEnd (a : Fin 4)
  /-- The START cycle of RUN or TPLOT entry `i`. -/
  | scheduleEntryStart (i : Nat)
  /-- The next layer of entry `i`'s run completes, with the upsets of the memory words it read. -/
  | layerEnd (i : Nat) (ups : List Upset)
  /-- The last cycle of entry `i`'s run. -/
  | networkCommit (i : Nat)
  /-- The START cycle of silo transfer entry `i`. -/
  | spillStart (i : Nat)
  /-- The next block of entry `i`'s transfer ends: its data and CRC as received. -/
  | siloBlockEnd (i : Nat) (bytes : List Byte)
  /-- No data strobe in entry `i`'s burst. -/
  | dqsTimeout (i : Nat)
  /-- FCLK cycle 64 of the frame. -/
  | fallowBistStart
  /-- FCLK cycle 26 688 of the frame, with the result of the BIST. -/
  | fallowBistEnd (fail : Bool)
  /-- The window read or write of port `p` meets its slot, with the upsets of the words it touches. -/
  | windowAccessServed (p : Fin 2) (wr : Bool) (ups : List Upset)
  /-- The window read or write of port `p` was not served in 40 960 FCLK cycles. -/
  | windowAccessTimeout (p : Fin 2) (wr : Bool)
  /-- Port `p` writes `v` to FLD_REPAIR. -/
  | fldRepair (p : Fin 2) (v : Word)
  /-- A gap is long enough for unplanned access `n`: 0 to 3 the window read of port 0, 1 or write of port 0, 1; 4 + c scan channel c. -/
  | unplannedSiloAccess (n : Nat)
  /-- Port `p` writes `v` with SWAP to FLD_CSET_CTRL[c]. -/
  | cuttingSwapRequest (p : Fin 2) (c : Fin 32) (v : Word)
  /-- The swap check of set `c` has run. -/
  | cuttingSwapCheckEnd (c : Fin 32)
  /-- FLD_PGOOD goes high. -/
  | pd3PowerGood
  /-- PGOOD_TMO ticks have passed since FLD_PWREN. -/
  | pgoodTimeout
  /-- Two consecutive FLD_PGOOD samples are low. -/
  | pd3PowerGoodLost
  /-- Port `p` writes `v` with ACK to PCR_FLD_CTRL. -/
  | pd3Ack (p : Fin 2) (v : Word)
  /-- PRG's result is complete. -/
  | verdictPost
  /-- The last TPLOT entry of network `n` in the frame has ended. -/
  | testPlotCompare (n : Nat)
  /-- Port `p` writes DOUBT_ACK for the tenants of `m` to SAF_ACK. -/
  | doubtAck (p : Fin 2) (m : BitVec 5)
  /-- Port `p` writes AXSTOP_ACK for the axes of `m` to SAF_ACK. -/
  | axstopAck (p : Fin 2) (m : BitVec 4)
  /-- Port `p` writes STO_ACK to SAF_ACK. -/
  | stoAck (p : Fin 2)
  /-- Port `p` writes SAF_DEMAND with its key. -/
  | safDemand (p : Fin 2)
  /-- 50 µs have passed since the safety demand. -/
  | safeStatePowerOff
  /-- Port `p` writes SAF_REL with its key. -/
  | safRel (p : Fin 2)
  /-- 4000 SCLK ticks have passed since the first port's SAF_REL. -/
  | secondPortTimeout
  /-- The STO channels that have been low for 1.0 µs. -/
  | stoStopDemand (aLow bLow : Bool)
  /-- A 100 µs tick with the filtered levels of STOA_N and STOB_N, true for run. -/
  | stoTick (a b : Bool)
  /-- A GDEN pin has differed from its command on two ticks. -/
  | gdenReadbackMismatch
  /-- The SAFE_N pin has read `pin` on two ticks (true: high). -/
  | safeNMismatch (pin : Bool)
  /-- PAIR_SAFE_I has been high for 1 µs, or is low. -/
  | pairSafeI (level : Bool)
  /-- Window start `w` of the slice table, with the quiescence of the checker and the gap in FCLK cycles. -/
  | rotationSliceStart (w : Fin 4) (quiet : Bool) (gap : Nat)
  /-- A slice ends; `flagged` if the checker flagged the injected fault before LEN ended. -/
  | rotationSliceEnd (flagged : Bool)
  /-- VIN_AON is below its threshold. -/
  | powerOnReset
  /-- NRESET is low. -/
  | pinReset
  /-- NRESET is first seen high, with the code at BOOTSEL. -/
  | nresetRelease (boot : Fin 4)
  /-- Port `p` writes PCR_RST_CTRL with its key and FULL. -/
  | hostReset (p : Fin 2)
  /-- VDD_CORE, VDDA, VDDIO, VDDIO18 by bit: the monitors that have tripped for two ticks. -/
  | supplyMonitorTrip (rails : BitVec 4)
  /-- VDD_CORE is back within range. -/
  | borReset
  /-- 0 PLL lock lost, 1 reference lost, 2 beat-checker error. -/
  | clockFault (kind : Fin 3)
  /-- Reference detection ends: CLKIN (true), the crystal (false), or neither. -/
  | referenceDetection (r : Option Bool)
  /-- The main PLL reports lock. -/
  | pllLock
  /-- The beat checker has seen 16 coincident beats. -/
  | dividerAlignment
  /-- The loader applies the image whose stages have passed. -/
  | imageApply
  /-- The plot stores are filled. -/
  | plotStoreFillEnd
  /-- Every required start step has completed. -/
  | ready
  /-- Port `p` writes `v` with GO to PCR_SLEEP. -/
  | sleepRequest (p : Fin 2) (v : Word)
  /-- The frame boundary after an accepted sleep request. -/
  | sleepEntry
  /-- A rising edge on the WAKE pin. -/
  | wake
  /-- Port `p` writes HOST to PCR_WAKE_HOST. -/
  | wakeHost (p : Fin 2)
  /-- The restore from the silo ends; `good` if every section CRC was right. -/
  | restoreEnd (good : Bool)
  /-- Calibration and restore have ended. -/
  | wakeComplete
  /-- A unit that waits for tokens asks for them. -/
  | turnstileRequest (who : TrnWho)
  /-- An SCLK edge. -/
  | turnstileEdge
  /-- A request has waited TRN_WAIT_LIMIT ticks. -/
  | turnstileTimeout (who : TrnWho)
  /-- Port `p` writes `v` with START to PCR_IMG_CTRL. -/
  | start (p : Fin 2) (v : Word)
  /-- Port `p` writes the next image bytes to PCR_IMG_FIFO. -/
  | imgFifoWord (p : Fin 2) (v : Word)
  /-- 40 000 SCLK ticks have passed without the next FIFO word. -/
  | stall
  /-- Port `p` writes `v` with ABORT, and without START, to PCR_IMG_CTRL. -/
  | abort (p : Fin 2) (v : Word)
  /-- Port `p` writes `v` with SEAL, and without START and ABORT, to PCR_IMG_CTRL. -/
  | seal (p : Fin 2) (v : Word)
  /-- Port `p` writes `v` to a register with LIVE fields. -/
  | liveWrite (p : Fin 2) (addr : Nat) (v : Word)
  /-- The last tick of a Scarecrow slot, with the code converted in it. -/
  | slotEnd (code : BitVec 10)
  /-- The deglitched sector code of axis `a` changes, `ticks` SCLK ticks after the change before. -/
  | spinTransition (a : Fin 4) (old new : BitVec 3) (ticks : Nat)
  /-- STILL x 256 ticks have passed without a transition. -/
  | stillTimeout (a : Fin 4)
  /-- 400 ticks have passed with all six gate outputs low. -/
  | trackerRestart (a : Fin 4)
  /-- Port `p` reads SCW_LOG_TIME. -/
  | logTimeRead (p : Fin 2)
  /-- Port `p` writes `v` to SCW_FIRED. -/
  | firedWrite (p : Fin 2) (v : Word)
  /-- A WRITE frame of port `p`; `ok` if its CRC and length are right. -/
  | write (p : Fin 2) (ok : Bool) (addr : Nat) (vs : List Word)
  /-- A READ frame for `n` words. -/
  | read (p : Fin 2) (ok : Bool) (addr n : Nat)
  /-- A STAT frame. -/
  | stat (p : Fin 2) (ok : Bool)
  /-- A WWRITE frame. -/
  | wwrite (p : Fin 2) (ok : Bool) (addr : Nat) (vs : List Word)
  /-- A WREQ frame for `n` words. -/
  | wreq (p : Fin 2) (ok : Bool) (addr n : Nat)
  /-- A WFETCH frame. -/
  | wfetch (p : Fin 2) (ok : Bool) (addr : Nat)
  /-- An ENQ frame for queue `n`. -/
  | enq (p : Fin 2) (ok : Bool) (n : Nat) (ws : List Word)
  /-- A DEQ frame for queue `n` with the LEN field `len`. -/
  | deq (p : Fin 2) (ok : Bool) (n len : Nat)
  /-- A PEEK frame for queue `n` with the LEN field `len`. -/
  | peek (p : Fin 2) (ok : Bool) (n len : Nat)
  /-- CSN of port `p` rises before the last CRC bit. -/
  | frameDiscarded (p : Fin 2)
  /-- CSN of port `p` has been low for 256 SCLK ticks. -/
  | frameTimeout (p : Fin 2)
  /-- Port `p` writes `v` to QUE_DB[n]. -/
  | queDb (p : Fin 2) (n : Fin 64) (v : Word)
  /-- The engine has fetched what the oldest doorbell of queue `n` announces. -/
  | doorbellRegistered (n : Fin 64)
  /-- Port `p` writes `v` to QUE_CONS[n]. -/
  | queCons (p : Fin 2) (n : Fin 64) (v : Word)
  /-- The idle count of queue `n` reaches TMO. -/
  | queueTimeout (n : Fin 64)
  /-- Port `p` writes RST = 1 with its key to QUE_TEN_CTRL[t]. -/
  | tenantReset (p : Fin 2) (t : Fin 5)
  /-- Port `p` writes RST = 0 with its key to QUE_TEN_CTRL[t]. -/
  | tenantRelease (p : Fin 2) (t : Fin 5)
  /-- Port `p` writes `v` to SQR_SWTRIG. -/
  | sqrSwtrig (p : Fin 2) (v : Word)
  /-- The cycle after events met at MASK_SEL[a]. -/
  | payloadOverflowService (a : Fin 4)
  /-- A QUEUE slot for the pending events of QUE_DB[n]. -/
  | queueEventPost (n : Fin 64)
  /-- Port `p` reads SQR_AUD_A[k]. -/
  | sqrAudARead (p : Fin 2) (k : Fin 192)
  /-- Port `p` reads PCR_STEP_LO. -/
  | stepLoRead (p : Fin 2)
  /-- Port `p` writes GO to HRW_CH_CTRL[c]. -/
  | hrwGo (p : Fin 2) (c : Fin 4)
  /-- Port `p` writes ABORT to HRW_CH_CTRL[c]. -/
  | hrwAbort (p : Fin 2) (c : Fin 4)
  /-- The last element of channel `c` is streamed, with the upsets of the words it read. -/
  | scanEnd (c : Fin 4) (ups : List Upset)
  /-- Channel `c` was served nothing for 40 960 FCLK cycles after its first `n` elements. -/
  | starved (c : Fin 4) (n : Nat)
  /-- Scrub reads the next word of memory `m` (0 to 15 banks, 16 to 31 plot stores), with its upsets. -/
  | scrubAccess (m : Fin 32) (ups : List Upset)
  /-- A free slot for the corrected word of memory `m`. -/
  | scrubWriteBack (m : Fin 32)
  /-- Port `p` writes INIT to CHK_CTRL of unit `n`. -/
  | chkInit (p : Fin 2) (n : Fin 8)
  /-- Port `p` writes `v` to CHK_DIN of unit `n`. -/
  | chkDin (p : Fin 2) (n : Fin 8) (v : Word)
  /-- Port `p` writes byte `v` to CHK_DIN1 of unit `n`. -/
  | chkDin1 (p : Fin 2) (n : Fin 8) (v : Byte)
  /-- The running standing check ends, with the upsets of the words it read. -/
  | standingCheckEnd (ups : List Upset)
  /-- Port `p` writes `v` with GO, and without ABORT, to LPE_RPL_CTRL. -/
  | replayGo (p : Fin 2) (a : Fin 4) (v : Word)
  /-- Port `p` writes `v` with ABORT, and without GO, to LPE_RPL_CTRL. -/
  | replayAbort (p : Fin 2) (a : Fin 4) (v : Word)
  /-- A leaving condition of Table TRL-6 is met. -/
  | trainingAdvance (t : TrainStep)
  /-- TRAIN_LIMIT ticks have passed. -/
  | trainTmo
  /-- A lane has shown no transition for 100 ns. -/
  | laneLossOfSignal
  /-- A slot starts; `y0` to `y3` count, by virtual channel, the frames at the queue's end that were queued too late for it. -/
  | slotStart (slot : Fin 16) (y0 y1 y2 y3 : Nat)
  /-- A burst whose SOF was registered `lclk` cycles after the boundary and `ui` UI from its expected time. -/
  | burstReceived (slot : Fin 16) (lclk : Nat) (ui : Int) (fs : List LinkFrame)
  /-- Slot-phase retraining ends, with LINK_DLY and whether the boundaries lie more than 5 ns apart. -/
  | retrainEnd (dly : BitVec 12) (apart : Bool)
  /-- A received NULL frame is handled. -/
  | null
  /-- A received HEARTBEAT is handled. -/
  | heartbeat
  /-- A received DOUBT frame is handled. -/
  | doubt
  /-- A received RETRACT frame is handled. -/
  | retract
  /-- A received SAFE frame is handled. -/
  | safe
  /-- A received SHARE frame is handled. -/
  | share
  /-- A received PARTIAL frame is handled. -/
  | partialFrame
  /-- All partials have arrived, or the waiting slot has ended. -/
  | reductionSum
  /-- A received CUT_BEGIN frame is handled. -/
  | cutBegin
  /-- A received CUT_DATA frame is handled. -/
  | cutData
  /-- A received CUT_STAT frame is handled. -/
  | cutStat
  /-- A received RTF_REQ frame is handled. -/
  | rtfReq
  /-- A received TILE_DATA frame is handled. -/
  | tileData
  /-- A received EVN frame is handled. -/
  | evn
  /-- A received EVN_ACK frame is handled. -/
  | evnAck
  /-- A received TILE_ABSENT frame is handled. -/
  | tileAbsent
  /-- The silo write of an eviction ends. -/
  | evictionSiloWriteEnd
  /-- Port `p` writes `v` to TRL_TILE_CMD. -/
  | tileCmd (p : Fin 2) (v : Word)
  /-- A link-off notice is received. -/
  | linkOffNotice
  /-- 128 consecutive error-free idle sets are received. -/
  | offReady
  /-- Port `p` writes `v` with ACK and its key to TRL_CTRL. -/
  | trlAck (p : Fin 2) (v : Word)
  /-- Port `p` writes `v` with PS_CLR, and without the key of ACK, to TRL_CTRL. -/
  | psClr (p : Fin 2) (v : Word)
  /-- Port `p` writes `v` with GO to TRL_BULK_CTRL[i]. -/
  | bulkGo (p : Fin 2) (i : Fin 8) (v : Word)
  /-- Bulk descriptor `i` was not complete within BULK_TMO periods. -/
  | bulkTimeout (i : Fin 8)
  /-- Port `p` writes `v` to AUX_SET. -/
  | auxSet (p : Fin 2) (v : BitVec 8)
  /-- Port `p` writes `v` to AUX_CLR. -/
  | auxClr (p : Fin 2) (v : BitVec 8)
  /-- An SCLK tick of the Aux controller. -/
  | auxDecision
  /-- 80 ticks of the off-delay of pair `k` have passed. -/
  | offDelayEnd (k : Fin 4)
  /-- The filtered Hall code of axis `a`. -/
  | hall (a : Fin 4) (code : BitVec 3)
  /-- Port `p` writes `v` to a register with no row of its own. -/
  | registerWrite (p : Fin 2) (addr : Nat) (v : Word)
  /-- A load from the silo ends: the bytes of the silo, from the image's address on, that it read. -/
  | siloLoadEnd (bytes : List Byte)
  /-- The VDD_TL monitor has tripped. -/
  | vddTlMonitorTrip
  /-- CSN of port `p` has been high for 4 ticks. -/
  | csnHighFourTicks (p : Fin 2)
  /-- The receive guard window of slot 0 closes without a HEARTBEAT. -/
  | slot0WithoutHeartbeat
  /-- Training ordered sets are received in UP. -/
  | trainingSetsWhileUp
  /-- Output `u` of axis `a` meets an edge or its dead-time offset, `t` fine units into the period. -/
  | outputEdge (a : Fin 4) (u : Fin 8) (t : Nat)
  deriving DecidableEq, Repr

end Sys2Proof
end

