-- ==== Sys2Proof/WellFormed.lean ====
section
/-! DEFINITION. Which commands are well formed: operands that the event or the frame can carry.  A command that is not is a
fault of its sender, not an event of the spec. -/

namespace Sys2Proof

/-- The upset names a word that exists: a plot store's below 0x80000, the granary's below 0x100000 (chapter 09, "The
granary"). -/
def Upset.wf (u : Upset) : Bool := decide (u.word < (if u.plot then 0x80000 else 0x100000))

/-- Every upset of a list names a word that exists. -/
def upsetsWf (l : List Upset) : Bool := l.all Upset.wf

/-- A unit of chapter 03, "Turnstile", that exists. -/
def TrnWho.wf : TrnWho → Bool
  | .scan c => decide (c < 4)
  | .silo n => decide (n < 8)
  | .bulk i => decide (i < 8)
  | .pd3 => true

/-- What a training state learns has the widths of Table TRL-6: eight words of IMG_HASH. -/
def TrainStep.wf : TrainStep → Bool
  | .cap _ hash _ _ _ _ => hash.length == 8
  | .signal | .lock | .deskew .. | .elect _ | .align .. => true

/-- A word count that LEN of Table QUE-8 can carry. -/
def countWf (n : Nat) : Bool := decide (1 ≤ n) && decide (n ≤ 64)

/-- An address that ADDR of Table QUE-8 can carry. -/
def addrWf (k : Nat) : Bool := decide (k < 2 ^ 32)

/-- The command's operands are those of an event or frame that the spec describes. -/
def Instr.wf : Instr → Bool
  | .offsetCalibrationEnd _ codes => codes.length == 12 && codes.all (fun l => l.length == 64)
  | .layerEnd _ ups | .windowAccessServed _ _ ups | .scanEnd _ ups | .scrubAccess _ ups | .standingCheckEnd ups => upsetsWf ups
  | .unplannedSiloAccess n => decide (n < 8)
  | .turnstileRequest w | .turnstileTimeout w => w.wf
  | .liveWrite _ addr _ | .registerWrite _ addr _ | .wfetch _ _ addr => addrWf addr
  | .write _ _ addr vs | .wwrite _ _ addr vs => addrWf addr && countWf vs.length
  | .read _ _ addr n | .wreq _ _ addr n => addrWf addr && countWf n
  | .enq _ _ n ws => addrWf n && countWf ws.length
  | .deq _ _ n len | .peek _ _ n len => addrWf n && decide (len < 64)
  | .trainingAdvance t => t.wf
  | .burstReceived _ _ _ fs => fs.all (fun f => f.bytes.length == 64)
  | .schedulePeriodBoundary .. | .endOfFrameCheckpoint | .loadPoint .. | .commitWindow .. | .trig ..
  | .conversionEnd .. | .slowItemLatch .. | .offsetCalibrationRequest .. | .overcurrentTrip .. | .nfltTrip ..
  | .blankWindowClose .. | .tchEvent .. | .switchNodeEdge .. | .switchNodeMiss .. | .commandMeasurement .. | .los ..
  | .loadReq .. | .tripClr .. | .debugHalt .. | .drvMask .. | .drvAck .. | .passO .. | .passH ..
  | .bankSwapRequest .. | .bankGuardCheckEnd .. | .scheduleEntryStart .. | .networkCommit .. | .spillStart ..
  | .siloBlockEnd .. | .dqsTimeout .. | .fallowBistStart | .fallowBistEnd .. | .windowAccessTimeout ..
  | .fldRepair .. | .cuttingSwapRequest .. | .cuttingSwapCheckEnd .. | .pd3PowerGood | .pgoodTimeout
  | .pd3PowerGoodLost | .pd3Ack .. | .verdictPost | .testPlotCompare .. | .doubtAck .. | .axstopAck .. | .stoAck ..
  | .safDemand .. | .safeStatePowerOff | .safRel .. | .secondPortTimeout | .stoStopDemand .. | .stoTick ..
  | .gdenReadbackMismatch | .safeNMismatch .. | .pairSafeI .. | .rotationSliceStart .. | .rotationSliceEnd ..
  | .powerOnReset | .pinReset | .nresetRelease .. | .hostReset .. | .supplyMonitorTrip .. | .borReset
  | .clockFault .. | .referenceDetection .. | .pllLock | .dividerAlignment | .imageApply | .plotStoreFillEnd | .ready
  | .sleepRequest .. | .sleepEntry | .wake | .wakeHost .. | .restoreEnd .. | .wakeComplete | .turnstileEdge
  | .start .. | .imgFifoWord .. | .stall | .abort .. | .seal .. | .slotEnd .. | .spinTransition .. | .stillTimeout ..
  | .trackerRestart .. | .logTimeRead .. | .firedWrite .. | .stat .. | .frameDiscarded .. | .frameTimeout ..
  | .queDb .. | .doorbellRegistered .. | .queCons .. | .queueTimeout .. | .tenantReset .. | .tenantRelease ..
  | .sqrSwtrig .. | .payloadOverflowService .. | .queueEventPost .. | .sqrAudARead .. | .stepLoRead .. | .hrwGo ..
  | .hrwAbort .. | .starved .. | .scrubWriteBack .. | .chkInit .. | .chkDin .. | .chkDin1 .. | .replayGo ..
  | .replayAbort .. | .trainTmo | .laneLossOfSignal | .slotStart .. | .retrainEnd .. | .null | .heartbeat | .doubt
  | .retract | .safe | .share | .partialFrame | .reductionSum | .cutBegin | .cutData | .cutStat | .rtfReq | .tileData
  | .evn | .evnAck | .tileAbsent | .evictionSiloWriteEnd | .tileCmd .. | .linkOffNotice | .offReady | .trlAck ..
  | .psClr .. | .bulkGo .. | .bulkTimeout .. | .auxSet .. | .auxClr .. | .auxDecision | .offDelayEnd .. | .hall ..
  | .siloLoadEnd .. | .vddTlMonitorTrip | .csnHighFourTicks .. | .slot0WithoutHeartbeat | .trainingSetsWhileUp
  | .outputEdge .. => true

end Sys2Proof
end

