-- ==== Sys2Proof/Decode.lean ====
section
/-! DEFINITION. The command a word spells: the table of operations and events gives its rows no bits, so no word spells one. -/

namespace Sys2Proof

/-- The command that the word `w` of `nbits` bits spells: none. -/
def decodeTableWord (_nbits _w : Nat) : Option Instr := none

end Sys2Proof
end

