-- ==== Sys2Proof/Config.lean ====
section
/-! DEFINITION. What the spec leaves open and the model leaves free.  Every constant here is opaque: it has a type
and no body, so no proof can rest on a value of it.  Each docstring says which words of the spec leave the value
open and names the log entry. -/

namespace Sys2Proof

/-- The sign and payload bits of a NaN that a binary32 operation yields from the operands `a`, `b` and `c`
(R157 and R158 give results "rounded to nearest" and no NaN payload).  DESIGN CHOICE, log entry 10. -/
opaque Config.nanBits (a b c : Word) : Word

/-- REF_START, the magnitude of the speed reference at which an axis with START_SRC = CMD requests a start
(chapter 07, "The drive sequencer"); the manual gives it no register and no value.  DESIGN CHOICE, log entry 11. -/
opaque Config.refStart (axis : Nat) : Word

/-- REF_STOP, the magnitude of the speed reference below which CMD form requests a stop; no register and no value
are given.  DESIGN CHOICE, log entry 11. -/
opaque Config.refStop (axis : Nat) : Word

/-- The angle word of the middle of the tracker's sector `code`, which CATCH seeds (chapter 07, "Start policy":
"the centre angle of the tracker's present sector code"); the manual does not place the sectors.  DESIGN CHOICE, log entry 12. -/
opaque Config.sectorAngle (code : Nat) : BitVec 16

/-- Whether a calibration mean that is no whole code is stored rounded up ("averages 64 conversions"; the rounding is
not given), by the sum of the 64 codes.  DESIGN CHOICE, log entry 15. -/
opaque Config.meanUp (sum : Int) : Bool

/-- The fault cause that a breach of a queue's audit records (R310: "sets ... the tenant's fault record"; Table QUE-12
lists no code for it).  DESIGN CHOICE, log entry 13. -/
opaque Config.auditCause : BitVec 4

/-- The seed drawn from the on-chip entropy source in Swift mode (R231: it "cannot be read"), by a fresh number.  Log
entry 14. -/
opaque Config.entropy (k : Nat) : BitVec 64

/-- The modulation component of a compare set whose phase compares the host wrote (chapter 07, "Applied voltage": the
components "of the compare set"; no operations that form them from compares are given): false for alpha, true for
beta; by the RISE and FALL words and the period.  DESIGN CHOICE, log entry 16. -/
opaque Config.hostMod (beta : Bool) (rise fall : List Word) (per : Nat) : Word

/-- The integer that round() makes of a word that is an infinity or a NaN (chapter 07: "the nearest integer").  Log
entry 17. -/
opaque Config.roundOf (w : Word) : Int

/-- Whether batch position 0 of the prognostic window holds the newest record: "The prognostic window" says "the record of
the frame W - 1 - p frames before the frame just closed" for position p, and of the same layout "Position 0 is
therefore the newest record", which contradict each other.  DESIGN CHOICE, log entry 18. -/
opaque Config.prgNewestFirst : Bool

/-- PRG's output channels from the outputs of several lanes, in lane order (chapter 11 gives PRG's last layer 16 channels
per axis; how lanes of a Standalone chip share it is not given).  DESIGN CHOICE, log entry 19. -/
opaque Config.prgLanes (outs : List (List Int)) : List Int

/-- Whether an average of arrival offsets that is no whole UI is rounded up ("averages the arrival offsets of the last 16
accepted heartbeat bursts"; the rounding is not given), by their sum and number.  DESIGN CHOICE, log entry 21. -/
opaque Config.ofsUp (sum : Int) (n : Nat) : Bool

/-- TRL_STAT.CAUSE of a link-off by the VDD_TL monitor (Table PWR-2: "link off"; Table TRL-10 lists no cause for it).  Log
entry 22. -/
opaque Config.tlSupplyCause : BitVec 8

/-- The section index (none for the header) and the offset of the failing item of a load that fails with `code`, where the
manual does not say which item fails (a missing section, a tenant not in reset, ABORT, STALL, a condition over several
items), by the bytes received.  DESIGN CHOICE, log entry 24. -/
opaque Config.stopItem (code : Nat) (image : List Byte) : Option (BitVec 8) × Word

/-- The error code, the section index (none for the header) and the offset that a load reports which fails by R121, R126,
R133, R143 or R149: those rules reject the image and name no code.  DESIGN CHOICE, log entry 25. -/
opaque Config.rejectReport (image : List Byte) : BitVec 8 × Option (BitVec 8) × Word

/-- Whether SHARE_BUF from granary offset `off` holds `periods` schedule periods of records (R357: "cannot hold 2K schedule
periods of records"; the manual gives neither a record's size there nor where the buffer ends).  DESIGN CHOICE, log entry 23. -/
opaque Config.shareBufFits (off periods : Nat) : Bool

/-- What an input-log descriptor of a bank swap (kind 3), a cutting swap (4) or twin data (5) of a tenant gives as its address
or set (`part` 0) and as the low 32 bits of its value (1), where Table QUE-3 and chapter 12, "Recording", do not say; a cutting
swap's set is its CSET.  By the STEP at which it acts.  DESIGN CHOICE, log entry 28. -/
opaque Config.inlogField (kind tenant part step : Nat) : Word

/-- Whether a requested depth that is no whole number of 1/65 536 is shown rounded up (Table COM-5: M_REQ is the "requested
depth, Q16"; the rounding is not given).  DESIGN CHOICE, log entry 29. -/
opaque Config.depthUp (m : Word) : Bool

/-- M_REQ of a requested depth that its 16 fraction bits cannot hold: 1 or more, or no number (Table COM-5: "requested depth,
Q16").  DESIGN CHOICE, log entry 29. -/
opaque Config.depthWide (m : Word) : BitVec 16

/-- Whether a replay's GO finds the recorded IMG_HASH equal to the running image's (R240; where the recorded one is held is
not stated), by a fresh number.  DESIGN CHOICE, log entry 20. -/
opaque Config.replaySame (k : Nat) : Bool

end Sys2Proof
end

