-- ==== Sys2Proof/Machine/Fp.lean ====
section
/-! DEFINITION. Binary32 arithmetic as R157 and R158 give it: one operation rounded to nearest, ties to even; a
fused multiply-add rounds once; division and square root correctly rounded; subnormal operands taken as zero with
their sign and subnormal results flushed to zero with their sign.  A number is its 32-bit word. -/

namespace Sys2Proof.Machine

/-- The sign bit of a binary32 word. -/
def fpSign (w : Word) : Bool := w.getLsbD 31

/-- The biased exponent of a binary32 word. -/
def fpExpo (w : Word) : Nat := w.toNat / 2 ^ 23 % 256

/-- The fraction bits of a binary32 word. -/
def fpFrac (w : Word) : Nat := w.toNat % 2 ^ 23

/-- The word is a NaN. -/
def fpIsNaN (w : Word) : Bool := fpExpo w == 255 && fpFrac w != 0

/-- The word is an infinity. -/
def fpIsInf (w : Word) : Bool := fpExpo w == 255 && fpFrac w == 0

/-- The word is taken as zero: a zero, or a subnormal operand (R158). -/
def fpIsZero (w : Word) : Bool := fpExpo w == 0

/-- The word is a finite number. -/
def fpIsFinite (w : Word) : Bool := fpExpo w != 255

/-- A word of sign `s`, biased exponent `e` and fraction `f`. -/
def fpPack (s : Bool) (e f : Nat) : Word := word ((if s then 2 ^ 31 else 0) + e * 2 ^ 23 + f)

/-- Zero of sign `s`. -/
def fpZero (s : Bool) : Word := fpPack s 0 0

/-- Infinity of sign `s`. -/
def fpInf (s : Bool) : Word := fpPack s 255 0

/-- A quiet NaN whose sign and payload are free (Config.nanBits). -/
def fpNaN (a b c : Word) : Word := 0x7FC00000#32 ||| (Config.nanBits a b c &&& 0x803FFFFF#32)

/-- The significand of a word that is finite and not taken as zero, 0 of one that is. -/
def fpMant (w : Word) : Nat := if fpExpo w = 0 then 0 else 2 ^ 23 + fpFrac w

/-- The exponent of the significand's lowest bit. -/
def fpExp (w : Word) : Int := (fpExpo w : Int) - 150

/-- `m` shifted right by `k` and rounded to nearest, ties to even. -/
def roundShift (m k : Nat) : Nat :=
  match k with
  | 0 => m
  | k + 1 =>
    let q := m >>> (k + 1)
    let r := m % 2 ^ (k + 1)
    if r < 2 ^ k then q
    else if r = 2 ^ k then q + q % 2
    else q + 1

/-- The binary32 word nearest to `± m · 2^e`, ties to even, with a subnormal result flushed to zero (R157, R158). -/
def fpRound (s : Bool) (m : Nat) (e : Int) : Word :=
  if m = 0 then fpZero s
  else
    let n : Int := (Nat.log2 m : Int) + 1
    let t := max (e + n - 24) (-149)
    let q := if t ≤ e then m <<< (e - t).toNat else roundShift m (t - e).toNat
    let (q, t) := if q = 2 ^ 24 then (2 ^ 23, t + 1) else (q, t)
    if q < 2 ^ 23 then fpZero s
    else if 255 ≤ t + 150 then fpInf s
    else fpPack s (t + 150).toNat (q - 2 ^ 23)

/-- The word nearest to a signed integer times `2^e`; zero takes the sign `z`. -/
def fpRoundInt (v : Int) (e : Int) (z : Bool) : Word :=
  if v = 0 then fpZero z else fpRound (v < 0) v.natAbs e

/-- The signed significand of a finite word. -/
def fpSMant (w : Word) : Int := if fpSign w then -(fpMant w : Int) else (fpMant w : Int)

/-- Negation flips the sign bit. -/
def fpNeg (w : Word) : Word := w ^^^ 0x80000000#32

/-- The magnitude. -/
def fpAbs (w : Word) : Word := w &&& 0x7FFFFFFF#32

/-- Exact `v · 2^e + v' · 2^e'`, rounded once; an exact zero takes the sign `z`. -/
def fpSum (v : Int) (e : Int) (v' : Int) (e' : Int) (z : Bool) : Word :=
  let m := min e e'
  fpRoundInt (v * 2 ^ (e - m).toNat + v' * 2 ^ (e' - m).toNat) m z

/-- Fused multiply-add `a · b + c`, rounded once. -/
def fpFma (a b c : Word) : Word :=
  if fpIsNaN a || fpIsNaN b || fpIsNaN c then fpNaN a b c
  else
    let s := fpSign a ^^ fpSign b
    if fpIsInf a || fpIsInf b then
      if (fpIsInf a && fpIsZero b) || (fpIsZero a && fpIsInf b) then fpNaN a b c
      else if fpIsInf c && fpSign c != s then fpNaN a b c
      else fpInf s
    else if fpIsInf c then c
    else
      let p := fpSMant a * fpSMant b
      let z := if p = 0 && fpSMant c = 0 then s && fpSign c else false
      fpSum p (fpExp a + fpExp b) (fpSMant c) (fpExp c) z

/-- Addition. -/
def fpAdd (a b : Word) : Word :=
  if fpIsNaN a || fpIsNaN b then fpNaN a b 0
  else if fpIsInf a then (if fpIsInf b && fpSign a != fpSign b then fpNaN a b 0 else a)
  else if fpIsInf b then b
  else fpSum (fpSMant a) (fpExp a) (fpSMant b) (fpExp b)
    (if fpSMant a = 0 && fpSMant b = 0 then fpSign a && fpSign b else false)

/-- Subtraction. -/
def fpSub (a b : Word) : Word := if fpIsNaN b then fpNaN a b 0 else fpAdd a (fpNeg b)

/-- Multiplication. -/
def fpMul (a b : Word) : Word :=
  let s := fpSign a ^^ fpSign b
  if fpIsNaN a || fpIsNaN b then fpNaN a b 0
  else if fpIsInf a || fpIsInf b then
    if fpIsZero a || fpIsZero b then fpNaN a b 0 else fpInf s
  else fpRound s (fpMant a * fpMant b) (fpExp a + fpExp b)

/-- Division, correctly rounded. -/
def fpDiv (a b : Word) : Word :=
  let s := fpSign a ^^ fpSign b
  if fpIsNaN a || fpIsNaN b then fpNaN a b 0
  else if fpIsInf a then (if fpIsInf b then fpNaN a b 0 else fpInf s)
  else if fpIsInf b then fpZero s
  else if fpIsZero b then (if fpIsZero a then fpNaN a b 0 else fpInf s)
  else
    let n := fpMant a <<< 50
    let q := n / fpMant b
    let st := if n % fpMant b = 0 then 0 else 1
    fpRound s (2 * q + st) (fpExp a - fpExp b - 51)

/-- Integer square root, bit by bit from bit `k - 1` down. -/
def isqrtGo (n : Nat) : Nat → Nat → Nat
  | 0, r => r
  | k + 1, r =>
    let c := r + 2 ^ k
    if c * c ≤ n then isqrtGo n k c else isqrtGo n k r

/-- The integer square root of a number below 2^64. -/
def isqrt (n : Nat) : Nat := isqrtGo n 32 0

/-- Square root, correctly rounded. -/
def fpSqrt (a : Word) : Word :=
  if fpIsNaN a then fpNaN a 0 0
  else if fpIsZero a then fpZero (fpSign a)
  else if fpSign a then fpNaN a 0 0
  else if fpIsInf a then a
  else
    let odd := (fpExpo a % 2 = 1)
    -- the exponent expo - 150 is odd exactly when expo is odd
    let m := fpMant a <<< (if odd then 31 else 30)
    let e := fpExp a - (if odd then 31 else 30)
    let r := isqrt m
    let st := if r * r = m then 0 else 1
    fpRound false (2 * r + st) (e / 2 - 1)

/-- A signed integer as binary32. -/
def fpOfInt (v : Int) : Word := fpRoundInt v 0 false

/-- A natural number as binary32. -/
def fpOfNat (n : Nat) : Word := fpRound false n 0

/-- The binary32 word nearest to `num / den` (den not 0), for the constants the Zauri derives exactly. -/
def fpOfRat (num den : Nat) : Word :=
  if num = 0 || den = 0 then fpZero false
  else
    let k := Nat.log2 den + 60
    let n := num <<< k
    fpRound false (2 * (n / den) + (if n % den = 0 then 0 else 1)) (-(k : Int) - 1)

/-- A key that orders binary32 words by value; both zeros, and subnormals taken as zero, have the key 0. -/
def fpKey (w : Word) : Int :=
  if fpIsZero w then 0
  else if fpSign w then -((w.toNat % 2 ^ 31 : Nat) : Int) else ((w.toNat % 2 ^ 31 : Nat) : Int)

/-- `a < b`, false where either is a NaN. -/
def fpLt (a b : Word) : Bool := !fpIsNaN a && !fpIsNaN b && decide (fpKey a < fpKey b)

/-- `a ≤ b`, false where either is a NaN. -/
def fpLe (a b : Word) : Bool := !fpIsNaN a && !fpIsNaN b && decide (fpKey a ≤ fpKey b)

/-- Equality of value, false where either is a NaN. -/
def fpEq (a b : Word) : Bool := !fpIsNaN a && !fpIsNaN b && decide (fpKey a = fpKey b)

/-- The smaller of two words; a NaN passes through. -/
def fpMin (a b : Word) : Word := if fpIsNaN a then a else if fpIsNaN b then b else if fpLt b a then b else a

/-- The larger of two words; a NaN passes through. -/
def fpMax (a b : Word) : Word := if fpIsNaN a then a else if fpIsNaN b then b else if fpLt a b then b else a

/-- `x` clamped to `[lo, hi]`; a NaN passes through. -/
def fpClamp (x lo hi : Word) : Word :=
  if fpIsNaN x then x else if fpLt x lo then lo else if fpLt hi x then hi else x

/-- The integer nearest to a finite word, ties to even; none for an infinity or a NaN. -/
def fpToInt? (w : Word) : Option Int :=
  if !fpIsFinite w then none
  else
    let m := fpMant w
    let e := fpExp w
    let n : Nat := if 0 ≤ e then m <<< e.toNat else roundShift m (-e).toNat
    some (if fpSign w then -(n : Int) else (n : Int))

/-- The binary32 word of 1.0. -/
def fpOne : Word := 0x3F800000#32

/-- The binary32 word of 0.5. -/
def fpHalf : Word := 0x3F000000#32

end Sys2Proof.Machine
end

