-- ==== Sys2Proof/Machine/Map.lean ====
section
/-! DEFINITION. Plain-data containers: a sparse map in one canonical form (keys strictly rising, no entry equal to what
an unlisted key reads as), four things by axis number, two things by port number, and the byte order of words. -/

namespace Sys2Proof.Machine

/-- A sparse map from natural numbers: a list of key and value pairs. -/
abbrev SMap (α : Type) := List (Nat × α)

/-- The value at key `k`; an unlisted key reads as `d`. -/
def SMap.get {α : Type} (d : α) (m : SMap α) (k : Nat) : α :=
  match m with
  | [] => d
  | (k', v) :: r => if k' = k then v else SMap.get d r k

/-- The map without key `k`. -/
def SMap.drop {α : Type} (m : SMap α) (k : Nat) : SMap α := m.filter (fun e => e.1 ≠ k)

/-- Inserts an entry before the first larger key. -/
def SMap.insert {α : Type} (k : Nat) (v : α) : SMap α → SMap α
  | [] => [(k, v)]
  | (k', v') :: r => if k < k' then (k, v) :: (k', v') :: r else (k', v') :: SMap.insert k v r

/-- Writes `v` at key `k`; writing what an unlisted key reads as removes the entry. -/
def SMap.put {α : Type} [DecidableEq α] (d : α) (m : SMap α) (k : Nat) (v : α) : SMap α :=
  if v = d then SMap.drop m k else SMap.insert k v (SMap.drop m k)

/-- The canonical form: keys strictly rising, no entry equal to what an unlisted key reads as. -/
def SMap.wf {α : Type} [DecidableEq α] (d : Nat → α) (m : SMap α) : Bool :=
  decide (m.Pairwise (fun a b => a.1 < b.1)) && m.all (fun e => e.2 ≠ d e.1)

/-- Four things, one per axis. -/
structure Quad (α : Type) where
  q0 : α
  q1 : α
  q2 : α
  q3 : α
  deriving DecidableEq, Repr

/-- The thing of axis `a`. -/
def Quad.get {α : Type} (q : Quad α) (a : Fin 4) : α :=
  match a with
  | 0 => q.q0
  | 1 => q.q1
  | 2 => q.q2
  | 3 => q.q3

/-- Replaces the thing of axis `a`. -/
def Quad.set {α : Type} (q : Quad α) (a : Fin 4) (v : α) : Quad α :=
  match a with
  | 0 => { q with q0 := v }
  | 1 => { q with q1 := v }
  | 2 => { q with q2 := v }
  | 3 => { q with q3 := v }

/-- Four copies of one thing. -/
def Quad.all {α : Type} (v : α) : Quad α := ⟨v, v, v, v⟩

/-- Two things, one per host port. -/
structure Pair (α : Type) where
  p0 : α
  p1 : α
  deriving DecidableEq, Repr

/-- The thing of port `p`. -/
def Pair.get {α : Type} (q : Pair α) (p : Fin 2) : α :=
  match p with
  | 0 => q.p0
  | 1 => q.p1

/-- Replaces the thing of port `p`. -/
def Pair.set {α : Type} (q : Pair α) (p : Fin 2) (v : α) : Pair α :=
  match p with
  | 0 => { q with p0 := v }
  | 1 => { q with p1 := v }

/-- The four axes. -/
def allAxes : List (Fin 4) := [0, 1, 2, 3]

/-- Replaces element `i` of a list, leaving a list that is too short as it is. -/
def setAt {α : Type} (l : List α) (i : Nat) (v : α) : List α := l.set i v

/-- The lowest `w` bits of `n` from bit `lo` up. -/
def bitsOf (n lo w : Nat) : Nat := n / 2 ^ lo % 2 ^ w

/-- Bit `k` of `n`. -/
def bitOf (n k : Nat) : Bool := n.testBit k

/-- The indices below `n` whose bit is set in `v`. -/
def setBits (n v : Nat) : List Nat := (List.range n).filter (fun k => v.testBit k)

/-- The little-endian bytes of a number, `k` of them. -/
def leBytes (k n : Nat) : List Byte := (List.range k).map (fun i => BitVec.ofNat 8 (n / 2 ^ (8 * i)))

/-- The number a list of little-endian bytes spells. -/
def leNat : List Byte → Nat
  | [] => 0
  | b :: r => b.toNat + 256 * leNat r

/-- The number that the `k` bytes from offset `o` spell, little-endian. -/
def leAt (bs : List Byte) (o k : Nat) : Nat := leNat ((bs.drop o).take k)

/-- The low `w` bits of `n` as a signed integer. -/
def signedOf (w n : Nat) : Int :=
  let m := n % 2 ^ w
  if 2 ^ (w - 1) ≤ m then (m : Int) - 2 ^ w else m

/-- An integer as the low `w` bits of two's complement. -/
def wrapBits (w : Nat) (v : Int) : Nat := (v % (2 ^ w : Int)).toNat

/-- An integer clamped to a range. -/
def clampInt (v lo hi : Int) : Int := if v < lo then lo else if hi < v then hi else v

/-- A count that stops at `cap`. -/
def satAdd (n k cap : Nat) : Nat := min (n + k) cap

end Sys2Proof.Machine
end

