-- ==== Sys2Proof/Machine/Regs.lean ====
section
/-! DEFINITION. The register space by name: the host address of every register of the spec's register tables
and the bit range of every field, as Tables MAP-4 to MAP-6 place them and as each chapter's register tables cut
them.  `R.<REGISTER>` is an address, `F.<REGISTER>_<FIELD>` a field of it.  An axis register takes its axis
first and then its index; the chip-wide AUX_ registers (R389) have their one home at the window of axis 0. -/

namespace Sys2Proof.Machine

/-- A field of a register: the register's host address, the field's lowest bit and its width. -/
structure Fld where
  addr  : Nat
  lo    : Nat
  width : Nat
  deriving DecidableEq, Repr

/-- The first address of the register window of axis `a` (Table MAP-1). -/
def axisBase (a : Nat) : Nat := 0x100000 + 0x40000 * a

/-- Table MAP-5. -/
def R.CHIP_ID : Nat := 0x0
def F.CHIP_ID_PARTNO : Fld := ⟨R.CHIP_ID, 16, 16⟩
def F.CHIP_ID_STEPPING : Fld := ⟨R.CHIP_ID, 12, 4⟩
def F.CHIP_ID_FAMILY : Fld := ⟨R.CHIP_ID, 0, 12⟩
/-- Table MAP-5. -/
def R.CHIP_UID_LO : Nat := 0x4
def F.CHIP_UID_LO_UID : Fld := ⟨R.CHIP_UID_LO, 0, 32⟩
/-- Table MAP-5. -/
def R.CHIP_UID_HI : Nat := 0x8
def F.CHIP_UID_HI_UID : Fld := ⟨R.CHIP_UID_HI, 0, 32⟩
/-- Table MAP-5. -/
def R.CHIP_OPT : Nat := 0xC
def F.CHIP_OPT_AXES : Fld := ⟨R.CHIP_OPT, 16, 4⟩
def F.CHIP_OPT_PLOTS : Fld := ⟨R.CHIP_OPT, 0, 5⟩
/-- Table DET-7. -/
def R.CHIP_REPRO_SIG : Nat := 0x10
def F.CHIP_REPRO_SIG_STEPPING : Fld := ⟨R.CHIP_REPRO_SIG, 28, 4⟩
def F.CHIP_REPRO_SIG_ARITH : Fld := ⟨R.CHIP_REPRO_SIG, 24, 4⟩
def F.CHIP_REPRO_SIG_DPM_HASH : Fld := ⟨R.CHIP_REPRO_SIG, 16, 8⟩
def F.CHIP_REPRO_SIG_GRADE : Fld := ⟨R.CHIP_REPRO_SIG, 12, 4⟩
def F.CHIP_REPRO_SIG_PART : Fld := ⟨R.CHIP_REPRO_SIG, 8, 4⟩
def F.CHIP_REPRO_SIG_POOL_MAX : Fld := ⟨R.CHIP_REPRO_SIG, 0, 8⟩
/-- Table SCW-5. -/
def R.SCW_SCAN : Nat := 0x10004
def F.SCW_SCAN_SLOT_TICKS : Fld := ⟨R.SCW_SCAN, 16, 16⟩
def F.SCW_SCAN_N_SLOT : Fld := ⟨R.SCW_SCAN, 0, 5⟩
/-- Table SCW-6. -/
def R.SCW_SCAN_SAFE : Nat := 0x10008
def F.SCW_SCAN_SAFE_SAFE_SLOT_TICKS : Fld := ⟨R.SCW_SCAN_SAFE, 0, 16⟩
/-- Table SCW-6. -/
def R.SCW_SLOT (i : Nat) : Nat := 0x10040 + 0x4 * i
def F.SCW_SLOT_EDGE (i : Nat) : Fld := ⟨R.SCW_SLOT i, 5, 1⟩
def F.SCW_SLOT_CHAN (i : Nat) : Fld := ⟨R.SCW_SLOT i, 0, 5⟩
/-- Table SCW-6. -/
def R.SCW_FILT (i : Nat) : Nat := 0x100A0 + 0x4 * i
def F.SCW_FILT_EN (i : Nat) : Fld := ⟨R.SCW_FILT i, 31, 1⟩
def F.SCW_FILT_TYPE (i : Nat) : Fld := ⟨R.SCW_FILT i, 30, 1⟩
def F.SCW_FILT_CHAIN (i : Nat) : Fld := ⟨R.SCW_FILT i, 29, 1⟩
def F.SCW_FILT_CHAN (i : Nat) : Fld := ⟨R.SCW_FILT i, 8, 5⟩
def F.SCW_FILT_SHIFT (i : Nat) : Fld := ⟨R.SCW_FILT i, 0, 4⟩
/-- Table SCW-6. -/
def R.SCW_SPIN_CFG (i : Nat) : Nat := 0x100C0 + 0x4 * i
def F.SCW_SPIN_CFG_SWAP_VW (i : Nat) : Fld := ⟨R.SCW_SPIN_CFG i, 31, 1⟩
def F.SCW_SPIN_CFG_DEGLITCH (i : Nat) : Fld := ⟨R.SCW_SPIN_CFG i, 24, 4⟩
def F.SCW_SPIN_CFG_STILL (i : Nat) : Fld := ⟨R.SCW_SPIN_CFG i, 0, 16⟩
/-- Table SCW-9. -/
def R.SCW_VAL (i : Nat) : Nat := 0x10100 + 0x4 * i
def F.SCW_VAL_VALUE (i : Nat) : Fld := ⟨R.SCW_VAL i, 0, 16⟩
/-- Table SCW-9. -/
def R.SCW_FVAL (i : Nat) : Nat := 0x10180 + 0x4 * i
def F.SCW_FVAL_VALUE (i : Nat) : Fld := ⟨R.SCW_FVAL i, 0, 16⟩
/-- Table SCW-7. -/
def R.SCW_RULE_A (i : Nat) : Nat := 0x10200 + 0x8 * i
def F.SCW_RULE_A_EN (i : Nat) : Fld := ⟨R.SCW_RULE_A i, 31, 1⟩
def F.SCW_RULE_A_KIND (i : Nat) : Fld := ⟨R.SCW_RULE_A i, 29, 2⟩
def F.SCW_RULE_A_ARM (i : Nat) : Fld := ⟨R.SCW_RULE_A i, 26, 3⟩
def F.SCW_RULE_A_SRC (i : Nat) : Fld := ⟨R.SCW_RULE_A i, 20, 6⟩
def F.SCW_RULE_A_PERSIST (i : Nat) : Fld := ⟨R.SCW_RULE_A i, 12, 8⟩
def F.SCW_RULE_A_ACTION (i : Nat) : Fld := ⟨R.SCW_RULE_A i, 0, 8⟩
/-- Table SCW-8. -/
def R.SCW_RULE_B (i : Nat) : Nat := 0x10204 + 0x8 * i
def F.SCW_RULE_B_REARM (i : Nat) : Fld := ⟨R.SCW_RULE_B i, 16, 8⟩
def F.SCW_RULE_B_THRESH (i : Nat) : Fld := ⟨R.SCW_RULE_B i, 0, 16⟩
/-- Table SCW-9. -/
def R.SCW_FIRED : Nat := 0x10300
def F.SCW_FIRED_FIRED : Fld := ⟨R.SCW_FIRED, 0, 32⟩
/-- Table SCW-9. -/
def R.SCW_SPIN (i : Nat) : Nat := 0x10320 + 0x4 * i
def F.SCW_SPIN_HOLD (i : Nat) : Fld := ⟨R.SCW_SPIN i, 31, 1⟩
def F.SCW_SPIN_DIR (i : Nat) : Fld := ⟨R.SCW_SPIN i, 28, 2⟩
def F.SCW_SPIN_GLITCH (i : Nat) : Fld := ⟨R.SCW_SPIN i, 20, 8⟩
def F.SCW_SPIN_SPD (i : Nat) : Fld := ⟨R.SCW_SPIN i, 0, 16⟩
/-- Table SCW-9. -/
def R.SCW_LOG_HEAD : Nat := 0x10340
def F.SCW_LOG_HEAD_VALID : Fld := ⟨R.SCW_LOG_HEAD, 31, 1⟩
def F.SCW_LOG_HEAD_RULE : Fld := ⟨R.SCW_LOG_HEAD, 24, 5⟩
def F.SCW_LOG_HEAD_ACTS : Fld := ⟨R.SCW_LOG_HEAD, 16, 8⟩
def F.SCW_LOG_HEAD_VALUE : Fld := ⟨R.SCW_LOG_HEAD, 0, 16⟩
/-- Table SCW-9. -/
def R.SCW_LOG_TIME : Nat := 0x10344
def F.SCW_LOG_TIME_TICK : Fld := ⟨R.SCW_LOG_TIME, 0, 32⟩
/-- Table SCW-9. -/
def R.SCW_LOG_STAT : Nat := 0x10348
def F.SCW_LOG_STAT_DROPS : Fld := ⟨R.SCW_LOG_STAT, 8, 8⟩
def F.SCW_LOG_STAT_COUNT : Fld := ⟨R.SCW_LOG_STAT, 0, 5⟩
/-- Table SCW-9. -/
def R.SCW_TICK : Nat := 0x10350
def F.SCW_TICK_TICK : Fld := ⟨R.SCW_TICK, 0, 32⟩
/-- Table SCW-9. -/
def R.SCW_SAFE_N : Nat := 0x10354
def F.SCW_SAFE_N_MISMATCH : Fld := ⟨R.SCW_SAFE_N, 2, 1⟩
def F.SCW_SAFE_N_PIN : Fld := ⟨R.SCW_SAFE_N, 1, 1⟩
def F.SCW_SAFE_N_DRIVEN : Fld := ⟨R.SCW_SAFE_N, 0, 1⟩
/-- Table PWR-7. -/
def R.PCR_PWR_STATE : Nat := 0x20000
def F.PCR_PWR_STATE_READY : Fld := ⟨R.PCR_PWR_STATE, 31, 1⟩
def F.PCR_PWR_STATE_PD_ON : Fld := ⟨R.PCR_PWR_STATE, 16, 6⟩
def F.PCR_PWR_STATE_STATE : Fld := ⟨R.PCR_PWR_STATE, 0, 4⟩
/-- Table PWR-8. -/
def R.PCR_RST_CAUSE : Nat := 0x20004
def F.PCR_RST_CAUSE_HOST : Fld := ⟨R.PCR_RST_CAUSE, 5, 1⟩
def F.PCR_RST_CAUSE_CLK : Fld := ⟨R.PCR_RST_CAUSE, 4, 1⟩
def F.PCR_RST_CAUSE_BOR : Fld := ⟨R.PCR_RST_CAUSE, 3, 1⟩
def F.PCR_RST_CAUSE_PIN : Fld := ⟨R.PCR_RST_CAUSE, 2, 1⟩
def F.PCR_RST_CAUSE_POR : Fld := ⟨R.PCR_RST_CAUSE, 1, 1⟩
/-- Table PWR-12. -/
def R.PCR_RST_CTRL : Nat := 0x20008
def F.PCR_RST_CTRL_KEY : Fld := ⟨R.PCR_RST_CTRL, 24, 8⟩
def F.PCR_RST_CTRL_FULL : Fld := ⟨R.PCR_RST_CTRL, 0, 1⟩
/-- Table PWR-9. -/
def R.PCR_CLK_STATUS : Nat := 0x2000C
def F.PCR_CLK_STATUS_TL_LOCK : Fld := ⟨R.PCR_CLK_STATUS, 5, 1⟩
def F.PCR_CLK_STATUS_BEAT_ERR : Fld := ⟨R.PCR_CLK_STATUS, 4, 1⟩
def F.PCR_CLK_STATUS_REF_LOST : Fld := ⟨R.PCR_CLK_STATUS, 3, 1⟩
def F.PCR_CLK_STATUS_ALIGNED : Fld := ⟨R.PCR_CLK_STATUS, 2, 1⟩
def F.PCR_CLK_STATUS_PLL_LOCK : Fld := ⟨R.PCR_CLK_STATUS, 1, 1⟩
def F.PCR_CLK_STATUS_REF_SRC : Fld := ⟨R.PCR_CLK_STATUS, 0, 1⟩
/-- Table PWR-12. -/
def R.PCR_BOOT : Nat := 0x20010
def F.PCR_BOOT_BOOTSEL : Fld := ⟨R.PCR_BOOT, 0, 2⟩
/-- Table PWR-10. -/
def R.PCR_SLEEP : Nat := 0x20020
def F.PCR_SLEEP_REJ : Fld := ⟨R.PCR_SLEEP, 28, 4⟩
def F.PCR_SLEEP_RET : Fld := ⟨R.PCR_SLEEP, 2, 1⟩
def F.PCR_SLEEP_MODE : Fld := ⟨R.PCR_SLEEP, 1, 1⟩
def F.PCR_SLEEP_GO : Fld := ⟨R.PCR_SLEEP, 0, 1⟩
/-- Table PWR-11. -/
def R.PCR_WAKE : Nat := 0x20024
def F.PCR_WAKE_NEED_IMAGE : Fld := ⟨R.PCR_WAKE, 31, 1⟩
def F.PCR_WAKE_SRC : Fld := ⟨R.PCR_WAKE, 8, 3⟩
def F.PCR_WAKE_RULE : Fld := ⟨R.PCR_WAKE, 0, 5⟩
/-- Table PWR-12. -/
def R.PCR_WAKE_HOST : Nat := 0x20028
def F.PCR_WAKE_HOST_HOST : Fld := ⟨R.PCR_WAKE_HOST, 0, 1⟩
/-- Table PWR-12. -/
def R.PCR_WAKE_TIME : Nat := 0x2002C
def F.PCR_WAKE_TIME_TICKS : Fld := ⟨R.PCR_WAKE_TIME, 0, 24⟩
/-- Table PWR-12. -/
def R.PCR_RESTORE_BYTES : Nat := 0x20030
def F.PCR_RESTORE_BYTES_BYTES : Fld := ⟨R.PCR_RESTORE_BYTES, 0, 32⟩
/-- Table PWR-12. -/
def R.PCR_FLD_CTRL : Nat := 0x20034
def F.PCR_FLD_CTRL_LOST : Fld := ⟨R.PCR_FLD_CTRL, 31, 1⟩
def F.PCR_FLD_CTRL_ACK : Fld := ⟨R.PCR_FLD_CTRL, 30, 1⟩
def F.PCR_FLD_CTRL_PGOOD_TMO : Fld := ⟨R.PCR_FLD_CTRL, 0, 16⟩
/-- Table PWR-12. -/
def R.PCR_EPOCH : Nat := 0x20038
def F.PCR_EPOCH_EPOCH : Fld := ⟨R.PCR_EPOCH, 0, 32⟩
/-- Table PWR-12. -/
def R.PCR_SUPPLY : Nat := 0x2003C
def F.PCR_SUPPLY_LOW : Fld := ⟨R.PCR_SUPPLY, 0, 5⟩
/-- Table PER-7. -/
def R.PCR_STEP_LO : Nat := 0x20100
def F.PCR_STEP_LO_STEP_LO : Fld := ⟨R.PCR_STEP_LO, 0, 32⟩
/-- Table PER-8. -/
def R.PCR_STEP_HI : Nat := 0x20104
def F.PCR_STEP_HI_STEP_HI : Fld := ⟨R.PCR_STEP_HI, 0, 16⟩
/-- Table PER-9. -/
def R.PCR_SCHED : Nat := 0x20108
def F.PCR_SCHED_MODE_EXACT : Fld := ⟨R.PCR_SCHED, 31, 1⟩
def F.PCR_SCHED_K : Fld := ⟨R.PCR_SCHED, 24, 7⟩
def F.PCR_SCHED_TS_LCLK : Fld := ⟨R.PCR_SCHED, 0, 17⟩
/-- Table PER-10. -/
def R.PCR_FRAME_POS : Nat := 0x2010C
def F.PCR_FRAME_POS_PERIOD_IN_FRAME : Fld := ⟨R.PCR_FRAME_POS, 17, 7⟩
def F.PCR_FRAME_POS_LCLK_IN_PERIOD : Fld := ⟨R.PCR_FRAME_POS, 0, 17⟩
/-- Table IMG-7. -/
def R.PCR_IMG_STATUS : Nat := 0x20200
def F.PCR_IMG_STATUS_STATE : Fld := ⟨R.PCR_IMG_STATUS, 29, 3⟩
def F.PCR_IMG_STATUS_ERR_HDR : Fld := ⟨R.PCR_IMG_STATUS, 28, 1⟩
def F.PCR_IMG_STATUS_SEALED : Fld := ⟨R.PCR_IMG_STATUS, 27, 1⟩
def F.PCR_IMG_STATUS_SIGNED : Fld := ⟨R.PCR_IMG_STATUS, 26, 1⟩
def F.PCR_IMG_STATUS_AUTH_REQ : Fld := ⟨R.PCR_IMG_STATUS, 25, 1⟩
def F.PCR_IMG_STATUS_LIVE_REJ : Fld := ⟨R.PCR_IMG_STATUS, 24, 1⟩
def F.PCR_IMG_STATUS_TEN_NOIMG : Fld := ⟨R.PCR_IMG_STATUS, 20, 4⟩
def F.PCR_IMG_STATUS_OWNER : Fld := ⟨R.PCR_IMG_STATUS, 19, 1⟩
def F.PCR_IMG_STATUS_TARGET : Fld := ⟨R.PCR_IMG_STATUS, 16, 3⟩
def F.PCR_IMG_STATUS_ERR : Fld := ⟨R.PCR_IMG_STATUS, 8, 8⟩
def F.PCR_IMG_STATUS_ERR_SECT : Fld := ⟨R.PCR_IMG_STATUS, 0, 8⟩
/-- Table IMG-8. -/
def R.PCR_IMG_ERRLOC : Nat := 0x20204
def F.PCR_IMG_ERRLOC_OFFSET : Fld := ⟨R.PCR_IMG_ERRLOC, 0, 32⟩
/-- Table IMG-9. -/
def R.PCR_IMG_CTRL : Nat := 0x20208
def F.PCR_IMG_CTRL_SRC_SILO : Fld := ⟨R.PCR_IMG_CTRL, 8, 1⟩
def F.PCR_IMG_CTRL_TARGET : Fld := ⟨R.PCR_IMG_CTRL, 4, 3⟩
def F.PCR_IMG_CTRL_SEAL : Fld := ⟨R.PCR_IMG_CTRL, 2, 1⟩
def F.PCR_IMG_CTRL_ABORT : Fld := ⟨R.PCR_IMG_CTRL, 1, 1⟩
def F.PCR_IMG_CTRL_START : Fld := ⟨R.PCR_IMG_CTRL, 0, 1⟩
/-- Table IMG-10. -/
def R.PCR_IMG_SRC : Nat := 0x2020C
def F.PCR_IMG_SRC_ADDR : Fld := ⟨R.PCR_IMG_SRC, 0, 32⟩
/-- Table IMG-10. -/
def R.PCR_IMG_FIFO : Nat := 0x20210
def F.PCR_IMG_FIFO_DATA : Fld := ⟨R.PCR_IMG_FIFO, 0, 32⟩
/-- Table IMG-10. -/
def R.PCR_IMG_VER : Nat := 0x20214
def F.PCR_IMG_VER_IMG_VER : Fld := ⟨R.PCR_IMG_VER, 0, 32⟩
/-- Table IMG-10. -/
def R.PCR_IMG_HASH_SEL : Nat := 0x20218
def F.PCR_IMG_HASH_SEL_SEL : Fld := ⟨R.PCR_IMG_HASH_SEL, 0, 3⟩
/-- Table IMG-10. -/
def R.PCR_IMG_HASH (i : Nat) : Nat := 0x20220 + 0x4 * i
def F.PCR_IMG_HASH_HASH (i : Nat) : Fld := ⟨R.PCR_IMG_HASH i, 0, 32⟩
/-- Table IMG-10. -/
def R.PCR_LIVE_REJ : Nat := 0x20240
def F.PCR_LIVE_REJ_COUNT : Fld := ⟨R.PCR_LIVE_REJ, 0, 32⟩
/-- Table PWR-13. -/
def R.TRN_POOL : Nat := 0x20400
def F.TRN_POOL_RESERVE : Fld := ⟨R.TRN_POOL, 16, 9⟩
def F.TRN_POOL_POOL : Fld := ⟨R.TRN_POOL, 0, 9⟩
/-- Table PWR-13. -/
def R.TRN_AUDIT : Nat := 0x20404
def F.TRN_AUDIT_RETURNING : Fld := ⟨R.TRN_AUDIT, 18, 9⟩
def F.TRN_AUDIT_GRANTED : Fld := ⟨R.TRN_AUDIT, 9, 9⟩
def F.TRN_AUDIT_FREE : Fld := ⟨R.TRN_AUDIT, 0, 9⟩
/-- Table PWR-13. -/
def R.TRN_STATUS : Nat := 0x20408
def F.TRN_STATUS_PLAN_ERR : Fld := ⟨R.TRN_STATUS, 1, 1⟩
def F.TRN_STATUS_AUDIT_ERR : Fld := ⟨R.TRN_STATUS, 0, 1⟩
/-- Table PWR-13. -/
def R.TRN_WAIT_LIMIT : Nat := 0x2040C
def F.TRN_WAIT_LIMIT_TICKS : Fld := ⟨R.TRN_WAIT_LIMIT, 0, 24⟩
/-- Table PWR-13. -/
def R.TRN_SUB (i : Nat) : Nat := 0x20410 + 0x4 * i
def F.TRN_SUB_PLAN_PEAK (i : Nat) : Fld := ⟨R.TRN_SUB i, 16, 9⟩
def F.TRN_SUB_SUB (i : Nat) : Fld := ⟨R.TRN_SUB i, 0, 9⟩
/-- Table PWR-13. -/
def R.TRN_DYN (i : Nat) : Nat := 0x20430 + 0x4 * i
def F.TRN_DYN_TIMEOUTS (i : Nat) : Fld := ⟨R.TRN_DYN i, 24, 8⟩
def F.TRN_DYN_WAITING (i : Nat) : Fld := ⟨R.TRN_DYN i, 16, 1⟩
def F.TRN_DYN_USED (i : Nat) : Fld := ⟨R.TRN_DYN i, 0, 9⟩
/-- Table PWR-13. -/
def R.TRN_COST : Nat := 0x20450
def F.TRN_COST_PD3_WAKE : Fld := ⟨R.TRN_COST, 24, 8⟩
def F.TRN_COST_TL_BULK : Fld := ⟨R.TRN_COST, 16, 8⟩
def F.TRN_COST_SILO : Fld := ⟨R.TRN_COST, 8, 8⟩
def F.TRN_COST_HARROW : Fld := ⟨R.TRN_COST, 0, 8⟩
/-- Table DET-8. -/
def R.PCR_DET_STAT : Nat := 0x20500
def F.PCR_DET_STAT_SWIFT : Fld := ⟨R.PCR_DET_STAT, 6, 1⟩
def F.PCR_DET_STAT_ECC_UE : Fld := ⟨R.PCR_DET_STAT, 5, 1⟩
def F.PCR_DET_STAT_SILO : Fld := ⟨R.PCR_DET_STAT, 4, 1⟩
def F.PCR_DET_STAT_PD3 : Fld := ⟨R.PCR_DET_STAT, 3, 1⟩
def F.PCR_DET_STAT_SOLO_SUM : Fld := ⟨R.PCR_DET_STAT, 2, 1⟩
def F.PCR_DET_STAT_TWIN_LATE : Fld := ⟨R.PCR_DET_STAT, 1, 1⟩
def F.PCR_DET_STAT_ANY : Fld := ⟨R.PCR_DET_STAT, 0, 1⟩
/-- Table DET-8. -/
def R.PCR_DET_LIVE_STEP_LO : Nat := 0x20504
def F.PCR_DET_LIVE_STEP_LO_STEP_LO : Fld := ⟨R.PCR_DET_LIVE_STEP_LO, 0, 32⟩
/-- Table DET-8. -/
def R.PCR_DET_LIVE_STEP_HI : Nat := 0x20508
def F.PCR_DET_LIVE_STEP_HI_STEP_HI : Fld := ⟨R.PCR_DET_LIVE_STEP_HI, 0, 16⟩
/-- Table DET-8. -/
def R.PCR_DET_INLOG : Nat := 0x2050C
def F.PCR_DET_INLOG_EN : Fld := ⟨R.PCR_DET_INLOG, 31, 1⟩
def F.PCR_DET_INLOG_QUEUE : Fld := ⟨R.PCR_DET_INLOG, 0, 6⟩
/-- Table QUE-13. -/
def R.PCR_HP_STAT (i : Nat) : Nat := 0x20600 + 0x20 * i
def F.PCR_HP_STAT_RD_PEND (i : Nat) : Fld := ⟨R.PCR_HP_STAT i, 31, 1⟩
def F.PCR_HP_STAT_WR_PEND (i : Nat) : Fld := ⟨R.PCR_HP_STAT i, 30, 1⟩
def F.PCR_HP_STAT_WIN_ERR (i : Nat) : Fld := ⟨R.PCR_HP_STAT i, 9, 1⟩
def F.PCR_HP_STAT_PORT_ERR (i : Nat) : Fld := ⟨R.PCR_HP_STAT i, 8, 1⟩
def F.PCR_HP_STAT_WIN_WHY (i : Nat) : Fld := ⟨R.PCR_HP_STAT i, 4, 4⟩
/-- Table QUE-13. -/
def R.PCR_HP_CNT (i : Nat) : Nat := 0x20604 + 0x20 * i
def F.PCR_HP_CNT_CRC (i : Nat) : Fld := ⟨R.PCR_HP_CNT i, 24, 8⟩
def F.PCR_HP_CNT_SHORT (i : Nat) : Fld := ⟨R.PCR_HP_CNT i, 16, 8⟩
def F.PCR_HP_CNT_TMO (i : Nat) : Fld := ⟨R.PCR_HP_CNT i, 8, 8⟩
def F.PCR_HP_CNT_NOT_BOUND (i : Nat) : Fld := ⟨R.PCR_HP_CNT i, 0, 8⟩
/-- Table QUE-13. -/
def R.PCR_HP_IRQ (i : Nat) : Nat := 0x20608 + 0x20 * i
def F.PCR_HP_IRQ_EN (i : Nat) : Fld := ⟨R.PCR_HP_IRQ i, 16, 8⟩
def F.PCR_HP_IRQ_SRC (i : Nat) : Fld := ⟨R.PCR_HP_IRQ i, 0, 8⟩
/-- Table FLD-5. -/
def R.FLD_CTRL : Nat := 0x200000
def F.FLD_CTRL_EN : Fld := ⟨R.FLD_CTRL, 31, 1⟩
def F.FLD_CTRL_PLOTS_USED : Fld := ⟨R.FLD_CTRL, 16, 5⟩
/-- Table FLD-5. -/
def R.FLD_STAT : Nat := 0x200004
def F.FLD_STAT_WIN_TMO : Fld := ⟨R.FLD_STAT, 7, 1⟩
def F.FLD_STAT_WIN_PD3 : Fld := ⟨R.FLD_STAT, 6, 1⟩
def F.FLD_STAT_BIST_FAIL : Fld := ⟨R.FLD_STAT, 5, 1⟩
def F.FLD_STAT_SILO_CRC : Fld := ⟨R.FLD_STAT, 4, 1⟩
def F.FLD_STAT_STORE_UE : Fld := ⟨R.FLD_STAT, 3, 1⟩
def F.FLD_STAT_GRN_UE : Fld := ⟨R.FLD_STAT, 2, 1⟩
def F.FLD_STAT_ACC_SAT : Fld := ⟨R.FLD_STAT, 1, 1⟩
/-- Table FLD-5. -/
def R.FLD_MAP (i : Nat) : Nat := 0x200010 + 0x4 * i
def F.FLD_MAP_PHYS (i : Nat) : Fld := ⟨R.FLD_MAP i, 0, 32⟩
/-- Table FLD-5. -/
def R.FLD_DIS : Nat := 0x200018
def F.FLD_DIS_RETIRED : Fld := ⟨R.FLD_DIS, 16, 16⟩
def F.FLD_DIS_FUSED : Fld := ⟨R.FLD_DIS, 0, 16⟩
/-- Table FLD-5. -/
def R.FLD_REPAIR : Nat := 0x20001C
def F.FLD_REPAIR_KEY : Fld := ⟨R.FLD_REPAIR, 24, 8⟩
def F.FLD_REPAIR_PHYS : Fld := ⟨R.FLD_REPAIR, 0, 4⟩
/-- Table FLD-5. -/
def R.FLD_FALLOW : Nat := 0x200020
def F.FLD_FALLOW_N_LIST : Fld := ⟨R.FLD_FALLOW, 24, 5⟩
def F.FLD_FALLOW_IDX : Fld := ⟨R.FLD_FALLOW, 16, 4⟩
def F.FLD_FALLOW_PLOT : Fld := ⟨R.FLD_FALLOW, 8, 4⟩
def F.FLD_FALLOW_SEG : Fld := ⟨R.FLD_FALLOW, 0, 4⟩
/-- Table FLD-5. -/
def R.FLD_BIST : Nat := 0x200024
def F.FLD_BIST_DONE : Fld := ⟨R.FLD_BIST, 31, 1⟩
def F.FLD_BIST_FAIL : Fld := ⟨R.FLD_BIST, 30, 1⟩
def F.FLD_BIST_PLOT : Fld := ⟨R.FLD_BIST, 24, 4⟩
def F.FLD_BIST_SEG : Fld := ⟨R.FLD_BIST, 16, 4⟩
def F.FLD_BIST_STEP : Fld := ⟨R.FLD_BIST, 0, 16⟩
/-- Table FLD-5. -/
def R.FLD_GRN_ECC : Nat := 0x200030
def F.FLD_GRN_ECC_UE : Fld := ⟨R.FLD_GRN_ECC, 16, 16⟩
def F.FLD_GRN_ECC_CE : Fld := ⟨R.FLD_GRN_ECC, 0, 16⟩
/-- Table FLD-5. -/
def R.FLD_GRN_ERR : Nat := 0x200034
def F.FLD_GRN_ERR_OFFSET : Fld := ⟨R.FLD_GRN_ERR, 0, 23⟩
/-- Table EXP-6. -/
def R.FLD_CSET_CTRL (i : Nat) : Nat := 0x200100 + 0x10 * i
def F.FLD_CSET_CTRL_VALID (i : Nat) : Fld := ⟨R.FLD_CSET_CTRL i, 31, 1⟩
def F.FLD_CSET_CTRL_ALT (i : Nat) : Fld := ⟨R.FLD_CSET_CTRL i, 30, 1⟩
def F.FLD_CSET_CTRL_PENDING (i : Nat) : Fld := ⟨R.FLD_CSET_CTRL i, 29, 1⟩
def F.FLD_CSET_CTRL_LOCK (i : Nat) : Fld := ⟨R.FLD_CSET_CTRL i, 28, 1⟩
def F.FLD_CSET_CTRL_TWIN (i : Nat) : Fld := ⟨R.FLD_CSET_CTRL i, 24, 1⟩
def F.FLD_CSET_CTRL_TENANT (i : Nat) : Fld := ⟨R.FLD_CSET_CTRL i, 20, 3⟩
def F.FLD_CSET_CTRL_WHY (i : Nat) : Fld := ⟨R.FLD_CSET_CTRL i, 16, 3⟩
def F.FLD_CSET_CTRL_COLL (i : Nat) : Fld := ⟨R.FLD_CSET_CTRL i, 9, 1⟩
def F.FLD_CSET_CTRL_REJ (i : Nat) : Fld := ⟨R.FLD_CSET_CTRL i, 8, 1⟩
def F.FLD_CSET_CTRL_SWAP (i : Nat) : Fld := ⟨R.FLD_CSET_CTRL i, 0, 1⟩
/-- Table EXP-7. -/
def R.FLD_CSET_CRC (i : Nat) : Nat := 0x200104 + 0x10 * i
def F.FLD_CSET_CRC_CRC (i : Nat) : Fld := ⟨R.FLD_CSET_CRC i, 0, 32⟩
/-- Table EXP-7. -/
def R.FLD_CSET_STEP_LO (i : Nat) : Nat := 0x200108 + 0x10 * i
def F.FLD_CSET_STEP_LO_STEP_LO (i : Nat) : Fld := ⟨R.FLD_CSET_STEP_LO i, 0, 32⟩
/-- Table EXP-7. -/
def R.FLD_CSET_STEP_HI (i : Nat) : Nat := 0x20010C + 0x10 * i
def F.FLD_CSET_STEP_HI_STEP_HI (i : Nat) : Fld := ⟨R.FLD_CSET_STEP_HI i, 0, 16⟩
/-- Table FLD-5. -/
def R.FLD_SLOT (i : Nat) : Nat := 0x200400 + 0x4 * i
def F.FLD_SLOT_E3 (i : Nat) : Fld := ⟨R.FLD_SLOT i, 24, 8⟩
def F.FLD_SLOT_E2 (i : Nat) : Fld := ⟨R.FLD_SLOT i, 16, 8⟩
def F.FLD_SLOT_E1 (i : Nat) : Fld := ⟨R.FLD_SLOT i, 8, 8⟩
def F.FLD_SLOT_E0 (i : Nat) : Fld := ⟨R.FLD_SLOT i, 0, 8⟩
/-- Table FLD-5. -/
def R.FLD_SILO_CFG (i : Nat) : Nat := 0x200800 + 0x4 * i
def F.FLD_SILO_CFG_PRESENT (i : Nat) : Fld := ⟨R.FLD_SILO_CFG i, 31, 1⟩
def F.FLD_SILO_CFG_PSRAM (i : Nat) : Fld := ⟨R.FLD_SILO_CFG i, 30, 1⟩
def F.FLD_SILO_CFG_DUMMY (i : Nat) : Fld := ⟨R.FLD_SILO_CFG i, 24, 6⟩
def F.FLD_SILO_CFG_SIZE (i : Nat) : Fld := ⟨R.FLD_SILO_CFG i, 16, 5⟩
def F.FLD_SILO_CFG_READ_CMD (i : Nat) : Fld := ⟨R.FLD_SILO_CFG i, 0, 16⟩
/-- Table FLD-5. -/
def R.FLD_SILO_WCMD (i : Nat) : Nat := 0x200808 + 0x4 * i
def F.FLD_SILO_WCMD_WRITE_CMD (i : Nat) : Fld := ⟨R.FLD_SILO_WCMD i, 0, 16⟩
/-- Table OBS-11. -/
def R.FLD_PRG_CFG : Nat := 0x200C00
def F.FLD_PRG_CFG_EN : Fld := ⟨R.FLD_PRG_CFG, 31, 1⟩
def F.FLD_PRG_CFG_BANK : Fld := ⟨R.FLD_PRG_CFG, 24, 4⟩
def F.FLD_PRG_CFG_W : Fld := ⟨R.FLD_PRG_CFG, 16, 7⟩
def F.FLD_PRG_CFG_NET : Fld := ⟨R.FLD_PRG_CFG, 0, 16⟩
/-- Table OBS-11. -/
def R.FLD_PRG_STAT : Nat := 0x200C04
def F.FLD_PRG_STAT_FILL : Fld := ⟨R.FLD_PRG_STAT, 24, 8⟩
def F.FLD_PRG_STAT_F : Fld := ⟨R.FLD_PRG_STAT, 0, 9⟩
/-- Table OBS-11. -/
def R.FLD_PRG_LIFE (i : Nat) : Nat := 0x200C10 + 0x4 * i
def F.FLD_PRG_LIFE_LIFE_H (i : Nat) : Fld := ⟨R.FLD_PRG_LIFE i, 0, 32⟩
/-- Table FLD-6. -/
def R.FLD_P_STAT (i : Nat) : Nat := 0x201000 + 0x1000 * i
def F.FLD_P_STAT_BUSY (i : Nat) : Fld := ⟨R.FLD_P_STAT i, 31, 1⟩
def F.FLD_P_STAT_FALLOW (i : Nat) : Fld := ⟨R.FLD_P_STAT i, 30, 1⟩
def F.FLD_P_STAT_LANE (i : Nat) : Fld := ⟨R.FLD_P_STAT i, 29, 1⟩
def F.FLD_P_STAT_LANE_NO (i : Nat) : Fld := ⟨R.FLD_P_STAT i, 24, 4⟩
def F.FLD_P_STAT_PHYS (i : Nat) : Fld := ⟨R.FLD_P_STAT i, 20, 4⟩
def F.FLD_P_STAT_ACC_SAT (i : Nat) : Fld := ⟨R.FLD_P_STAT i, 0, 16⟩
/-- Table FLD-6. -/
def R.FLD_P_ECC (i : Nat) : Nat := 0x201004 + 0x1000 * i
def F.FLD_P_ECC_UE (i : Nat) : Fld := ⟨R.FLD_P_ECC i, 16, 16⟩
def F.FLD_P_ECC_CE (i : Nat) : Fld := ⟨R.FLD_P_ECC i, 0, 16⟩
/-- Table EXP-7. -/
def R.FLD_X_STAT (i : Nat) : Nat := 0x201010 + 0x1000 * i
def F.FLD_X_STAT_WSAT (i : Nat) : Fld := ⟨R.FLD_X_STAT i, 16, 16⟩
def F.FLD_X_STAT_LEN_ERR (i : Nat) : Fld := ⟨R.FLD_X_STAT i, 1, 1⟩
/-- Table HRW-4. -/
def R.HRW_CTRL : Nat := 0x300000
def F.HRW_CTRL_SCRUB_EN : Fld := ⟨R.HRW_CTRL, 31, 1⟩
def F.HRW_CTRL_SCRUB_LIMIT : Fld := ⟨R.HRW_CTRL, 0, 16⟩
/-- Table HRW-4. -/
def R.HRW_COV : Nat := 0x300004
def F.HRW_COV_PLOT : Fld := ⟨R.HRW_COV, 16, 16⟩
def F.HRW_COV_BANK : Fld := ⟨R.HRW_COV, 0, 16⟩
/-- Table HRW-4. -/
def R.HRW_SCRUB_CNT : Nat := 0x300008
def F.HRW_SCRUB_CNT_UE : Fld := ⟨R.HRW_SCRUB_CNT, 16, 16⟩
def F.HRW_SCRUB_CNT_CE : Fld := ⟨R.HRW_SCRUB_CNT, 0, 16⟩
/-- Table HRW-4. -/
def R.HRW_SCRUB_UE : Nat := 0x30000C
def F.HRW_SCRUB_UE_PSTORE : Fld := ⟨R.HRW_SCRUB_UE, 31, 1⟩
def F.HRW_SCRUB_UE_PLOT : Fld := ⟨R.HRW_SCRUB_UE, 24, 4⟩
def F.HRW_SCRUB_UE_OFFSET : Fld := ⟨R.HRW_SCRUB_UE, 0, 23⟩
/-- Table HRW-4. -/
def R.HRW_IDLE (i : Nat) : Nat := 0x300040 + 0x4 * i
def F.HRW_IDLE_SWEEPS (i : Nat) : Fld := ⟨R.HRW_IDLE i, 16, 16⟩
def F.HRW_IDLE_IDLE_FR (i : Nat) : Fld := ⟨R.HRW_IDLE i, 0, 16⟩
/-- Table HRW-5. -/
def R.HRW_CH_CFG (i : Nat) : Nat := 0x300100 + 0x20 * i
def F.HRW_CH_CFG_SPACE (i : Nat) : Fld := ⟨R.HRW_CH_CFG i, 29, 3⟩
def F.HRW_CH_CFG_ELEM (i : Nat) : Fld := ⟨R.HRW_CH_CFG i, 26, 3⟩
def F.HRW_CH_CFG_CFGONLY (i : Nat) : Fld := ⟨R.HRW_CH_CFG i, 25, 1⟩
def F.HRW_CH_CFG_MASKLIVE (i : Nat) : Fld := ⟨R.HRW_CH_CFG i, 24, 1⟩
def F.HRW_CH_CFG_UNIT (i : Nat) : Fld := ⟨R.HRW_CH_CFG i, 20, 3⟩
def F.HRW_CH_CFG_TENANT (i : Nat) : Fld := ⟨R.HRW_CH_CFG i, 16, 3⟩
def F.HRW_CH_CFG_PLOT (i : Nat) : Fld := ⟨R.HRW_CH_CFG i, 8, 4⟩
/-- Table HRW-5. -/
def R.HRW_CH_START (i : Nat) : Nat := 0x300104 + 0x20 * i
def F.HRW_CH_START_START (i : Nat) : Fld := ⟨R.HRW_CH_START i, 0, 32⟩
/-- Table HRW-5. -/
def R.HRW_CH_COUNT (i : Nat) : Nat := 0x300108 + 0x20 * i
def F.HRW_CH_COUNT_COUNT (i : Nat) : Fld := ⟨R.HRW_CH_COUNT i, 0, 24⟩
/-- Table HRW-5. -/
def R.HRW_CH_STRIDE (i : Nat) : Nat := 0x30010C + 0x20 * i
def F.HRW_CH_STRIDE_STRIDE (i : Nat) : Fld := ⟨R.HRW_CH_STRIDE i, 0, 24⟩
/-- Table HRW-5. -/
def R.HRW_CH_CTRL (i : Nat) : Nat := 0x300110 + 0x20 * i
def F.HRW_CH_CTRL_ABORT (i : Nat) : Fld := ⟨R.HRW_CH_CTRL i, 1, 1⟩
def F.HRW_CH_CTRL_GO (i : Nat) : Fld := ⟨R.HRW_CH_CTRL i, 0, 1⟩
/-- Table HRW-5. -/
def R.HRW_CH_STAT (i : Nat) : Nat := 0x300114 + 0x20 * i
def F.HRW_CH_STAT_STATE (i : Nat) : Fld := ⟨R.HRW_CH_STAT i, 28, 4⟩
def F.HRW_CH_STAT_WHY (i : Nat) : Fld := ⟨R.HRW_CH_STAT i, 24, 4⟩
def F.HRW_CH_STAT_UE (i : Nat) : Fld := ⟨R.HRW_CH_STAT i, 16, 1⟩
/-- Table HRW-5. -/
def R.HRW_CH_DONE (i : Nat) : Nat := 0x300118 + 0x20 * i
def F.HRW_CH_DONE_ELEMS (i : Nat) : Fld := ⟨R.HRW_CH_DONE i, 0, 24⟩
/-- Table HRW-5. -/
def R.HRW_CH_UEADR (i : Nat) : Nat := 0x30011C + 0x20 * i
def F.HRW_CH_UEADR_ADDR (i : Nat) : Fld := ⟨R.HRW_CH_UEADR i, 0, 32⟩
/-- Table HRW-6. -/
def R.CHK_CFG (i : Nat) : Nat := 0x301000 + 0x40 * i
def F.CHK_CFG_MODE (i : Nat) : Fld := ⟨R.CHK_CFG i, 31, 1⟩
def F.CHK_CFG_FSEL (i : Nat) : Fld := ⟨R.CHK_CFG i, 28, 2⟩
def F.CHK_CFG_WIDTH (i : Nat) : Fld := ⟨R.CHK_CFG i, 16, 7⟩
def F.CHK_CFG_REFOUT (i : Nat) : Fld := ⟨R.CHK_CFG i, 9, 1⟩
def F.CHK_CFG_REFIN (i : Nat) : Fld := ⟨R.CHK_CFG i, 8, 1⟩
def F.CHK_CFG_ALV_EN (i : Nat) : Fld := ⟨R.CHK_CFG i, 4, 1⟩
def F.CHK_CFG_ALV_HI (i : Nat) : Fld := ⟨R.CHK_CFG i, 0, 1⟩
/-- Table HRW-6. -/
def R.CHK_POLY_LO (i : Nat) : Nat := 0x301004 + 0x40 * i
def F.CHK_POLY_LO_POLY (i : Nat) : Fld := ⟨R.CHK_POLY_LO i, 0, 32⟩
/-- Table HRW-6. -/
def R.CHK_POLY_HI (i : Nat) : Nat := 0x301008 + 0x40 * i
def F.CHK_POLY_HI_POLY (i : Nat) : Fld := ⟨R.CHK_POLY_HI i, 0, 32⟩
/-- Table HRW-6. -/
def R.CHK_INIT_LO (i : Nat) : Nat := 0x30100C + 0x40 * i
def F.CHK_INIT_LO_INIT (i : Nat) : Fld := ⟨R.CHK_INIT_LO i, 0, 32⟩
/-- Table HRW-6. -/
def R.CHK_INIT_HI (i : Nat) : Nat := 0x301010 + 0x40 * i
def F.CHK_INIT_HI_INIT (i : Nat) : Fld := ⟨R.CHK_INIT_HI i, 0, 32⟩
/-- Table HRW-6. -/
def R.CHK_XOR_LO (i : Nat) : Nat := 0x301014 + 0x40 * i
def F.CHK_XOR_LO_XOROUT (i : Nat) : Fld := ⟨R.CHK_XOR_LO i, 0, 32⟩
/-- Table HRW-6. -/
def R.CHK_XOR_HI (i : Nat) : Nat := 0x301018 + 0x40 * i
def F.CHK_XOR_HI_XOROUT (i : Nat) : Fld := ⟨R.CHK_XOR_HI i, 0, 32⟩
/-- Table HRW-6. -/
def R.CHK_REC (i : Nat) : Nat := 0x30101C + 0x40 * i
def F.CHK_REC_ALV_OFF (i : Nat) : Fld := ⟨R.CHK_REC i, 16, 16⟩
def F.CHK_REC_REC_LEN (i : Nat) : Fld := ⟨R.CHK_REC i, 0, 16⟩
/-- Table HRW-6. -/
def R.CHK_CTRL (i : Nat) : Nat := 0x301020 + 0x40 * i
def F.CHK_CTRL_INIT (i : Nat) : Fld := ⟨R.CHK_CTRL i, 0, 1⟩
/-- Table HRW-6. -/
def R.CHK_DIN (i : Nat) : Nat := 0x301024 + 0x40 * i
def F.CHK_DIN_DATA (i : Nat) : Fld := ⟨R.CHK_DIN i, 0, 32⟩
/-- Table HRW-6. -/
def R.CHK_DIN1 (i : Nat) : Nat := 0x301028 + 0x40 * i
def F.CHK_DIN1_DATA (i : Nat) : Fld := ⟨R.CHK_DIN1 i, 0, 8⟩
/-- Table HRW-6. -/
def R.CHK_RES_LO (i : Nat) : Nat := 0x30102C + 0x40 * i
def F.CHK_RES_LO_RES (i : Nat) : Fld := ⟨R.CHK_RES_LO i, 0, 32⟩
/-- Table HRW-6. -/
def R.CHK_RES_HI (i : Nat) : Nat := 0x301030 + 0x40 * i
def F.CHK_RES_HI_RES (i : Nat) : Fld := ⟨R.CHK_RES_HI i, 0, 32⟩
/-- Table HRW-6. -/
def R.CHK_STAT (i : Nat) : Nat := 0x301034 + 0x40 * i
def F.CHK_STAT_BUSY (i : Nat) : Fld := ⟨R.CHK_STAT i, 31, 1⟩
def F.CHK_STAT_DONE (i : Nat) : Fld := ⟨R.CHK_STAT i, 30, 1⟩
def F.CHK_STAT_OWNER (i : Nat) : Fld := ⟨R.CHK_STAT i, 27, 3⟩
def F.CHK_STAT_CH (i : Nat) : Fld := ⟨R.CHK_STAT i, 24, 2⟩
def F.CHK_STAT_CFG_ERR (i : Nat) : Fld := ⟨R.CHK_STAT i, 10, 1⟩
def F.CHK_STAT_COLL (i : Nat) : Fld := ⟨R.CHK_STAT i, 9, 1⟩
/-- Table HRW-6. -/
def R.CHK_ALV (i : Nat) : Nat := 0x301038 + 0x40 * i
def F.CHK_ALV_JUMP (i : Nat) : Fld := ⟨R.CHK_ALV i, 24, 8⟩
def F.CHK_ALV_REPEAT (i : Nat) : Fld := ⟨R.CHK_ALV i, 16, 8⟩
def F.CHK_ALV_FIRST (i : Nat) : Fld := ⟨R.CHK_ALV i, 0, 16⟩
/-- Table HRW-6. -/
def R.CHK_BYTES (i : Nat) : Nat := 0x30103C + 0x40 * i
def F.CHK_BYTES_BYTES (i : Nat) : Fld := ⟨R.CHK_BYTES i, 0, 32⟩
/-- Table SAF-10. -/
def R.SAF_STAT : Nat := 0x340000
def F.SAF_STAT_SAFE : Fld := ⟨R.SAF_STAT, 31, 1⟩
def F.SAF_STAT_STO_STOP : Fld := ⟨R.SAF_STAT, 30, 1⟩
def F.SAF_STAT_STO_DISC_FAULT : Fld := ⟨R.SAF_STAT, 29, 1⟩
def F.SAF_STAT_JTAG_OPEN : Fld := ⟨R.SAF_STAT, 28, 1⟩
def F.SAF_STAT_STO_ACK_REJ : Fld := ⟨R.SAF_STAT, 27, 1⟩
def F.SAF_STAT_AXSTOP : Fld := ⟨R.SAF_STAT, 16, 4⟩
def F.SAF_STAT_HDOUBT : Fld := ⟨R.SAF_STAT, 8, 4⟩
def F.SAF_STAT_DOUBT : Fld := ⟨R.SAF_STAT, 0, 5⟩
/-- Table SAF-11. -/
def R.SAF_CAUSE : Nat := 0x340004
def F.SAF_CAUSE_CAUSE : Fld := ⟨R.SAF_CAUSE, 0, 9⟩
/-- Table SAF-11. -/
def R.SAF_DCAUSE (i : Nat) : Nat := 0x340010 + 0x4 * i
def F.SAF_DCAUSE_STEP (i : Nat) : Fld := ⟨R.SAF_DCAUSE i, 16, 16⟩
def F.SAF_DCAUSE_CAUSE (i : Nat) : Fld := ⟨R.SAF_DCAUSE i, 0, 16⟩
/-- Table SAF-11. -/
def R.SAF_HCAUSE (i : Nat) : Nat := 0x340030 + 0x4 * i
def F.SAF_HCAUSE_CAUSE (i : Nat) : Fld := ⟨R.SAF_HCAUSE i, 0, 7⟩
/-- Table SAF-11. -/
def R.SAF_ACK : Nat := 0x340040
def F.SAF_ACK_STO_ACK : Fld := ⟨R.SAF_ACK, 16, 1⟩
def F.SAF_ACK_AXSTOP_ACK : Fld := ⟨R.SAF_ACK, 8, 4⟩
def F.SAF_ACK_DOUBT_ACK : Fld := ⟨R.SAF_ACK, 0, 5⟩
/-- Table SAF-11. -/
def R.SAF_DEMAND : Nat := 0x340044
def F.SAF_DEMAND_KEY : Fld := ⟨R.SAF_DEMAND, 24, 8⟩
def F.SAF_DEMAND_GO : Fld := ⟨R.SAF_DEMAND, 0, 1⟩
/-- Table SAF-11. -/
def R.SAF_REL : Nat := 0x340048
def F.SAF_REL_KEY : Fld := ⟨R.SAF_REL, 24, 8⟩
def F.SAF_REL_GO : Fld := ⟨R.SAF_REL, 0, 1⟩
/-- Table SAF-11. -/
def R.SAF_REL_STAT : Nat := 0x34004C
def F.SAF_REL_STAT_HALF : Fld := ⟨R.SAF_REL_STAT, 8, 1⟩
def F.SAF_REL_STAT_WHY : Fld := ⟨R.SAF_REL_STAT, 0, 4⟩
/-- Table SAF-11. -/
def R.SAF_CFG : Nat := 0x340050
def F.SAF_CFG_STO_D : Fld := ⟨R.SAF_CFG, 16, 8⟩
def F.SAF_CFG_DUAL_REL : Fld := ⟨R.SAF_CFG, 8, 1⟩
def F.SAF_CFG_HDL_ESC : Fld := ⟨R.SAF_CFG, 0, 4⟩
/-- Table SAF-11. -/
def R.SAF_STO : Nat := 0x340054
def F.SAF_STO_COUNT : Fld := ⟨R.SAF_STO, 24, 8⟩
def F.SAF_STO_B : Fld := ⟨R.SAF_STO, 1, 1⟩
def F.SAF_STO_A : Fld := ⟨R.SAF_STO, 0, 1⟩
/-- Table SAF-11. -/
def R.SAF_CKPT_EXP (i : Nat) : Nat := 0x340060 + 0x4 * i
def F.SAF_CKPT_EXP_EXP (i : Nat) : Fld := ⟨R.SAF_CKPT_EXP i, 0, 24⟩
/-- Table SAF-11. -/
def R.SAF_CKPT_CNT (i : Nat) : Nat := 0x340080 + 0x4 * i
def F.SAF_CKPT_CNT_CNT (i : Nat) : Fld := ⟨R.SAF_CKPT_CNT i, 0, 24⟩
/-- Table SAF-11. -/
def R.SAF_CKPT_LAST : Nat := 0x3400A0
def F.SAF_CKPT_LAST_STEP : Fld := ⟨R.SAF_CKPT_LAST, 16, 16⟩
def F.SAF_CKPT_LAST_MISS : Fld := ⟨R.SAF_CKPT_LAST, 0, 5⟩
/-- Table SAF-11. -/
def R.SAF_TPSIG (i : Nat) : Nat := 0x340100 + 0x8 * i
def F.SAF_TPSIG_SIG (i : Nat) : Fld := ⟨R.SAF_TPSIG i, 0, 32⟩
/-- Table SAF-11. -/
def R.SAF_TPSIG_STAGE (i : Nat) : Nat := 0x340104 + 0x8 * i
def F.SAF_TPSIG_STAGE_SIG (i : Nat) : Fld := ⟨R.SAF_TPSIG_STAGE i, 0, 32⟩
/-- Table SAF-11. -/
def R.SAF_TP_STAT : Nat := 0x340200
def F.SAF_TP_STAT_SKIP : Fld := ⟨R.SAF_TP_STAT, 16, 16⟩
def F.SAF_TP_STAT_FAIL : Fld := ⟨R.SAF_TP_STAT, 0, 5⟩
/-- Table SAF-11. -/
def R.SAF_TP_SEED_LO : Nat := 0x340204
def F.SAF_TP_SEED_LO_SEED : Fld := ⟨R.SAF_TP_SEED_LO, 0, 32⟩
/-- Table SAF-11. -/
def R.SAF_TP_SEED_HI : Nat := 0x340208
def F.SAF_TP_SEED_HI_SEED : Fld := ⟨R.SAF_TP_SEED_HI, 0, 32⟩
/-- Table SAF-11. -/
def R.SAF_TP_WIN : Nat := 0x34020C
def F.SAF_TP_WIN_OFFSET : Fld := ⟨R.SAF_TP_WIN, 0, 23⟩
/-- Table FME-6. -/
def R.SAF_COND : Nat := 0x340300
def F.SAF_COND_FMEDA_ISSUE : Fld := ⟨R.SAF_COND, 16, 16⟩
def F.SAF_COND_ROT_S_GAP : Fld := ⟨R.SAF_COND, 8, 8⟩
def F.SAF_COND_DUAL_REL : Fld := ⟨R.SAF_COND, 5, 1⟩
def F.SAF_COND_ROT_S_OK : Fld := ⟨R.SAF_COND, 4, 1⟩
def F.SAF_COND_AUTH_REQ : Fld := ⟨R.SAF_COND, 3, 1⟩
def F.SAF_COND_SIGNED : Fld := ⟨R.SAF_COND, 2, 1⟩
def F.SAF_COND_SEALED : Fld := ⟨R.SAF_COND, 1, 1⟩
def F.SAF_COND_JTAG_LOCKED : Fld := ⟨R.SAF_COND, 0, 1⟩
/-- Table SAF-12. -/
def R.ROT_CTRL : Nat := 0x340400
def F.ROT_CTRL_EN : Fld := ⟨R.ROT_CTRL, 31, 1⟩
def F.ROT_CTRL_N_ROT : Fld := ⟨R.ROT_CTRL, 16, 7⟩
def F.ROT_CTRL_IDX : Fld := ⟨R.ROT_CTRL, 0, 6⟩
/-- Table SAF-12. -/
def R.ROT_CUR : Nat := 0x340404
def F.ROT_CUR_CHK : Fld := ⟨R.ROT_CUR, 24, 5⟩
def F.ROT_CUR_RESULT : Fld := ⟨R.ROT_CUR, 16, 2⟩
/-- Table SAF-12. -/
def R.ROT_FAIL : Nat := 0x340408
def F.ROT_FAIL_FAIL : Fld := ⟨R.ROT_FAIL, 0, 24⟩
/-- Table SAF-12. -/
def R.ROT_STARVED : Nat := 0x34040C
def F.ROT_STARVED_STARVED : Fld := ⟨R.ROT_STARVED, 0, 24⟩
/-- Table SAF-12. -/
def R.ROT_SKIP (i : Nat) : Nat := 0x340440 + 0x4 * i
def F.ROT_SKIP_TOTAL (i : Nat) : Fld := ⟨R.ROT_SKIP i, 16, 16⟩
def F.ROT_SKIP_CONSEC (i : Nat) : Fld := ⟨R.ROT_SKIP i, 0, 4⟩
/-- Table SAF-12. -/
def R.ROT_LAST (i : Nat) : Nat := 0x3404A0 + 0x4 * i
def F.ROT_LAST_STEP (i : Nat) : Fld := ⟨R.ROT_LAST i, 0, 32⟩
/-- Table HRW-7. -/
def R.SAF_STD_CFG (i : Nat) : Nat := 0x340600 + 0x20 * i
def F.SAF_STD_CFG_EN (i : Nat) : Fld := ⟨R.SAF_STD_CFG i, 31, 1⟩
def F.SAF_STD_CFG_SPACE (i : Nat) : Fld := ⟨R.SAF_STD_CFG i, 28, 3⟩
def F.SAF_STD_CFG_ELEM (i : Nat) : Fld := ⟨R.SAF_STD_CFG i, 25, 3⟩
def F.SAF_STD_CFG_CFGONLY (i : Nat) : Fld := ⟨R.SAF_STD_CFG i, 24, 1⟩
def F.SAF_STD_CFG_MASKLIVE (i : Nat) : Fld := ⟨R.SAF_STD_CFG i, 23, 1⟩
def F.SAF_STD_CFG_UNIT (i : Nat) : Fld := ⟨R.SAF_STD_CFG i, 20, 3⟩
def F.SAF_STD_CFG_PLOT (i : Nat) : Fld := ⟨R.SAF_STD_CFG i, 16, 4⟩
def F.SAF_STD_CFG_PERIOD (i : Nat) : Fld := ⟨R.SAF_STD_CFG i, 0, 16⟩
/-- Table HRW-7. -/
def R.SAF_STD_START (i : Nat) : Nat := 0x340604 + 0x20 * i
def F.SAF_STD_START_START (i : Nat) : Fld := ⟨R.SAF_STD_START i, 0, 32⟩
/-- Table HRW-7. -/
def R.SAF_STD_COUNT (i : Nat) : Nat := 0x340608 + 0x20 * i
def F.SAF_STD_COUNT_COUNT (i : Nat) : Fld := ⟨R.SAF_STD_COUNT i, 0, 24⟩
/-- Table HRW-7. -/
def R.SAF_STD_STRIDE (i : Nat) : Nat := 0x34060C + 0x20 * i
def F.SAF_STD_STRIDE_STRIDE (i : Nat) : Fld := ⟨R.SAF_STD_STRIDE i, 0, 24⟩
/-- Table HRW-7. -/
def R.SAF_STD_EXP (i : Nat) : Nat := 0x340610 + 0x20 * i
def F.SAF_STD_EXP_EXPECT (i : Nat) : Fld := ⟨R.SAF_STD_EXP i, 0, 32⟩
/-- Table HRW-7. -/
def R.SAF_STD_STAT (i : Nat) : Nat := 0x340614 + 0x20 * i
def F.SAF_STD_STAT_MISMATCH (i : Nat) : Fld := ⟨R.SAF_STD_STAT i, 31, 1⟩
def F.SAF_STD_STAT_LATE (i : Nat) : Fld := ⟨R.SAF_STD_STAT i, 30, 1⟩
def F.SAF_STD_STAT_STEP (i : Nat) : Fld := ⟨R.SAF_STD_STAT i, 0, 16⟩
/-- Table QUE-11. -/
def R.QUE_CFG (i : Nat) : Nat := 0x380000 + 0x20 * i
def F.QUE_CFG_EN (i : Nat) : Fld := ⟨R.QUE_CFG i, 31, 1⟩
def F.QUE_CFG_ROLE (i : Nat) : Fld := ⟨R.QUE_CFG i, 30, 1⟩
def F.QUE_CFG_ALV_CHK (i : Nat) : Fld := ⟨R.QUE_CFG i, 29, 1⟩
def F.QUE_CFG_IRQ (i : Nat) : Fld := ⟨R.QUE_CFG i, 27, 2⟩
def F.QUE_CFG_TENANT (i : Nat) : Fld := ⟨R.QUE_CFG i, 24, 3⟩
def F.QUE_CFG_RESPQ (i : Nat) : Fld := ⟨R.QUE_CFG i, 16, 6⟩
def F.QUE_CFG_LOG2_DEPTH (i : Nat) : Fld := ⟨R.QUE_CFG i, 12, 4⟩
/-- Table QUE-11. -/
def R.QUE_BASE (i : Nat) : Nat := 0x380004 + 0x20 * i
def F.QUE_BASE_BASE (i : Nat) : Fld := ⟨R.QUE_BASE i, 0, 23⟩
/-- Table QUE-11. -/
def R.QUE_PROD (i : Nat) : Nat := 0x380008 + 0x20 * i
def F.QUE_PROD_PROD (i : Nat) : Fld := ⟨R.QUE_PROD i, 0, 16⟩
/-- Table QUE-11. -/
def R.QUE_CONS (i : Nat) : Nat := 0x38000C + 0x20 * i
def F.QUE_CONS_CONS (i : Nat) : Fld := ⟨R.QUE_CONS i, 0, 16⟩
/-- Table QUE-11. -/
def R.QUE_DB (i : Nat) : Nat := 0x380010 + 0x20 * i
def F.QUE_DB_P (i : Nat) : Fld := ⟨R.QUE_DB i, 0, 16⟩
/-- Table QUE-11. -/
def R.QUE_TMO (i : Nat) : Nat := 0x380014 + 0x20 * i
def F.QUE_TMO_IDLE (i : Nat) : Fld := ⟨R.QUE_TMO i, 16, 16⟩
def F.QUE_TMO_TMO (i : Nat) : Fld := ⟨R.QUE_TMO i, 0, 16⟩
/-- Table QUE-11. -/
def R.QUE_STAT (i : Nat) : Nat := 0x380018 + 0x20 * i
def F.QUE_STAT_OVF_CNT (i : Nat) : Fld := ⟨R.QUE_STAT i, 24, 8⟩
def F.QUE_STAT_RET_CNT (i : Nat) : Fld := ⟨R.QUE_STAT i, 16, 8⟩
def F.QUE_STAT_DISC (i : Nat) : Fld := ⟨R.QUE_STAT i, 8, 8⟩
def F.QUE_STAT_TMO (i : Nat) : Fld := ⟨R.QUE_STAT i, 5, 1⟩
def F.QUE_STAT_OVF (i : Nat) : Fld := ⟨R.QUE_STAT i, 4, 1⟩
def F.QUE_STAT_ALV_ERR (i : Nat) : Fld := ⟨R.QUE_STAT i, 3, 1⟩
def F.QUE_STAT_CRC_ERR (i : Nat) : Fld := ⟨R.QUE_STAT i, 2, 1⟩
def F.QUE_STAT_REFUSED (i : Nat) : Fld := ⟨R.QUE_STAT i, 1, 1⟩
def F.QUE_STAT_AUDIT (i : Nat) : Fld := ⟨R.QUE_STAT i, 0, 1⟩
/-- Table QUE-11. -/
def R.QUE_ALV (i : Nat) : Nat := 0x38001C + 0x20 * i
def F.QUE_ALV_REF_VALID (i : Nat) : Fld := ⟨R.QUE_ALV i, 8, 1⟩
def F.QUE_ALV_IN_REF (i : Nat) : Fld := ⟨R.QUE_ALV i, 4, 4⟩
def F.QUE_ALV_OUT_LAST (i : Nat) : Fld := ⟨R.QUE_ALV i, 0, 4⟩
/-- Table QUE-12. -/
def R.QUE_TEN_CTRL (i : Nat) : Nat := 0x381000 + 0x10 * i
def F.QUE_TEN_CTRL_KEY (i : Nat) : Fld := ⟨R.QUE_TEN_CTRL i, 24, 8⟩
def F.QUE_TEN_CTRL_RST (i : Nat) : Fld := ⟨R.QUE_TEN_CTRL i, 8, 1⟩
def F.QUE_TEN_CTRL_PORTS (i : Nat) : Fld := ⟨R.QUE_TEN_CTRL i, 4, 2⟩
def F.QUE_TEN_CTRL_IN_RESET (i : Nat) : Fld := ⟨R.QUE_TEN_CTRL i, 1, 1⟩
def F.QUE_TEN_CTRL_PENDING (i : Nat) : Fld := ⟨R.QUE_TEN_CTRL i, 0, 1⟩
/-- Table QUE-12. -/
def R.QUE_TFAULT (i : Nat) : Nat := 0x381004 + 0x10 * i
def F.QUE_TFAULT_FIRST (i : Nat) : Fld := ⟨R.QUE_TFAULT i, 28, 4⟩
def F.QUE_TFAULT_STEP (i : Nat) : Fld := ⟨R.QUE_TFAULT i, 0, 16⟩
/-- Table QUE-12. -/
def R.QUE_TFSTICKY (i : Nat) : Nat := 0x381008 + 0x10 * i
def F.QUE_TFSTICKY_CAUSE (i : Nat) : Fld := ⟨R.QUE_TFSTICKY i, 1, 7⟩
/-- Table QUE-12. -/
def R.QUE_REGION : Nat := 0x381100
def F.QUE_REGION_OFFSET : Fld := ⟨R.QUE_REGION, 0, 23⟩
/-- Table QUE-12. -/
def R.SQR_STAT : Nat := 0x384000
def F.SQR_STAT_TASK : Fld := ⟨R.SQR_STAT, 16, 8⟩
def F.SQR_STAT_DISC : Fld := ⟨R.SQR_STAT, 2, 1⟩
def F.SQR_STAT_DROP : Fld := ⟨R.SQR_STAT, 1, 1⟩
def F.SQR_STAT_AUDIT_ERR : Fld := ⟨R.SQR_STAT, 0, 1⟩
/-- Table QUE-12. -/
def R.SQR_SWTRIG : Nat := 0x384004
def F.SQR_SWTRIG_IDX : Fld := ⟨R.SQR_SWTRIG, 16, 4⟩
def F.SQR_SWTRIG_PAYLOAD : Fld := ⟨R.SQR_SWTRIG, 0, 16⟩
/-- Table QUE-12. -/
def R.SQR_ROUTE (i : Nat) : Nat := 0x384400 + 0x8 * i
def F.SQR_ROUTE_FLAGS (i : Nat) : Fld := ⟨R.SQR_ROUTE i, 16, 8⟩
def F.SQR_ROUTE_DST (i : Nat) : Fld := ⟨R.SQR_ROUTE i, 8, 8⟩
def F.SQR_ROUTE_SRC (i : Nat) : Fld := ⟨R.SQR_ROUTE i, 0, 8⟩
/-- Table QUE-12. -/
def R.SQR_ROUTE_CONST (i : Nat) : Nat := 0x384404 + 0x8 * i
def F.SQR_ROUTE_CONST_CONST (i : Nat) : Fld := ⟨R.SQR_ROUTE_CONST i, 0, 16⟩
/-- Table QUE-12. -/
def R.SQR_AUD_A (i : Nat) : Nat := 0x386000 + 0x8 * i
def F.SQR_AUD_A_RCV (i : Nat) : Fld := ⟨R.SQR_AUD_A i, 16, 16⟩
def F.SQR_AUD_A_SRV (i : Nat) : Fld := ⟨R.SQR_AUD_A i, 0, 16⟩
/-- Table QUE-12. -/
def R.SQR_AUD_B (i : Nat) : Nat := 0x386004 + 0x8 * i
def F.SQR_AUD_B_MRG (i : Nat) : Fld := ⟨R.SQR_AUD_B i, 16, 16⟩
def F.SQR_AUD_B_PEND (i : Nat) : Fld := ⟨R.SQR_AUD_B i, 8, 4⟩
def F.SQR_AUD_B_KIND (i : Nat) : Fld := ⟨R.SQR_AUD_B i, 0, 2⟩
/-- Table TRL-11. -/
def R.TRL_CTRL : Nat := 0x3C0000
def F.TRL_CTRL_KEY : Fld := ⟨R.TRL_CTRL, 24, 8⟩
def F.TRL_CTRL_ACK : Fld := ⟨R.TRL_CTRL, 8, 1⟩
def F.TRL_CTRL_FORCE : Fld := ⟨R.TRL_CTRL, 4, 2⟩
def F.TRL_CTRL_PS_CLR : Fld := ⟨R.TRL_CTRL, 1, 1⟩
/-- Table TRL-10. -/
def R.TRL_STAT : Nat := 0x3C0004
def F.TRL_STAT_STATE : Fld := ⟨R.TRL_STAT, 28, 4⟩
def F.TRL_STAT_ROLE : Fld := ⟨R.TRL_STAT, 26, 2⟩
def F.TRL_STAT_LANE_SWAP : Fld := ⟨R.TRL_STAT, 25, 1⟩
def F.TRL_STAT_POL : Fld := ⟨R.TRL_STAT, 23, 2⟩
def F.TRL_STAT_PS_O : Fld := ⟨R.TRL_STAT, 22, 1⟩
def F.TRL_STAT_PS_I : Fld := ⟨R.TRL_STAT, 21, 1⟩
def F.TRL_STAT_DRIFT : Fld := ⟨R.TRL_STAT, 20, 1⟩
def F.TRL_STAT_ACK_REJ : Fld := ⟨R.TRL_STAT, 19, 1⟩
def F.TRL_STAT_CRED_ERR : Fld := ⟨R.TRL_STAT, 18, 1⟩
def F.TRL_STAT_TILE_ERR : Fld := ⟨R.TRL_STAT, 17, 1⟩
def F.TRL_STAT_CAUSE : Fld := ⟨R.TRL_STAT, 8, 8⟩
/-- Table TRL-11. -/
def R.TRL_ERR : Nat := 0x3C0008
def F.TRL_ERR_TEC : Fld := ⟨R.TRL_ERR, 24, 8⟩
def F.TRL_ERR_REC : Fld := ⟨R.TRL_ERR, 16, 8⟩
def F.TRL_ERR_LATE_RUN : Fld := ⟨R.TRL_ERR, 0, 4⟩
/-- Table TRL-11. -/
def R.TRL_CNT : Nat := 0x3C000C
def F.TRL_CNT_CRC_ERR : Fld := ⟨R.TRL_CNT, 16, 16⟩
def F.TRL_CNT_LATE : Fld := ⟨R.TRL_CNT, 0, 16⟩
/-- Table TRL-11. -/
def R.TRL_TIME : Nat := 0x3C0010
def F.TRL_TIME_TX_DLY : Fld := ⟨R.TRL_TIME, 16, 12⟩
def F.TRL_TIME_LINK_DLY : Fld := ⟨R.TRL_TIME, 0, 12⟩
/-- Table TRL-11. -/
def R.TRL_OFS : Nat := 0x3C0014
def F.TRL_OFS_PEER : Fld := ⟨R.TRL_OFS, 16, 16⟩
def F.TRL_OFS_LOCAL : Fld := ⟨R.TRL_OFS, 0, 16⟩
/-- Table TRL-11. -/
def R.TRL_STEP_OFS_LO : Nat := 0x3C0018
def F.TRL_STEP_OFS_LO_STEP_OFS : Fld := ⟨R.TRL_STEP_OFS_LO, 0, 32⟩
/-- Table TRL-11. -/
def R.TRL_STEP_OFS_HI : Nat := 0x3C001C
def F.TRL_STEP_OFS_HI_STEP_OFS : Fld := ⟨R.TRL_STEP_OFS_HI, 0, 16⟩
/-- Table TRL-11. -/
def R.TRL_CFG : Nat := 0x3C0020
def F.TRL_CFG_HOLD_AXES : Fld := ⟨R.TRL_CFG, 31, 1⟩
def F.TRL_CFG_SLOT_MAP : Fld := ⟨R.TRL_CFG, 0, 16⟩
/-- Table TRL-11. -/
def R.TRL_TRAIN : Nat := 0x3C0024
def F.TRL_TRAIN_TRAIN_LIMIT : Fld := ⟨R.TRL_TRAIN, 0, 24⟩
/-- Table TRL-11. -/
def R.TRL_BULK_TMO : Nat := 0x3C0028
def F.TRL_BULK_TMO_BULK_TMO : Fld := ⟨R.TRL_BULK_TMO, 0, 16⟩
/-- Table TRL-11. -/
def R.TRL_SHARE_BUF : Nat := 0x3C002C
def F.TRL_SHARE_BUF_OFFSET : Fld := ⟨R.TRL_SHARE_BUF, 0, 23⟩
/-- Table TRL-11. -/
def R.TRL_CRED (i : Nat) : Nat := 0x3C0040 + 0x4 * i
def F.TRL_CRED_TXC (i : Nat) : Fld := ⟨R.TRL_CRED i, 24, 8⟩
def F.TRL_CRED_HELD (i : Nat) : Fld := ⟨R.TRL_CRED i, 16, 8⟩
def F.TRL_CRED_FLIGHT (i : Nat) : Fld := ⟨R.TRL_CRED i, 8, 8⟩
def F.TRL_CRED_RFLIGHT (i : Nat) : Fld := ⟨R.TRL_CRED i, 0, 8⟩
/-- Table TRL-11. -/
def R.TRL_SHARE (i : Nat) : Nat := 0x3C0080 + 0x4 * i
def F.TRL_SHARE_EN (i : Nat) : Fld := ⟨R.TRL_SHARE i, 31, 1⟩
def F.TRL_SHARE_FOLLOWER (i : Nat) : Fld := ⟨R.TRL_SHARE i, 30, 1⟩
def F.TRL_SHARE_PEER_AXIS (i : Nat) : Fld := ⟨R.TRL_SHARE i, 26, 2⟩
def F.TRL_SHARE_MASK (i : Nat) : Fld := ⟨R.TRL_SHARE i, 16, 8⟩
def F.TRL_SHARE_SHARE_AGE (i : Nat) : Fld := ⟨R.TRL_SHARE i, 0, 4⟩
/-- Table TRL-11. -/
def R.TRL_SHARE_STAT (i : Nat) : Nat := 0x3C0090 + 0x4 * i
def F.TRL_SHARE_STAT_MISS (i : Nat) : Fld := ⟨R.TRL_SHARE_STAT i, 16, 16⟩
def F.TRL_SHARE_STAT_USED (i : Nat) : Fld := ⟨R.TRL_SHARE_STAT i, 0, 16⟩
/-- Table TRL-11. -/
def R.TRL_PEER_SIG : Nat := 0x3C00A0
def F.TRL_PEER_SIG_SIG : Fld := ⟨R.TRL_PEER_SIG, 0, 32⟩
/-- Table TRL-11. -/
def R.TRL_BULK_CFG (i : Nat) : Nat := 0x3C0100 + 0x20 * i
def F.TRL_BULK_CFG_KIND (i : Nat) : Fld := ⟨R.TRL_BULK_CFG i, 30, 2⟩
def F.TRL_BULK_CFG_CSET (i : Nat) : Fld := ⟨R.TRL_BULK_CFG i, 16, 5⟩
def F.TRL_BULK_CFG_TILE (i : Nat) : Fld := ⟨R.TRL_BULK_CFG i, 0, 16⟩
/-- Table TRL-11. -/
def R.TRL_BULK_TAG_LO (i : Nat) : Nat := 0x3C0104 + 0x20 * i
def F.TRL_BULK_TAG_LO_STEP (i : Nat) : Fld := ⟨R.TRL_BULK_TAG_LO i, 0, 32⟩
/-- Table TRL-11. -/
def R.TRL_BULK_TAG_HI (i : Nat) : Nat := 0x3C0108 + 0x20 * i
def F.TRL_BULK_TAG_HI_STEP (i : Nat) : Fld := ⟨R.TRL_BULK_TAG_HI i, 0, 16⟩
/-- Table TRL-11. -/
def R.TRL_BULK_CTRL (i : Nat) : Nat := 0x3C010C + 0x20 * i
def F.TRL_BULK_CTRL_GO (i : Nat) : Fld := ⟨R.TRL_BULK_CTRL i, 0, 1⟩
/-- Table TRL-11. -/
def R.TRL_BULK_STAT (i : Nat) : Nat := 0x3C0110 + 0x20 * i
def F.TRL_BULK_STAT_STATE (i : Nat) : Fld := ⟨R.TRL_BULK_STAT i, 28, 4⟩
def F.TRL_BULK_STAT_RESULT (i : Nat) : Fld := ⟨R.TRL_BULK_STAT i, 24, 4⟩
/-- Table TRL-11. -/
def R.TRL_TILE_CMD : Nat := 0x3C0200
def F.TRL_TILE_CMD_OP : Fld := ⟨R.TRL_TILE_CMD, 30, 2⟩
def F.TRL_TILE_CMD_TILE : Fld := ⟨R.TRL_TILE_CMD, 0, 16⟩
/-- Table TRL-11. -/
def R.TRL_TILE_AUD : Nat := 0x3C0204
def F.TRL_TILE_AUD_OWNED : Fld := ⟨R.TRL_TILE_AUD, 24, 8⟩
def F.TRL_TILE_AUD_RESIDENT : Fld := ⟨R.TRL_TILE_AUD, 16, 8⟩
def F.TRL_TILE_AUD_EVICTING : Fld := ⟨R.TRL_TILE_AUD, 8, 8⟩
def F.TRL_TILE_AUD_SILO : Fld := ⟨R.TRL_TILE_AUD, 0, 8⟩
/-- Table TRL-11. -/
def R.TRL_TILE_ST (i : Nat) : Nat := 0x3C0400 + 0x4 * i
def F.TRL_TILE_ST_STATE (i : Nat) : Fld := ⟨R.TRL_TILE_ST i, 28, 4⟩
def F.TRL_TILE_ST_GEN (i : Nat) : Fld := ⟨R.TRL_TILE_ST i, 0, 16⟩
/-- Table FLD-7. -/
def R.SIL_STAT : Nat := 0x3E0000
def F.SIL_STAT_BUSY : Fld := ⟨R.SIL_STAT, 31, 1⟩
def F.SIL_STAT_HOST_NOR : Fld := ⟨R.SIL_STAT, 4, 1⟩
def F.SIL_STAT_CRC : Fld := ⟨R.SIL_STAT, 3, 1⟩
def F.SIL_STAT_GAP_WAIT : Fld := ⟨R.SIL_STAT, 2, 1⟩
/-- Table FLD-7. -/
def R.SIL_ERR_ADDR : Nat := 0x3E0004
def F.SIL_ERR_ADDR_ADDR : Fld := ⟨R.SIL_ERR_ADDR, 0, 28⟩
/-- Table FLD-7. -/
def R.SIL_CRC_CNT : Nat := 0x3E0008
def F.SIL_CRC_CNT_COUNT : Fld := ⟨R.SIL_CRC_CNT, 0, 32⟩
/-- Table FLD-7. -/
def R.SIL_XFER : Nat := 0x3E000C
def F.SIL_XFER_COUNT : Fld := ⟨R.SIL_XFER, 0, 32⟩
/-- Table SNS-6. -/
def R.SNS_CFG (a : Nat) : Nat := axisBase a + 0x0
def F.SNS_CFG_N_ACQ_SA (a : Nat) : Fld := ⟨R.SNS_CFG a, 24, 7⟩
def F.SNS_CFG_N_ACQ_SH (a : Nat) : Fld := ⟨R.SNS_CFG a, 16, 7⟩
def F.SNS_CFG_SLOW_EN (a : Nat) : Fld := ⟨R.SNS_CFG a, 8, 3⟩
def F.SNS_CFG_GAIN (a : Nat) : Fld := ⟨R.SNS_CFG a, 0, 2⟩
/-- Table SNS-7. -/
def R.SNS_OC (a i : Nat) : Nat := axisBase a + 0x10 + 0x4 * i
def F.SNS_OC_OC_THR (a i : Nat) : Fld := ⟨R.SNS_OC a i, 0, 7⟩
/-- Table SNS-7. -/
def R.SNS_OFS (a i : Nat) : Nat := axisBase a + 0x20 + 0x4 * i
def F.SNS_OFS_OFS (a i : Nat) : Fld := ⟨R.SNS_OFS a i, 0, 32⟩
/-- Table SNS-7. -/
def R.SNS_CAL (a : Nat) : Nat := axisBase a + 0x2C
def F.SNS_CAL_REJ (a : Nat) : Fld := ⟨R.SNS_CAL a, 9, 1⟩
def F.SNS_CAL_BUSY (a : Nat) : Fld := ⟨R.SNS_CAL a, 8, 1⟩
def F.SNS_CAL_GO (a : Nat) : Fld := ⟨R.SNS_CAL a, 0, 1⟩
/-- Table SNS-7. -/
def R.SNS_I (a i : Nat) : Nat := axisBase a + 0x40 + 0x4 * i
def F.SNS_I_SPEC (a i : Nat) : Fld := ⟨R.SNS_I a i, 31, 1⟩
def F.SNS_I_WIN (a i : Nat) : Fld := ⟨R.SNS_I a i, 30, 1⟩
def F.SNS_I_SAT (a i : Nat) : Fld := ⟨R.SNS_I a i, 29, 1⟩
def F.SNS_I_REC (a i : Nat) : Fld := ⟨R.SNS_I a i, 28, 1⟩
def F.SNS_I_HOLD (a i : Nat) : Fld := ⟨R.SNS_I a i, 27, 1⟩
def F.SNS_I_GAIN (a i : Nat) : Fld := ⟨R.SNS_I a i, 24, 2⟩
def F.SNS_I_CODE (a i : Nat) : Fld := ⟨R.SNS_I a i, 0, 16⟩
/-- Table SNS-7. -/
def R.SNS_VBUS (a : Nat) : Nat := axisBase a + 0x4C
def F.SNS_VBUS_CODE (a : Nat) : Fld := ⟨R.SNS_VBUS a, 0, 14⟩
/-- Table SNS-7. -/
def R.SNS_NTC (a i : Nat) : Nat := axisBase a + 0x50 + 0x4 * i
def F.SNS_NTC_OPEN (a i : Nat) : Fld := ⟨R.SNS_NTC a i, 31, 1⟩
def F.SNS_NTC_SHORT (a i : Nat) : Fld := ⟨R.SNS_NTC a i, 30, 1⟩
def F.SNS_NTC_CODE (a i : Nat) : Fld := ⟨R.SNS_NTC a i, 0, 14⟩
/-- Table SNS-7. -/
def R.SNS_TAG (a : Nat) : Nat := axisBase a + 0x58
def F.SNS_TAG_STEP (a : Nat) : Fld := ⟨R.SNS_TAG a, 8, 24⟩
def F.SNS_TAG_PERIOD (a : Nat) : Fld := ⟨R.SNS_TAG a, 0, 5⟩
/-- Table SNS-7. -/
def R.SNS_MLIM (a : Nat) : Nat := axisBase a + 0x5C
def F.SNS_MLIM_MLIM (a : Nat) : Fld := ⟨R.SNS_MLIM a, 0, 16⟩
/-- Table SNS-7. -/
def R.SNS_KCL (a : Nat) : Nat := axisBase a + 0x60
def F.SNS_KCL_HOLD_LIMIT (a : Nat) : Fld := ⟨R.SNS_KCL a, 24, 8⟩
def F.SNS_KCL_KCL_PERSIST (a : Nat) : Fld := ⟨R.SNS_KCL a, 16, 8⟩
def F.SNS_KCL_KCL_THR (a : Nat) : Fld := ⟨R.SNS_KCL a, 0, 14⟩
/-- Table SNS-7. -/
def R.SNS_NTC_LIM (a : Nat) : Nat := axisBase a + 0x64
def F.SNS_NTC_LIM_NTC_OPEN (a : Nat) : Fld := ⟨R.SNS_NTC_LIM a, 16, 14⟩
def F.SNS_NTC_LIM_NTC_SHORT (a : Nat) : Fld := ⟨R.SNS_NTC_LIM a, 0, 14⟩
/-- Table SNS-7. -/
def R.SNS_SWN_CFG (a : Nat) : Nat := axisBase a + 0x70
def F.SNS_SWN_CFG_SWN_THR (a : Nat) : Fld := ⟨R.SNS_SWN_CFG a, 16, 8⟩
def F.SNS_SWN_CFG_DLY_WIN (a : Nat) : Fld := ⟨R.SNS_SWN_CFG a, 0, 12⟩
/-- Table SNS-7. -/
def R.SNS_SWN_DLY (a i : Nat) : Nat := axisBase a + 0x74 + 0x4 * i
def F.SNS_SWN_DLY_MISS_LH (a i : Nat) : Fld := ⟨R.SNS_SWN_DLY a i, 31, 1⟩
def F.SNS_SWN_DLY_DLY_LH (a i : Nat) : Fld := ⟨R.SNS_SWN_DLY a i, 16, 12⟩
def F.SNS_SWN_DLY_MISS_HL (a i : Nat) : Fld := ⟨R.SNS_SWN_DLY a i, 15, 1⟩
def F.SNS_SWN_DLY_DLY_HL (a i : Nat) : Fld := ⟨R.SNS_SWN_DLY a i, 0, 12⟩
/-- Table SNS-7. -/
def R.SNS_STAT (a : Nat) : Nat := axisBase a + 0x80
def F.SNS_STAT_HOLDX (a : Nat) : Fld := ⟨R.SNS_STAT a, 5, 1⟩
def F.SNS_STAT_KCL (a : Nat) : Fld := ⟨R.SNS_STAT a, 4, 1⟩
def F.SNS_STAT_SAT (a : Nat) : Fld := ⟨R.SNS_STAT a, 3, 1⟩
def F.SNS_STAT_WIN (a : Nat) : Fld := ⟨R.SNS_STAT a, 2, 1⟩
def F.SNS_STAT_BUSY (a : Nat) : Fld := ⟨R.SNS_STAT a, 1, 1⟩
/-- Table SNS-7. -/
def R.SNS_WINCNT (a : Nat) : Nat := axisBase a + 0x84
def F.SNS_WINCNT_HOLD (a : Nat) : Fld := ⟨R.SNS_WINCNT a, 16, 8⟩
def F.SNS_WINCNT_REC (a : Nat) : Fld := ⟨R.SNS_WINCNT a, 8, 8⟩
def F.SNS_WINCNT_WIN (a : Nat) : Fld := ⟨R.SNS_WINCNT a, 0, 8⟩
/-- Table SNS-8. -/
def R.SNS_CMD_CFG (a : Nat) : Nat := axisBase a + 0xA0
def F.SNS_CMD_CFG_LOS_TMO (a : Nat) : Fld := ⟨R.SNS_CMD_CFG a, 16, 16⟩
def F.SNS_CMD_CFG_GLITCH (a : Nat) : Fld := ⟨R.SNS_CMD_CFG a, 8, 8⟩
def F.SNS_CMD_CFG_RECOVER (a : Nat) : Fld := ⟨R.SNS_CMD_CFG a, 4, 4⟩
def F.SNS_CMD_CFG_AUTOREC (a : Nat) : Fld := ⟨R.SNS_CMD_CFG a, 3, 1⟩
def F.SNS_CMD_CFG_LIVEZERO (a : Nat) : Fld := ⟨R.SNS_CMD_CFG a, 2, 1⟩
def F.SNS_CMD_CFG_FORM (a : Nat) : Fld := ⟨R.SNS_CMD_CFG a, 0, 2⟩
/-- Table SNS-8. -/
def R.SNS_CMD_RANGE (a : Nat) : Nat := axisBase a + 0xA4
def F.SNS_CMD_RANGE_HI (a : Nat) : Fld := ⟨R.SNS_CMD_RANGE a, 16, 16⟩
def F.SNS_CMD_RANGE_LO (a : Nat) : Fld := ⟨R.SNS_CMD_RANGE a, 0, 16⟩
/-- Table SNS-8. -/
def R.SNS_CMD_PMIN (a : Nat) : Nat := axisBase a + 0xA8
def F.SNS_CMD_PMIN_PMIN (a : Nat) : Fld := ⟨R.SNS_CMD_PMIN a, 0, 32⟩
/-- Table SNS-8. -/
def R.SNS_CMD_PMAX (a : Nat) : Nat := axisBase a + 0xAC
def F.SNS_CMD_PMAX_PMAX (a : Nat) : Fld := ⟨R.SNS_CMD_PMAX a, 0, 32⟩
/-- Table SNS-8. -/
def R.SNS_CMD_FS (a : Nat) : Nat := axisBase a + 0xB0
def F.SNS_CMD_FS_FREQ_FS (a : Nat) : Fld := ⟨R.SNS_CMD_FS a, 0, 25⟩
/-- Table SNS-8. -/
def R.SNS_CMD_VAL (a : Nat) : Nat := axisBase a + 0xB4
def F.SNS_CMD_VAL_VALID (a : Nat) : Fld := ⟨R.SNS_CMD_VAL a, 31, 1⟩
def F.SNS_CMD_VAL_LOS (a : Nat) : Fld := ⟨R.SNS_CMD_VAL a, 30, 1⟩
def F.SNS_CMD_VAL_RANGE (a : Nat) : Fld := ⟨R.SNS_CMD_VAL a, 29, 1⟩
def F.SNS_CMD_VAL_VALUE (a : Nat) : Fld := ⟨R.SNS_CMD_VAL a, 0, 16⟩
/-- Table SNS-8. -/
def R.SNS_CMD_FREQ (a : Nat) : Nat := axisBase a + 0xB8
def F.SNS_CMD_FREQ_FREQ (a : Nat) : Fld := ⟨R.SNS_CMD_FREQ a, 0, 25⟩
/-- Table SNS-8. -/
def R.SNS_CMD_STAT (a : Nat) : Nat := axisBase a + 0xBC
def F.SNS_CMD_STAT_RANGE (a : Nat) : Fld := ⟨R.SNS_CMD_STAT a, 1, 1⟩
def F.SNS_CMD_STAT_LOS (a : Nat) : Fld := ⟨R.SNS_CMD_STAT a, 0, 1⟩
/-- Table PWM-8. -/
def R.PWM_CTRL (a : Nat) : Nat := axisBase a + 0x4000
def F.PWM_CTRL_EN (a : Nat) : Fld := ⟨R.PWM_CTRL a, 31, 1⟩
def F.PWM_CTRL_VIEW (a : Nat) : Fld := ⟨R.PWM_CTRL a, 30, 1⟩
def F.PWM_CTRL_GROUP (a : Nat) : Fld := ⟨R.PWM_CTRL a, 24, 2⟩
def F.PWM_CTRL_TRIG_HOST (a : Nat) : Fld := ⟨R.PWM_CTRL a, 20, 4⟩
def F.PWM_CTRL_PAIR_IND (a : Nat) : Fld := ⟨R.PWM_CTRL a, 16, 3⟩
def F.PWM_CTRL_HOST_SRC (a : Nat) : Fld := ⟨R.PWM_CTRL a, 8, 8⟩
/-- Table PWM-10. -/
def R.PWM_PER (a : Nat) : Nat := axisBase a + 0x4004
def F.PWM_PER_PER (a : Nat) : Fld := ⟨R.PWM_PER a, 0, 24⟩
/-- Table PWM-10. -/
def R.PWM_LOAD (a : Nat) : Nat := axisBase a + 0x4008
def F.PWM_LOAD_HOLD (a : Nat) : Fld := ⟨R.PWM_LOAD a, 31, 1⟩
def F.PWM_LOAD_COMMITTED (a : Nat) : Fld := ⟨R.PWM_LOAD a, 9, 1⟩
def F.PWM_LOAD_ARMED (a : Nat) : Fld := ⟨R.PWM_LOAD a, 8, 1⟩
def F.PWM_LOAD_REQ (a : Nat) : Fld := ⟨R.PWM_LOAD a, 0, 1⟩
/-- Table PWM-10. -/
def R.PWM_CNT (a : Nat) : Nat := axisBase a + 0x400C
def F.PWM_CNT_CNT (a : Nat) : Fld := ⟨R.PWM_CNT a, 0, 24⟩
/-- Table PWM-10. -/
def R.PWM_DT_CFG (a : Nat) : Nat := axisBase a + 0x4010
def F.PWM_DT_CFG_ADAPT (a : Nat) : Fld := ⟨R.PWM_DT_CFG a, 31, 1⟩
def F.PWM_DT_CFG_DT_MAX (a : Nat) : Fld := ⟨R.PWM_DT_CFG a, 16, 14⟩
def F.PWM_DT_CFG_DT_MIN (a : Nat) : Fld := ⟨R.PWM_DT_CFG a, 0, 14⟩
/-- Table PWM-10. -/
def R.PWM_DT_CFG2 (a : Nat) : Nat := axisBase a + 0x4014
def F.PWM_DT_CFG2_DT_FIX (a : Nat) : Fld := ⟨R.PWM_DT_CFG2 a, 16, 14⟩
def F.PWM_DT_CFG2_DT_MARGIN (a : Nat) : Fld := ⟨R.PWM_DT_CFG2 a, 0, 14⟩
/-- Table PWM-10. -/
def R.PWM_MINPW (a : Nat) : Nat := axisBase a + 0x4018
def F.PWM_MINPW_MINPW (a : Nat) : Fld := ⟨R.PWM_MINPW a, 0, 14⟩
/-- Table PWM-10. -/
def R.PWM_DT (a i : Nat) : Nat := axisBase a + 0x4020 + 0x4 * i
def F.PWM_DT_FULL_LH (a i : Nat) : Fld := ⟨R.PWM_DT a i, 31, 1⟩
def F.PWM_DT_DT_LH (a i : Nat) : Fld := ⟨R.PWM_DT a i, 16, 14⟩
def F.PWM_DT_FULL_HL (a i : Nat) : Fld := ⟨R.PWM_DT a i, 15, 1⟩
def F.PWM_DT_DT_HL (a i : Nat) : Fld := ⟨R.PWM_DT a i, 0, 14⟩
/-- Table PWM-9. -/
def R.PWM_RISE (a i : Nat) : Nat := axisBase a + 0x4040 + 0x8 * i
def F.PWM_RISE_FINE (a i : Nat) : Fld := ⟨R.PWM_RISE a i, 24, 5⟩
def F.PWM_RISE_COARSE (a i : Nat) : Fld := ⟨R.PWM_RISE a i, 0, 24⟩
/-- Table PWM-9. -/
def R.PWM_FALL (a i : Nat) : Nat := axisBase a + 0x4044 + 0x8 * i
def F.PWM_FALL_FINE (a i : Nat) : Fld := ⟨R.PWM_FALL a i, 24, 5⟩
def F.PWM_FALL_COARSE (a i : Nat) : Fld := ⟨R.PWM_FALL a i, 0, 24⟩
/-- Table PWM-10. -/
def R.PWM_TRIG (a i : Nat) : Nat := axisBase a + 0x4080 + 0x4 * i
def F.PWM_TRIG_EN (a i : Nat) : Fld := ⟨R.PWM_TRIG a i, 31, 1⟩
def F.PWM_TRIG_PRE (a i : Nat) : Fld := ⟨R.PWM_TRIG a i, 30, 1⟩
def F.PWM_TRIG_POS (a i : Nat) : Fld := ⟨R.PWM_TRIG a i, 0, 24⟩
/-- Table PWM-10. -/
def R.PWM_TCH_A (a i : Nat) : Nat := axisBase a + 0x4090 + 0x8 * i
def F.PWM_TCH_A_MODE (a i : Nat) : Fld := ⟨R.PWM_TCH_A a i, 30, 2⟩
def F.PWM_TCH_A_START (a i : Nat) : Fld := ⟨R.PWM_TCH_A a i, 0, 24⟩
/-- Table PWM-10. -/
def R.PWM_TCH_B (a i : Nat) : Nat := axisBase a + 0x4094 + 0x8 * i
def F.PWM_TCH_B_END (a i : Nat) : Fld := ⟨R.PWM_TCH_B a i, 0, 24⟩
/-- Table PWM-10. -/
def R.PWM_MASK (a i : Nat) : Nat := axisBase a + 0x40C0 + 0x4 * i
def F.PWM_MASK_SET (a i : Nat) : Fld := ⟨R.PWM_MASK a i, 0, 16⟩
/-- Table PWM-10. -/
def R.PWM_MASK_CTRL (a : Nat) : Nat := axisBase a + 0x40E0
def F.PWM_MASK_CTRL_SEL (a : Nat) : Fld := ⟨R.PWM_MASK_CTRL a, 16, 3⟩
def F.PWM_MASK_CTRL_FSEL (a : Nat) : Fld := ⟨R.PWM_MASK_CTRL a, 8, 3⟩
def F.PWM_MASK_CTRL_FORCE (a : Nat) : Fld := ⟨R.PWM_MASK_CTRL a, 1, 1⟩
/-- Table PWM-10. -/
def R.PWM_TRIP_CFG (a : Nat) : Nat := axisBase a + 0x4100
def F.PWM_TRIP_CFG_N (a : Nat) : Fld := ⟨R.PWM_TRIP_CFG a, 24, 8⟩
def F.PWM_TRIP_CFG_M (a : Nat) : Fld := ⟨R.PWM_TRIP_CFG a, 8, 16⟩
def F.PWM_TRIP_CFG_X_TRIP (a : Nat) : Fld := ⟨R.PWM_TRIP_CFG a, 7, 1⟩
def F.PWM_TRIP_CFG_BLANK_OC (a : Nat) : Fld := ⟨R.PWM_TRIP_CFG a, 5, 2⟩
def F.PWM_TRIP_CFG_BLANK_OC_EN (a : Nat) : Fld := ⟨R.PWM_TRIP_CFG a, 4, 1⟩
def F.PWM_TRIP_CFG_BLANK_NFLT (a : Nat) : Fld := ⟨R.PWM_TRIP_CFG a, 2, 2⟩
def F.PWM_TRIP_CFG_BLANK_NFLT_EN (a : Nat) : Fld := ⟨R.PWM_TRIP_CFG a, 1, 1⟩
def F.PWM_TRIP_CFG_NFLT_EN (a : Nat) : Fld := ⟨R.PWM_TRIP_CFG a, 0, 1⟩
/-- Table PWM-10. -/
def R.PWM_TRIP_STAT (a : Nat) : Nat := axisBase a + 0x4104
def F.PWM_TRIP_STAT_COUNT (a : Nat) : Fld := ⟨R.PWM_TRIP_STAT a, 24, 8⟩
def F.PWM_TRIP_STAT_CLEAN (a : Nat) : Fld := ⟨R.PWM_TRIP_STAT a, 8, 16⟩
def F.PWM_TRIP_STAT_LATCHED (a : Nat) : Fld := ⟨R.PWM_TRIP_STAT a, 3, 1⟩
def F.PWM_TRIP_STAT_TRIPPED (a : Nat) : Fld := ⟨R.PWM_TRIP_STAT a, 2, 1⟩
def F.PWM_TRIP_STAT_OC (a : Nat) : Fld := ⟨R.PWM_TRIP_STAT a, 1, 1⟩
def F.PWM_TRIP_STAT_NFLT (a : Nat) : Fld := ⟨R.PWM_TRIP_STAT a, 0, 1⟩
/-- Table PWM-10. -/
def R.PWM_TRIP_CLR (a : Nat) : Nat := axisBase a + 0x4108
def F.PWM_TRIP_CLR_CLR (a : Nat) : Fld := ⟨R.PWM_TRIP_CLR a, 0, 1⟩
/-- Table PWM-10. -/
def R.PWM_TRIP_TOTAL (a : Nat) : Nat := axisBase a + 0x410C
def F.PWM_TRIP_TOTAL_TOTAL (a : Nat) : Fld := ⟨R.PWM_TRIP_TOTAL a, 0, 32⟩
/-- Table PWM-10. -/
def R.PWM_STAT (a : Nat) : Nat := axisBase a + 0x4110
def F.PWM_STAT_HALTED (a : Nat) : Fld := ⟨R.PWM_STAT a, 6, 1⟩
def F.PWM_STAT_CLR_REJ (a : Nat) : Fld := ⟨R.PWM_STAT a, 5, 1⟩
def F.PWM_STAT_PULSE_DROP (a : Nat) : Fld := ⟨R.PWM_STAT a, 4, 1⟩
def F.PWM_STAT_EARLY_MISS (a : Nat) : Fld := ⟨R.PWM_STAT a, 3, 1⟩
def F.PWM_STAT_HOSTCOLL (a : Nat) : Fld := ⟨R.PWM_STAT a, 2, 1⟩
def F.PWM_STAT_INTERLOCK (a : Nat) : Fld := ⟨R.PWM_STAT a, 1, 1⟩
/-- Table DET-8. -/
def R.PWM_DITHER (a : Nat) : Nat := axisBase a + 0x4120
def F.PWM_DITHER_DBITS (a : Nat) : Fld := ⟨R.PWM_DITHER a, 0, 3⟩
/-- Table LPE-6. -/
def R.LPE_CTRL (a : Nat) : Nat := axisBase a + 0x8000
def F.LPE_CTRL_EN (a : Nat) : Fld := ⟨R.LPE_CTRL a, 31, 1⟩
def F.LPE_CTRL_N_BLK (a : Nat) : Fld := ⟨R.LPE_CTRL a, 0, 8⟩
/-- Table LPE-4. -/
def R.LPE_STAT (a : Nat) : Nat := axisBase a + 0x8004
def F.LPE_STAT_SEL_H (a : Nat) : Fld := ⟨R.LPE_STAT a, 31, 1⟩
def F.LPE_STAT_INF (a : Nat) : Fld := ⟨R.LPE_STAT a, 7, 1⟩
def F.LPE_STAT_NAN (a : Nat) : Fld := ⟨R.LPE_STAT a, 6, 1⟩
def F.LPE_STAT_SATF (a : Nat) : Fld := ⟨R.LPE_STAT a, 5, 1⟩
def F.LPE_STAT_DISAGREE (a : Nat) : Fld := ⟨R.LPE_STAT a, 4, 1⟩
def F.LPE_STAT_ECC_UE (a : Nat) : Fld := ⟨R.LPE_STAT a, 3, 1⟩
/-- Table LPE-6. -/
def R.LPE_NAN_LOC (a : Nat) : Nat := axisBase a + 0x8008
def F.LPE_NAN_LOC_STEP (a : Nat) : Fld := ⟨R.LPE_NAN_LOC a, 16, 16⟩
def F.LPE_NAN_LOC_PASS (a : Nat) : Fld := ⟨R.LPE_NAN_LOC a, 8, 1⟩
def F.LPE_NAN_LOC_BLK (a : Nat) : Fld := ⟨R.LPE_NAN_LOC a, 0, 7⟩
/-- Table LPE-6. -/
def R.LPE_SAT_LOC (a : Nat) : Nat := axisBase a + 0x800C
def F.LPE_SAT_LOC_COUNT (a : Nat) : Fld := ⟨R.LPE_SAT_LOC a, 16, 16⟩
def F.LPE_SAT_LOC_PASS (a : Nat) : Fld := ⟨R.LPE_SAT_LOC a, 8, 1⟩
def F.LPE_SAT_LOC_BLK (a : Nat) : Fld := ⟨R.LPE_SAT_LOC a, 0, 7⟩
/-- Table LPE-5. -/
def R.LPE_BANK_CTRL (a : Nat) : Nat := axisBase a + 0x8010
def F.LPE_BANK_CTRL_ACTIVE (a : Nat) : Fld := ⟨R.LPE_BANK_CTRL a, 31, 1⟩
def F.LPE_BANK_CTRL_PENDING (a : Nat) : Fld := ⟨R.LPE_BANK_CTRL a, 30, 1⟩
def F.LPE_BANK_CTRL_LOCK (a : Nat) : Fld := ⟨R.LPE_BANK_CTRL a, 29, 1⟩
def F.LPE_BANK_CTRL_COLL (a : Nat) : Fld := ⟨R.LPE_BANK_CTRL a, 9, 1⟩
def F.LPE_BANK_CTRL_REJ (a : Nat) : Fld := ⟨R.LPE_BANK_CTRL a, 8, 1⟩
def F.LPE_BANK_CTRL_SWAP (a : Nat) : Fld := ⟨R.LPE_BANK_CTRL a, 0, 1⟩
/-- Table LPE-6. -/
def R.LPE_BANK_STEP_LO (a : Nat) : Nat := axisBase a + 0x8014
def F.LPE_BANK_STEP_LO_STEP_LO (a : Nat) : Fld := ⟨R.LPE_BANK_STEP_LO a, 0, 32⟩
/-- Table LPE-6. -/
def R.LPE_BANK_STEP_HI (a : Nat) : Nat := axisBase a + 0x8018
def F.LPE_BANK_STEP_HI_STEP_HI (a : Nat) : Fld := ⟨R.LPE_BANK_STEP_HI a, 0, 16⟩
/-- Table LPE-6. -/
def R.LPE_BANK_REJ (a : Nat) : Nat := axisBase a + 0x801C
def F.LPE_BANK_REJ_SLOT (a : Nat) : Fld := ⟨R.LPE_BANK_REJ a, 8, 8⟩
def F.LPE_BANK_REJ_WHY (a : Nat) : Fld := ⟨R.LPE_BANK_REJ a, 0, 3⟩
/-- Table LPE-6. -/
def R.LPE_HSLOT (a : Nat) : Nat := axisBase a + 0x8020
def F.LPE_HSLOT_H_START (a : Nat) : Fld := ⟨R.LPE_HSLOT a, 0, 24⟩
/-- Table LPE-6. -/
def R.LPE_CLOOP (a : Nat) : Nat := axisBase a + 0x8024
def F.LPE_CLOOP_C_LOOP (a : Nat) : Fld := ⟨R.LPE_CLOOP a, 0, 16⟩
/-- Table LPE-6. -/
def R.LPE_ECC (a : Nat) : Nat := axisBase a + 0x8028
def F.LPE_ECC_CE (a : Nat) : Fld := ⟨R.LPE_ECC a, 0, 16⟩
/-- Table LPE-6. -/
def R.LPE_SUBST (a i : Nat) : Nat := axisBase a + 0x8030 + 0x4 * i
def F.LPE_SUBST_VALUE (a i : Nat) : Fld := ⟨R.LPE_SUBST a i, 0, 32⟩
/-- Table LPE-6. -/
def R.LPE_EST_CMP (a : Nat) : Nat := axisBase a + 0x8040
def F.LPE_EST_CMP_DIS_PERSIST (a : Nat) : Fld := ⟨R.LPE_EST_CMP a, 16, 8⟩
def F.LPE_EST_CMP_DIS_THR (a : Nat) : Fld := ⟨R.LPE_EST_CMP a, 0, 16⟩
/-- Table COM-3. -/
def R.LPE_DRV_CTRL (a : Nat) : Nat := axisBase a + 0x8400
def F.LPE_DRV_CTRL_ACK (a : Nat) : Fld := ⟨R.LPE_DRV_CTRL a, 1, 1⟩
def F.LPE_DRV_CTRL_RUN (a : Nat) : Fld := ⟨R.LPE_DRV_CTRL a, 0, 1⟩
/-- Table COM-4. -/
def R.LPE_DRV_STAT (a : Nat) : Nat := axisBase a + 0x8404
def F.LPE_DRV_STAT_FAULT (a : Nat) : Fld := ⟨R.LPE_DRV_STAT a, 24, 8⟩
def F.LPE_DRV_STAT_DECIDE (a : Nat) : Fld := ⟨R.LPE_DRV_STAT a, 20, 4⟩
def F.LPE_DRV_STAT_INJ_ON (a : Nat) : Fld := ⟨R.LPE_DRV_STAT a, 9, 1⟩
def F.LPE_DRV_STAT_VLIM (a : Nat) : Fld := ⟨R.LPE_DRV_STAT a, 8, 1⟩
def F.LPE_DRV_STAT_DIR (a : Nat) : Fld := ⟨R.LPE_DRV_STAT a, 4, 2⟩
def F.LPE_DRV_STAT_STATE (a : Nat) : Fld := ⟨R.LPE_DRV_STAT a, 0, 4⟩
/-- Table COM-5. -/
def R.LPE_DRV_CFG (a : Nat) : Nat := axisBase a + 0x8408
def F.LPE_DRV_CFG_START_SRC (a : Nat) : Fld := ⟨R.LPE_DRV_CFG a, 31, 1⟩
def F.LPE_DRV_CFG_STOP_MODE (a : Nat) : Fld := ⟨R.LPE_DRV_CFG a, 30, 1⟩
def F.LPE_DRV_CFG_OFF_PAT (a : Nat) : Fld := ⟨R.LPE_DRV_CFG a, 8, 3⟩
def F.LPE_DRV_CFG_BRAKE_PAT (a : Nat) : Fld := ⟨R.LPE_DRV_CFG a, 4, 3⟩
def F.LPE_DRV_CFG_RUN_PAT (a : Nat) : Fld := ⟨R.LPE_DRV_CFG a, 0, 3⟩
/-- Table COM-5. -/
def R.LPE_DRV_SPD (a : Nat) : Nat := axisBase a + 0x840C
def F.LPE_DRV_SPD_BRAKE_MAX (a : Nat) : Fld := ⟨R.LPE_DRV_SPD a, 16, 16⟩
def F.LPE_DRV_SPD_CATCH_SPD (a : Nat) : Fld := ⟨R.LPE_DRV_SPD a, 0, 16⟩
/-- Table COM-5. -/
def R.LPE_DRV_TIME (a : Nat) : Nat := axisBase a + 0x8410
def F.LPE_DRV_TIME_BRK_TMAX (a : Nat) : Fld := ⟨R.LPE_DRV_TIME a, 16, 16⟩
def F.LPE_DRV_TIME_BRK_PERSIST (a : Nat) : Fld := ⟨R.LPE_DRV_TIME a, 8, 8⟩
def F.LPE_DRV_TIME_ASSESS_TMAX (a : Nat) : Fld := ⟨R.LPE_DRV_TIME a, 0, 8⟩
/-- Table COM-5. -/
def R.LPE_DRV_TIME2 (a : Nat) : Nat := axisBase a + 0x8414
def F.LPE_DRV_TIME2_WAIT_TMAX (a : Nat) : Fld := ⟨R.LPE_DRV_TIME2 a, 16, 16⟩
def F.LPE_DRV_TIME2_BRK_HOLD (a : Nat) : Fld := ⟨R.LPE_DRV_TIME2 a, 8, 8⟩
def F.LPE_DRV_TIME2_CATCH_LOCK (a : Nat) : Fld := ⟨R.LPE_DRV_TIME2 a, 0, 8⟩
/-- Table COM-5. -/
def R.LPE_DRV_IEND (a : Nat) : Nat := axisBase a + 0x8418
def F.LPE_DRV_IEND_I_END (a : Nat) : Fld := ⟨R.LPE_DRV_IEND a, 0, 14⟩
/-- Table COM-5. -/
def R.LPE_DRV_POL (a : Nat) : Nat := axisBase a + 0x841C
def F.LPE_DRV_POL_POL_N (a : Nat) : Fld := ⟨R.LPE_DRV_POL a, 24, 8⟩
def F.LPE_DRV_POL_POL_MIN (a : Nat) : Fld := ⟨R.LPE_DRV_POL a, 12, 12⟩
def F.LPE_DRV_POL_POL_AMP (a : Nat) : Fld := ⟨R.LPE_DRV_POL a, 0, 12⟩
/-- Table COM-5. -/
def R.LPE_DRV_MDL (a : Nat) : Nat := axisBase a + 0x8420
def F.LPE_DRV_MDL_M_REQ (a : Nat) : Fld := ⟨R.LPE_DRV_MDL a, 16, 16⟩
def F.LPE_DRV_MDL_MDL_MARGIN (a : Nat) : Fld := ⟨R.LPE_DRV_MDL a, 0, 16⟩
/-- Table COM-5. -/
def R.LPE_DRV_ADV (a : Nat) : Nat := axisBase a + 0x8424
def F.LPE_DRV_ADV_ADV (a : Nat) : Fld := ⟨R.LPE_DRV_ADV a, 0, 16⟩
/-- Table DET-8. -/
def R.LPE_CAP_CTRL (a : Nat) : Nat := axisBase a + 0x8800
def F.LPE_CAP_CTRL_EN (a : Nat) : Fld := ⟨R.LPE_CAP_CTRL a, 31, 1⟩
def F.LPE_CAP_CTRL_DROP (a : Nat) : Fld := ⟨R.LPE_CAP_CTRL a, 30, 1⟩
def F.LPE_CAP_CTRL_QUEUE (a : Nat) : Fld := ⟨R.LPE_CAP_CTRL a, 16, 6⟩
def F.LPE_CAP_CTRL_SEQ (a : Nat) : Fld := ⟨R.LPE_CAP_CTRL a, 0, 16⟩
/-- Table DET-8. -/
def R.LPE_RPL_CTRL (a : Nat) : Nat := axisBase a + 0x8804
def F.LPE_RPL_CTRL_QUEUE (a : Nat) : Fld := ⟨R.LPE_RPL_CTRL a, 16, 6⟩
def F.LPE_RPL_CTRL_ABORT (a : Nat) : Fld := ⟨R.LPE_RPL_CTRL a, 1, 1⟩
def F.LPE_RPL_CTRL_GO (a : Nat) : Fld := ⟨R.LPE_RPL_CTRL a, 0, 1⟩
/-- Table DET-8. -/
def R.LPE_RPL_VSTEP0_LO (a : Nat) : Nat := axisBase a + 0x8808
def F.LPE_RPL_VSTEP0_LO_VSTEP0 (a : Nat) : Fld := ⟨R.LPE_RPL_VSTEP0_LO a, 0, 32⟩
/-- Table DET-8. -/
def R.LPE_RPL_VSTEP0_HI (a : Nat) : Nat := axisBase a + 0x880C
def F.LPE_RPL_VSTEP0_HI_VSTEP0 (a : Nat) : Fld := ⟨R.LPE_RPL_VSTEP0_HI a, 0, 16⟩
/-- Table DET-8. -/
def R.LPE_RPL_STOP_LO (a : Nat) : Nat := axisBase a + 0x8810
def F.LPE_RPL_STOP_LO_STEP (a : Nat) : Fld := ⟨R.LPE_RPL_STOP_LO a, 0, 32⟩
/-- Table DET-8. -/
def R.LPE_RPL_STOP_HI (a : Nat) : Nat := axisBase a + 0x8814
def F.LPE_RPL_STOP_HI_PERIOD (a : Nat) : Fld := ⟨R.LPE_RPL_STOP_HI a, 16, 5⟩
def F.LPE_RPL_STOP_HI_STEP (a : Nat) : Fld := ⟨R.LPE_RPL_STOP_HI a, 0, 16⟩
/-- Table DET-8. -/
def R.LPE_RPL_STAT (a : Nat) : Nat := axisBase a + 0x8818
def F.LPE_RPL_STAT_STATE (a : Nat) : Fld := ⟨R.LPE_RPL_STAT a, 28, 4⟩
def F.LPE_RPL_STAT_WHY (a : Nat) : Fld := ⟨R.LPE_RPL_STAT a, 24, 4⟩
def F.LPE_RPL_STAT_DOUBT (a : Nat) : Fld := ⟨R.LPE_RPL_STAT a, 8, 1⟩
/-- Table DET-8. -/
def R.LPE_RPL_VSTEP_LO (a : Nat) : Nat := axisBase a + 0x881C
def F.LPE_RPL_VSTEP_LO_VSTEP (a : Nat) : Fld := ⟨R.LPE_RPL_VSTEP_LO a, 0, 32⟩
/-- Table DET-8. -/
def R.LPE_RPL_VSTEP_HI (a : Nat) : Nat := axisBase a + 0x8820
def F.LPE_RPL_VSTEP_HI_VSTEP (a : Nat) : Fld := ⟨R.LPE_RPL_VSTEP_HI a, 0, 16⟩
/-- Table LPE-6. -/
def R.LPE_BANK_A (a i : Nat) : Nat := axisBase a + 0x9000 + 0x4 * i
def F.LPE_BANK_A_COEF (a i : Nat) : Fld := ⟨R.LPE_BANK_A a i, 0, 32⟩
/-- Table LPE-6. -/
def R.LPE_BANK_B (a i : Nat) : Nat := axisBase a + 0x9400 + 0x4 * i
def F.LPE_BANK_B_COEF (a i : Nat) : Fld := ⟨R.LPE_BANK_B a i, 0, 32⟩
/-- Table LPE-6. -/
def R.LPE_CLIM_LO (a i : Nat) : Nat := axisBase a + 0x9800 + 0x4 * i
def F.LPE_CLIM_LO_LO (a i : Nat) : Fld := ⟨R.LPE_CLIM_LO a i, 0, 32⟩
/-- Table LPE-6. -/
def R.LPE_CLIM_HI (a i : Nat) : Nat := axisBase a + 0x9C00 + 0x4 * i
def F.LPE_CLIM_HI_HI (a i : Nat) : Fld := ⟨R.LPE_CLIM_HI a i, 0, 32⟩
/-- Table LPE-6. -/
def R.LPE_GRAPH (a i : Nat) : Nat := axisBase a + 0xA000 + 0x4 * i
def F.LPE_GRAPH_ENTRY (a i : Nat) : Fld := ⟨R.LPE_GRAPH a i, 0, 32⟩
/-- Table LPE-6. -/
def R.LPE_SIG (a i : Nat) : Nat := axisBase a + 0xB000 + 0x4 * i
def F.LPE_SIG_VALUE (a i : Nat) : Fld := ⟨R.LPE_SIG a i, 0, 32⟩
/-- Table COM-5. -/
def R.HDL_INJ (a : Nat) : Nat := axisBase a + 0xC000
def F.HDL_INJ_A_INJ (a : Nat) : Fld := ⟨R.HDL_INJ a, 0, 16⟩
/-- Table COM-5. -/
def R.HDL_INJ_INC (a : Nat) : Nat := axisBase a + 0xC004
def F.HDL_INJ_INC_INJ_INC (a : Nat) : Fld := ⟨R.HDL_INJ_INC a, 0, 32⟩
/-- Table COM-5. -/
def R.HDL_INJ_RAMP (a : Nat) : Nat := axisBase a + 0xC008
def F.HDL_INJ_RAMP_INJ_RAMP (a : Nat) : Fld := ⟨R.HDL_INJ_RAMP a, 0, 8⟩
/-- Table COM-5. -/
def R.HDL_HO (a : Nat) : Nat := axisBase a + 0xC00C
def F.HDL_HO_HO_UP (a : Nat) : Fld := ⟨R.HDL_HO a, 16, 16⟩
def F.HDL_HO_HO_DN (a : Nat) : Fld := ⟨R.HDL_HO a, 0, 16⟩
/-- Table COM-5. -/
def R.HDL_HO2 (a : Nat) : Nat := axisBase a + 0xC010
def F.HDL_HO2_HO_PERSIST (a : Nat) : Fld := ⟨R.HDL_HO2 a, 24, 8⟩
def F.HDL_HO2_HO_REFUSE_LIM (a : Nat) : Fld := ⟨R.HDL_HO2 a, 16, 8⟩
def F.HDL_HO2_HO_AGREE (a : Nat) : Fld := ⟨R.HDL_HO2 a, 0, 16⟩
/-- Table COM-5. -/
def R.HDL_STAT (a : Nat) : Nat := axisBase a + 0xC014
def F.HDL_STAT_MODE (a : Nat) : Fld := ⟨R.HDL_STAT a, 31, 1⟩
def F.HDL_STAT_CONV (a : Nat) : Fld := ⟨R.HDL_STAT a, 30, 1⟩
def F.HDL_STAT_REFUSE (a : Nat) : Fld := ⟨R.HDL_STAT a, 16, 8⟩
def F.HDL_STAT_THETA (a : Nat) : Fld := ⟨R.HDL_STAT a, 0, 16⟩
/-- Table SAF-12. -/
def R.HDL_PL (a : Nat) : Nat := axisBase a + 0xC018
def F.HDL_PL_HDL_WMAX (a : Nat) : Fld := ⟨R.HDL_PL a, 16, 16⟩
def F.HDL_PL_HDL_PERSIST (a : Nat) : Fld := ⟨R.HDL_PL a, 8, 8⟩
/-- Table SAF-12. -/
def R.HDL_PL2 (a : Nat) : Nat := axisBase a + 0xC01C
def F.HDL_PL2_RES_THR (a : Nat) : Fld := ⟨R.HDL_PL2 a, 0, 16⟩
/-- Table COM-5. -/
def R.HDL_ILSB (a : Nat) : Nat := axisBase a + 0xC020
def F.HDL_ILSB_ILSB (a : Nat) : Fld := ⟨R.HDL_ILSB a, 0, 32⟩
/-- Table COM-5. -/
def R.HDL_VLSB (a : Nat) : Nat := axisBase a + 0xC024
def F.HDL_VLSB_VLSB (a : Nat) : Fld := ⟨R.HDL_VLSB a, 0, 32⟩
/-- Table COM-5. -/
def R.HDL_R (a : Nat) : Nat := axisBase a + 0xC028
def F.HDL_R_R (a : Nat) : Fld := ⟨R.HDL_R a, 0, 32⟩
/-- Table COM-5. -/
def R.HDL_L (a : Nat) : Nat := axisBase a + 0xC02C
def F.HDL_L_L (a : Nat) : Fld := ⟨R.HDL_L a, 0, 32⟩
/-- Table COM-5. -/
def R.HDL_EMF_LPF (a : Nat) : Nat := axisBase a + 0xC030
def F.HDL_EMF_LPF_EMF_LPF (a : Nat) : Fld := ⟨R.HDL_EMF_LPF a, 0, 32⟩
/-- Table COM-5. -/
def R.HDL_E_MIN (a : Nat) : Nat := axisBase a + 0xC034
def F.HDL_E_MIN_E_MIN (a : Nat) : Fld := ⟨R.HDL_E_MIN a, 0, 32⟩
/-- Table COM-5. -/
def R.HDL_KP_EMF (a : Nat) : Nat := axisBase a + 0xC038
def F.HDL_KP_EMF_KP_EMF (a : Nat) : Fld := ⟨R.HDL_KP_EMF a, 0, 32⟩
/-- Table COM-5. -/
def R.HDL_KI_EMF (a : Nat) : Nat := axisBase a + 0xC03C
def F.HDL_KI_EMF_KI_EMF (a : Nat) : Fld := ⟨R.HDL_KI_EMF a, 0, 32⟩
/-- Table COM-5. -/
def R.HDL_KP_HFI (a : Nat) : Nat := axisBase a + 0xC040
def F.HDL_KP_HFI_KP_HFI (a : Nat) : Fld := ⟨R.HDL_KP_HFI a, 0, 32⟩
/-- Table COM-5. -/
def R.HDL_KI_HFI (a : Nat) : Nat := axisBase a + 0xC044
def F.HDL_KI_HFI_KI_HFI (a : Nat) : Fld := ⟨R.HDL_KI_HFI a, 0, 32⟩
/-- Table COM-5. -/
def R.HDL_HFI_LPF (a : Nat) : Nat := axisBase a + 0xC048
def F.HDL_HFI_LPF_HFI_LPF (a : Nat) : Fld := ⟨R.HDL_HFI_LPF a, 0, 32⟩
/-- Table COM-5. -/
def R.HDL_HFI_GAIN (a : Nat) : Nat := axisBase a + 0xC04C
def F.HDL_HFI_GAIN_HFI_GAIN (a : Nat) : Fld := ⟨R.HDL_HFI_GAIN a, 0, 32⟩
/-- Table COM-5. -/
def R.HDL_CONV (a : Nat) : Nat := axisBase a + 0xC050
def F.HDL_CONV_CONV_THR (a : Nat) : Fld := ⟨R.HDL_CONV a, 16, 16⟩
def F.HDL_CONV_CONV_N (a : Nat) : Fld := ⟨R.HDL_CONV a, 0, 8⟩
/-- Table COM-5. -/
def R.HDL_DEMOD (a : Nat) : Nat := axisBase a + 0xC054
def F.HDL_DEMOD_DEMOD_PH (a : Nat) : Fld := ⟨R.HDL_DEMOD a, 0, 16⟩
/-- Table COM-5. -/
def R.HDL_EST (a : Nat) : Nat := axisBase a + 0xC058
def F.HDL_EST_THETA_F (a : Nat) : Fld := ⟨R.HDL_EST a, 16, 16⟩
def F.HDL_EST_THETA_E (a : Nat) : Fld := ⟨R.HDL_EST a, 0, 16⟩
/-- Table COM-5. -/
def R.HDL_RES (a : Nat) : Nat := axisBase a + 0xC05C
def F.HDL_RES_RES (a : Nat) : Fld := ⟨R.HDL_RES a, 0, 32⟩
/-- Table OBS-8. -/
def R.OBS_CTRL (a : Nat) : Nat := axisBase a + 0x10000
def F.OBS_CTRL_EN (a : Nat) : Fld := ⟨R.OBS_CTRL a, 31, 1⟩
def F.OBS_CTRL_N_IN (a : Nat) : Fld := ⟨R.OBS_CTRL a, 16, 6⟩
def F.OBS_CTRL_STEP_MAX (a : Nat) : Fld := ⟨R.OBS_CTRL a, 0, 14⟩
/-- Table OBS-9. -/
def R.OBS_IN (a i : Nat) : Nat := axisBase a + 0x10100 + 0x8 * i
def F.OBS_IN_DELAY (a i : Nat) : Fld := ⟨R.OBS_IN a i, 8, 3⟩
def F.OBS_IN_SRC (a i : Nat) : Fld := ⟨R.OBS_IN a i, 0, 8⟩
/-- Table OBS-9. -/
def R.OBS_GAIN (a i : Nat) : Nat := axisBase a + 0x10104 + 0x8 * i
def F.OBS_GAIN_GAIN (a i : Nat) : Fld := ⟨R.OBS_GAIN a i, 0, 32⟩
/-- Table OBS-9. -/
def R.OBS_SCALE (a i : Nat) : Nat := axisBase a + 0x10200 + 0x8 * i
def F.OBS_SCALE_SCALE (a i : Nat) : Fld := ⟨R.OBS_SCALE a i, 0, 32⟩
/-- Table OBS-9. -/
def R.OBS_OFFSET (a i : Nat) : Nat := axisBase a + 0x10204 + 0x8 * i
def F.OBS_OFFSET_OFFSET (a i : Nat) : Fld := ⟨R.OBS_OFFSET a i, 0, 32⟩
/-- Table OBS-9. -/
def R.OBS_WMAX (a : Nat) : Nat := axisBase a + 0x10240
def F.OBS_WMAX_W_MAX (a : Nat) : Fld := ⟨R.OBS_WMAX a, 0, 32⟩
/-- Table OBS-9. -/
def R.OBS_NMIN (a : Nat) : Nat := axisBase a + 0x10244
def F.OBS_NMIN_N_MIN (a : Nat) : Fld := ⟨R.OBS_NMIN a, 0, 32⟩
/-- Table OBS-9. -/
def R.OBS_TMAX (a : Nat) : Nat := axisBase a + 0x10248
def F.OBS_TMAX_T_MAX (a : Nat) : Fld := ⟨R.OBS_TMAX a, 0, 32⟩
/-- Table OBS-9. -/
def R.OBS_TLO (a i : Nat) : Nat := axisBase a + 0x10250 + 0xC * i
def F.OBS_TLO_TLO (a i : Nat) : Fld := ⟨R.OBS_TLO a i, 0, 32⟩
/-- Table OBS-9. -/
def R.OBS_THI (a i : Nat) : Nat := axisBase a + 0x10254 + 0xC * i
def F.OBS_THI_THI (a i : Nat) : Fld := ⟨R.OBS_THI a i, 0, 32⟩
/-- Table OBS-9. -/
def R.OBS_TRATE (a i : Nat) : Nat := axisBase a + 0x10258 + 0xC * i
def F.OBS_TRATE_TRATE (a i : Nat) : Fld := ⟨R.OBS_TRATE a i, 0, 32⟩
/-- Table OBS-9. -/
def R.OBS_HITLIM (a : Nat) : Nat := axisBase a + 0x10280
def F.OBS_HITLIM_HIT_LIM (a : Nat) : Fld := ⟨R.OBS_HITLIM a, 0, 16⟩
/-- Table OBS-9. -/
def R.OBS_HITS (a i : Nat) : Nat := axisBase a + 0x10290 + 0x4 * i
def F.OBS_HITS_HITS (a i : Nat) : Fld := ⟨R.OBS_HITS a i, 0, 16⟩
/-- Table OBS-9. -/
def R.OBS_STAT (a : Nat) : Nat := axisBase a + 0x102C0
def F.OBS_STAT_IN_SAT_CNT (a : Nat) : Fld := ⟨R.OBS_STAT a, 16, 16⟩
def F.OBS_STAT_CLAMPX (a : Nat) : Fld := ⟨R.OBS_STAT a, 1, 1⟩
def F.OBS_STAT_FRESH (a : Nat) : Fld := ⟨R.OBS_STAT a, 0, 1⟩
/-- Table OBS-9. -/
def R.OBS_RAW (a i : Nat) : Nat := axisBase a + 0x10300 + 0x4 * i
def F.OBS_RAW_RAW (a i : Nat) : Fld := ⟨R.OBS_RAW a i, 0, 16⟩
/-- Table OBS-9. -/
def R.OBS_VAL (a i : Nat) : Nat := axisBase a + 0x10320 + 0x4 * i
def F.OBS_VAL_VALUE (a i : Nat) : Fld := ⟨R.OBS_VAL a i, 0, 32⟩
/-- Table OBS-10. -/
def R.OBS_DEC (a i : Nat) : Nat := axisBase a + 0x10400 + 0x4 * i
def F.OBS_DEC_STATS (a i : Nat) : Fld := ⟨R.OBS_DEC a i, 8, 4⟩
def F.OBS_DEC_SIG (a i : Nat) : Fld := ⟨R.OBS_DEC a i, 0, 8⟩
/-- Table OBS-10. -/
def R.OBS_DGAIN (a i : Nat) : Nat := axisBase a + 0x10500 + 0x8 * i
def F.OBS_DGAIN_DGAIN (a i : Nat) : Fld := ⟨R.OBS_DGAIN a i, 0, 32⟩
/-- Table OBS-10. -/
def R.OBS_DOFS (a i : Nat) : Nat := axisBase a + 0x10504 + 0x8 * i
def F.OBS_DOFS_DOFS (a i : Nat) : Fld := ⟨R.OBS_DOFS a i, 0, 32⟩
/-- Table OBS-10. -/
def R.OBS_PRG_Q (a : Nat) : Nat := axisBase a + 0x10700
def F.OBS_PRG_Q_QUEUE (a : Nat) : Fld := ⟨R.OBS_PRG_Q a, 0, 6⟩
/-- Table OBS-10. -/
def R.OBS_ALERT (a i : Nat) : Nat := axisBase a + 0x10704 + 0x4 * i
def F.OBS_ALERT_ALERT (a i : Nat) : Fld := ⟨R.OBS_ALERT a i, 0, 32⟩
/-- Table OBS-10. -/
def R.OBS_ALERT_N (a : Nat) : Nat := axisBase a + 0x1070C
def F.OBS_ALERT_N_ALERT_N (a : Nat) : Fld := ⟨R.OBS_ALERT_N a, 0, 8⟩
/-- Table OBS-10. -/
def R.OBS_VERD (a i : Nat) : Nat := axisBase a + 0x10710 + 0x4 * i
def F.OBS_VERD_RECORD (a i : Nat) : Fld := ⟨R.OBS_VERD a i, 0, 32⟩
/-- Table AUX-4. -/
def R.AUX_PAIR (i : Nat) : Nat := axisBase 0 + 0x14000 + 0x4 * i
def F.AUX_PAIR_POLICY (i : Nat) : Fld := ⟨R.AUX_PAIR i, 30, 2⟩
def F.AUX_PAIR_BUDGET (i : Nat) : Fld := ⟨R.AUX_PAIR i, 16, 8⟩
def F.AUX_PAIR_ILOAD_ODD (i : Nat) : Fld := ⟨R.AUX_PAIR i, 8, 8⟩
def F.AUX_PAIR_ILOAD_EVEN (i : Nat) : Fld := ⟨R.AUX_PAIR i, 0, 8⟩
/-- Table AUX-4. -/
def R.AUX_LSD (i : Nat) : Nat := axisBase 0 + 0x14010 + 0x4 * i
def F.AUX_LSD_EN (i : Nat) : Fld := ⟨R.AUX_LSD i, 31, 1⟩
def F.AUX_LSD_OWNER (i : Nat) : Fld := ⟨R.AUX_LSD i, 24, 3⟩
def F.AUX_LSD_KILL_AXSTOP (i : Nat) : Fld := ⟨R.AUX_LSD i, 1, 1⟩
def F.AUX_LSD_KILL_STO (i : Nat) : Fld := ⟨R.AUX_LSD i, 0, 1⟩
/-- Table AUX-4. -/
def R.AUX_SET : Nat := axisBase 0 + 0x14030
def F.AUX_SET_SET : Fld := ⟨R.AUX_SET, 0, 8⟩
/-- Table AUX-4. -/
def R.AUX_CLR : Nat := axisBase 0 + 0x14034
def F.AUX_CLR_CLR : Fld := ⟨R.AUX_CLR, 0, 8⟩
/-- Table AUX-4. -/
def R.AUX_REQ : Nat := axisBase 0 + 0x14038
def F.AUX_REQ_REQ : Fld := ⟨R.AUX_REQ, 0, 8⟩
/-- Table AUX-4. -/
def R.AUX_STAT : Nat := axisBase 0 + 0x1403C
def F.AUX_STAT_HSD_ON : Fld := ⟨R.AUX_STAT, 24, 4⟩
def F.AUX_STAT_LSD_ON : Fld := ⟨R.AUX_STAT, 16, 8⟩
def F.AUX_STAT_DELAY : Fld := ⟨R.AUX_STAT, 0, 4⟩
/-- Table AUX-4. -/
def R.AUX_FLAG : Nat := axisBase 0 + 0x14040
def F.AUX_FLAG_KILLED : Fld := ⟨R.AUX_FLAG, 24, 8⟩
def F.AUX_FLAG_BUDGET : Fld := ⟨R.AUX_FLAG, 16, 8⟩
def F.AUX_FLAG_DROPPED : Fld := ⟨R.AUX_FLAG, 8, 8⟩
def F.AUX_FLAG_REFUSED : Fld := ⟨R.AUX_FLAG, 0, 8⟩
/-- Table AUX-4. -/
def R.AUX_HALL (a : Nat) : Nat := axisBase a + 0x14050
def F.AUX_HALL_EN (a : Nat) : Fld := ⟨R.AUX_HALL a, 31, 1⟩
def F.AUX_HALL_GLITCH (a : Nat) : Fld := ⟨R.AUX_HALL a, 8, 8⟩
def F.AUX_HALL_CODE (a : Nat) : Fld := ⟨R.AUX_HALL a, 0, 3⟩

end Sys2Proof.Machine
end

