-- ==== Sys2Proof/Machine/State.lean ====
section
/-! DEFINITION. The state of the block, as plain data: every stored register in one sparse map keyed by its host
address, the memories, the state the chapters describe beside the registers, and the queue of waiting commands. -/

namespace Sys2Proof.Machine

/-- Why a command stops with a fault. -/
inductive Fault where
  /-- Raised by a command whose operands are not those of any event the spec describes (`Instr.wf` fails): the
  named row.  Safe: nothing is concluded about such a command. -/
  | illFormed (row : String)
  deriving DecidableEq, Repr

/-- Why a command is refused. -/
inductive Refusal where
  /-- Raised by an arm of `exec` that has no meaning yet.  Safe. -/
  | notModelled (mnemonic : String)
  deriving DecidableEq, Repr

/-! ## The PWM unit -/

/-- One complete set of the PWM unit (chapter 06, "Shadow, commit and load"): the eight RISE, eight FALL and four
TRIG words, the period, the three PWM_DT words of its commit, and the modulation components its compares stand for
(chapter 07, "Headland's estimators"). -/
structure PwmSet where
  rise : List Word
  fall : List Word
  trig : List Word
  per  : Nat
  dt   : List Word
  mA   : Word
  mB   : Word
  deriving DecidableEq, Repr

/-- A set with no edge and no trigger: every compare NEVER. -/
def PwmSet.never : PwmSet :=
  ⟨List.replicate 8 0x00FFFFFF#32, List.replicate 8 0x00FFFFFF#32, List.replicate 4 0#32, 0, List.replicate 3 0#32, 0#32, 0#32⟩

/-- The PWM unit of one axis beside its registers. -/
structure PwmAx where
  /-- The committed stage, none while nothing is committed for the next load point (R119). -/
  committed   : Option PwmSet := none
  /-- The active set (R119). -/
  active      : PwmSet := PwmSet.never
  /-- The set of the period before, whose dead-time edges may still be due (R115). -/
  before      : PwmSet := PwmSet.never
  /-- The Headland set buffer of the Loop Engine (R161). -/
  hset        : PwmSet := PwmSet.never
  /-- The modulation components of the set that pass O last wrote to the shadow. -/
  shA         : Word := 0
  shB         : Word := 0
  /-- NFLT_x is low now. -/
  nflt        : Bool := false
  /-- The overcurrent comparators U, V, W that are active now. -/
  oc          : BitVec 3 := 0
  /-- The BLANK windows that are open, by channel (R132). -/
  blank       : BitVec 4 := 0
  /-- A trip was counted in the current period ("at most one trip per period"). -/
  tripPer     : Bool := false
  /-- The current period began with the trip latch released. -/
  begReleased : Bool := true
  /-- An accepted TRIP_CLR releases the latch-off at the next load point (R131). -/
  clrPend     : Bool := false
  /-- The latest measured DLY_HL of each leg, newest first, at most eight (R125). -/
  dlyHL       : List (List Nat) := [[], [], []]
  /-- The latest measured DLY_LH of each leg, newest first, at most eight (R125). -/
  dlyLH       : List (List Nat) := [[], [], []]
  /-- The level each output's timebase asks for, dead time included, before mask and gating (R114, R115). -/
  out         : BitVec 8 := 0
  /-- The pin levels held by a debug halt (R134). -/
  frozen      : BitVec 8 := 0
  /-- The set committed for the next load point is Headland's (R165). -/
  commitH     : Bool := false
  /-- The index of the axis period within the schedule period (R19). -/
  perIdx      : Nat := 0
  deriving DecidableEq, Repr

/-! ## The Sense front end -/

/-- One delivered or withheld sample set: the SNS_I words of the three legs, the VBUS code, SNS_TAG, and the modulation
components of the compare set under which its conversion ran (Table OBS-1). -/
structure SampleSet where
  i    : List Word
  vbus : Word
  tag  : Word
  mA   : Word
  mB   : Word
  deriving DecidableEq, Repr

/-- The Sense front end of one axis beside its registers. -/
structure SenseAx where
  /-- The converters U, V, W and shared that are converting (R94). -/
  conv     : BitVec 4 := 0
  /-- The gain in force when the running shunt conversions started (R104). -/
  gain     : Nat := 0
  /-- The modulation components in force when the running shunt conversions started (Table OBS-1). -/
  mA       : Word := 0
  mB       : Word := 0
  /-- The running shunt conversions were started by an early trigger (R102). -/
  early    : Bool := false
  /-- The shared ADC is converting a slow item (R95). -/
  slow     : Bool := false
  /-- The slow item whose turn is next: 0 NTC[0], 1 NTC[1], 2 CMD. -/
  slowNext : Nat := 0
  /-- The slow item being converted. -/
  slowNow  : Nat := 0
  /-- The sample set last delivered to the consumers (R101). -/
  deliv    : SampleSet := ⟨[0#32, 0#32, 0#32], 0#32, 0#32, 0#32, 0#32⟩
  /-- Frequency form: complete periods that ended since the last delivery, and the LCLK cycles they took. -/
  fN       : Nat := 0
  fSpan    : Nat := 0
  /-- Frequency form: LCLK cycles from the last rising edge to the last schedule-period boundary, none before an edge
  or while the last edge lies after that boundary. -/
  fAge     : Option Nat := none
  /-- Frequency form: LCLK cycles from the last schedule-period boundary to the last rising edge in this period. -/
  fAt      : Option Nat := none
  /-- The sample set withheld until the commit window (R102). -/
  withheld : Option SampleSet := none
  /-- The words of the shadow set from which the last early trigger came (R102). -/
  earlySet : List Word := []
  /-- Whether that set was the one committed, once the commit cycle has passed with its sample still converting. -/
  earlyOk  : Option Bool := none
  /-- The words of the set last taken by a commit cycle. -/
  comSet   : List Word := []
  /-- Consecutive failing Kirchhoff sets (R100). -/
  kcl      : Nat := 0
  /-- The run of HOLD sets (R100). -/
  holdRun  : Nat := 0
  /-- The latest command value and flags, in the layout of SNS_CMD_VAL, before the next boundary takes it (R107). -/
  cmd      : Word := 0
  /-- The latest measured frequency (SNS_CMD_FREQ). -/
  cmdFreq  : Word := 0
  /-- Consecutive valid measurements since LOS (R110). -/
  recov    : Nat := 0
  /-- A new sample set was delivered in the current axis period. -/
  fresh    : Bool := false
  deriving DecidableEq, Repr

/-! ## Headland -/

/-- Headland of one axis (chapter 07, "Headland's estimators" and "High-frequency injection"). -/
structure HeadAx where
  /-- The filtered EMF estimate, alpha and beta. -/
  eA     : Word := 0
  eB     : Word := 0
  /-- The EMF tracker's integrator, speed and angle. -/
  xE     : Word := 0
  wE     : Word := 0
  thE    : Nat := 0
  /-- The filtered demodulator output of the injection. -/
  dem    : Word := 0
  /-- The HFI tracker's integrator, speed and angle. -/
  xF     : Word := 0
  wF     : Word := 0
  thF    : Nat := 0
  /-- The currents of the period before, alpha and beta. -/
  iA     : Word := 0
  iB     : Word := 0
  /-- The injection accumulator. -/
  acc    : BitVec 32 := 0
  /-- The numerator of the amplitude ramp, 0 to INJ_RAMP (R142). -/
  ramp   : Nat := 0
  /-- Headland has computed in the current axis period (R145). -/
  ran    : Bool := false
  /-- Consecutive periods that meet the conditions of a mode change (R144). -/
  hoRun  : Nat := 0
  /-- A mode change takes effect at the next load point (R144). -/
  hoPend : Bool := false
  /-- Consecutive converging periods. -/
  convRun : Nat := 0
  /-- Consecutive periods above HDL_WMAX (Table SAF-3). -/
  wmaxRun : Nat := 0
  /-- Consecutive periods above RES_THR (Table SAF-3). -/
  resRun  : Nat := 0
  deriving DecidableEq, Repr

/-! ## The Loop Engine -/

/-- The drive sequencer's state, part of a pass's state set (Table LPE-1, SEQ). -/
structure SeqSt where
  /-- Table COM-1 code. -/
  state   : Nat := 0
  /-- LPE_DRV_STAT.FAULT. -/
  fault   : Nat := 0
  /-- LPE_DRV_STAT.DECIDE. -/
  decide  : Nat := 0
  /-- Demanded direction: 0 none yet, 1 forward, 2 reverse. -/
  dir     : Nat := 0
  /-- Axis periods spent in the state. -/
  periods : Nat := 0
  /-- Consecutive periods each end condition of BRAKE has held: the speed, the current. -/
  slowRun : Nat := 0
  currRun : Nat := 0
  /-- Consecutive periods above BRAKE_MAX. -/
  overRun : Nat := 0
  /-- What a BRAKE leads to: 6 START, 9 HOLD. -/
  brakeTo : Nat := 6
  /-- The largest d-axis current of the two halves of the polarity test, in codes. -/
  peakP   : Int := 0
  peakN   : Int := 0
  /-- At the next load point Headland's EMF estimator is seeded (CATCH). -/
  seed    : Bool := false
  /-- At the next load point Headland's HFI angle turns by half (the polarity test found the south). -/
  flip    : Bool := false
  /-- RUN begins from CATCH: the speed integrator is preset to 0. -/
  preset  : Bool := false
  deriving DecidableEq, Repr

/-- OBSCLAMP's own state words (chapter 11): the angle history, the temperature references and the hit counts. -/
structure ClampSt where
  /-- The angle of the period before. -/
  theta  : Nat := 0
  /-- The reference of each TMP value, and whether it has been set. -/
  tref   : List Word := [0#32, 0#32, 0#32]
  tset   : List Bool := [false, false, false]
  /-- The hits counted on each word. -/
  hits   : List Nat := [0, 0, 0, 0, 0, 0, 0, 0]
  deriving DecidableEq, Repr

/-- One state set of the Loop Engine: its 256 words, and the states of the blocks whose words the manual does not
lay out. -/
structure PassSt where
  words : SMap Word := []
  /-- MDL's limit flag of the pass. -/
  vlim  : Bool := false
  /-- MDL's requested depth, Q16 (LPE_DRV_MDL.M_REQ). -/
  mreq  : Nat := 0
  seq   : SeqSt := {}
  clamp : ClampSt := {}
  deriving DecidableEq, Repr

/-- What one pass of the current axis period left: its state set, its signals, and whether it wrote its set. -/
structure PassRun where
  st   : PassSt
  sigs : SMap Word
  wrote : Bool
  deriving DecidableEq, Repr

/-- The Loop Engine context of one axis beside its registers. -/
structure LoopAx where
  /-- The state set both passes start from (R165). -/
  start  : PassSt := {}
  /-- Signal words at the end of the committed pass of the previous period (R164). -/
  sigs   : SMap Word := []
  /-- Pass O of the current axis period, none until it ran. -/
  passO  : Option PassRun := none
  /-- Pass H of the current axis period, none until it ran. -/
  passH  : Option PassRun := none
  /-- LPE_SIG: the signals captured at the last schedule-period boundary (R173). -/
  cap    : SMap Word := []
  /-- The bank guard check is running (R168). -/
  check  : Bool := false
  /-- The sequencer waits for the pattern it decided to be raised in cycle PWM_PER - 2 (R148). -/
  patPend : Option Nat := none
  /-- The pattern last raised, none after an axis start. -/
  patLast : Option Nat := none
  /-- The sector of the committed estimator's angle at the last commit, 0 before the first. -/
  sector  : Nat := 0
  /-- The decision of the committed pass that takes effect at the next load point (R148). -/
  next   : Option SeqSt := none
  /-- LPE_DRV_CTRL.ACK has been written in FAULT. -/
  ack     : Bool := false
  /-- A start request counts only after it was absent in an axis period (R269). -/
  needAbsent : Bool := false
  deriving DecidableEq, Repr

/-! ## The Square and the queues -/

/-- A route of the Square (SQR_ROUTE[r]): source, task input, and the payload it delivers, none where it passes the
source's own (R320). -/
structure Route where
  en   : Bool
  src  : Nat
  dst  : Nat
  cst  : Option Nat
  deriving DecidableEq, Repr

/-- The counts of a task input (R322) and what waits in a PAYLOAD input's overflow slot (R321). -/
structure Task where
  rcv  : Nat := 0
  srv  : Nat := 0
  mrg  : Nat := 0
  pend : Nat := 0
  /-- The payload in the one-deep overflow slot. -/
  ovf  : Option Nat := none
  /-- The pending events of a COUNTING input: source code and payload, oldest first. -/
  evs  : List (Nat × Nat) := []
  /-- Events merged since the last EVENT descriptor of a COUNTING input. -/
  lost : Nat := 0
  deriving DecidableEq, Repr

/-- A descriptor the queue engine fetched into its staging buffer with its CMD_BLOCK data (chapter 16, "Host
production"). -/
structure Staged where
  queue : Nat
  idx   : Nat
  desc  : List Byte
  block : List Byte
  deriving DecidableEq, Repr

/-- The queue engine beside its registers. -/
structure QueSt where
  /-- Registered producer index of each H2Z queue: descriptors below it have their doorbell registered. -/
  doorbell : SMap Nat := []
  /-- Accepted QUE_DB doorbells not yet registered: queue and producer index, oldest first. -/
  waiting  : List (Nat × Nat) := []
  /-- The staging buffer. -/
  staging  : List Staged := []
  /-- CONS of each queue at the last schedule-period boundary (R319). -/
  lastCons : SMap Nat := []
  /-- Queues stopped by an audit breach (R310). -/
  stopped  : List Nat := []
  /-- Z2H queues that carry a descriptor of the Zauri since the image or the tenant's release: their next alive
  counter follows OUT_LAST, that of any other queue is 0 ("Outgoing queues"). -/
  wrote    : List Nat := []
  deriving DecidableEq, Repr

/-! ## Host ports -/

/-- What a host port answered to its last frame (Table QUE-8): the status byte, the words of RDATA, and RCRC. -/
structure Resp where
  status : Nat
  rdata  : List Word
  rcrc   : Nat
  deriving DecidableEq, Repr

/-- A window read request: address, byte count, and the data once served (none while pending). -/
structure WinRead where
  addr : Nat
  len  : Nat
  data : Option (List Byte)
  bad  : Bool
  deriving DecidableEq, Repr

/-- One host port beside its registers. -/
structure PortSt where
  /-- PCR_STEP_HI of this port (R390). -/
  stepHi : Nat := 0
  /-- PCR_DET_LIVE_STEP_LO of this port. -/
  detLo  : Word := 0
  /-- PCR_DET_LIVE_STEP_HI of this port. -/
  detHi  : Word := 0
  /-- SQR_AUD_B[k] as latched by this port's reads of SQR_AUD_A[k]. -/
  audB   : SMap Word := []
  /-- The port ignores traffic after a frame timeout (R328). -/
  deaf   : Bool := false
  /-- The outstanding window read (R330). -/
  rd     : Option WinRead := none
  /-- The outstanding posted window write: address and bytes. -/
  wr     : Option (Nat × List Byte) := none
  /-- The last answer sent. -/
  resp   : Option Resp := none
  deriving DecidableEq, Repr

/-! ## The safety block -/

/-- Where a tenant stands on its way back to the observers (R247, R62). -/
inductive RetSt where
  /-- Not on the way back. -/
  | idle
  /-- Waits for a frame to begin. -/
  | waitFrame
  /-- The qualifying frame runs. -/
  | inFrame
  /-- The qualifying frame passed; the next commit takes the observer set. -/
  | ready
  /-- That commit was made; the next load point completes the return. -/
  | committed
  deriving DecidableEq, Repr

/-- A network's test-plot runs of the current frame: the output bytes of its committed runs, by schedule entry, and
whether its active signature changed in the frame (R252). -/
structure TpRun where
  outs : SMap (List Byte) := []
  skip : Bool := false
  deriving DecidableEq, Repr

/-- The safety block beside its registers. -/
structure SafSt where
  /-- Axes in an axis safety stop caused by Headland doubt (R257). -/
  hstop    : BitVec 4 := 0
  /-- AXSTOP_ACK has been written for the axis (R258). -/
  axAck    : BitVec 4 := 0
  /-- Axes that drive on Headland without doubt, after a start (R62, R258, R306). -/
  startHl  : BitVec 4 := 0
  /-- The return of each tenant, T[0] to T[4]. -/
  ret      : List RetSt := [.idle, .idle, .idle, .idle, .idle]
  /-- The safe state ends only by reset (R264). -/
  resetOnly : Bool := false
  /-- The filtered STO levels, true = run. -/
  stoA     : Bool := true
  stoB     : Bool := true
  /-- The discrepancy count has started at a disagreeing tick. -/
  stoCount : Bool := false
  /-- How far the clear sequence of R270 has come: 0 nothing, 1 both stop seen, 2 both run seen. -/
  stoSeq   : Nat := 0
  /-- The first port that wrote SAF_REL under DUAL_REL (R265). -/
  relPort  : Option (Fin 2) := none
  /-- Active causes of the safe state that are levels: PAIR_SAFE_I high. -/
  pairI    : Bool := false
  /-- The SAFE_N pin reads the opposite of its driven level. -/
  safeNOff : Bool := false
  /-- Test-plot runs of the current frame, by network. -/
  tp       : SMap TpRun := []
  /-- Commit counters' networks that ended their last TPLOT entry this frame and passed, by tenant bit. -/
  tpPass   : BitVec 5 := 0
  deriving DecidableEq, Repr

/-! ## Scarecrow -/

/-- A rule's counters (chapter 04, "Rules"): the persistence count, the values toward rearming, whether the rule
waits for its rearm, and the side of the previous value of an ABSENT rule. -/
structure RuleSt where
  cnt   : Nat := 0
  back  : Nat := 0
  fired : Bool := false
  side  : Option Bool := none
  deriving DecidableEq, Repr

/-- A filter unit: its taps, newest first (one value for an IIR), empty before the first input. -/
structure FiltSt where
  taps : List Int := []
  deriving DecidableEq, Repr

/-- A log entry (chapter 04, "Log, SAFE_N and the STO tick"). -/
structure LogEntry where
  rule  : Nat
  acts  : Nat
  value : Nat
  tick  : Word
  deriving DecidableEq, Repr

/-- A spin tracker beside its register: the last sector code, the run of consecutive transitions and its direction
(1 forward, 2 reverse), the last intervals, newest first, and whether interval timing has begun. -/
structure SpinSt where
  code  : Nat := 0
  run   : Nat := 0
  dir   : Nat := 0
  ivals : List Nat := []
  timed : Bool := false
  deriving DecidableEq, Repr

/-- Scarecrow beside its registers. -/
structure ScwSt where
  /-- The slot whose end is next. -/
  slot  : Nat := 0
  filt  : List FiltSt := [{}, {}, {}, {}]
  rules : SMap RuleSt := []
  log   : List LogEntry := []
  spin  : Quad SpinSt := Quad.all {}
  deriving DecidableEq, Repr

/-! ## Power, start, sleep and wake -/

/-- Facts of the part, fixed at manufacture (Table MAP-8, "fuse"); FLD_REPAIR blows one more. -/
structure Fuses where
  partno   : Nat
  stepping : Nat
  uid      : Nat
  axes     : BitVec 4
  /-- Physical plots disabled at manufacture (R3). -/
  fused    : BitVec 16
  /-- Physical plots retired by plot repair (R196). -/
  retired  : BitVec 16
  authReq  : Bool
  keyHash  : Nat
  jtagLock : Bool
  /-- Temperature grade code of CHIP_REPRO_SIG. -/
  grade    : Nat
  poolMax  : Nat
  deriving DecidableEq, Repr

/-- The wake or start sequence beside its registers. -/
structure PowSt where
  /-- The fuses as read at step 3 of Table PWR-4; what the fuse registers show. -/
  mapRead   : BitVec 16 := 0
  retRead   : BitVec 16 := 0
  /-- The PLL's reference is CLKIN or the crystal; detection has been done. -/
  refDone   : Bool := false
  /-- PD3 power-up is under way: FLD_PWREN is asserted and FLD_PGOOD awaited. -/
  pd3Wait   : Bool := false
  /-- The PD3 attempt of this start or wake has ended, well or not. -/
  pd3Done   : Bool := false
  /-- A wake rule with NO_PD3 leaves PD3 off. -/
  noPd3     : Bool := false
  /-- PD3 was lost or failed to power up, and PCR_FLD_CTRL.ACK has not been written since (R64). -/
  needAck   : Bool := false
  /-- Step 11, the plot-store fill, has ended. -/
  fillDone  : Bool := false
  /-- The restore of a wake has ended. -/
  restDone  : Bool := false
  /-- A sleep request was accepted; the schedule stops at the next frame boundary. -/
  sleepReq  : Bool := false
  /-- The sequence under way is a wake (true) or a start (false). -/
  waking    : Bool := false
  /-- SCW_TICK at the last wake cause. -/
  wakeTick  : Nat := 0
  /-- The first boundary after READY or a wake begins the zero step. -/
  zeroPend  : Bool := false
  /-- The schedule runs. -/
  running   : Bool := false
  /-- A clock fault's reset follows the safe-state sequence (R58). -/
  clkReset  : Bool := false
  /-- A BOR reset follows when VDD_CORE is back (R59). -/
  borReset  : Bool := false
  /-- NRESET has been seen high since the last power-on or pin reset. -/
  nreset    : Bool := false
  /-- The retention region was switched off in the last sleep (R67). -/
  retLost   : Bool := false
  /-- The applied image came from the silo, so a wake can restore from it. -/
  fromSilo  : Bool := false
  deriving DecidableEq, Repr

/-! ## The Turnstile -/

/-- A dynamic request or grant (chapter 03, "Turnstile"): who, the tenant booked, the cost, and the ticks waited. -/
structure TrnReq where
  who    : TrnWho
  tenant : Nat
  cost   : Nat
  waited : Nat
  deriving DecidableEq, Repr

/-- The Turnstile books beside their registers. -/
structure TrnSt where
  /-- GRANTED_PLAN. -/
  plan    : Nat := 0
  /-- Requests waiting, oldest first. -/
  queue   : List TrnReq := []
  /-- Grants held. -/
  grants  : List TrnReq := []
  /-- Tokens released since the last edge, in RETURNING at the next. -/
  ended   : Nat := 0
  /-- After an audit failure every dynamic request is refused until the next estate reset (R71). -/
  barred  : Bool := false
  deriving DecidableEq, Repr

/-! ## The Field -/

/-- A schedule entry (Table IMG-5). -/
structure SchedEntry where
  plot   : Nat
  op     : Nat
  net    : Nat
  rep    : Bool
  guard  : Bool
  tenant : Nat
  start  : Nat
  len    : Nat
  deriving DecidableEq, Repr

/-- A planned grant (Table IMG-5). -/
structure GrantEntry where
  idx    : Nat
  kind   : Nat
  tenant : Nat
  rep    : Bool
  tokens : Nat
  start  : Nat
  len    : Nat
  deriving DecidableEq, Repr

/-- A layer descriptor (Table FLD-2). -/
structure Layer where
  net    : Nat
  op     : Nat
  act    : Nat
  src    : Nat
  inW    : Nat
  outW   : Nat
  batch  : Nat
  rank   : Nat
  clLo   : Int
  clHi   : Int
  opAddr : Nat
  opBytes : Nat
  xin    : Nat
  xout   : Nat
  rqMul  : Nat
  deriving DecidableEq, Repr

/-- A cutting-table entry (Table EXP-4) with the tenant of its section. -/
structure CutEntry where
  tenant : Nat
  net    : Nat
  layer  : Nat
  kind   : Nat
  cset   : Nat
  addr   : Nat
  alt    : Nat
  bytes  : Nat
  stock  : Nat
  deriving DecidableEq, Repr

/-- A spill-table entry (chapter 09, "The silo"). -/
structure SpillEntry where
  silo   : Nat
  dest   : Nat
  blocks : Nat
  blk    : Nat
  deriving DecidableEq, Repr

/-- A test vector (Table SAF-5, RID 0x0A01). -/
structure TestVec where
  net  : Nat
  seq  : Nat
  els  : List Byte
  deriving DecidableEq, Repr

/-- A Rotation slice (chapter 13, RID 0x0D02). -/
structure Slice where
  chk  : Nat
  len  : Nat
  wins : List Nat
  deriving DecidableEq, Repr

/-- A network run in progress: its schedule entry, the plot it runs on, the copies its cutting sets selected at its
first cycle (R203), the next layer, and the plot's 16 stochastic-rounding generators (Table DET-3). -/
structure NetRun where
  entry : Nat
  plot  : Nat
  csets : BitVec 32
  layer : Nat
  gens  : List (BitVec 64)
  /-- In Twin mode, the FP32 partials of PRG's last layer. -/
  parts : List Word
  deriving DecidableEq, Repr

/-- A planned transfer in progress: its schedule entry and the blocks done. -/
structure SpillRun where
  entry : Nat
  done  : Nat
  deriving DecidableEq, Repr

/-- The Field, the granary and the silo beside their registers. -/
structure FieldSt where
  sched   : List SchedEntry := []
  grants  : List GrantEntry := []
  fallow  : List Nat := []
  layers  : List Layer := []
  /-- The LUTs of RID 0x0702, 256 bytes each, in table order. -/
  luts    : List (List Byte) := []
  cuts    : List CutEntry := []
  spills  : List SpillEntry := []
  vecs    : List TestVec := []
  /-- The silo init table, 12 bytes per entry. -/
  init    : List (List Byte) := []
  runs    : List NetRun := []
  spillRuns : List SpillRun := []
  /-- TPLOT runs used so far in the frame, by network: the SEQ order of the next vector. -/
  seqNext : SMap Nat := []
  /-- The frame records' ABSENT bits, newest first (R224). -/
  absent  : List (BitVec 4) := []
  /-- The ring slot the next frame record takes. -/
  ring    : Nat := 0
  /-- STEP[31:0] of the first period of the frame PRG judges. -/
  judged  : Word := 0
  /-- PRG's outputs of the current frame, by lane (FP32 partials or channel bytes), in schedule order. -/
  prgOut  : SMap (List Word) := []
  /-- In Twin mode, PRG's outputs after the reduction, and whether the twin's partials were missing. -/
  prgRes  : Option (Bool × List Int) := none
  /-- Granary words (8-byte word numbers) that hold a correctable or an uncorrectable error. -/
  grnCE   : List Nat := []
  grnUE   : List Nat := []
  /-- Plot-store words (0x8000 per logical plot) that hold such an error. -/
  plotCE  : List Nat := []
  plotUE  : List Nat := []
  /-- Tokens of planned work running now: schedule entry or 0xFFFF for BIST, tenant, tokens. -/
  planned : List (Nat × Nat × Nat) := []
  /-- Cutting sets whose check runs. -/
  csetChk : List Nat := []
  /-- The unplanned silo access under way: 0 to 3 a window read of port 0, 1 or a window write of port 0, 1; 4 + c scan
  channel c. -/
  siloAcc : Option Nat := none
  deriving DecidableEq, Repr

/-- The observers and the decimator of one axis beside their registers. -/
structure ObsAx where
  /-- Sources 0x00 to 0x07 of the last axis periods, newest first, at most eight (R212). -/
  hist   : List (List Word) := []
  /-- The decimator's accumulators by channel: sum, sum of squares, minimum, maximum. -/
  acc    : List (List Word) := []
  /-- Captures accumulated in the frame. -/
  caps   : Nat := 0
  /-- The injection demodulator output as the axis period began (Table OBS-1, source 0x04). -/
  dem    : Word := 0
  /-- The raw words were committed in the current axis period. -/
  came   : Bool := false
  /-- Consecutive verdicts at or above ALERT, by class. -/
  alert  : List Nat := [0, 0, 0, 0, 0, 0, 0, 0]
  /-- Pass O output words 0x08 to 0x0F of the latest pass O. -/
  last   : List Word := []
  /-- The raw words of the twin's leader that the latest crossing substituted, by word (R356). -/
  shared : List (Option Int) := []
  deriving DecidableEq, Repr

/-! ## The loader -/

/-- A LIVE declaration (Table IMG-4): address, field mask, range, and the section's tenant (7 chip-wide). -/
structure LiveDecl where
  addr   : Nat
  mask   : Nat
  lo     : Nat
  hi     : Nat
  tenant : Nat
  deriving DecidableEq, Repr

/-- An accepted LIVE write that waits for its boundary: address, mask, value (in the field's place), and its tag in Exact
mode. -/
structure LivePend where
  addr : Nat
  mask : Nat
  val  : Word
  tag  : Option Nat
  /-- The port that wrote it. -/
  port : Fin 2
  deriving DecidableEq, Repr

/-- The header fields of the running image that R45 compares and the chapters use. -/
structure ImgHdr where
  fmtVer : Nat := 0
  imgVer : Nat := 0
  mode   : Nat := 0
  axes   : Nat := 0
  ts     : Nat := 0
  k      : Nat := 0
  cObs   : List Nat := [0, 0, 0, 0]
  cLoop  : List Nat := [0, 0, 0, 0]
  cPrg   : Nat := 0
  nSpill : Nat := 0
  tSpill : Nat := 0
  seeds  : List Nat := [0, 0, 0, 0]
  deriving DecidableEq, Repr

/-- The loader beside its registers. -/
structure LdrSt where
  /-- An image is applied. -/
  applied  : Bool := false
  /-- The running image's header. -/
  hdr      : ImgHdr := {}
  /-- Configured axes of the running image. -/
  axes     : Nat := 0
  /-- The running image's link mode is Twin. -/
  twin     : Bool := false
  /-- The running image, whole, as its sections were last applied. -/
  image    : List Byte := []
  /-- Bytes received by the load in progress. -/
  bytes    : List Byte := []
  /-- A load is in progress. -/
  loading  : Bool := false
  /-- The load in progress reads the silo. -/
  fromSilo : Bool := false
  /-- All stages have passed; IMAGE_APPLY takes effect. -/
  ready    : Bool := false
  /-- A seal request is held for the load in progress. -/
  sealHeld : Bool := false
  /-- The image whose stages have passed carries a signature that verified. -/
  signed   : Bool := false
  /-- The silo byte address the running image was read from. -/
  siloSrc  : Nat := 0
  live     : List LiveDecl := []
  pend     : List LivePend := []
  /-- Digests: the full image, then T[0] to T[3] (R50). -/
  digests  : List (List Nat) := [[], [], [], [], []]
  /-- The rotation list (chapter 13). -/
  rotList  : List Nat := []
  slices   : List Slice := []
  /-- A silo boot waits for its read. -/
  siloBoot : Bool := false
  /-- Which port BOOTSEL restricts the first START to, none for either. -/
  bootPort : Option (Fin 2) := none
  deriving DecidableEq, Repr

/-! ## The rest -/

/-- Rotation beside its registers. -/
structure RotSt where
  /-- A slice runs on the checker. -/
  active : Option Nat := none
  /-- The slice of this frame has run. -/
  done   : Bool := false
  /-- Turns of checker 19 since the last zero step. -/
  turns  : Nat := 0
  deriving DecidableEq, Repr

/-- Determinism and replay of one axis beside their registers (chapter 12). -/
structure DetAx where
  /-- The dither generator's state. -/
  gen  : BitVec 64 := 0
  /-- SEQ expected of the next replayed record, none before the first. -/
  seq  : Option Nat := none
  /-- By how much a replay's start moved the injection accumulator. -/
  accOfs : BitVec 32 := 0
  /-- SEL_H of the replayed FAST record of this period. -/
  selH : Bool := false
  /-- The slow inputs taken at the last schedule-period boundary: NTC[0], NTC[1], command word, spin DIR, SPD. -/
  slow : List Nat := [0, 0, 0, 0, 0]
  deriving DecidableEq, Repr

/-- Aux outputs and held pins beside the AUX_ registers. -/
structure AuxSt where
  /-- AUX_SET (true) and AUX_CLR (false) writes registered since the last decision, oldest first. -/
  waiting : List (Bool × Nat) := []
  /-- GDEN_A to GDEN_D, GDEN_G1, GDEN_G2 and SAFE_N as a debug halt found them (R134). -/
  held    : BitVec 7 := 0
  deriving DecidableEq, Repr

/-- The books of one virtual channel (chapter 17, "Virtual channels and credits"). -/
structure VcSt where
  /-- Next SEQ to send, which is also SENT. -/
  txSeq  : Nat := 0
  /-- Credits held. -/
  txc    : Nat := 0
  /-- Next SEQ expected, over received and missing frames. -/
  acct   : Nat := 0
  /-- Receive buffers occupied. -/
  occ    : Nat := 0
  /-- Credits freed or accounted and not yet returned. -/
  owed   : Nat := 0
  /-- Credits returned. -/
  retOut : Nat := 0
  /-- Credits received back. -/
  retIn  : Nat := 0
  deriving DecidableEq, Repr

/-- A frame queued for sending: type, first and last flags, step, and the 48 payload bytes. -/
structure TxFrame where
  typ   : Nat
  first : Bool
  last  : Bool
  step  : Nat
  pay   : List Byte
  deriving DecidableEq, Repr

/-- A tile of the tile table (RID 0x1002): tile, owner role (0 east, 1 west), granary offset, silo address. -/
structure TileEnt where
  tile  : Nat
  owner : Nat
  gran  : Nat
  silo  : Nat
  deriving DecidableEq, Repr

/-- A record a leader shared, by local step and axis period index: its axis and eight words. -/
structure ShareRec where
  axis : Nat
  step : Nat
  per  : Nat
  ws   : List Nat
  /-- A follower has used it (R355). -/
  used : Bool
  deriving DecidableEq, Repr

/-- A cutting message being received: set, bytes announced, and the bytes received. -/
structure CutMsg where
  cset  : Nat
  total : Nat
  buf   : List Byte
  deriving DecidableEq, Repr

/-- An eviction in progress: index in the tile table, its silo write has ended, its EVN_ACK has arrived, the buffer. -/
structure Evict where
  idx   : Nat
  wrote : Bool
  acked : Bool
  buf   : List Byte
  deriving DecidableEq, Repr

/-- A remote tile fetch: request id, bulk descriptor, tile. -/
structure Fetch where
  id   : Nat
  desc : Nat
  tile : Nat
  deriving DecidableEq, Repr

/-- A partial received or produced for the reduction: role (0 east, 1 west), lane, first channel, values. -/
structure Partial where
  role  : Nat
  lane  : Nat
  first : Nat
  vals  : List Word
  deriving DecidableEq, Repr

/-- The link beside its registers (chapter 17). -/
structure LinkSt where
  vcs     : Quad VcSt := Quad.all {}
  /-- The books at the last schedule-period boundary (R339). -/
  latch   : Quad VcSt := Quad.all {}
  /-- Frames queued, oldest first, by virtual channel. -/
  txq     : Quad (List TxFrame) := Quad.all []
  /-- The frames of the last burst sent. -/
  burst   : List (List Byte) := []
  /-- Accepted frames that wait for their handling, oldest first. -/
  rx      : List (List Byte) := []
  /-- Errors and good frames since the last heartbeat sent. -/
  errs    : Nat := 0
  goods   : Nat := 0
  /-- Arrival offsets of the last accepted heartbeat bursts, newest first, at most 16. -/
  offs    : List Int := []
  /-- RX_EXP in UI. -/
  rxExp   : Nat := 0
  /-- What CAPABILITY learned: the peer's FORCE, whether its schedule runs, and the role it held (0 none). -/
  peerForce : Nat := 0
  peerRun : Bool := false
  peerRole : Nat := 0
  /-- The link has been up since the image was applied. -/
  wasUp   : Bool := false
  /-- STEP_OFS has been taken since the last link-up. -/
  ofsSet  : Bool := false
  /-- Leader axes whose records the twin's DOUBT frame stopped (R354). -/
  peerDoubt : Nat := 0
  /-- The doubt mask last queued. -/
  sentDoubt : Nat := 0
  /-- Shared records received and not discarded. -/
  recs    : List ShareRec := []
  /-- Exact mode: a leader's records of the running frame, held until its test plot has passed. -/
  hold    : List ShareRec := []
  /-- The cutting message being received. -/
  cut     : Option CutMsg := none
  tiles   : List TileEnt := []
  evict   : Option Evict := none
  fetches : List Fetch := []
  nextId  : Nat := 0
  /-- Partials of the frame being judged, in order of arrival. -/
  parts   : List Partial := []
  /-- The reduction waits for its sum. -/
  redWait : Bool := false
  /-- The sum of the frame being judged has been formed: a late partial is discarded. -/
  redDone : Bool := false
  deriving DecidableEq, Repr

/-- All that the registers of the block show at one instant: the stored registers and what the others are read from. -/
structure Face where
  regs    : SMap Word
  step    : Nat
  armed   : BitVec 4
  pwm     : Quad PwmAx
  caps    : Quad (SMap Word)
  tasks   : SMap Task
  routes  : List Route
  fuses   : Fuses
  mapRead : BitVec 16
  retRead : BitVec 16
  digests : List (List Nat)
  log     : List LogEntry
  rdPend  : Pair Bool
  wrPend  : Pair Bool
  safeN   : Bool
  safePin : Bool
  pairI   : Bool
  deriving DecidableEq, Repr

/-- Harrow's scan channels, scrub and the standing checks beside their registers. -/
structure HrwSt where
  /-- The register snapshot of the last schedule-period boundary ("The register snapshot"). -/
  snap    : Option Face := none
  /-- The snapshot a channel holds for its scan (R291). -/
  held    : SMap (Option Face) := []
  /-- The running CRC value of each check unit. -/
  crc     : SMap Nat := []
  /-- The bytes of the current record of each unit with ALV_EN. -/
  recBuf  : SMap (List Byte) := []
  /-- The alive reference of each unit, none before the first record. -/
  alvRef  : SMap (Option Nat) := []
  /-- Records judged by each unit. -/
  alvIdx  : SMap Nat := []
  /-- Scrub's sweep pointer of each memory (0 to 15 banks, 16 to 31 plot stores). -/
  ptr     : SMap Nat := []
  /-- Corrected words awaiting their write-back: memory and word number. -/
  wback   : List (Nat × Nat) := []
  /-- Memories scrubbed in the current frame. -/
  touched : List Nat := []
  /-- Standing checks due or running, in order. -/
  std     : List Nat := []
  deriving DecidableEq, Repr

/-- The whole state of the block. -/
structure State where
  /-- Every stored register, by host address; an unlisted one reads as its reset word. -/
  regs    : SMap Word
  /-- STEP (R17). -/
  step    : StepTag
  /-- Armed load groups (R119). -/
  armed   : BitVec 4
  pwm     : Quad PwmAx
  sense   : Quad SenseAx
  head    : Quad HeadAx
  loop    : Quad LoopAx
  obs     : Quad ObsAx
  routes  : List Route
  tasks   : SMap Task
  que     : QueSt
  ports   : Pair PortSt
  saf     : SafSt
  scw     : ScwSt
  fuses   : Fuses
  pow     : PowSt
  trn     : TrnSt
  field   : FieldSt
  ldr     : LdrSt
  hrw     : HrwSt
  rot     : RotSt
  det     : Quad DetAx
  aux     : AuxSt
  link    : LinkSt
  /-- The granary, 8 MiB by offset. -/
  gran    : SMap Byte
  /-- The plot stores, 0x40000 bytes per logical plot. -/
  plots   : SMap Byte
  /-- The silo, by silo offset. -/
  silo    : SMap Byte
  /-- The counter free values are taken at (DESIGN CHOICE, log entry 2). -/
  freeIdx : Nat
  /-- The commands that are waiting, first in, first out. -/
  pending : List Instr
  deriving DecidableEq, Repr

/-- The facts of the part the model describes: a ZA-4816 of stepping B0, grade -I, no plot disabled or retired, the
JTAG lock not fused, signatures not required (DESIGN CHOICE, log entry 3). -/
def Fuses.model : Fuses :=
  { partno := 0x4816, stepping := 2, uid := 0, axes := 15#4, fused := 0, retired := 0, authReq := false, keyHash := 0,
    jtagLock := false, grade := 0, poolMax := 200 }

/-- The block right after power-on reset: no register holds anything but its Reset column (DESIGN CHOICE, log entry 1), no memory
byte is listed (DESIGN CHOICE, log entry 4), and no command waits. -/
def State.reset : State :=
  { regs := [], step := 0, armed := 0,
    pwm := Quad.all {}, sense := Quad.all {}, head := Quad.all {}, loop := Quad.all {}, obs := Quad.all {},
    routes := [], tasks := [], que := {}, ports := ⟨{}, {}⟩, saf := {}, scw := {}, fuses := Fuses.model, pow := {},
    trn := {}, field := {}, ldr := {}, hrw := {}, rot := {}, det := Quad.all {}, aux := {}, link := {},
    gran := [], plots := [], silo := [], freeIdx := 0, pending := [] }

end Sys2Proof.Machine
end

