-- ==== Sys2Proof/Machine/Expander.lean ====
section
/-! DEFINITION. The operand expander and a plot's arithmetic, as functions of bytes (chapters 09 and 10): the operand
stream's layout (R197), the merge of stock, delta and low-rank cutting (R198), accumulation (R175), requantisation and
activation (R176). -/

namespace Sys2Proof.Machine

/-! ## Shapes -/

/-- r of a RANK code. -/
def rankR (rank : Nat) : Nat := if rank = 0 then 0 else 2 ^ (rank - 1)

/-- The layer is DENSE16. -/
def Layer.wide (l : Layer) : Bool := l.op == 2

/-- The layer is FLAT. -/
def Layer.flat (l : Layer) : Bool := l.src.testBit 1

/-- The layer's operands lie in the granary. -/
def Layer.granary (l : Layer) : Bool := l.src.testBit 0

/-- Output groups of 16. -/
def Layer.groups (l : Layer) : Nat := (l.outW + 15) / 16

/-- Input groups of 16. -/
def Layer.tiles (l : Layer) : Nat := (l.inW + 15) / 16

/-- Bytes of one group of the stock part (Table EXP-1; DENSE16: "Other operand forms"). -/
def Layer.groupBytes (l : Layer) : Nat := 32 + (if l.wide then 512 else 256) * l.tiles

/-- Bytes of the stock part. -/
def Layer.stockBytes (l : Layer) : Nat := l.groups * l.groupBytes

/-- Bytes of one ACT element. -/
def Layer.elem (l : Layer) : Nat := if l.wide then 2 else 1

/-! ## Stock -/

/-- The scale word of output channel `o`, an FP16 number. -/
def stockScale (l : Layer) (bs : List Byte) (o : Nat) : Nat := leAt bs (o / 16 * l.groupBytes + 2 * (o % 16)) 2

/-- The stock weights of output channel `o`, padded inputs included. -/
def stockRow (l : Layer) (bs : List Byte) (o : Nat) : List Int :=
  let e := l.elem
  (List.range (16 * l.tiles)).map (fun j =>
    signedOf (8 * e) (leAt bs (o / 16 * l.groupBytes + 32 + 256 * e * (j / 16) + 16 * e * (o % 16) + e * (j % 16)) e))

/-! ## Cuttings -/

/-- The set bits of a 16-bit mask. -/
def popcount16 (n : Nat) : Nat := (setBits 16 n).length

/-- Delta `k` of a tile's record (Table EXP-3). -/
def deltaAt (rc : List Byte) (k : Nat) : Int :=
  signedOf 4 (bitsOf (rc.getD (32 + k / 2) 0#8).toNat (4 * (k % 2)) 4)

/-- The deltas of one row by its mask, from delta number `k` on. -/
def deltaRow (rc : List Byte) (mask k : Nat) : List Int :=
  (List.range 16).map (fun j => if mask.testBit j then deltaAt rc (k + popcount16 (mask % 2 ^ j)) else 0)

/-- The 16 rows of a tile's delta record, and the bytes the record takes. -/
def deltaTile (rc : List Byte) : List (List Int) × Nat :=
  let masks := (List.range 16).map (fun i => leAt rc (2 * i) 2)
  let before (i : Nat) : Nat := ((masks.take i).map popcount16).sum
  ((List.range 16).map (fun i => deltaRow rc (masks.getD i 0) (before i)), 32 + (before 16 + 1) / 2)

/-- A parsed cutting: V, and by group its U rows and its delta tiles; and the bytes it took. -/
structure Cutting where
  v     : List Byte
  u     : List (List Byte)
  tiles : List (List (List (List Int)))
  size  : Nat
  deriving DecidableEq, Repr

/-- `n` delta records in a row. -/
def parseTiles : Nat → List Byte → List (List (List Int)) × List Byte
  | 0, bs => ([], bs)
  | n + 1, bs =>
    let t := deltaTile bs
    let r := parseTiles n (bs.drop t.2)
    (t.1 :: r.1, r.2)

/-- `n` groups: U_g if `r` is not 0, then the delta records if `d` (Table EXP-2). -/
def parseGroups (r h : Nat) (d : Bool) : Nat → List Byte → List (List Byte) × List (List (List (List Int))) × List Byte
  | 0, bs => ([], [], bs)
  | n + 1, bs =>
    let u := bs.take (16 * r)
    let t := if d then parseTiles h (bs.drop (16 * r)) else ([], bs.drop (16 * r))
    let x := parseGroups r h d n t.2
    (u :: x.1, t.1 :: x.2.1, x.2.2)

/-- The cutting part of a layer: `r` of its low-rank cutting, 0 for none, and whether it has a delta cutting. -/
def parseCutting (l : Layer) (r : Nat) (d : Bool) (bs : List Byte) : Cutting :=
  let n := 16 * l.tiles * r
  let x := parseGroups r l.tiles d l.groups (bs.drop n)
  { v := bs.take n, u := x.1, tiles := x.2.1, size := bs.length - x.2.2.length }

/-- An integer divided by 2^k, rounded to nearest, ties to even. -/
def rneShift (v : Int) (k : Nat) : Int :=
  let d : Int := 2 ^ k
  let q := v / d
  let r := v % d
  if 2 * r < d then q else if d < 2 * r then q + 1 else q + q % 2

/-- P[i, j] of output channel `o` and padded input `j`: Σ U·V over the rank. -/
def rankTerm (l : Layer) (r : Nat) (c : Cutting) (o j : Nat) : Int :=
  ((List.range r).map (fun k =>
    ((c.u.getD (o / 16) []).getD (r * (o % 16) + k) 0#8).toInt * (c.v.getD (16 * l.tiles * k + j) 0#8).toInt)).foldl (· + ·) 0

/-- The delta of output channel `o` and padded input `j`. -/
def deltaTerm (c : Cutting) (o j : Nat) : Int :=
  ((((c.tiles.getD (o / 16) []).getD (j / 16) []).getD (o % 16) []).getD (j % 16) 0)

/-- The merged weights of output channel `o` with the number that saturated (R198, R199). -/
def mergeRow (l : Layer) (r : Nat) (c : Cutting) (stock : List Int) (o : Nat) : List Int × Nat :=
  let raw := (List.range stock.length).map (fun j =>
    stock.getD j 0 + deltaTerm c o j + (if r = 0 then 0 else rneShift (rankTerm l r c o j) 7))
  (raw.map (fun v => clampInt v (-128) 127), (raw.filter (fun v => decide (v < -128 ∨ 127 < v))).length)

/-! ## Accumulation -/

/-- One row sum of at most `n` products into the accumulator, saturating at 32 bits, with the saturations counted
(R175). -/
def accumulate (n : Nat) : Nat → List Int → List Int → Int → Nat → Int × Nat
  | 0, _, _, a, k => (a, k)
  | f + 1, w, x, a, k =>
    if w.isEmpty then (a, k)
    else
      let p := a + (((w.take n).zip (x.take n)).map (fun p => p.1 * p.2)).foldl (· + ·) 0
      let q := clampInt p (-(2 ^ 31)) (2 ^ 31 - 1)
      accumulate n f (w.drop n) (x.drop n) q (if p = q then k else k + 1)

/-! ## Requantisation -/

/-- An FP16 number as binary32, exactly. -/
def fp16 (n : Nat) : Word :=
  let sg := n.testBit 15
  let e := bitsOf n 10 5
  let f := bitsOf n 0 10
  if e = 31 then (if f = 0 then fpInf sg else fpPack sg 255 (f * 2 ^ 13))
  else if e = 0 then fpRound sg f (-24)
  else fpPack sg (e + 112) (f * 2 ^ 13)

/-- The value before rounding: (accumulator × channel scale) × RQ_MUL, each rounded once (R176, DEDUCED). -/
def requantY (acc : Int) (scale rq : Nat) : Word := fpMul (fpMul (fpOfInt acc) (fp16 scale)) (fp16 rq)

/-- floor(y + o / 65 536) of a finite binary32 value. -/
def stochFloor (y : Word) (o : Nat) : Int :=
  let m := fpSMant y
  let e := fpExp y
  if 0 ≤ e then m * 2 ^ e.toNat
  else
    let k := (-e).toNat
    (m * 65536 + o * 2 ^ k) / ((65536 * 2 ^ k : Nat) : Int)

/-- Rounds a value: to nearest even, or with the 16-bit fraction of a generator; an infinity saturates with its sign, a
NaN's integer is free (DESIGN CHOICE, log entry 17). -/
def requantRound (y : Word) (frac : Option Nat) : Int :=
  if fpIsInf y then (if fpSign y then -(2 ^ 31) else 2 ^ 31)
  else if fpIsNaN y then Config.roundOf y
  else match frac with
    | some o => stochFloor y o
    | none => (fpToInt? y).getD 0

/-- The LUT function of "Plots" on an int16 value. -/
def lutValue (lut : List Byte) (v : Int) : Int :=
  let i := (v / 256 + 128).toNat
  let phi := v % 256
  let t (k : Nat) : Int := (lut.getD (min k 255) 0#8).toInt
  rneShift (t i * (256 - phi) + t (i + 1) * phi) 8

/-- The output of one channel from its value before rounding (R176). -/
def activate (l : Layer) (lut : List Byte) (y : Word) (frac : Option Nat) : Int :=
  let v := requantRound y frac
  let i16 := clampInt v (-32768) 32767
  let q := if l.wide then i16 else clampInt v (-128) 127
  match l.act % 4 with
  | 0 => q
  | 1 => max 0 q
  | 2 => min (max q l.clLo) l.clHi
  | _ => lutValue lut i16

end Sys2Proof.Machine
end

