-- ==== Sys2Proof/Machine/Ops.lean ====
section
/-! DEFINITION. The named operations every meaning is built from: reading and writing registers and their fields,
the per-axis structures, the step counter, memory with its latent errors, and the standing questions about the
state (is an image applied, is an axis configured, which domain is on). -/

namespace Sys2Proof.Machine

/-! ## Outcomes -/

/-- What a command answers. -/
abbrev Res : Type := Host.Outcome State Fault Refusal

/-- The effect of a command whose operands are well formed; a fault of its sender otherwise. -/
def whenWf (i : Instr) (row : String) (s : State) : Res := if i.wf then .next s else .fault (.illFormed row)

/-! ## Fields of a word -/

/-- The value of the field that starts at bit `lo` and is `n` bits wide. -/
def fieldGet (w : Word) (lo n : Nat) : Nat := bitsOf w.toNat lo n

/-- The word with that field set to `v` modulo 2^n. -/
def fieldSet (w : Word) (lo n v : Nat) : Word :=
  let m := word ((2 ^ n - 1) * 2 ^ lo)
  (w &&& ~~~m) ||| (word (v % 2 ^ n * 2 ^ lo) &&& m)

/-! ## Registers -/

/-- The word a register reads as until something stores another: its Reset column, 0 where that column reads IMG
or names nothing (DESIGN CHOICE, log entry 1). -/
def resetWord (k : Nat) : Word :=
  if k = R.PCR_PWR_STATE then 0x00010000#32
  else if k = R.PCR_RST_CAUSE then 0x00000002#32
  else if k = R.PCR_SLEEP then 0x00000004#32
  else if k = R.PCR_FLD_CTRL then 0x00001F40#32
  else if k = R.PCR_IMG_STATUS then 0x00070000#32
  else if k = R.PCR_IMG_CTRL then 0x00000070#32
  else if k = R.SAF_COND then 0x00010000#32
  else if k = R.HRW_CTRL then 0x80000010#32
  else if R.HRW_CH_CFG 0 ≤ k ∧ k ≤ R.HRW_CH_CFG 3 ∧ (k - R.HRW_CH_CFG 0) % 0x20 = 0 then 0x00040000#32
  else if R.CHK_CFG 0 ≤ k ∧ k < R.CHK_CFG 8 ∧ (k - R.CHK_CFG 0) % 0x40 = 0 then 0x30200000#32
  else if R.CHK_CFG 0 ≤ k ∧ k < R.CHK_CFG 8 ∧ (k - R.CHK_CFG 0) % 0x40 = 0x38 then 0x0000FFFF#32
  else if 0x100000 ≤ k ∧ k < 0x200000 ∧ (k - 0x100000) % 0x40000 = 0x8004 then 0x80000000#32
  else 0#32

/-- The stored word of the register whose home is host address `k`. -/
def State.reg (s : State) (k : Nat) : Word := SMap.get (resetWord k) s.regs k

/-- Stores `w` in the register at host address `k`. -/
def State.setReg (s : State) (k : Nat) (w : Word) : State :=
  { s with regs := SMap.put (resetWord k) s.regs k w }

/-- The value of a field. -/
def State.fld (s : State) (f : Fld) : Nat := fieldGet (s.reg f.addr) f.lo f.width

/-- Stores `v` in a field, modulo its width. -/
def State.setFld (s : State) (f : Fld) (v : Nat) : State :=
  s.setReg f.addr (fieldSet (s.reg f.addr) f.lo f.width v)

/-- Whether a field is not 0. -/
def State.flag (s : State) (f : Fld) : Bool := s.fld f != 0

/-- Sets a one-bit field to a Boolean. -/
def State.setFlag (s : State) (f : Fld) (b : Bool) : State := s.setFld f b.toNat

/-- Sets the bit `k` of a field. -/
def State.setBit (s : State) (f : Fld) (k : Nat) (b : Bool) : State :=
  let v := s.fld f
  s.setFld f (if b then v ||| 2 ^ k else if v.testBit k then v - 2 ^ k else v)

/-- Bit `k` of a field. -/
def State.bit (s : State) (f : Fld) (k : Nat) : Bool := (s.fld f).testBit k

/-- Adds `k` to a counting field, stopping at its largest value. -/
def State.bump (s : State) (f : Fld) (k : Nat) : State := s.setFld f (satAdd (s.fld f) k (2 ^ f.width - 1))

/-! ## Per-axis and per-port state -/

/-- Changes the PWM unit of axis `a`. -/
def State.modPwm (s : State) (a : Fin 4) (f : PwmAx → PwmAx) : State := { s with pwm := s.pwm.set a (f (s.pwm.get a)) }

/-- Changes the Sense front end of axis `a`. -/
def State.modSense (s : State) (a : Fin 4) (f : SenseAx → SenseAx) : State :=
  { s with sense := s.sense.set a (f (s.sense.get a)) }

/-- Changes Headland of axis `a`. -/
def State.modHead (s : State) (a : Fin 4) (f : HeadAx → HeadAx) : State :=
  { s with head := s.head.set a (f (s.head.get a)) }

/-- Changes the Loop Engine context of axis `a`. -/
def State.modLoop (s : State) (a : Fin 4) (f : LoopAx → LoopAx) : State :=
  { s with loop := s.loop.set a (f (s.loop.get a)) }

/-- Changes the observers of axis `a`. -/
def State.modObs (s : State) (a : Fin 4) (f : ObsAx → ObsAx) : State :=
  { s with obs := s.obs.set a (f (s.obs.get a)) }

/-- Changes host port `p`. -/
def State.modPort (s : State) (p : Fin 2) (f : PortSt → PortSt) : State :=
  { s with ports := s.ports.set p (f (s.ports.get p)) }

/-- Changes the safety block. -/
def State.modSaf (s : State) (f : SafSt → SafSt) : State := { s with saf := f s.saf }

/-- Changes the power and start sequence. -/
def State.modPow (s : State) (f : PowSt → PowSt) : State := { s with pow := f s.pow }

/-- Changes the Field. -/
def State.modField (s : State) (f : FieldSt → FieldSt) : State := { s with field := f s.field }

/-- Changes the determinism state of axis `a`. -/
def State.modDet (s : State) (a : Fin 4) (f : DetAx → DetAx) : State := { s with det := s.det.set a (f (s.det.get a)) }

/-- Changes the aux outputs. -/
def State.modAux (s : State) (f : AuxSt → AuxSt) : State := { s with aux := f s.aux }

/-- Changes the loader. -/
def State.modLdr (s : State) (f : LdrSt → LdrSt) : State := { s with ldr := f s.ldr }

/-- Changes the queue engine. -/
def State.modQue (s : State) (f : QueSt → QueSt) : State := { s with que := f s.que }

/-- Changes Harrow. -/
def State.modHrw (s : State) (f : HrwSt → HrwSt) : State := { s with hrw := f s.hrw }

/-- Changes Scarecrow. -/
def State.modScw (s : State) (f : ScwSt → ScwSt) : State := { s with scw := f s.scw }

/-- Changes the Turnstile. -/
def State.modTrn (s : State) (f : TrnSt → TrnSt) : State := { s with trn := f s.trn }

/-- Changes the link. -/
def State.modLink (s : State) (f : LinkSt → LinkSt) : State := { s with link := f s.link }

/-- Folds an action over a list of things. -/
def State.each {α : Type} (s : State) (l : List α) (f : State → α → State) : State := l.foldl f s

/-- Does an action only if a condition holds. -/
def State.when (s : State) (b : Bool) (f : State → State) : State := if b then f s else s

/-! ## The schedule -/

/-- STEP as a number. -/
def State.stepN (s : State) : Nat := s.step.toNat

/-- Schedule periods per frame; a frame of an unconfigured schedule has one period. -/
def State.K (s : State) : Nat := max 1 (s.fld F.PCR_SCHED_K)

/-- The result mode: true in Exact mode. -/
def State.exact (s : State) : Bool := s.flag F.PCR_SCHED_MODE_EXACT

/-- STEP mod K. -/
def State.perInFrame (s : State) : Nat := s.stepN % s.K

/-- Whether STEP is a multiple of K, so that its period begins a frame (R18). -/
def State.atFrame (s : State) : Bool := s.perInFrame == 0

/-- The 48-bit number of a LO and HI register pair. -/
def State.tag48 (s : State) (lo hi : Fld) : Nat := s.fld lo + 2 ^ 32 * s.fld hi

/-- A replay of axis `a` runs. -/
def State.replayRuns (s : State) (a : Fin 4) : Bool := s.fld (F.LPE_RPL_STAT_STATE a) == 2

/-- VSTEP of axis `a`. -/
def State.vstep (s : State) (a : Fin 4) : Nat := s.tag48 (F.LPE_RPL_VSTEP_LO_VSTEP a) (F.LPE_RPL_VSTEP_HI_VSTEP a)

/-- The step that the tags of tenant `t`'s inputs are compared with: VSTEP while its axis replays ("Replay on the Zauri"). -/
def State.stepFor (s : State) (t : Nat) : Nat := if h : t < 4 then (if s.replayRuns ⟨t, h⟩ then s.vstep ⟨t, h⟩ else s.stepN) else s.stepN

/-! ## Images, tenants, axes -/

/-- An image is applied. -/
def State.applied (s : State) : Bool := s.ldr.applied

/-- Axis `a` exists on the part (Table SCO-1, CHIP_OPT.AXES). -/
def State.axisPresent (s : State) (a : Nat) : Bool := s.fuses.axes.getLsbD a

/-- Axis `a` is configured: an image is applied and its AXES bit is set. -/
def State.axisConf (s : State) (a : Nat) : Bool := s.applied && s.ldr.axes.testBit a

/-- Tenant `t` is in reset. -/
def State.inReset (s : State) (t : Nat) : Bool := s.flag (F.QUE_TEN_CTRL_IN_RESET t)

/-- Axis `a` is configured and its tenant is not in reset: its passes, tasks and entries run. -/
def State.axisRuns (s : State) (a : Fin 4) : Bool := s.axisConf a && !s.inReset a

/-- The image's link mode is Twin. -/
def State.twin (s : State) : Bool := s.applied && s.ldr.twin

/-- Axis `a` is held by a debug halt (R134). -/
def State.halted (s : State) (a : Fin 4) : Bool := s.flag (F.PWM_STAT_HALTED a)

/-- Power domain PDn is on; PD0 always is. -/
def State.pd (s : State) (n : Nat) : Bool := s.bit F.PCR_PWR_STATE_PD_ON n

/-- The axis period of `a` in LCLK cycles, in the active set's place the image's own. -/
def State.per (s : State) (a : Fin 4) : Nat :=
  let p := (s.pwm.get a).active.per
  if p = 0 then s.fld (F.PWM_PER_PER a) else p

/-- Axis periods per schedule period. -/
def State.perPerStep (s : State) (a : Fin 4) : Nat := s.fld F.PCR_SCHED_TS_LCLK / max 1 (s.per a)

/-! ## Free values -/

/-- A fresh number for a free value: the counter it is taken at. -/
def State.fresh (s : State) : Nat × State := (s.freeIdx, { s with freeIdx := s.freeIdx + 1 })

/-! ## Memory -/

/-- Reads one byte of a memory; a byte nothing has written reads as 0. -/
def memGet (m : SMap Byte) (k : Nat) : Byte := SMap.get 0#8 m k

/-- Writes one byte of a memory. -/
def memPut (m : SMap Byte) (k : Nat) (b : Byte) : SMap Byte := SMap.put 0#8 m k b

/-- Reads `n` bytes from `k` up. -/
def memRead (m : SMap Byte) (k n : Nat) : List Byte := (List.range n).map (fun i => memGet m (k + i))

/-- Writes the bytes from `k` up. -/
def memWrite (m : SMap Byte) (k : Nat) : List Byte → SMap Byte
  | [] => m
  | b :: r => memWrite (memPut m k b) (k + 1) r

end Sys2Proof.Machine
end

