-- ==== Sys2Proof/Machine/Gates.lean ====
section
/-! DEFINITION. The gate outputs at the pins: mask and pair interlock (R117, R127), the conditions that hold them low (Table
AUX-2), and what a change of level restarts (R132). -/

namespace Sys2Proof.Machine

/-- The tenant is in reset or its reset write has been registered. -/
def State.resetWritten (s : State) (t : Nat) : Bool := s.inReset t || s.flag (F.QUE_TEN_CTRL_RST t)

/-- The mask pattern in force: FSEL under FORCE, else SEL (chapter 06, "Output mask"). -/
def State.maskPat (s : State) (a : Fin 4) : Nat :=
  if s.flag (F.PWM_MASK_CTRL_FORCE a) then s.fld (F.PWM_MASK_CTRL_FSEL a) else s.fld (F.PWM_MASK_CTRL_SEL a)

/-- Output `u` of axis `a` after the mask: 01 LOW, 10 HIGH, 00 and 11 PASS. -/
def State.masked (s : State) (a : Fin 4) (out : BitVec 8) (u : Nat) : Bool :=
  match bitsOf (s.reg (R.PWM_MASK a (s.maskPat a))).toNat (2 * u) 2 with
  | 1 => false
  | 2 => true
  | _ => out.getLsbD u

/-- The mask and the compares ask for both outputs of pair `k` (R117). -/
def State.pairClash (s : State) (a : Fin 4) (out : BitVec 8) (k : Nat) : Bool :=
  s.masked a out (2 * k) && s.masked a out (2 * k + 1)

/-- The eight outputs after mask and pair interlock (R117, R127). -/
def State.driven (s : State) (a : Fin 4) (out : BitVec 8) : BitVec 8 :=
  (List.range 8).foldl (fun w u =>
    if s.masked a out u && !(decide (u < 6) && s.pairClash a out (u / 2)) then w ||| BitVec.ofNat 8 (2 ^ u) else w) 0

/-- A condition of Table AUX-2 that holds all eight outputs of axis `a` low. -/
def State.gatesOff (s : State) (a : Fin 4) : Bool :=
  !s.flag F.PCR_PWR_STATE_READY || !s.axisConf a || s.resetWritten a || s.flag (F.PWM_TRIP_STAT_LATCHED a)
  || s.flag F.SAF_STAT_SAFE || s.flag F.SAF_STAT_STO_STOP || s.saf.hstop.getLsbD a
  || s.fld (F.LPE_RPL_STAT_STATE a) != 0

/-- The level of the eight gate outputs of axis `a` at the pins (R376); a debug halt holds them (R134). -/
def State.gates (s : State) (a : Fin 4) : BitVec 8 :=
  if s.halted a then (s.pwm.get a).frozen
  else if s.gatesOff a then 0
  else
    let w := s.driven a (s.pwm.get a).out
    if s.flag (F.PWM_TRIP_STAT_TRIPPED a) then
      (if s.flag (F.PWM_TRIP_CFG_X_TRIP a) then 0 else w &&& 0xC0#8)
    else w

/-- After a change: each BLANK channel's window restarts if a phase output changed at the pins (R132), the spin tracker is held
(R88), and a pair asked for at once sets INTERLOCK (R117). -/
def outputsMoved (a : Fin 4) (was : BitVec 8) (s : State) : State :=
  let s := if (List.range 3).any (fun k => s.pairClash a (s.pwm.get a).out k) then s.setFlag (F.PWM_STAT_INTERLOCK a) true else s
  if was &&& 0x3F#8 = s.gates a &&& 0x3F#8 then s
  else
    let m := (List.range 4).foldl (fun (m : Nat) c => if s.fld (F.PWM_TCH_A_MODE a c) = 1 then m + 2 ^ c else m) 0
    (s.modPwm a (fun p => { p with blank := p.blank ||| BitVec.ofNat 4 m })).setFlag (F.SCW_SPIN_HOLD a) true

end Sys2Proof.Machine
end

