-- ==== Sys2Proof/Machine/Square.lean ====
section
/-! DEFINITION. The Square (chapter 16): the counts of the task inputs by their kinds, what each task input does when
an event reaches it, and raising events (R320 to R323).  The task services that act at once are here, since every
block that raises an event needs them: conversion starts (R94), mask selection (R127), group arming (R119),
coefficient bank swaps (R168), cutting swaps (R204), scan starts (R288), bulk starts (R359). -/

namespace Sys2Proof.Machine

/-! ## Event sources (Table QUE-5) -/

/-- PSTART of an axis. -/
abbrev Ev.pstart : Nat := 0x00
/-- COMMIT of an axis. -/
abbrev Ev.commit : Nat := 0x01
/-- TRIG[n] of an axis. -/
abbrev Ev.trig (n : Nat) : Nat := 0x02 + n
/-- TCH[n] of an axis. -/
abbrev Ev.tch (n : Nat) : Nat := 0x06 + n
/-- TRIP of an axis. -/
abbrev Ev.trip : Nat := 0x0A
/-- TRIP_LATCH of an axis. -/
abbrev Ev.tripLatch : Nat := 0x0B
/-- SNS_LOS of an axis. -/
abbrev Ev.los : Nat := 0x0C
/-- DRV_MASK of an axis. -/
abbrev Ev.drvMask : Nat := 0x0D
/-- PRG_ALERT of an axis. -/
abbrev Ev.prgAlert : Nat := 0x0E
/-- HALL of an axis. -/
abbrev Ev.hall : Nat := 0x0F
/-- SECTOR of an axis. -/
abbrev Ev.sector : Nat := 0x10
/-- DOUBT of an axis. -/
abbrev Ev.doubt : Nat := 0x11
/-- FRAME. -/
abbrev Ev.frame : Nat := 0x80
/-- PERIOD. -/
abbrev Ev.period : Nat := 0x81
/-- SAF_IRQ. -/
abbrev Ev.safIrq : Nat := 0x82
/-- HRW_COV. -/
abbrev Ev.hrwCov : Nat := 0x83
/-- CHK_MISMATCH. -/
abbrev Ev.chkMismatch : Nat := 0x84
/-- QUE_TMO. -/
abbrev Ev.queTmo : Nat := 0x85
/-- QUE_OVF. -/
abbrev Ev.queOvf : Nat := 0x86
/-- SCW_FIRE. -/
abbrev Ev.scwFire : Nat := 0x87
/-- The Tramline events TL_UP, TL_PASSIVE, TL_OFF, TL_DRIFT, TL_RETRACT, TL_AUDIT and TL_BULK_DONE by number. -/
abbrev Ev.link (k : Nat) : Nat := 0x90 + k
/-- SW[i]. -/
abbrev Ev.sw (i : Nat) : Nat := 0xA0 + i
/-- QUE_PUT[n]. -/
abbrev Ev.quePut (n : Nat) : Nat := 0xC0 + n

/-! ## Task services -/

/-- The reserved codes of Table QUE-5: no source has them. -/
def srcReserved (c : Nat) : Bool :=
  if c < 0x80 then decide (0x12 ≤ c % 0x20)
  else !(decide (c ≤ 0x87) || decide (0x90 ≤ c ∧ c ≤ 0x96) || decide (0xA0 ≤ c ∧ c < 0xB0) || decide (0xC0 ≤ c ∧ c < 0x100))

/-- The reserved codes of Table QUE-6: no task input has them. -/
def dstReserved (c : Nat) : Bool :=
  if c < 0x40 then decide (6 ≤ c % 0x10)
  else !(decide (c < 0x48) || decide (0x50 ≤ c ∧ c < 0x78) || decide (0x80 ≤ c ∧ c < 0xC0))

/-- The sources of Table QUE-5 (and of chapter 17's events) that carry a payload. -/
def srcPayload (c : Nat) : Bool :=
  if c < 0x80 then decide (0x0D ≤ c % 0x20 ∧ c % 0x20 ≤ 0x10)
  else decide (0x84 ≤ c ∧ c ≤ 0x87) || c == 0x94 || c == 0x96 || decide (0xA0 ≤ c)

/-- The kind of a task input: 0 ONE_SHOT, 1 PAYLOAD, 2 COUNTING (Table QUE-6, SQR_AUD_B.KIND). -/
def taskKind (c : Nat) : Nat :=
  if 0x80 ≤ c then 2 else if c < 0x40 ∧ c % 0x10 = 4 then 1 else 0

/-- The tenant a task input belongs to, none where it belongs to no single tenant. -/
def State.taskTenant (s : State) (c : Nat) : Option Nat :=
  if c < 0x40 then some (c / 0x10)
  else if c < 0x44 then none
  else if c < 0x48 then some (s.fld (F.HRW_CH_CFG_TENANT (c - 0x44)))
  else if 0x50 ≤ c ∧ c < 0x70 then some (s.fld (F.FLD_CSET_CTRL_TENANT (c - 0x50)))
  else if 0x80 ≤ c then some (s.fld (F.QUE_CFG_TENANT (c - 0x80)))
  else some 4

/-- The counts of task input `c`. -/
def State.task (s : State) (c : Nat) : Task := SMap.get {} s.tasks c

/-- Stores the counts of task input `c`. -/
def State.setTask (s : State) (c : Nat) (t : Task) : State := { s with tasks := SMap.put {} s.tasks c t }

/-- Starts converter `j` (0 to 2 shunt U, V, W; 3 shared) of axis `a`, or sets BUSY where it is converting
(R94, R95).  `early` tells that the start came from an early trigger (R102). -/
def snsStart (a : Fin 4) (j : Nat) (early : Bool) (s : State) : State :=
  let n := s.sense.get a
  if n.conv.getLsbD j || (j == 3 && n.slow) then s.setFlag (F.SNS_STAT_BUSY a) true
  else
    let g := s.fld (F.SNS_CFG_GAIN a)
    let act := (s.pwm.get a).active
    s.modSense a (fun n => { n with
      conv := n.conv ||| BitVec.ofNat 4 (2 ^ j),
      gain := if j < 3 then g else n.gain,
      mA := if j < 3 then act.mA else n.mA,
      mB := if j < 3 then act.mB else n.mB,
      early := if j < 3 then early else n.early })

/-- Selects mask pattern `p` on axis `a`; with FORCE = 1 the event is counted but ignored (chapter 06, "Output
mask"). -/
def maskSel (a : Fin 4) (p : Nat) (s : State) : State :=
  if s.flag (F.PWM_MASK_CTRL_FORCE a) then s else outputsMoved a (s.gates a) (s.setFld (F.PWM_MASK_CTRL_SEL a) (p % 8))

/-- Arms load group `g` (R119). -/
def armGroup (g : Nat) (s : State) : State := { s with armed := s.armed ||| BitVec.ofNat 4 (2 ^ g) }

/-- A coefficient bank swap request of axis `a`: locks the idle bank and starts the guard check; one that finds the
bank locked or a swap pending has no effect (R168). -/
def bankSwapReq (a : Fin 4) (s : State) : State :=
  if s.flag (F.LPE_BANK_CTRL_LOCK a) || s.flag (F.LPE_BANK_CTRL_PENDING a) then s
  else (s.setFlag (F.LPE_BANK_CTRL_LOCK a) true).modLoop a (fun l => { l with check := true })

/-- A cutting swap request of set `c`: locks the inactive copy and starts the swap check; one that finds the set
locked or pending has no effect (R204).  `twin` tells that the Tramline interface asks. -/
def cutSwapReq (c : Nat) (twin : Bool) (s : State) : State :=
  if s.flag (F.FLD_CSET_CTRL_LOCK c) || s.flag (F.FLD_CSET_CTRL_PENDING c) then s
  else
    ((s.setFlag (F.FLD_CSET_CTRL_LOCK c) true).setFlag (F.FLD_CSET_CTRL_TWIN c) twin).modField
      (fun f => { f with csetChk := f.csetChk ++ [c] })

/-! ## The Turnstile's request queue -/

/-- Puts a dynamic request in the queue (chapter 03, "Turnstile"); while the books are barred it is refused, as
R71 states. -/
def trnRequest (w : TrnWho) (tenant cost : Nat) (s : State) : State :=
  { s with trn := { s.trn with queue := s.trn.queue ++ [⟨w, tenant, cost, 0⟩] } }

/-- Whether `w` waits for a grant or holds one. -/
def State.trnHas (s : State) (w : TrnWho) : Bool :=
  s.trn.queue.any (fun r => r.who = w) || s.trn.grants.any (fun r => r.who = w)

/-- Ends the work of `w`: a waiting request is withdrawn, a held grant's tokens move to RETURNING (R75). -/
def trnEnd (w : TrnWho) (s : State) : State :=
  let g := s.trn.grants.filter (fun r => r.who = w)
  { s with trn := { s.trn with
      queue := s.trn.queue.filter (fun r => r.who ≠ w),
      grants := s.trn.grants.filter (fun r => r.who ≠ w),
      ended := s.trn.ended + (g.map (fun r => r.cost)).sum } }

/-! ## Scan starts -/

/-- Bytes per element of an ELEM code (chapter 15). -/
def elemBytes (e : Nat) : Nat := 4 * 2 ^ e

/-- The first address past the address space SPACE (Table HRW-1). -/
def spaceEnd (sp : Nat) : Nat :=
  match sp with
  | 0 => 0x800000
  | 1 => 0x40000
  | 2 => 0x1000000
  | _ => 0x10000000

/-- Whether a scan's description breaks R288's range conditions. -/
def State.scanBad (s : State) (sp el plot start count stride : Nat) : Bool :=
  let e := elemBytes el
  let st := if stride = 0 then e else stride
  let last := start + (count - 1) * st + e - 1
  start % 4 != 0 || stride % 4 != 0 || (stride != 0 && decide (stride < e)) || count == 0
  || decide (4 < el) || decide (3 < sp) || decide (spaceEnd sp ≤ last)
  || (sp == 1 && decide (s.fld F.FLD_CTRL_PLOTS_USED ≤ plot))
  || (sp == 3 && ((List.range 2).any (fun cs => !s.flag (F.FLD_SILO_CFG_PRESENT cs)
        && decide (start < 0x8000000 * (cs + 1)) && decide (0x8000000 * cs ≤ last))))

/-- Ends scan channel `c` in STATE `st` with reason `why`. -/
def scanStop (c st why : Nat) (s : State) : State :=
  (s.setFld (F.HRW_CH_STAT_STATE c) st).setFld (F.HRW_CH_STAT_WHY c) why

/-- A GO on scan channel `c`, from the host or from HRW_GO[c]: it is checked (R288) and asks the Turnstile for the
HARROW cost (R289).  A GO on a channel that waits or runs has no effect. -/
def scanGo (c : Nat) (s : State) : State :=
  let st := s.fld (F.HRW_CH_STAT_STATE c)
  if st = 1 ∨ st = 2 then s
  else if s.scanBad (s.fld (F.HRW_CH_CFG_SPACE c)) (s.fld (F.HRW_CH_CFG_ELEM c)) (s.fld (F.HRW_CH_CFG_PLOT c))
      (s.fld (F.HRW_CH_START_START c)) (s.fld (F.HRW_CH_COUNT_COUNT c)) (s.fld (F.HRW_CH_STRIDE_STRIDE c)) then
    scanStop c 4 5 s
  else if s.fld (F.CHK_STAT_OWNER (s.fld (F.HRW_CH_CFG_UNIT c))) ≠ 0 then scanStop c 4 4 s
  else if c = 3 ∧ (List.range 8).any (fun i => s.flag (F.SAF_STD_CFG_EN i)) then scanStop c 4 8 s
  else
    let u := s.fld (F.HRW_CH_CFG_UNIT c)
    let s := (scanStop c 1 0 s).setFld (F.HRW_CH_DONE_ELEMS c) 0
    let s := ((s.setFld (F.CHK_STAT_OWNER u) 2).setFld (F.CHK_STAT_CH u) c).setFlag (F.CHK_STAT_BUSY u) true
    trnRequest (.scan c) (s.fld (F.HRW_CH_CFG_TENANT c)) (s.fld F.TRN_COST_HARROW) s

/-! ## Bulk starts -/

/-- The networks that read cutting set `c`. -/
def State.csetNets (s : State) (c : Nat) : List Nat := ((s.field.cuts.filter (fun e => e.cset == c)).map (fun e => e.net)).eraseDups

/-- The link carries traffic: TRL_STAT.STATE is UP, PASSIVE or RETRAIN. -/
def State.linkLive (s : State) : Bool :=
  let st := s.fld F.TRL_STAT_STATE
  st == 7 || st == 8 || st == 9

/-- The role of the chip as the tile table writes it: 1 on the west, else 0. -/
def State.roleBit (s : State) : Nat := if s.fld F.TRL_STAT_ROLE = 2 then 1 else 0

/-- Whether bulk descriptor `i` asks for something that does not exist: a cutting set that is not valid or that more
than 4 networks read (R359), a tile that is not in the table or is the chip's own, a KIND without a meaning. -/
def State.bulkRange (s : State) (i : Nat) : Bool :=
  let c := s.fld (F.TRL_BULK_CFG_CSET i)
  let k := s.fld (F.TRL_BULK_CFG_KIND i)
  if k = 0 then !s.flag (F.FLD_CSET_CTRL_VALID c) || decide (4 < (s.csetNets c).length)
  else if k = 1 then !s.link.tiles.any (fun e => e.tile == s.fld (F.TRL_BULK_CFG_TILE i) && e.owner != s.roleBit)
  else true

/-- Sets the state and the result of bulk descriptor `i`. -/
def bulkSet (i st res : Nat) (s : State) : State :=
  (s.setFld (F.TRL_BULK_STAT_STATE i) st).setFld (F.TRL_BULK_STAT_RESULT i) res

/-- A GO on bulk descriptor `i`: refused with RANGE or LINK, or a request for TL_BULK tokens for T[4] (R359).  A GO on
a descriptor that waits or runs has no effect. -/
def bulkGo (i : Nat) (s : State) : State :=
  let st := s.fld (F.TRL_BULK_STAT_STATE i)
  if st = 1 ∨ st = 2 then s
  else if s.bulkRange i then bulkSet i 4 11 s
  else if !s.linkLive then bulkSet i 4 7 s
  else trnRequest (.bulk i) 4 (s.fld F.TRN_COST_TL_BULK) (bulkSet i 1 0 s)

/-- The Tramline task inputs (chapter 17): BULK_GO[0] to BULK_GO[7]. -/
def linkTask (k : Nat) (s : State) : State := if k < 8 then bulkGo k s else s

/-! ## Counting and raising -/

/-- Serves a ONE_SHOT or PAYLOAD task input now.  LOADALL stays pending until its group's commit. -/
def taskServe (c pay : Nat) (early : Bool) (s : State) : State :=
  if h : c < 0x40 then
    let a : Fin 4 := ⟨c / 0x10, by omega⟩
    let j := c % 0x10
    if j < 4 then snsStart a j early s
    else if j = 4 then maskSel a pay s
    else bankSwapReq a s
  else if c < 0x44 then armGroup (c - 0x40) s
  else if c < 0x48 then scanGo (c - 0x44) s
  else if c < 0x70 then cutSwapReq (c - 0x50) false s
  else linkTask (c - 0x70) s

/-- Whether a ONE_SHOT task input is still occupied by its earlier event: a load group not yet committed, a bank or
set locked or pending, a channel that waits or runs. -/
def State.taskBusy (s : State) (c : Nat) : Bool :=
  if h : c < 0x40 then
    let a : Fin 4 := ⟨c / 0x10, by omega⟩
    c % 0x10 == 5 && (s.flag (F.LPE_BANK_CTRL_LOCK a) || s.flag (F.LPE_BANK_CTRL_PENDING a))
  else if c < 0x44 then (s.task c).pend != 0
  else if 0x50 ≤ c ∧ c < 0x70 then s.flag (F.FLD_CSET_CTRL_LOCK (c - 0x50)) || s.flag (F.FLD_CSET_CTRL_PENDING (c - 0x50))
  else false

/-- One event reaches task input `c`: counted by its kind, and served where it is (R321, R323). `again` tells that
the input has already served an event in this cycle. -/
def taskEvent (src c pay : Nat) (again early : Bool) (s : State) : State :=
  let t := s.task c
  let t := { t with rcv := (t.rcv + 1) % 65536 }
  let merge := { t with mrg := (t.mrg + 1) % 65536 }
  if (s.taskTenant c).any (fun n => s.inReset n) then
    (s.setTask c merge).setFlag F.SQR_STAT_DISC true
  else
    match taskKind c with
    | 2 =>
      if t.pend < 15 then s.setTask c { t with pend := t.pend + 1, evs := t.evs ++ [(src, pay)] }
      else (s.setTask c { merge with lost := satAdd t.lost 1 255 }).setFlag F.SQR_STAT_DROP true
    | 1 =>
      if !again then taskServe c pay early (s.setTask c { t with srv := (t.srv + 1) % 65536 })
      else if t.ovf.isNone then s.setTask c { t with pend := t.pend + 1, ovf := some pay }
      else (s.setTask c merge).setFlag F.SQR_STAT_DROP true
    | _ =>
      if again || s.taskBusy c then s.setTask c merge
      else if 0x40 ≤ c ∧ c < 0x44 then taskServe c pay early (s.setTask c { t with pend := 1 })
      else taskServe c pay early (s.setTask c { t with srv := (t.srv + 1) % 65536 })

/-- Serves the event in the overflow slot of a PAYLOAD task input, in the next LCLK cycle (R321). -/
def ovfServe (c : Nat) (s : State) : State :=
  let t := s.task c
  match t.ovf with
  | none => s
  | some p => taskServe c p false (s.setTask c { t with pend := t.pend - 1, srv := (t.srv + 1) % 65536, ovf := none })

/-- The Square's own check of a task input (R322): a breach latches AUDIT_ERR and records the input. -/
def auditTask (c : Nat) (s : State) : State :=
  let t := s.task c
  if (t.srv + t.mrg + t.pend) % 65536 = t.rcv then s
  else (s.setFlag F.SQR_STAT_AUDIT_ERR true).setFld F.SQR_STAT_TASK c

/-- The routes an event of source `src` takes, as pairs of task input and payload, in table order. -/
def State.routesOf (s : State) (src pay : Nat) : List (Nat × Nat) :=
  (s.routes.filter (fun r => r.en && r.src == src)).map (fun r => (r.dst, r.cst.getD pay))

/-- Delivers the events of one cycle, given as (source, task input, payload), keeping which inputs have been served, and
checks the books of each input that an event reached. -/
def deliver (early : Bool) : List (Nat × Nat × Nat) → List Nat → State → State
  | [], _, s => s
  | (src, c, p) :: r, seen, s => deliver early r (c :: seen) (auditTask c (taskEvent src c p (seen.contains c) early s))

/-- Inserts an event into a list kept in ascending source number. -/
def insertEvent (e : Nat × Nat) : List (Nat × Nat) → List (Nat × Nat)
  | [] => [e]
  | f :: r => if e.1 < f.1 then e :: f :: r else f :: insertEvent e r

/-- Raises the events of one cycle, lowest source first (R320, R321).  An axis held in tenant reset raises no
events.  A PAYLOAD input whose overflow slot is full serves it before the cycle's events, which are a later
cycle's. -/
def raiseAll (evs : List (Nat × Nat)) (early : Bool) (s : State) : State :=
  let evs := evs.filter (fun e => decide (0x80 ≤ e.1) || !s.inReset (e.1 / 0x20))
  let evs := evs.foldr insertEvent []
  let s := s.each allAxes (fun s a => ovfServe (0x10 * a.val + 4) s)
  deliver early (evs.flatMap (fun e => (s.routesOf e.1 e.2).map (fun d => (e.1, d.1, d.2)))) [] s

/-- Raises one event with its payload. -/
def raise (src pay : Nat) (s : State) : State := raiseAll [(src, pay)] false s

/-- Raises the event `k` of axis `a` (Table QUE-5). -/
def raiseAx (a : Fin 4) (k pay : Nat) (s : State) : State := raise (0x20 * a.val + k) pay s

end Sys2Proof.Machine
end

