-- ==== Sys2Proof/Machine/Safe.lean ====
section
/-! DEFINITION. The shared operations of the safety concept (chapter 13): tenant fault records (R307), doubt (R245),
Headland doubt and the axis safety stop (R256, R257), the safety demand (R259), the kill of aux outputs (R372), and the
frames the link queues for them (R354). -/

namespace Sys2Proof.Machine

/-! ## Records and interrupts -/

/-- Latches source bit `k` of PCR_HP_IRQ on both ports (Table QUE-13). -/
def irqLatch (k : Nat) (s : State) : State :=
  (s.setBit (F.PCR_HP_IRQ_SRC 0) k true).setBit (F.PCR_HP_IRQ_SRC 1) k true

/-- Records fault cause `c` of tenant `t` (R307): 1 doubt, 2 Headland doubt, 3 latch-off, 4 NOIMG, 5 return,
6 timeout, 7 overflow. -/
def tenFault (t c : Nat) (s : State) : State :=
  let s :=
    if s.fld (F.QUE_TFAULT_FIRST t) = 0 then
      (s.setFld (F.QUE_TFAULT_FIRST t) c).setFld (F.QUE_TFAULT_STEP t) s.stepN
    else s
  s.setBit (F.QUE_TFSTICKY_CAUSE t) (c - 1) true

/-- Sets a cause bit of PCR_DET_STAT and ANY (R238). -/
def detFlag (f : Fld) (s : State) : State := (s.setFlag f true).setFlag F.PCR_DET_STAT_ANY true

/-! ## The link's part -/

/-- Queues a frame produced in STEP `step` on virtual channel `v`, its payload filled up with zero bytes to 48; nothing is
queued while the link is not up. -/
def linkQueueAt (step : Nat) (v : Fin 4) (typ : Nat) (first last : Bool) (pay : List Byte) (s : State) : State :=
  if s.linkLive then
    let f : TxFrame := ⟨typ, first, last, step, (pay ++ List.replicate 48 0#8).take 48⟩
    s.modLink (fun l => { l with txq := l.txq.set v (l.txq.get v ++ [f]) })
  else s

/-- Queues a frame of the present schedule period. -/
def linkQueue (v : Fin 4) (typ : Nat) (first last : Bool) (pay : List Byte) (s : State) : State :=
  linkQueueAt s.stepN v typ first last pay s

/-- Drives PAIR_SAFE_O; in Standalone mode it stays low (R334, R353). -/
def pairOut (b : Bool) (s : State) : State := s.setFlag F.TRL_STAT_PS_O (b && s.twin)

/-- Queues a DOUBT frame if the local doubt mask has grown ("Safety traffic and PAIR_SAFE"). -/
def linkDoubt (s : State) : State :=
  let m := s.fld F.SAF_STAT_DOUBT
  let old := s.link.sentDoubt
  let s := s.modLink (fun l => { l with sentDoubt := m })
  if s.twin && (List.range 5).any (fun t => m.testBit t && !old.testBit t) then linkQueue 0 0x02 true true (leBytes 1 m) s
  else s

/-! ## The aux outputs -/

/-- Any axis is held by a debug halt, which freezes the Aux controller (R382). -/
def State.anyHalted (s : State) : Bool := allAxes.any (fun a => s.halted a)

/-- A kill cause of LSD[j] holds (chapter 18, "Kills"). -/
def State.auxKilled (s : State) (j : Nat) : Bool :=
  let o := s.fld (F.AUX_LSD_OWNER j)
  s.flag F.SAF_STAT_SAFE
  || (s.flag F.SAF_STAT_STO_STOP && s.flag (F.AUX_LSD_KILL_STO j))
  || (decide (o < 4) && s.bit F.SAF_STAT_AXSTOP o && s.flag (F.AUX_LSD_KILL_AXSTOP j))
  || (decide (o < 5) && s.resetWritten o)

/-- Forces LSD[j] low: its request, standing or waiting, is cleared with KILLED set, and an off-delay that ran for it is
abandoned (R372, "A kill of the winner during the off-delay"). -/
def auxKillOne (j : Nat) (s : State) : State :=
  let due := s.aux.waiting.any (fun w => w.1 && w.2.testBit j)
  if s.bit F.AUX_REQ_REQ j || s.bit F.AUX_STAT_LSD_ON j || due then
    let s := ((s.setBit F.AUX_REQ_REQ j false).setBit F.AUX_STAT_LSD_ON j false).setBit F.AUX_FLAG_KILLED j true
    let s := s.modAux (fun x => { x with
      waiting := x.waiting.map (fun w => if w.1 && w.2.testBit j then (true, w.2 - 2 ^ j) else w) })
    if j % 2 = 0 then s.setBit F.AUX_STAT_DELAY (j / 2) false else s
  else s

/-- Every aux output is low and no request stands or waits (Table AUX-2: start sequence, no image, sleep, safe state). -/
def auxOff (s : State) : State :=
  ((s.setFld F.AUX_REQ_REQ 0).setReg R.AUX_STAT 0).modAux (fun x => { x with waiting := [] })

/-- Applies every kill cause that holds now; a debug halt holds the outputs (R382). -/
def auxKillNow (s : State) : State :=
  if s.anyHalted then s
  else s.each (List.range 8) (fun s j => if s.auxKilled j then auxKillOne j s else s)

/-! ## Stops -/

/-- The sequencer of axis `a` goes to OFF at once (R154). -/
def driveOff (a : Fin 4) (s : State) : State :=
  let off (q : SeqSt) : SeqSt := { dir := q.dir, decide := q.decide }
  let run (r : PassRun) : PassRun := { r with st := { r.st with seq := off r.st.seq } }
  let s := s.modLoop a (fun l => { l with
    start := { l.start with seq := off l.start.seq },
    passO := l.passO.map run, passH := l.passH.map run,
    next := none, patPend := none, ack := false })
  ((s.setFld (F.LPE_DRV_STAT_STATE a) 0).setFld (F.LPE_DRV_STAT_FAULT a) 0).setFlag (F.LPE_DRV_STAT_INJ_ON a) false

/-- SAF_STAT.AXSTOP: an axis safety stop of Headland doubt, or the STO stop of a configured axis (Table SAF-1). -/
def axstopRefresh (s : State) : State :=
  let m := allAxes.foldl (fun (m : Nat) (a : Fin 4) =>
    if s.saf.hstop.getLsbD a || (s.flag F.SAF_STAT_STO_STOP && s.axisConf a) then m ||| 2 ^ a.val else m) 0
  s.setFld F.SAF_STAT_AXSTOP m

/-- A safety demand of source `c`, a bit of SAF_CAUSE (R259): the safe state is entered, or, during it, the source is
recorded.  A clock or supply source leaves only a reset as the way out (R264). -/
def safeDemand (c : Nat) (s : State) : State :=
  let s := if c = 1 ∨ c = 2 then s.modSaf (fun f => { f with resetOnly := true }) else s
  if s.flag F.SAF_STAT_SAFE then s.setBit F.SAF_CAUSE_CAUSE c true
  else
    let s := (s.setFld F.SAF_CAUSE_CAUSE (2 ^ c)).setFlag F.SAF_STAT_SAFE true
    let s := s.each allAxes (fun s a => driveOff a s)
    let s := (s.modSaf (fun f => { f with relPort := none })).setFld F.SAF_REL_STAT_HALF 0
    let s := s.modPow (fun p => { p with sleepReq := false, waking := false, pd3Wait := false })
    let s := auxKillNow s
    if s.twin then linkQueue 0 0x04 true true (leBytes 2 (s.fld F.SAF_CAUSE_CAUSE)) (pairOut true s) else s

/-- Headland doubt of axis `a` by cause `c`, a bit of SAF_HCAUSE (R256): an axis safety stop, or with HDL_ESC a safety
demand (R257). -/
def headDoubt (a : Fin 4) (c : Nat) (s : State) : State :=
  let s := (s.setBit (F.SAF_HCAUSE_CAUSE a) c true).setBit F.SAF_STAT_HDOUBT a true
  let s := tenFault a 2 s
  if s.bit F.SAF_CFG_HDL_ESC a then safeDemand 5 s
  else
    let s := s.modSaf (fun f => { f with hstop := f.hstop ||| BitVec.ofNat 4 (2 ^ a.val), axAck := f.axAck &&& ~~~BitVec.ofNat 4 (2 ^ a.val) })
    auxKillNow (axstopRefresh (driveOff a s))

/-! ## Doubt -/

/-- Sets where tenant `t` stands on its way back to the observers. -/
def setRet (t : Nat) (r : RetSt) (s : State) : State := s.modSaf (fun f => { f with ret := setAt f.ret t r })

/-- Where tenant `t` stands on its way back to the observers. -/
def State.ret (s : State) (t : Nat) : RetSt := s.saf.ret.getD t .idle

/-- Raises doubt for tenant `t` by source `c`, a bit of SAF_DCAUSE (R245).  Every source is recorded; the fault, the
event and the twin's frame belong to the beginning of the doubt ("doubt is raised once"), and a doubt in the
qualifying frame ends the return (R247). -/
def raiseDoubt (t c : Nat) (s : State) : State :=
  if 5 ≤ t then s
  else
    let s := if s.fld (F.SAF_DCAUSE_CAUSE t) = 0 then s.setFld (F.SAF_DCAUSE_STEP t) s.stepN else s
    let s := setRet t .idle (s.setBit (F.SAF_DCAUSE_CAUSE t) c true)
    let s := if h : t < 4 then
        let a : Fin 4 := ⟨t, h⟩
        let st := s.fld (F.LPE_RPL_STAT_STATE a)
        if st = 2 ∨ st = 3 then s.setFlag (F.LPE_RPL_STAT_DOUBT a) true else s
      else s
    if s.bit F.SAF_STAT_DOUBT t then s
    else
      let s := tenFault t 1 (s.setBit F.SAF_STAT_DOUBT t true)
      let s := if t < 4 then raise (0x20 * t + Ev.doubt) 0 s else raise Ev.safIrq 0 (irqLatch 3 s)
      linkDoubt s

/-- Doubt for every configured axis. -/
def doubtAxes (c : Nat) (s : State) : State :=
  s.each allAxes (fun s a => if s.axisConf a then raiseDoubt a c s else s)

/-- Axis `a` drives on Headland: it is in doubt, or has not yet had its first clean frame (R246, R62, R258, R306). -/
def State.onHeadland (s : State) (a : Fin 4) : Bool := s.bit F.SAF_STAT_DOUBT a || s.saf.startHl.getLsbD a

/-- Axis `a` drives on Headland until its first clean frame. -/
def startOnHeadland (a : Fin 4) (s : State) : State :=
  setRet a .waitFrame (s.modSaf (fun f => { f with startHl := f.startHl ||| BitVec.ofNat 4 (2 ^ a.val) }))

/-! ## Standing conditions -/

/-- A cause that keeps the sequencer of axis `a` in OFF holds (R154, R130). -/
def State.offCause (s : State) (a : Fin 4) : Bool :=
  s.flag F.SAF_STAT_SAFE || s.flag F.SAF_STAT_STO_STOP || s.saf.hstop.getLsbD a || s.flag (F.PWM_TRIP_STAT_LATCHED a)
  || s.resetWritten a || !s.axisConf a

/-- One commit of tenant `t` in the frame (chapter 13, "The end-of-frame checkpoint"). -/
def countCommit (t : Nat) (s : State) : State := s.setFld (F.SAF_CKPT_CNT_CNT t) (s.fld (F.SAF_CKPT_CNT_CNT t) + 1)

end Sys2Proof.Machine
end

