-- ==== Sys2Proof/Machine/Pwm.lean ====
section
/-! DEFINITION. The PWM unit (chapter 06): the level each output's timebase asks for with dead time, minimum width,
mask and interlock (R114 to R118, R127), the level at the pin (R376), trips and their counter (R128 to R131), the
commit with dead-time adaptation and dither (R119, R125, R232), the load point (R119, R129), triggers (R133), timer
channels (R132), and debug halt (R134). -/

namespace Sys2Proof.Machine

/-! ## Levels of one set -/

/-- The fine unit of a compare word, none where it never matches in a period of `per` LCLK cycles (R114). -/
def edgeAt (per : Nat) (w : Word) : Option Nat :=
  let c := fieldGet w 0 24
  if c = 0xFFFFFF ∨ per ≤ c then none else some (32 * c + fieldGet w 24 5)

/-- The high intervals that RISE and FALL give within a period (Edges, Table PWM-2), as pairs [from, to) in fine
units. -/
def spans (per : Nat) (rise fall : Word) : List (Nat × Nat) :=
  match edgeAt per rise, edgeAt per fall with
  | none, _ => []
  | some r, none => [(r, 32 * per)]
  | some r, some f => if r < f then [(r, f)] else if f < r then [(0, f), (r, 32 * per)] else []

/-- The compare words of output `u` of a set. -/
def PwmSet.spans (p : PwmSet) (u : Nat) : List (Nat × Nat) :=
  Sys2Proof.Machine.spans p.per (p.rise.getD u 0x00FFFFFF#32) (p.fall.getD u 0x00FFFFFF#32)

/-- DT_HL of pair `k` of a set, in fine units. -/
def PwmSet.dtHL (p : PwmSet) (k : Nat) : Nat := fieldGet (p.dt.getD k 0) 0 14

/-- DT_LH of pair `k` of a set. -/
def PwmSet.dtLH (p : PwmSet) (k : Nat) : Nat := fieldGet (p.dt.getD k 0) 16 14

/-- The high side of pair `k` is on at the end of a set's period. -/
def PwmSet.hiAtEnd (p : PwmSet) (k : Nat) : Bool := (p.spans (2 * k)).any (fun i => decide (i.2 = 32 * p.per ∧ i.1 < i.2))

/-- The low side of pair `k` is on at the end of a set's period: the high side has been off for its dead time. -/
def PwmSet.loAtEnd (p : PwmSet) (k : Nat) : Bool :=
  decide (p.per ≠ 0) && !p.hiAtEnd k && (p.spans (2 * k)).all (fun i => decide (i.2 + p.dtHL k ≤ 32 * p.per))

/-- The high intervals of the high side of pair `k` as driven: one that would begin before the low side, on until the
load point, has been off for DT_LH begins that much later (R115, R116). -/
def hiSpans (act bef : PwmSet) (k : Nat) : List (Nat × Nat) :=
  ((act.spans (2 * k)).map (fun i =>
    if bef.loAtEnd k && decide (i.1 < act.dtLH k) then (act.dtLH k, i.2) else i)).filter (fun i => decide (i.1 < i.2))

/-- The low side of pair `k` is on at fine unit `t` (R115, R116). -/
def loOn (act bef : PwmSet) (k t : Nat) : Bool :=
  let hi := hiSpans act bef k
  let clear := hi.all (fun i =>
    (decide (t < i.1 - act.dtLH k) || decide (i.2 + act.dtHL k ≤ t)))
  let carried := (bef.spans (2 * k)).all (fun i =>
    decide (i.2 = 32 * bef.per) || decide (i.2 + bef.dtHL k ≤ t + 32 * bef.per))
  let fell := bef.hiAtEnd k && !hi.any (fun i => decide (i.1 = 0))
  clear && carried && !(fell && decide (t < act.dtHL k))

/-- Drops the intervals that begin and end inside the period and are shorter than MINPW (R118). -/
def longSpans (per minpw : Nat) (l : List (Nat × Nat)) : List (Nat × Nat) :=
  l.filter (fun i => decide (minpw ≤ i.2 - i.1) || decide (i.1 = 0) || decide (i.2 = 32 * per))

/-- The low side's on-interval between two high intervals of one period, where it has one. -/
def loGap (act bef : PwmSet) (k : Nat) : Option Nat :=
  match hiSpans act bef k with
  | [(_, f), (r, _)] => if f + act.dtHL k < r - act.dtLH k then some (r - act.dtLH k - (f + act.dtHL k)) else none
  | _ => none

/-- Output `u` asks to be high at fine unit `t`, dead time and minimum width applied; `ind` are the independent pairs. -/
def askedAt (act bef : PwmSet) (ind minpw u t : Nat) : Bool :=
  let k := u / 2
  if 6 ≤ u then (act.spans u).any (fun i => decide (i.1 ≤ t ∧ t < i.2))
  else if ind.testBit k then (longSpans act.per minpw (act.spans u)).any (fun i => decide (i.1 ≤ t ∧ t < i.2))
  else if u % 2 = 0 then (longSpans act.per minpw (hiSpans act bef k)).any (fun i => decide (i.1 ≤ t ∧ t < i.2))
  else loOn act bef k t && !((loGap act bef k).any (fun n => decide (n < minpw))
    && (match hiSpans act bef k with
        | [(_, f), (r, _)] => decide (f ≤ t ∧ t < r)
        | _ => false))

/-- An on-interval of phase output `u` is suppressed in the period (R118). -/
def drops (act bef : PwmSet) (ind minpw u : Nat) : Bool :=
  let k := u / 2
  if 6 ≤ u then false
  else if ind.testBit k then decide ((longSpans act.per minpw (act.spans u)).length < (act.spans u).length)
  else if u % 2 = 0 then decide ((longSpans act.per minpw (hiSpans act bef k)).length < (hiSpans act bef k).length)
  else (loGap act bef k).any (fun n => decide (n < minpw))

/-! ## Mask, interlock, gating -/

/-- Output `u` of axis `a` takes the level its timebase asks for at fine unit `t` (R114 to R118). -/
def outputEdge (a : Fin 4) (u t : Nat) (s : State) : State :=
  if s.halted a || !s.axisConf a then s
  else
    let was := s.gates a
    let p := s.pwm.get a
    let ind := s.fld (F.PWM_CTRL_PAIR_IND a)
    let minpw := s.fld (F.PWM_MINPW_MINPW a)
    let on := askedAt p.active p.before ind minpw u t
    let s := if drops p.active p.before ind minpw u then s.setFlag (F.PWM_STAT_PULSE_DROP a) true else s
    let bit := BitVec.ofNat 8 (2 ^ u)
    outputsMoved a was (s.modPwm a (fun p => { p with out := if on then p.out ||| bit else p.out &&& ~~~bit }))

/-! ## Trips -/

/-- A trip input of kind NFLT is active, enabled and unblanked. -/
def State.nfltTrips (s : State) (a : Fin 4) : Bool :=
  (s.pwm.get a).nflt && s.flag (F.PWM_TRIP_CFG_NFLT_EN a)
  && !(s.flag (F.PWM_TRIP_CFG_BLANK_NFLT_EN a) && (s.pwm.get a).blank.getLsbD (s.fld (F.PWM_TRIP_CFG_BLANK_NFLT a)))

/-- An overcurrent comparator is active and unblanked. -/
def State.ocTrips (s : State) (a : Fin 4) : Bool :=
  (s.pwm.get a).oc != 0
  && !(s.flag (F.PWM_TRIP_CFG_BLANK_OC_EN a) && (s.pwm.get a).blank.getLsbD (s.fld (F.PWM_TRIP_CFG_BLANK_OC a)))

/-- A trip input of the axis is active, blanked or not (R131). -/
def State.tripActive (s : State) (a : Fin 4) : Bool :=
  ((s.pwm.get a).nflt && s.flag (F.PWM_TRIP_CFG_NFLT_EN a)) || (s.pwm.get a).oc != 0

/-- The axis latches off (R130): all outputs low, TRIP_LATCH, the tenant's fault record, the sequencer to OFF. -/
def latchOff (a : Fin 4) (s : State) : State :=
  raiseAx a Ev.tripLatch 0 (tenFault a 3 (driveOff a (s.setFlag (F.PWM_TRIP_STAT_LATCHED a) true)))

/-- The trip latch is set by the inputs that are active and unblanked now; the trip is registered and counted, once per
period (R128, R130); a latched-off axis keeps COUNT at N.  In debug halt the unclocked latch acts and nothing is counted ("A trip during debug halt"). -/
def tripNow (a : Fin 4) (s : State) : State :=
  let n := s.nfltTrips a
  let o := s.ocTrips a
  if !(n || o) then s
  else if s.halted a then
    s.modPwm a (fun p => { p with frozen := if s.flag (F.PWM_TRIP_CFG_X_TRIP a) then 0 else p.frozen &&& 0xC0#8 })
  else if (s.pwm.get a).tripPer then s
  else
    let s := if n then s.setFlag (F.PWM_TRIP_STAT_NFLT a) true else s
    let s := if o then s.setFlag (F.PWM_TRIP_STAT_OC a) true else s
    let s := (s.setFlag (F.PWM_TRIP_STAT_TRIPPED a) true).modPwm a (fun p => { p with tripPer := true })
    let s := raiseAx a Ev.trip 0 (s.bump (F.PWM_TRIP_TOTAL_TOTAL a) 1)
    if s.flag (F.PWM_TRIP_STAT_LATCHED a) then s
    else
      let s := (s.bump (F.PWM_TRIP_STAT_COUNT a) 1).setFld (F.PWM_TRIP_STAT_CLEAN a) 0
      if s.fld (F.PWM_TRIP_CFG_N a) ≤ s.fld (F.PWM_TRIP_STAT_COUNT a) then latchOff a s else s

/-- The levels of the trip inputs, as a command carries them; an active one trips (R128). -/
def tripLevels (a : Fin 4) (nflt : Bool) (oc : BitVec 3) (s : State) : State :=
  tripNow a (s.modPwm a (fun p => { p with nflt := nflt, oc := oc }))

/-- A BLANK window closes; an input still active then trips (R132). -/
def blankClose (a : Fin 4) (c : Fin 4) (s : State) : State :=
  if s.halted a then s
  else tripNow a (s.modPwm a (fun p => { p with blank := p.blank &&& ~~~BitVec.ofNat 4 (2 ^ c.val) }))

/-- The leaky counter at the end of a period (chapter 06, "Trips"). -/
def cleanCount (a : Fin 4) (s : State) : State :=
  let p := s.pwm.get a
  if p.begReleased && !p.tripPer && !s.flag (F.PWM_TRIP_STAT_LATCHED a) then
    let c := s.fld (F.PWM_TRIP_STAT_CLEAN a) + 1
    if s.fld (F.PWM_TRIP_CFG_M a) ≤ c then
      (s.setFld (F.PWM_TRIP_STAT_CLEAN a) 0).setFld (F.PWM_TRIP_STAT_COUNT a) (s.fld (F.PWM_TRIP_STAT_COUNT a) - 1)
    else s.setFld (F.PWM_TRIP_STAT_CLEAN a) c
  else s

/-- The release check of the trip latch at a load point (R129), and the latch-off's release after a clear (R131). -/
def latchCheck (a : Fin 4) (s : State) : State :=
  let s := cleanCount a s
  let s := s.modPwm a (fun p => { p with tripPer := false })
  let s := if (s.pwm.get a).clrPend then
      (s.setFlag (F.PWM_TRIP_STAT_LATCHED a) false).modPwm a (fun p => { p with clrPend := false })
    else s
  let s := if s.nfltTrips a || s.ocTrips a then tripNow a s else s.setFlag (F.PWM_TRIP_STAT_TRIPPED a) false
  s.modPwm a (fun p => { p with begReleased := !s.flag (F.PWM_TRIP_STAT_TRIPPED a) })

/-- A write of 1 to PWM_TRIP_CLR.CLR (R131). -/
def tripClear (a : Fin 4) (s : State) : State :=
  if s.tripActive a then s.setFlag (F.PWM_STAT_CLR_REJ a) true
  else
    ((s.setFld (F.PWM_TRIP_STAT_COUNT a) 0).setFld (F.PWM_TRIP_STAT_CLEAN a) 0).modPwm a
      (fun p => { p with clrPend := s.flag (F.PWM_TRIP_STAT_LATCHED a) })

/-! ## The commit -/

/-- A dead time from the last eight delays of its kind and leg (R125). -/
def State.deadTime (s : State) (a : Fin 4) (l : List Nat) : Nat :=
  let hi := s.fld (F.PWM_DT_CFG_DT_MAX a)
  if !s.flag (F.PWM_DT_CFG_ADAPT a) then s.fld (F.PWM_DT_CFG2_DT_FIX a)
  else if l.length < 8 then hi
  else max (s.fld (F.PWM_DT_CFG_DT_MIN a)) (min hi (4 * l.sum + s.fld (F.PWM_DT_CFG2_DT_MARGIN a)))

/-- The PWM_DT word of leg `k` in force at a commit. -/
def State.dtWord (s : State) (a : Fin 4) (k : Nat) : Word :=
  let hl := (s.pwm.get a).dlyHL.getD k []
  let lh := (s.pwm.get a).dlyLH.getD k []
  word ((decide (8 ≤ lh.length)).toNat * 2 ^ 31 + s.deadTime a lh % 2 ^ 14 * 2 ^ 16
    + (decide (8 ≤ hl.length)).toNat * 2 ^ 15 + s.deadTime a hl % 2 ^ 14)

/-- The shadow's compare and trigger words as the registers hold them. -/
def State.shadow (s : State) (a : Fin 4) : PwmSet :=
  { rise := (List.range 8).map (fun u => s.reg (R.PWM_RISE a u)),
    fall := (List.range 8).map (fun u => s.reg (R.PWM_FALL a u)),
    trig := (List.range 4).map (fun n => s.reg (R.PWM_TRIG a n)),
    per := s.fld (F.PWM_PER_PER a), dt := (List.range 3).map (fun k => s.dtWord a k),
    mA := (s.pwm.get a).shA, mB := (s.pwm.get a).shB }

/-- The modulation components of a set whose phase compares are the host's are free (DESIGN CHOICE, log entry 16); those of a set a
pass wrote are the pass's. -/
def withMod (hs : Nat) (src p : PwmSet) : PwmSet :=
  if hs.testBit 0 || hs.testBit 2 || hs.testBit 4 then
    { p with mA := Config.hostMod false p.rise p.fall p.per, mB := Config.hostMod true p.rise p.fall p.per }
  else { p with mA := src.mA, mB := src.mB }

/-- The generator of chapter 12 advances: s × 0x5851F42D4C957F2D + 0x14057B7EF767814F mod 2^64. -/
def genNext (g : BitVec 64) : BitVec 64 := g * 0x5851F42D4C957F2D#64 + 0x14057B7EF767814F#64

/-- The output of an advanced generator, its bits [63:48]. -/
def genOut (g : BitVec 64) : Nat := g.toNat / 2 ^ 48

/-- A RISE with a dither of `d` fine units (R232). -/
def ditherRise (per : Nat) (rise fall : Word) (d : Nat) : Word :=
  match edgeAt per rise with
  | none => rise
  | some r =>
    let limit := match edgeAt per fall with
      | none => 32 * per
      | some f => if r < f then f else 32 * per
    if (r = 0 ∧ edgeAt per fall = none) ∨ limit ≤ r + d then rise
    else word ((r + d) / 32 + (r + d) % 32 * 2 ^ 24)

/-- The committed set with the dither of UH, VH and WH added to their RISE (R232). -/
def dithered (p : PwmSet) (n o : Nat) : PwmSet :=
  { p with rise := (List.range 8).map (fun u =>
      let r := p.rise.getD u 0x00FFFFFF#32
      let d := if u = 0 then bitsOf o 12 4 else if u = 2 then bitsOf o 8 4 else bitsOf o 4 4
      if u = 0 ∨ u = 2 ∨ u = 4 then ditherRise p.per r (p.fall.getD u 0x00FFFFFF#32) (d % 2 ^ n) else r) }

/-- The set a commit of axis `a` takes: host-source words from the shadow unless HOLD keeps the ones in force, the
others from the shadow or, on Headland, from the Headland set buffer (R123, R165). -/
def State.takenSet (s : State) (a : Fin 4) (hl : Bool) : PwmSet :=
  let p := s.pwm.get a
  let sh := s.shadow a
  let hold := s.flag (F.PWM_LOAD_HOLD a)
  let pick (host : Bool) (i : Nat) (f : PwmSet → List Word) : Word :=
    if host then (f (if hold then p.active else sh)).getD i 0
    else (f (if hl then p.hset else sh)).getD i 0
  let hs := s.fld (F.PWM_CTRL_HOST_SRC a)
  let ht := s.fld (F.PWM_CTRL_TRIG_HOST a)
  withMod hs (if hl then p.hset else sh) { sh with
    rise := (List.range 8).map (fun u => pick (hs.testBit u) u PwmSet.rise),
    fall := (List.range 8).map (fun u => pick (hs.testBit u) u PwmSet.fall),
    trig := (List.range 4).map (fun n => pick (ht.testBit n) n PwmSet.trig) }

/-- The compare and trigger words of a set. -/
def PwmSet.words (p : PwmSet) : List Word := p.rise ++ p.fall ++ p.trig

/-- The commit cycle of axis `a`: the dither generator advances (R231), and if the group is armed the taken set enters
the committed stage (R119). -/
def pwmCommit (a : Fin 4) (hl armed : Bool) (s : State) : State :=
  let g := genNext (s.det.get a).gen
  let s := s.modDet a (fun d => { d with gen := g })
  if armed then
    let set := dithered (s.takenSet a hl) (s.fld (F.PWM_DITHER_DBITS a)) (genOut g)
    (s.setFlag (F.PWM_LOAD_COMMITTED a) true).modPwm a (fun p => { p with committed := some set, commitH := hl })
  else s

/-- The zero step begins without a commit cycle before it: the shadow, with the image's values, is what the arming of R120
commits for its load point, and what the Headland set buffer holds before its first pass (DEDUCED, log entry 67). -/
def zeroCommit (a : Fin 4) (s : State) : State :=
  s.modPwm a (fun p => { p with
    committed := some (s.takenSet a false), hset := s.shadow a, commitH := false, begReleased := false })

/-! ## The load point -/

/-- Axis `a` belongs to load group `g`. -/
def State.inGroup (s : State) (g : Nat) (a : Fin 4) : Bool := s.axisConf a && s.fld (F.PWM_CTRL_GROUP a) == g

/-- The group arms itself for the load point after the one that begins period `perIdx`: that load point is a
schedule-period boundary, or an axis of the group has a Loop Engine graph (R120). -/
def autoArm (a : Fin 4) (s : State) : State :=
  let g := s.fld (F.PWM_CTRL_GROUP a)
  let last := decide (s.perPerStep a ≤ (s.pwm.get a).perIdx + 1)
  if last || allAxes.any (fun b => s.inGroup g b && s.flag (F.LPE_CTRL_EN b)) then armGroup g s else s

/-- The timebase part of a load point: the committed set becomes active, the dead times in force show in PWM_DT, the
outputs take the levels of cycle 0, and the latch is checked (R119, R129).  `idx` is the index of the new period. -/
def pwmLoad (a : Fin 4) (idx : Nat) (s : State) : State :=
  let was := s.gates a
  let s := s.modPwm a (fun p => { p with
    before := p.active, active := p.committed.getD p.active, committed := none, perIdx := idx })
  let s := (s.setFlag (F.PWM_LOAD_COMMITTED a) false).setFld (F.PWM_CNT_CNT a) 0
  let p := s.pwm.get a
  let s := s.each (List.range 3) (fun s k => s.setReg (R.PWM_DT a k) (p.active.dt.getD k 0))
  let ind := s.fld (F.PWM_CTRL_PAIR_IND a)
  let minpw := s.fld (F.PWM_MINPW_MINPW a)
  let out := (List.range 8).foldl (fun (m : Nat) u => if askedAt p.active p.before ind minpw u 0 then m + 2 ^ u else m) 0
  let s := s.modPwm a (fun p => { p with out := BitVec.ofNat 8 out })
  autoArm a (latchCheck a (outputsMoved a was s))

/-! ## Triggers, timer channels, halt -/

/-- A trigger of axis `a`: in its own period from the active set, or early from the shadow (R133). -/
def trigger (a : Fin 4) (n : Fin 4) (early : Bool) (s : State) : State :=
  if s.halted a || !s.axisConf a then s
  else if early then
    let w := s.reg (R.PWM_TRIG a n)
    if w.getLsbD 31 && w.getLsbD 30 then
      let s := s.setFld (F.PWM_CNT_CNT a) (s.per a - fieldGet w 0 24)
      let set := (s.shadow a).words
      let done := s.flag (F.PWM_LOAD_COMMITTED a)
      let s := s.modSense a (fun n => { n with
        earlySet := set, earlyOk := if done then some (n.comSet == set) else none })
      raiseAll [(0x20 * a.val + Ev.trig n, 0)] true s
    else s.setFlag (F.PWM_STAT_EARLY_MISS a) true
  else
    let w := (s.pwm.get a).active.trig.getD n 0
    if w.getLsbD 31 && !w.getLsbD 30 then
      raiseAx a (Ev.trig n) 0 (s.setFld (F.PWM_CNT_CNT a) (fieldGet w 0 24))
    else s

/-- A WINDOW start or a TIMER expiry (Table PWM-7). -/
def timerChannel (a : Fin 4) (c : Fin 4) (s : State) : State :=
  let m := s.fld (F.PWM_TCH_A_MODE a c)
  if s.halted a || !s.axisConf a then s
  else if m = 2 ∨ m = 3 then raiseAx a (Ev.tch c) 0 s
  else s

/-- GDEN_x is enabled (R377), a debug halt aside. -/
def State.gdenAsked (s : State) (a : Fin 4) : Bool :=
  s.flag F.PCR_PWR_STATE_READY && s.axisConf a && !s.resetWritten a && !s.bit F.SAF_STAT_AXSTOP a
  && !s.flag F.SAF_STAT_STO_STOP && !s.flag F.SAF_STAT_SAFE && s.fld (F.LPE_RPL_STAT_STATE a) == 0

/-- GDEN_G1 and GDEN_G2 are enabled (R377), a debug halt aside. -/
def State.gdenGroup (s : State) : Bool :=
  s.flag F.PCR_PWR_STATE_READY && !s.flag F.SAF_STAT_STO_STOP && !s.flag F.SAF_STAT_SAFE

/-- SAFE_N is released: the Zauri is READY, not in the safe state, and neither an STO stop nor STO_DISC_FAULT holds
(chapter 13, "The safe state"). -/
def State.safeNAsked (s : State) : Bool := s.gdenGroup && !s.flag F.SAF_STAT_STO_DISC_FAULT

/-- GDEN_A to GDEN_D in bits 0 to 3, GDEN_G1 and GDEN_G2 in bits 4 and 5, SAFE_N released in bit 6. -/
def State.enablesAsked (s : State) : BitVec 7 :=
  let m := allAxes.foldl (fun (m : Nat) (a : Fin 4) => if s.gdenAsked a then m + 2 ^ a.val else m) 0
  BitVec.ofNat 7 (m + (if s.gdenGroup then 48 else 0) + (if s.safeNAsked then 64 else 0))

/-- The gate-supply enables and SAFE_N at the pins; a debug halt holds them (R134, Table AUX-2). -/
def State.enables (s : State) : BitVec 7 := if s.anyHalted then s.aux.held else s.enablesAsked

/-- A debug halt of the axes of a mask: their outputs, the enables and the aux outputs hold (R134, R382).  With the
JTAG lock fused the port is ignored (Table AUX-3). -/
def debugHalt (m : BitVec 4) (s : State) : State :=
  if s.fuses.jtagLock then s
  else
    let held := s.enables
    let s := s.each allAxes (fun s a =>
      if m.getLsbD a && s.axisPresent a && !s.halted a then
        let g := s.gates a
        (s.setFlag (F.PWM_STAT_HALTED a) true).modPwm a (fun p => { p with frozen := g })
      else s)
    s.modAux (fun x => { x with held := held })

end Sys2Proof.Machine
end

