-- ==== Sys2Proof/Machine/Sense.lean ====
section
/-! DEFINITION. The Sense front end and the command pins (chapter 05): the modulation-depth limit (R96), sample sets
with their tags (R99, R101), the Kirchhoff check (R100), early samples (R102), offset calibration (R103), switch-node
delays (R106), the slow items (R95), and command measurements with loss of signal (R107 to R111). -/

namespace Sys2Proof.Machine

/-- t_settle in LCLK cycles by GAIN (Table SNS-3). -/
def tSettle (g : Nat) : Nat :=
  match g with
  | 0 => 200
  | 1 => 300
  | 2 => 400
  | _ => 600

/-- SNS_MLIM of axis `a`: floor(65 536 × M_LIM), 0 for a negative limit (R96); all times in fine units. -/
def State.mlim (s : State) (a : Fin 4) : Nat :=
  let t := 32 * s.fld (F.PWM_PER_PER a)
  let win := 32 * (tSettle (s.fld (F.SNS_CFG_GAIN a)) + 10 * (s.fld (F.SNS_CFG_N_ACQ_SH a) + 18))
  let cut := 2 * (win + 2 * s.fld (F.PWM_DT_CFG_DT_MAX a))
  if t = 0 then 0 else 65536 * (t - cut) / t

/-- Recomputes SNS_MLIM (R96). -/
def mlimUpdate (a : Fin 4) (s : State) : State := s.setFld (F.SNS_MLIM_MLIM a) (s.mlim a)

/-! ## Sample sets -/

/-- The signed code of an SNS_I word. -/
def codeOf (w : Word) : Int := signedOf 16 w.toNat

/-- The offset of leg `l` at gain `g` (SNS_OFS). -/
def State.ofs (s : State) (a : Fin 4) (l g : Nat) : Int := signedOf 8 (bitsOf (s.reg (R.SNS_OFS a l)).toNat (8 * g) 8)

/-- An SNS_I word from its tags and code. -/
def sampleWord (spec win sat recon hold : Bool) (gain : Nat) (c : Int) : Word :=
  word (spec.toNat * 2 ^ 31 + win.toNat * 2 ^ 30 + sat.toNat * 2 ^ 29 + recon.toNat * 2 ^ 28 + hold.toNat * 2 ^ 27
    + gain % 4 * 2 ^ 24 + wrapBits 16 c)

/-- What one leg contributes to a set: window not met, saturated, code. -/
structure LegCode where
  win  : Bool
  sat  : Bool
  code : Int
  deriving DecidableEq, Repr

/-- The contribution of leg `l`: a new conversion with sign inverted and offset removed, or its last code where its
converter did not run. -/
def State.legCode (s : State) (a : Fin 4) (l : Nat) (x : Option LegSample) : LegCode :=
  let n := s.sense.get a
  match x with
  | some r =>
    if n.conv.getLsbD l then
      ⟨!r.clean, r.raw == 0x2000#14 || r.raw == 0x1FFF#14, -r.raw.toInt - s.ofs a l n.gain⟩
    else ⟨false, false, codeOf (n.deliv.i.getD l 0)⟩
  | none => ⟨false, false, codeOf (n.deliv.i.getD l 0)⟩

/-- The sample set that three legs make: REC for one leg without its window, HOLD for more (Table SNS-4). -/
def State.makeSet (s : State) (a : Fin 4) (spec : Bool) (x y z : LegCode) : List Word × Bool × Bool :=
  let n := s.sense.get a
  let k := x.win.toNat + y.win.toNat + z.win.toNat
  let recon := k == 1
  let hold := decide (2 ≤ k)
  let one (l : LegCode) (others : Int) (i : Nat) : Word :=
    let c := if hold then codeOf (n.deliv.i.getD i 0) else if l.win then -others else l.code
    sampleWord spec l.win l.sat (recon && l.win) hold n.gain c
  ([one x (y.code + z.code) 0, one y (x.code + z.code) 1, one z (x.code + y.code) 2], recon, hold)

/-- STEP and axis period index of the period for which a set is delivered (R19, R102), as SNS_TAG holds them. -/
def State.sampleTag (s : State) (a : Fin 4) (next : Bool) : Word :=
  let p := (s.pwm.get a).perIdx
  let (st, i) := if next then (if p + 1 < s.perPerStep a then (s.stepN, p + 1) else (s.stepN + 1, 0)) else (s.stepN, p)
  word (st % 2 ^ 24 * 256 + i % 32)

/-- The Kirchhoff and HOLD checks of a set, given its sum and tags (R100). -/
def kclCheck (a : Fin 4) (clean hold : Bool) (sum : Int) (s : State) : State :=
  let bad := clean && decide ((s.fld (F.SNS_KCL_KCL_THR a) : Int) < sum.natAbs)
  let s := s.modSense a (fun n => { n with
    kcl := if bad then n.kcl + 1 else if clean then 0 else n.kcl,
    holdRun := if hold then n.holdRun + 1 else 0 })
  let n := s.sense.get a
  let s := if bad && decide (max 1 (s.fld (F.SNS_KCL_KCL_PERSIST a)) ≤ n.kcl) then
      headDoubt a 0 (s.setFlag (F.SNS_STAT_KCL a) true) else s
  if hold && decide (s.fld (F.SNS_KCL_HOLD_LIMIT a) < n.holdRun) then headDoubt a 1 (s.setFlag (F.SNS_STAT_HOLDX a) true)
  else s

/-- Delivers a set to the consumers (R101). -/
def deliverSet (a : Fin 4) (x : SampleSet) (s : State) : State :=
  let s := s.modSense a (fun n => { n with deliv := x, fresh := true })
  let s := s.each (List.range 3) (fun s l => s.setReg (R.SNS_I a l) (x.i.getD l 0))
  s.setReg (R.SNS_TAG a) x.tag

/-- The shared ADC has latched VBUS: the next enabled slow item begins (R95). -/
def vbusLatch (a : Fin 4) (v : BitVec 14) (s : State) : State :=
  let s := s.setFld (F.SNS_VBUS_CODE a) v.toNat
  let en := s.fld (F.SNS_CFG_SLOW_EN a)
  let k := (s.sense.get a).slowNext
  let next := [k % 3, (k + 1) % 3, (k + 2) % 3].find? (fun i => en.testBit i)
  s.modSense a (fun n => { n with
    conv := n.conv &&& 0b0111#4, slow := next.isSome, slowNow := next.getD n.slowNow })

/-- A set with SPEC cleared (R102). -/
def SampleSet.released (x : SampleSet) : SampleSet := { x with i := x.i.map (fun w => w &&& 0x7FFFFFFF#32) }

/-- The front end's part of the end of conversions of axis `a`: the shunt results `u`, `v`, `w` and the VBUS result
that are latched in this cycle (R93, R99 to R102). The Boolean tells that a set was delivered. -/
def convLatch (a : Fin 4) (u v w : Option LegSample) (vb : Option (BitVec 14)) (s : State) : State × Bool :=
  let n := s.sense.get a
  let s := match vb with
    | some b => if n.conv.getLsbD 3 then vbusLatch a b s else s
    | none => s
  if n.conv &&& 0b0111#4 = 0 ∨ (u.isNone ∧ v.isNone ∧ w.isNone) then (s, false)
  else
    let x := s.legCode a 0 u
    let y := s.legCode a 1 v
    let z := s.legCode a 2 w
    let r := s.makeSet a n.early x y z
    let sat := x.sat || y.sat || z.sat
    let win := x.win || y.win || z.win
    let s := if sat then s.setFlag (F.SNS_STAT_SAT a) true else s
    let s := if win then (s.setFlag (F.SNS_STAT_WIN a) true).bump (F.SNS_WINCNT_WIN a) 1 else s
    let s := if r.2.1 then s.bump (F.SNS_WINCNT_REC a) 1 else s
    let s := if r.2.2 then s.bump (F.SNS_WINCNT_HOLD a) 1 else s
    let next := n.early && (n.earlyOk.isNone || s.flag (F.PWM_LOAD_COMMITTED a))
    let set : SampleSet := ⟨r.1, word (s.fld (F.SNS_VBUS_CODE a)), s.sampleTag a next, n.mA, n.mB⟩
    let s := s.modSense a (fun n => { n with conv := n.conv &&& 0b1000#4, early := false, earlyOk := none })
    let s := if !n.early then deliverSet a set s
      else if n.earlyOk == some true then deliverSet a set.released s
      else
        let s := s.each (List.range 3) (fun s l => s.setReg (R.SNS_I a l) (set.i.getD l 0))
        if n.earlyOk.isNone then s.modSense a (fun n => { n with withheld := some set }) else s
    (kclCheck a (!win && !sat) r.2.2 (x.code + y.code + z.code) s, !n.early || n.earlyOk == some true)

/-- The commit window opens: a withheld set is delivered with SPEC cleared if the set whose trigger started it is the one
committed, and is discarded otherwise (R102); a sample still converting is judged and waits for its end.  `words` are the
words of the set taken, empty if none was.  The Boolean tells that a set was delivered. -/
def earlyRelease (a : Fin 4) (words : List Word) (s : State) : State × Bool :=
  let n := s.sense.get a
  let ok := n.earlySet == words
  let s := s.modSense a (fun n => { n with
    withheld := none, comSet := words, earlyOk := if n.early then some ok else none })
  match n.withheld with
  | none => (s, false)
  | some x => if ok then (deliverSet a x.released s, true) else (s, false)

/-! ## Command pin -/

/-- A valid measurement: VALUE and VALID, or one step of the recovery after LOS (R110). -/
def cmdValid (a : Fin 4) (v : Nat) (s : State) : State :=
  let n := s.sense.get a
  let los := n.cmd.getLsbD 30
  let r := n.recov + 1
  let back := !los || decide (s.fld (F.SNS_CMD_CFG_RECOVER a) ≤ r)
  let keepLos := los && !(back && (s.flag (F.SNS_CMD_CFG_AUTOREC a) || !s.flag (F.SNS_CMD_STAT_LOS a)))
  let valid := back || n.cmd.getLsbD 31
  s.modSense a (fun n => { n with
    recov := r, cmd := word (valid.toNat * 2 ^ 31 + keepLos.toNat * 2 ^ 30 + v % 65536) })

/-- A measurement outside its valid range: RANGE in the duty and frequency forms, and no other change but the end of a
recovery run (R111, R110). -/
def cmdInvalid (a : Fin 4) (range : Bool) (s : State) : State :=
  let s := s.modSense a (fun n => { n with recov := 0, cmd := if range then n.cmd ||| 0x20000000#32 else n.cmd })
  if range then s.setFlag (F.SNS_CMD_STAT_RANGE a) true else s

/-- A conversion of the analogue form (Table SNS-5). -/
def cmdCode (a : Fin 4) (c : BitVec 14) (s : State) : State :=
  let v := 4 * c.toNat
  if s.flag (F.SNS_CMD_CFG_LIVEZERO a)
      && !(decide (s.fld (F.SNS_CMD_RANGE_LO a) ≤ v) && decide (v ≤ s.fld (F.SNS_CMD_RANGE_HI a))) then
    cmdInvalid a false s
  else cmdValid a v s

/-- The frequency in 0.01 Hz of `n` periods in `span` LCLK cycles. -/
def freqOf (n span : Nat) : Nat := if span = 0 then 0 else 40000000000 * n / span

/-- VALUE of a frequency: f / FREQ_FS × 65 536, saturating. -/
def State.freqValue (s : State) (a : Fin 4) (n span : Nat) : Nat :=
  let fs := s.fld (F.SNS_CMD_FS_FREQ_FS a)
  if fs = 0 ∨ span = 0 then 65535 else min 65535 (40000000000 * n * 65536 / (span * fs))

/-- A completed measurement of the command pin in its form (R111). -/
def cmdMeasure (a : Fin 4) (m : CmdMeas) (s : State) : State :=
  let form := s.fld (F.SNS_CMD_CFG_FORM a)
  match m with
  | .code c => if form = 0 then cmdCode a c s else s
  | .duty high period =>
    if form ≠ 1 then s
    else if s.reg (R.SNS_CMD_PMIN a) ≤ word period && word period ≤ s.reg (R.SNS_CMD_PMAX a)
        && decide (period < 2 ^ 32) && decide (0 < period) then
      cmdValid a (min 65535 (65536 * high / period)) s
    else cmdInvalid a true s
  | .edge period at_ =>
    if form ≠ 2 then s
    else if s.fld (F.SNS_CMD_PMIN_PMIN a) ≤ period && decide (0 < period) then
      let n := s.sense.get a
      let s := s.modSense a (fun n => { n with fN := n.fN + 1, fSpan := n.fSpan + period, fAt := some at_, fAge := none })
      cmdValid a (s.freqValue a (n.fN + 1) (n.fSpan + period)) s
    else cmdInvalid a true s

/-- The delivery of the command at a schedule-period boundary (R107): the frequency form closes its count of periods,
or without a new edge lowers its frequency to one period in the time since the last. -/
def cmdDeliver (a : Fin 4) (s : State) : State :=
  let n := s.sense.get a
  let ts := s.fld F.PCR_SCHED_TS_LCLK
  let s :=
    if s.fld (F.SNS_CMD_CFG_FORM a) = 2 then
      if n.fN = 0 then
        match n.fAge with
        | none => s
        | some g =>
          let g := g + ts
          let f := min n.cmdFreq.toNat (freqOf 1 g)
          let v := min (bitsOf n.cmd.toNat 0 16) (s.freqValue a 1 g)
          s.modSense a (fun n => { n with
            fAge := some g, cmdFreq := word f, cmd := word (n.cmd.toNat / 65536 * 65536 + v) })
      else
        s.modSense a (fun n => { n with
          cmdFreq := word (freqOf n.fN n.fSpan), fN := 0, fSpan := 0,
          fAge := n.fAt.map (fun t => ts - t), fAt := none })
    else s
  let n := s.sense.get a
  (s.setReg (R.SNS_CMD_VAL a) n.cmd).setFld (F.SNS_CMD_FREQ_FREQ a) (min n.cmdFreq.toNat (2 ^ 25 - 1))

/-- The loss-of-signal timer has reached its limit (R108, R109): LOS with the last valid VALUE, and the controlled stop
at the next boundary.  The disabled form has no signal, and the analogue form loses it only with LIVEZERO. -/
def losSet (a : Fin 4) (s : State) : State :=
  let form := s.fld (F.SNS_CMD_CFG_FORM a)
  if form = 3 ∨ (form = 0 ∧ s.flag (F.SNS_CMD_CFG_LIVEZERO a) = false) then s
  else
    let s := s.modSense a (fun n => { n with recov := 0, cmd := (n.cmd &&& 0x2000FFFF#32) ||| 0x40000000#32 })
    raiseAx a Ev.los 0 (s.setFlag (F.SNS_CMD_STAT_LOS a) true)

/-- The host has cleared SNS_CMD_STAT.LOS: after a recovered command LOS ends (R110). -/
def losAck (a : Fin 4) (s : State) : State :=
  s.modSense a (fun n => { n with cmd := if n.cmd.getLsbD 31 then n.cmd &&& 0xBFFFFFFF#32 else n.cmd })

/-- The slow item of the shared ADC is latched (R95): NTC[0], NTC[1] with OPEN and SHORT, or the command pin. -/
def slowLatch (a : Fin 4) (c : BitVec 14) (s : State) : State :=
  let n := s.sense.get a
  if !n.slow then s
  else
    let s := s.modSense a (fun n => { n with slow := false, slowNext := (n.slowNow + 1) % 3 })
    if n.slowNow < 2 then
      let v := c.toNat
      let s := (s.setFld (F.SNS_NTC_CODE a n.slowNow) v).setFlag (F.SNS_NTC_OPEN a n.slowNow)
        (decide (s.fld (F.SNS_NTC_LIM_NTC_OPEN a) < v))
      s.setFlag (F.SNS_NTC_SHORT a n.slowNow) (decide (v < s.fld (F.SNS_NTC_LIM_NTC_SHORT a)))
    else cmdMeasure a (.code c) s

/-! ## Calibration and switch nodes -/

/-- A request for offset calibration: it runs only while all six gate outputs are low (R103). -/
def calRequest (a : Fin 4) (s : State) : State :=
  if s.gates a &&& 0x3F#8 = 0 then s.setFlag (F.SNS_CAL_BUSY a) true else s.setFlag (F.SNS_CAL_REJ a) true

/-- The sum of the codes of one leg at one gain, in the delivered sign. -/
def calSum (l : List (BitVec 14)) : Int := (l.map (fun c => -c.toInt)).foldl (· + ·) 0

/-- The mean of 64 codes as a whole code. -/
def calMean (l : List (BitVec 14)) : Int :=
  let n := calSum l
  if n % 64 = 0 then n / 64 else if Config.meanUp n then n / 64 + 1 else n / 64

/-- The checks of "Offset calibration": every conversion within 32 codes of the mean, the mean within 127. -/
def calOk (l : List (BitVec 14)) : Bool :=
  let n := calSum l
  l.all (fun c => decide ((64 * -c.toInt - n).natAbs ≤ 2048)) && decide ((calMean l).natAbs ≤ 127)

/-- Offset calibration ends (R103): `codes` are the 64 raw codes of each gain in order, three legs U, V, W per gain. -/
def calEnd (a : Fin 4) (codes : List (List (BitVec 14))) (s : State) : State :=
  if !s.flag (F.SNS_CAL_BUSY a) then s
  else
    let s := s.setFlag (F.SNS_CAL_BUSY a) false
    if codes.all calOk then
      s.each (List.range 3) (fun s l =>
        s.setReg (R.SNS_OFS a l) (word ((List.range 4).foldl (fun m g =>
          m + wrapBits 8 (calMean (codes.getD (3 * g + l) [])) * 2 ^ (8 * g)) 0)))
    else s.setFlag (F.SNS_CAL_REJ a) true

/-- A switch-node measurement that is missed (R106). -/
def swnMiss (a : Fin 4) (l : Fin 3) (lh : Bool) (s : State) : State :=
  s.setFlag (if lh then F.SNS_SWN_DLY_MISS_LH a l else F.SNS_SWN_DLY_MISS_HL a l) true

/-- A switch-node edge `d` LCLK cycles after its turn-off command: measured up to DLY_WIN (R106), and handed to the
dead-time adaptation (R125). -/
def swnEdge (a : Fin 4) (l : Fin 3) (lh : Bool) (d : Nat) (s : State) : State :=
  if s.fld (F.SNS_SWN_CFG_DLY_WIN a) < d then swnMiss a l lh s
  else
    let push (q : List (List Nat)) : List (List Nat) := q.set l.val ((d :: q.getD l.val []).take 8)
    if lh then
      ((s.setFlag (F.SNS_SWN_DLY_MISS_LH a l) false).setFld (F.SNS_SWN_DLY_DLY_LH a l) d).modPwm a
        (fun p => { p with dlyLH := push p.dlyLH })
    else
      ((s.setFlag (F.SNS_SWN_DLY_MISS_HL a l) false).setFld (F.SNS_SWN_DLY_DLY_HL a l) d).modPwm a
        (fun p => { p with dlyHL := push p.dlyHL })

end Sys2Proof.Machine
end

