-- ==== Sys2Proof/Machine/Head.lean ====
section
/-! DEFINITION. Headland (chapter 07): its EMF and HFI estimators (R145), convergence (R146), the handover between its
modes (R144), the high-frequency injection (R142), and the plausibility checks of Table SAF-3 that read the estimates. -/

namespace Sys2Proof.Machine

/-! ## Shared arithmetic -/

/-- The binary32 word of 2.0. -/
def fpTwo : Word := 0x40000000#32

/-- The binary32 word of 3.0. -/
def fpThree : Word := 0x40400000#32

/-- The binary32 word nearest to the square root of 3. -/
def fpSqrt3 : Word := 0x3FDDB3D7#32

/-- The binary32 word nearest to 65 536 / 2π (K_W). -/
def fpKW : Word := 0x4622F983#32

/-- CLARKE: (2·u − v − w) / 3 and (v − w) / √3 (chapter 08, "The block library"). -/
def clarke (u v w : Word) : Word × Word :=
  (fpDiv (fpSub (fpSub (fpMul fpTwo u) v) w) fpThree, fpDiv (fpSub v w) fpSqrt3)

/-- round() of chapter 07; the result for an infinity or a NaN is free (DESIGN CHOICE, log entry 17). -/
def fpRoundI (w : Word) : Int := (fpToInt? w).getD (Config.roundOf w)

/-- An angle word advanced by a rounded binary32 number of units, modulo 65 536. -/
def angleAdd (th : Nat) (w : Word) : Nat := wrapBits 16 (th + fpRoundI w)

/-- 10·|w| as `m · 2^e` with `n` on the other side of a comparison: true where `n ≤ 10·|w|`.  Speeds of the drive
registers are in units of 0.1 Hz. -/
def speedGe (w : Word) (n : Nat) : Bool :=
  if fpIsNaN w then false
  else if fpIsInf w then true
  else
    let m := 10 * fpMant w
    let e := fpExp w
    if 0 ≤ e then decide (n ≤ m * 2 ^ e.toNat) else decide (n * 2 ^ (-e).toNat ≤ m)

/-- 10·|w| ≤ `n`, for a speed of 0.1 Hz units. -/
def speedLe (w : Word) (n : Nat) : Bool :=
  if fpIsNaN w || fpIsInf w then false
  else
    let m := 10 * fpMant w
    let e := fpExp w
    if 0 ≤ e then decide (m * 2 ^ e.toNat ≤ n) else decide (m ≤ n * 2 ^ (-e).toNat)

/-- 10·|w| > `n`. -/
def speedGt (w : Word) (n : Nat) : Bool := !fpIsNaN w && !speedLe w n

/-- The signed difference of two angle words. -/
def angleDiff (x y : Nat) : Int := signedOf 16 (wrapBits 16 ((x : Int) - y))

/-! ## Motor constants -/

/-- T_pwm in seconds as binary32. -/
def State.tPwm (s : State) (a : Fin 4) : Word := fpOfRat (s.fld (F.PWM_PER_PER a)) 400000000

/-- KT = T_pwm × 65 536. -/
def State.hdlKT (s : State) (a : Fin 4) : Word := fpOfRat (65536 * s.fld (F.PWM_PER_PER a)) 400000000

/-- LT = L / T_pwm. -/
def State.hdlLT (s : State) (a : Fin 4) : Word := fpDiv (s.reg (R.HDL_L a)) (s.tPwm a)

/-! ## Mode and injection -/

/-- Headland of axis `a` is in EMF mode. -/
def State.emfMode (s : State) (a : Fin 4) : Bool := s.flag (F.HDL_STAT_MODE a)

/-- Headland's angle word. -/
def State.thH (s : State) (a : Fin 4) : Nat := if s.emfMode a then (s.head.get a).thE else (s.head.get a).thF

/-- Headland's speed. -/
def State.wH (s : State) (a : Fin 4) : Word := if s.emfMode a then (s.head.get a).wE else (s.head.get a).wF

/-- Injection is on (R142): Headland in HFI mode and the axis in START, RUN or RAMP. -/
def State.injOn (s : State) (a : Fin 4) : Bool :=
  let st := s.fld (F.LPE_DRV_STAT_STATE a)
  !s.emfMode a && (st == 6 || st == 7 || st == 8)

/-- The ramped injection amplitude in force, as a fraction of V_bus / 2 (R142). -/
def State.aInj (s : State) (a : Fin 4) : Word :=
  fpOfRat (s.fld (F.HDL_INJ_A_INJ a) * (s.head.get a).ramp) (65536 * max 1 (s.fld (F.HDL_INJ_RAMP_INJ_RAMP a)))

/-- The injection phase word, bits [31:16] of the accumulator. -/
def State.phInj (s : State) (a : Fin 4) : Nat := (s.head.get a).acc.toNat / 65536

/-! ## The estimators -/

/-- Headland's inputs of one period: currents in amperes and applied voltages. -/
structure HdlIn where
  iA : Word
  iB : Word
  vA : Word
  vB : Word
  deriving DecidableEq, Repr

/-- BRAKE_PAT is in force on axis `a`. -/
def State.brakePat (s : State) (a : Fin 4) : Bool := s.maskPat a == s.fld (F.LPE_DRV_CFG_BRAKE_PAT a)

/-- The inputs from the delivered sample set and the compare set under which its conversion ran. -/
def State.hdlIn (s : State) (a : Fin 4) : HdlIn :=
  let d := (s.sense.get a).deliv
  let i (l : Nat) : Word := fpOfInt (codeOf (d.i.getD l 0))
  let c := clarke (i 0) (i 1) (i 2)
  let g := bitsOf (d.i.getD 0 0).toNat 24 2
  let sc := fpDiv (s.reg (R.HDL_ILSB a)) (fpOfNat (2 ^ g))
  let vb := fpMul (fpOfNat (fieldGet d.vbus 0 14)) (s.reg (R.HDL_VLSB a))
  let v (m : Word) : Word := if s.brakePat a then 0 else fpDiv (fpMul m vb) fpTwo
  ⟨fpMul c.1 sc, fpMul c.2 sc, v d.mA, v d.mB⟩

/-- The estimates of one period and the two numbers that convergence reads: the state, E, and RES. -/
structure HdlOut where
  h   : HeadAx
  e   : Word
  res : Word
  deriving DecidableEq, Repr

/-- The EMF estimator of one period (chapter 07, "Headland's estimators"). -/
def State.emfStep (s : State) (a : Fin 4) (x : HdlIn) (h : HeadAx) : HdlOut :=
  let lt := s.hdlLT a
  let r := s.reg (R.HDL_R a)
  let lpf := s.reg (R.HDL_EMF_LPF a)
  let eA := fpSub (fpSub x.vA (fpMul r x.iA)) (fpMul lt (fpSub x.iA h.iA))
  let eB := fpSub (fpSub x.vB (fpMul r x.iB)) (fpMul lt (fpSub x.iB h.iB))
  let fA := fpFma lpf (fpSub eA h.eA) h.eA
  let fB := fpFma lpf (fpSub eB h.eB) h.eB
  let e := fpSqrt (fpAdd (fpMul fA fA) (fpMul fB fB))
  let p := fpSub (fpMul (fpNeg fA) (cosTab h.thE)) (fpMul fB (sinTab h.thE))
  let p := if fpLt h.wE 0 then fpNeg p else p
  let eps := fpDiv p (fpMax e (s.reg (R.HDL_E_MIN a)))
  let xE := fpFma (s.reg (R.HDL_KI_EMF a)) eps h.xE
  let wE := fpFma (s.reg (R.HDL_KP_EMF a)) eps xE
  ⟨{ h with eA := fA, eB := fB, xE := xE, wE := wE, thE := angleAdd h.thE (fpMul wE (s.hdlKT a)) }, e,
    fpMul (fpAbs eps) fpKW⟩

/-- The HFI estimator of one period, after the EMF estimator. -/
def State.hfiStep (s : State) (a : Fin 4) (x : HdlIn) (h : HeadAx) : HeadAx :=
  let iq := fpAdd (fpMul (fpNeg x.iA) (sinTab h.thF)) (fpMul x.iB (cosTab h.thF))
  let y := fpMul iq (sinTab ((s.phInj a + s.fld (F.HDL_DEMOD_DEMOD_PH a)) % 65536))
  let dem := fpFma (s.reg (R.HDL_HFI_LPF a)) (fpSub y h.dem) h.dem
  let h := { h with dem := dem }
  if s.injOn a then
    let eps := fpMul (s.reg (R.HDL_HFI_GAIN a)) dem
    let xF := fpFma (s.reg (R.HDL_KI_HFI a)) eps h.xF
    let wF := fpFma (s.reg (R.HDL_KP_HFI a)) eps xF
    { h with xF := xF, wF := wF, thF := angleAdd h.thF (fpMul wF (s.hdlKT a)) }
  else { h with thF := h.thE, xF := h.wE, wF := h.wE }

/-! ## Handover and plausibility -/

/-- The handover count of one period (R144); a refusal counts in HDL_STAT.REFUSE. -/
def handover (a : Fin 4) (s : State) : State :=
  let h := s.head.get a
  let np := max 1 (s.fld (F.HDL_HO2_HO_PERSIST a))
  let count (ok : Bool) (s : State) : State :=
    s.modHead a (fun h =>
      let n := if ok then h.hoRun + 1 else 0
      { h with hoRun := n, hoPend := decide (np ≤ n) })
  if s.emfMode a then count (speedLe (s.wH a) (s.fld (F.HDL_HO_HO_DN a))) s
  else
    let up := speedGe (s.wH a) (s.fld (F.HDL_HO_HO_UP a))
    let agree := decide ((angleDiff h.thE h.thF).natAbs ≤ s.fld (F.HDL_HO2_HO_AGREE a))
    let s := if up && !agree then s.bump (F.HDL_STAT_REFUSE a) 1 else s
    count (up && agree && s.flag (F.HDL_STAT_CONV a)) s

/-- The checks of Table SAF-3 on the estimates of one period: handover refusals, speed, and phase error. -/
def headChecks (a : Fin 4) (s : State) : State :=
  let lim := s.fld (F.HDL_HO2_HO_REFUSE_LIM a)
  let s := if lim ≠ 0 ∧ lim ≤ s.fld (F.HDL_STAT_REFUSE a) then headDoubt a 2 s else s
  let np := max 1 (s.fld (F.HDL_PL_HDL_PERSIST a))
  let wBad := speedGt (s.wH a) (s.fld (F.HDL_PL_HDL_WMAX a))
  let rBad := s.emfMode a && fpLt (fpOfNat (s.fld (F.HDL_PL2_RES_THR a))) (s.reg (R.HDL_RES a))
  let s := s.modHead a (fun h => { h with
    wmaxRun := if wBad then h.wmaxRun + 1 else 0, resRun := if rBad then h.resRun + 1 else 0 })
  let s := if wBad && decide (np ≤ (s.head.get a).wmaxRun) then headDoubt a 5 s else s
  if rBad && decide (np ≤ (s.head.get a).resRun) then headDoubt a 6 s else s

/-- Shows Headland's angle words. -/
def headShow (a : Fin 4) (s : State) : State :=
  let h := s.head.get a
  ((s.setFld (F.HDL_EST_THETA_E a) h.thE).setFld (F.HDL_EST_THETA_F a) h.thF).setFld (F.HDL_STAT_THETA a) (s.thH a)

/-- Headland's computation of one axis period, once, from the sample set delivered in it (R145). -/
def headCompute (a : Fin 4) (s : State) : State :=
  if (s.head.get a).ran || !s.axisConf a then s
  else
    let x := s.hdlIn a
    let o := s.emfStep a x (s.head.get a)
    let ok := fpLe (s.reg (R.HDL_E_MIN a)) o.e && fpLe o.res (fpOfNat (s.fld (F.HDL_CONV_CONV_THR a)))
    let h := s.hfiStep a x o.h
    let n := if ok then h.convRun + 1 else 0
    let s := s.modHead a (fun _ => { h with iA := x.iA, iB := x.iB, convRun := n, ran := true })
    let s := (s.setReg (R.HDL_RES a) o.res).setFlag (F.HDL_STAT_CONV a)
      (ok && decide (s.fld (F.HDL_CONV_CONV_N a) ≤ n))
    headChecks a (handover a (headShow a s))

/-! ## Load points and starts -/

/-- Headland's part of a load point: the mode change (R144), the amplitude ramp and the accumulator (R142). -/
def headLoad (a : Fin 4) (s : State) : State :=
  let h := s.head.get a
  let s := if h.hoPend then s.setFlag (F.HDL_STAT_MODE a) (!s.emfMode a) else s
  let on := s.injOn a
  let top := s.fld (F.HDL_INJ_RAMP_INJ_RAMP a)
  let s := s.modHead a (fun h => { h with
    hoRun := if h.hoPend then 0 else h.hoRun, hoPend := false, ran := false,
    ramp := if on then min top (h.ramp + 1) else h.ramp - 1,
    acc := h.acc + s.reg (R.HDL_INJ_INC a) })
  headShow a (s.setFlag (F.LPE_DRV_STAT_INJ_ON a) on)

/-- An axis start clears all Headland state and its angle words (R145). -/
def headStart (a : Fin 4) (s : State) : State :=
  let s := s.modHead a (fun h => { acc := h.acc })
  ((s.setReg (R.HDL_STAT a) 0).setReg (R.HDL_EST a) 0).setReg (R.HDL_RES a) 0

/-- CATCH seeds the EMF estimator with the centre of the tracker's sector and its speed ("Start policy"). -/
def headSeed (a : Fin 4) (s : State) : State :=
  let code := (s.scw.spin.get a).code
  let w := fpOfRat (s.fld (F.SCW_SPIN_SPD a)) 10
  let w := if s.fld (F.SCW_SPIN_DIR a) = 2 then fpNeg w else w
  s.modHead a (fun h => { h with thE := (Config.sectorAngle code).toNat, xE := w, wE := w })

end Sys2Proof.Machine
end

