-- ==== Sys2Proof/Machine/Sequencer.lean ====
section
/-! DEFINITION. The drive sequencer (chapter 07, Tables COM-1 and COM-2, R148 to R155): the SEQ block's evaluation of
one axis period, the decision of the committed pass (R165), DRV_MASK, and the load point at which a transition takes
effect. -/

namespace Sys2Proof.Machine

/-- What SEQ reads in one evaluation: the speed reference, the command flags VALID and LOS, the estimated speed, the
limit flag of MDL. -/
structure SeqIn where
  ref   : Word
  valid : Bool
  los   : Bool
  w     : Word
  vlim  : Bool
  deriving DecidableEq, Repr

/-- A start request (START_SRC; "The drive sequencer"). -/
def State.seqStart (s : State) (a : Fin 4) (x : SeqIn) : Bool :=
  if s.flag (F.LPE_DRV_CFG_START_SRC a) then x.valid && !x.los && fpLe (Config.refStart a) (fpAbs x.ref)
  else s.flag (F.LPE_DRV_CTRL_RUN a)

/-- A stop request: no start request, a reference below REF_STOP in CMD form, or LOS. -/
def State.seqStop (s : State) (a : Fin 4) (x : SeqIn) : Bool :=
  !s.seqStart a x || x.los || (s.flag (F.LPE_DRV_CFG_START_SRC a) && fpLt (fpAbs x.ref) (Config.refStop a))

/-- The demanded direction: the sign of the reference, 1 forward, 2 reverse; a reference of zero keeps the last one. -/
def demand (x : SeqIn) (dir : Nat) : Nat :=
  if fpLt 0 x.ref then 1 else if fpLt x.ref 0 then 2 else if dir = 0 then 1 else dir

/-- Enters state `st` with its counts at zero. -/
def SeqSt.go (q : SeqSt) (st : Nat) : SeqSt :=
  { state := st, fault := q.fault, decide := q.decide, dir := q.dir, brakeTo := q.brakeTo }

/-- A stop in START, CATCH or RUN by STOP_MODE (R153). -/
def State.seqStopPath (s : State) (a : Fin 4) (q : SeqSt) : SeqSt :=
  if s.flag (F.LPE_DRV_CFG_STOP_MODE a) then { q.go 4 with brakeTo := 9 } else q.go 8

/-- A reversal: above CATCH_SPD a brake, else START at once ("Braking by shorting the windings"). -/
def State.seqReverse (s : State) (a : Fin 4) (w : Word) (q : SeqSt) : SeqSt :=
  if speedLe w (s.fld (F.LPE_DRV_SPD_CATCH_SPD a)) then q.go 6 else { q.go 4 with brakeTo := 6 }

/-- Axis periods of `n` frames have passed. -/
def State.framesReached (s : State) (a : Fin 4) (n periods : Nat) : Bool :=
  decide (n * s.K * s.perPerStep a ≤ periods)

/-- ASSESS: Table COM-2 (R150). -/
def State.seqAssess (s : State) (a : Fin 4) (q : SeqSt) : SeqSt :=
  let d := s.fld (F.SCW_SPIN_DIR a)
  let spd := s.fld (F.SCW_SPIN_SPD a)
  let known := !s.flag (F.SCW_SPIN_HOLD a) && d != 3
  if !known && !s.framesReached a (s.fld (F.LPE_DRV_TIME_ASSESS_TMAX a)) q.periods then q
  else
    let take (row st : Nat) : SeqSt := { q.go st with decide := row, brakeTo := 6, seed := st == 5 }
    if !known || d = 0 then take 1 6
    else if d = q.dir then
      if spd = 0 then take 2 4
      else if spd < s.fld (F.LPE_DRV_SPD_CATCH_SPD a) then take 3 6
      else if spd < s.fld (F.HDL_HO_HO_UP a) then take 4 4
      else take 5 5
    else if spd ≤ s.fld (F.LPE_DRV_SPD_BRAKE_MAX a) then take 6 4
    else take 7 3

/-- The α and β currents of the delivered set, in codes. -/
def State.codesAB (s : State) (a : Fin 4) : Word × Word :=
  let d := (s.sense.get a).deliv
  let i (l : Nat) : Word := fpOfInt (codeOf (d.i.getD l 0))
  clarke (i 0) (i 1) (i 2)

/-- BRAKE in one period (R151). -/
def State.seqBrake (s : State) (a : Fin 4) (stop : Bool) (q : SeqSt) : SeqSt :=
  let w := s.wH a
  let i := s.codesAB a
  let mag := fpSqrt (fpAdd (fpMul i.1 i.1) (fpMul i.2 i.2))
  let slow := speedLe w (s.fld (F.LPE_DRV_SPD_CATCH_SPD a))
  let small := fpLe mag (fpOfNat (s.fld (F.LPE_DRV_IEND_I_END a)))
  let fast := speedGt w (s.fld (F.LPE_DRV_SPD_BRAKE_MAX a))
  let q := { q with
    slowRun := if slow then q.slowRun + 1 else 0,
    currRun := if small then q.currRun + 1 else 0,
    overRun := if fast then q.overRun + 1 else 0 }
  let n := max 1 (s.fld (F.LPE_DRV_TIME_BRK_PERSIST a))
  if n ≤ q.slowRun ∨ n ≤ q.currRun then
    (if q.brakeTo = 9 then q.go 9 else if stop then q.go 1 else q.go 6)
  else if n ≤ q.overRun then q.go 3
  else if s.framesReached a (s.fld (F.LPE_DRV_TIME_BRK_TMAX a)) q.periods then { q.go 10 with fault := 1 }
  else q

/-- START in one period: the polarity test ("Start policy"). -/
def State.seqPolarity (s : State) (a : Fin 4) (q : SeqSt) : SeqSt :=
  let half := s.fld (F.LPE_DRV_POL_POL_N a) / 2
  let i := s.codesAB a
  let th := (s.head.get a).thF
  let d := fpRoundI (fpAdd (fpMul i.1 (cosTab th)) (fpMul i.2 (sinTab th)))
  let q :=
    if q.periods ≤ half then { q with peakP := if q.periods = 1 then d else max q.peakP d }
    else if q.periods ≤ 2 * half then { q with peakN := if q.periods = half + 1 then -d else max q.peakN (-d) }
    else q
  if 2 * half ≤ q.periods then
    let asym := q.peakP - q.peakN
    let least : Int := s.fld (F.LPE_DRV_POL_POL_MIN a)
    if least ≤ asym then q.go 7
    else if least ≤ -asym then { q.go 7 with flip := true }
    else { q.go 10 with fault := 3 }
  else q

/-- One evaluation of the sequencer from the state in force: Table COM-1. -/
def State.seqStep (s : State) (a : Fin 4) (x : SeqIn) (q0 : SeqSt) : SeqSt :=
  let q := { q0 with periods := q0.periods + 1, seed := false, flip := false, preset := false }
  let start := s.seqStart a x
  let stop := s.seqStop a x
  let dmd := demand x q.dir
  let turned := dmd != q.dir
  let q := if 2 ≤ q.state ∧ q.state ≤ 9 then { q with dir := dmd } else q
  match q0.state with
  | 0 => if s.offCause a then q else q.go 1
  | 1 =>
    if start && !stop && !(s.loop.get a).needAbsent then
      s.seqAssess a { { q.go 2 with dir := dmd } with periods := 1 }
    else q
  | 2 => s.seqAssess a q
  | 3 =>
    if s.fld (F.SCW_SPIN_SPD a) ≤ s.fld (F.LPE_DRV_SPD_BRAKE_MAX a) then q.go 2
    else if s.framesReached a (s.fld (F.LPE_DRV_TIME2_WAIT_TMAX a)) q.periods then { q.go 10 with fault := 2 }
    else q
  | 4 => s.seqBrake a stop q
  | 5 =>
    if stop then s.seqStopPath a q
    else if turned then s.seqReverse a x.w q
    else if s.fld (F.LPE_DRV_TIME2_CATCH_LOCK a) ≤ q.periods then
      (if s.flag (F.HDL_STAT_CONV a) then { q.go 7 with preset := true } else { q.go 4 with brakeTo := 6 })
    else q
  | 6 => if stop then s.seqStopPath a q else s.seqPolarity a q
  | 7 =>
    if stop then s.seqStopPath a q
    else if turned then s.seqReverse a x.w q
    else q
  | 8 =>
    if start && !stop then (if turned then s.seqReverse a x.w q else q.go 7)
    else if speedLe x.w (s.fld (F.LPE_DRV_SPD_CATCH_SPD a)) then q.go 9
    else q
  | 9 => if s.fld (F.LPE_DRV_TIME2_BRK_HOLD a) ≤ q.periods then q.go 1 else q
  | _ => if (s.loop.get a).ack then { q.go 1 with fault := 0 } else q

/-- SEQ's speed reference: the reference in RUN, Headland's speed in CATCH, else 0; while the limiter is active its
magnitude is at most the reached speed (R141). -/
def State.seqRef (s : State) (a : Fin 4) (x : SeqIn) (st : Nat) : Word :=
  let r := if st = 7 then x.ref else if st = 5 then s.wH a else 0
  if x.vlim && fpLt (fpAbs x.w) (fpAbs r) then fpAbs x.w ||| (r &&& 0x80000000#32) else r

/-- The polarity test's voltage in the period, as a fraction of V_bus / 2 along Headland's d axis; none outside it. -/
def State.polVolt (s : State) (a : Fin 4) (q0 : SeqSt) : Option Word :=
  let half := s.fld (F.LPE_DRV_POL_POL_N a) / 2
  let amp := fpOfRat (s.fld (F.LPE_DRV_POL_POL_AMP a)) 4096
  if q0.state = 6 then
    if q0.periods + 1 ≤ half then some amp
    else if q0.periods + 1 ≤ 2 * half then some (fpNeg amp)
    else none
  else none

/-! ## Decision, DRV_MASK, load point -/

/-- The mask pattern of a drive state (Table COM-1). -/
def State.patOf (s : State) (a : Fin 4) (st : Nat) : Nat :=
  if st = 4 ∨ st = 9 then s.fld (F.LPE_DRV_CFG_BRAKE_PAT a)
  else if st = 5 ∨ st = 6 ∨ st = 7 ∨ st = 8 then s.fld (F.LPE_DRV_CFG_RUN_PAT a)
  else s.fld (F.LPE_DRV_CFG_OFF_PAT a)

/-- The state in force of axis `a`'s sequencer. -/
def State.seqNow (s : State) (a : Fin 4) : SeqSt := (s.loop.get a).start.seq

/-- Stores the decision that takes effect at the next load point, and what DRV_MASK has to raise (R148). -/
def seqDecide (a : Fin 4) (q : SeqSt) (s : State) : State :=
  let pat := s.patOf a q.state
  s.modLoop a (fun l => { l with
    next := some q, patPend := if l.patLast = some pat then none else some pat })

/-- LOS before a schedule-period boundary stops the axis from that boundary (R109, R153). -/
def seqLos (a : Fin 4) (s : State) : State :=
  let l := s.loop.get a
  let q := l.next.getD l.start.seq
  let last := decide (s.perPerStep a ≤ (s.pwm.get a).perIdx + 1)
  if last && (s.sense.get a).cmd.getLsbD 30 && (q.state == 5 || q.state == 6 || q.state == 7) && !s.offCause a then
    seqDecide a (s.seqStopPath a q) s
  else s

/-- DRV_MASK[a] in LCLK cycle PWM_PER − 2: the pattern of the decision, if it changes (R148). -/
def drvMask (a : Fin 4) (s : State) : State :=
  if s.halted a || !s.axisRuns a then s
  else
    let s := seqLos a (s.setFld (F.PWM_CNT_CNT a) (s.per a - 2))
    match (s.loop.get a).patPend with
    | none => s
    | some p => raiseAx a Ev.drvMask p (s.modLoop a (fun l => { l with patPend := none, patLast := some p }))

/-- Shows the sequencer's state. -/
def seqShow (a : Fin 4) (s : State) : State :=
  let q := s.seqNow a
  let s := (s.setFld (F.LPE_DRV_STAT_STATE a) q.state).setFld (F.LPE_DRV_STAT_FAULT a) q.fault
  (s.setFld (F.LPE_DRV_STAT_DECIDE a) q.decide).setFld (F.LPE_DRV_STAT_DIR a) q.dir

/-- A sequencer that leaves a state with every output low for one that switches begins with an empty list of measured
delays (R125). -/
def delaysClear (a : Fin 4) (s : State) : State :=
  s.modPwm a (fun p => { p with dlyHL := [[], [], []], dlyLH := [[], [], []] })

/-- The load point at which the decision takes effect (R148): the seed of CATCH, the half turn of the polarity test. -/
def seqLoad (a : Fin 4) (s : State) : State :=
  match (s.loop.get a).next with
  | none => s
  | some q =>
    let was := s.patOf a (s.seqNow a).state
    let s := s.modLoop a (fun l => { l with
      next := none, ack := if q.state = 10 then l.ack else false, start := { l.start with seq := q } })
    let s := if q.seed then headSeed a s else s
    let s := if q.flip then s.modHead a (fun h => { h with thF := (h.thF + 0x8000) % 65536 }) else s
    let off := s.fld (F.LPE_DRV_CFG_OFF_PAT a)
    let s := if was = off ∧ s.patOf a q.state ≠ off then delaysClear a s else s
    seqShow a s

/-- LPE_DRV_CTRL.ACK: FAULT is left for IDLE. -/
def drvAck (a : Fin 4) (s : State) : State :=
  if (s.seqNow a).state = 10 then s.modLoop a (fun l => { l with ack := true }) else s

end Sys2Proof.Machine
end

