-- ==== Sys2Proof/Machine/Loop.lean ====
section
/-! DEFINITION. The Loop Engine (chapter 08): input signals (Table LPE-2), the block library (Table LPE-1) with the
clamp stage of chapter 11, the passes O and H (R161), what they raise (R158 to R160, R170, R171, R218), the commit
selection with its state handover (R165), the coefficient banks (R167 to R169), and the capture (R173). -/

namespace Sys2Proof.Machine

/-! ## Conversion to an angle word (R172) -/

/-- The FP32 values nearest to B1, B3, B5, B7 and B9. -/
def atanB : List Word :=
  [fpOfRat 10428981 1000, fpNeg (fpOfRat 3445149 1000), fpOfRat 1878939 1000, fpNeg (fpOfRat 887969 1000),
   fpOfRat 217318 1000]

/-- An angle word and every operation's result on the way to it, from sine `sn` and cosine `cs` (R172). -/
def atanWord (sn cs : Word) : Nat × List Word :=
  let ax := fpAbs cs
  let ay := fpAbs sn
  let b (k : Nat) : Word := atanB.getD k 0
  if fpIsNaN sn || fpIsNaN cs then (0, [fpNaN sn cs 0])
  else if fpIsZero ax && fpIsZero ay then (0, [])
  else
    let noswap := fpLe ay ax
    let t := if noswap then fpDiv ay ax else fpDiv ax ay
    let z := fpMul t t
    let p1 := fpFma z (b 4) (b 3)
    let p2 := fpFma z p1 (b 2)
    let p3 := fpFma z p2 (b 1)
    let p4 := fpFma z p3 (b 0)
    let a0 := fpMul t p4
    let a1 := if noswap then a0 else fpSub (fpOfNat 16384) a0
    let a2 := if fpSign cs then fpSub (fpOfNat 32768) a1 else a1
    let a3 := if fpSign sn then fpSub (fpOfNat 65536) a2 else a2
    (wrapBits 16 ((fpToInt? a3).getD 0), [t, z, p1, p2, p3, p4, a0, a1, a2, a3])

/-! ## Graph entries -/

/-- A graph entry (Table LPE-3). -/
structure GraphEntry where
  typ : Nat
  ins : List Nat
  out : Nat
  coef : Nat
  st  : Nat
  lim : Nat
  deriving DecidableEq, Repr

/-- Entry `b` of the graph of axis `a`. -/
def State.graphEntry (s : State) (a : Fin 4) (b : Nat) : GraphEntry :=
  let w (k : Nat) : Word := s.reg (R.LPE_GRAPH a (4 * b + k))
  { typ := fieldGet (w 0) 0 8,
    ins := [fieldGet (w 0) 16 8, fieldGet (w 0) 24 8, fieldGet (w 1) 0 8, fieldGet (w 1) 8 8],
    out := fieldGet (w 1) 16 8, coef := fieldGet (w 1) 24 8,
    st := fieldGet (w 2) 0 8, lim := fieldGet (w 2) 16 16 }

/-- Coefficient word `k` of the active bank. -/
def State.coef (s : State) (a : Fin 4) (k : Nat) : Word :=
  if s.flag (F.LPE_BANK_CTRL_ACTIVE a) then s.reg (R.LPE_BANK_B a k) else s.reg (R.LPE_BANK_A a k)

/-! ## Passes -/

/-- What DUTY places: RISE and FALL of UH, VH and WH, and the modulation components. -/
structure DutySet where
  rise : List Word
  fall : List Word
  mA   : Word
  mB   : Word
  deriving DecidableEq, Repr

/-- A pass on its way through the graph: the signal memory, the state set, DUTY's set, and whether it has ended. -/
structure Pass where
  o     : Bool
  sigs  : SMap Word
  st    : PassSt
  set   : Option DutySet
  ended : Bool
  deriving DecidableEq, Repr

/-- What one block did: its output words, every result of an operation in it, the state set, whether its clip took
effect (R170), whether the angles disagree too long (R171), the words it hit (R217), what DUTY places, and whether SEQ
saw no start request (R269). -/
structure Blk where
  outs : List Word
  tr   : List Word
  st   : PassSt
  sat  : Bool := false
  dis  : Bool := false
  hits : List Nat := []
  set  : Option DutySet := none
  noReq : Bool := false
  deriving DecidableEq, Repr

/-- State word `k` of a state set. -/
def PassSt.w (p : PassSt) (k : Nat) : Word := SMap.get 0 p.words (k % 256)

/-- Stores a state word. -/
def PassSt.setW (p : PassSt) (k : Nat) (v : Word) : PassSt := { p with words := SMap.put 0 p.words (k % 256) v }

/-- The input signals of Table LPE-2 by word number. -/
def State.inputSignals (s : State) (a : Fin 4) (o : Bool) : List Word :=
  let d := (s.sense.get a).deliv
  let i (l : Nat) : Word := fpOfInt (codeOf (d.i.getD l 0))
  let slow (k : Nat) : Nat := (s.det.get a).slow.getD k 0
  let cmd := slow 2
  let own (j : Nat) : Int := signedOf 16 (s.fld (F.OBS_RAW_RAW a j))
  let raw (j : Nat) : Word := fpOfInt (((s.obs.get a).shared.getD j none).getD (own j))
  let sub (j : Nat) : Word := s.reg (R.LPE_SUBST a j)
  let th := s.thH a
  let est := if o then (List.range 8).map raw
    else [sinTab th, cosTab th, s.wH a, fpOne, sub 0, sub 1, sub 2, sub 3]
  [i 0, i 1, i 2, fpOfNat (fieldGet d.vbus 0 14), fpOfNat (slow 0), fpOfNat (slow 1),
    fpOfNat (bitsOf cmd 0 16),
    fpOfNat (bitsOf cmd 31 1 + 2 * bitsOf cmd 30 1 + 4 * bitsOf cmd 29 1)]
  ++ est
  ++ [fpOfNat th, s.wH a, (if s.emfMode a then fpOne else 0), (s.head.get a).dem,
    fpOfNat (slow 4), fpOfNat (slow 3), fpOfNat (s.pwm.get a).perIdx]

/-- Signal word `k` of a pass. -/
def Pass.sig (p : Pass) (k : Nat) : Word := SMap.get 0 p.sigs k

/-- Input `j` of entry `e`; an unused one reads as 0. -/
def Pass.inp (p : Pass) (e : GraphEntry) (j : Nat) : Word :=
  let k := e.ins.getD j 0xFF
  if k = 0xFF then 0 else p.sig k

/-- An angle-word input. -/
def angleIn (w : Word) : Nat := wrapBits 16 ((fpToInt? w).getD 0)

/-- The sign of a number: -1, 0 or 1; 0 of a NaN. -/
def fpSgn (w : Word) : Int := if fpLt 0 w then 1 else if fpLt w 0 then -1 else 0

/-- `min(|ref|, |w|)` with the sign of `ref` (R141). -/
def followRef (ref w : Word) : Word := if fpLt (fpAbs w) (fpAbs ref) then fpAbs w ||| (ref &&& 0x80000000#32) else ref

/-- PI and SPEED (chapter 08, "The block library"): with the hold, and the integrator of the start. -/
def piBlock (ref meas kp kit lo hi i0 : Word) (hold : Bool) (st : Nat) (p : PassSt) : Blk :=
  let e := fpSub ref meas
  let u := fpFma kp e i0
  let y := fpClamp u lo hi
  let sat := !fpEq u y
  let d := fpSub u y
  let n := fpFma kit e i0
  let upd := !hold && !(sat && fpSgn e == fpSgn d)
  let i1 := if upd then fpClamp n lo hi else i0
  { outs := [y], tr := [e, u] ++ (if sat then [d] else []) ++ (if upd then [n] else []),
    st := p.setW st i1, sat := sat }

/-- BIQUAD in transposed direct form II. -/
def biquadBlock (x b0 b1 b2 a1 a2 : Word) (st : Nat) (p : PassSt) : Blk :=
  let s2 := p.w (st + 1)
  let y := fpFma b0 x (p.w st)
  let t := fpFma (fpNeg a1) y s2
  let n1 := fpFma b1 x t
  let m := fpMul (fpNeg a2) y
  let n2 := fpFma b2 x m
  { outs := [y], tr := [y, t, n1, m, n2], st := (p.setW st n1).setW (st + 1) n2 }

/-- M_REQ of a requested depth (Table COM-5): in Q16; what its bits cannot hold exactly is free (DESIGN CHOICE, log entry 29). -/
def depthQ16 (m : Word) : Nat :=
  let e := fpExp m + 16
  let q := if 0 ≤ e then fpMant m * 2 ^ e.toNat else fpMant m / 2 ^ (-e).toNat
  let exact := decide (0 ≤ e) || fpMant m % 2 ^ (-e).toNat == 0
  let v := if exact || !Config.depthUp m then q else q + 1
  if fpIsFinite m && (!fpSign m || fpIsZero m) && decide (v < 2 ^ 16) then v else (Config.depthWide m).toNat

/-- MDL (R140). -/
def State.mdlBlock (s : State) (a : Fin 4) (vd vq coef vbus : Word) (p : PassSt) : Blk :=
  let h := fpMul vbus fpHalf
  let q := fpAdd (fpMul vd vd) (fpMul vq vq)
  let r := fpSqrt q
  let m := fpDiv r h
  let l0 := fpSub (fpMin coef (fpOfRat (s.fld (F.SNS_MLIM_MLIM a)) 65536)) (s.aInj a)
  let l := fpMax l0 0
  let act := fpLt l m
  let k := fpDiv l m
  let sat := fpLt (fpAdd l (fpOfRat (s.fld (F.LPE_DRV_MDL_MDL_MARGIN a)) 65536)) m
  let outs := if act then [fpMul vd k, fpMul vq k, m] else [vd, vq, m]
  { outs := outs, tr := [h, q, r, m, l0, l] ++ (if act then [k] else []) ++ outs,
    st := { p with vlim := act, mreq := depthQ16 m }, sat := sat }

/-- The current-sample trigger of axis `a`: the first whose event is routed to a shunt converter's start. -/
def State.curTrig (s : State) (a : Fin 4) : Nat :=
  ((List.range 4).find? (fun n => s.routes.any (fun r =>
    r.en && r.src == 0x20 * a.val + Ev.trig n && decide (0x10 * a.val ≤ r.dst ∧ r.dst < 0x10 * a.val + 3)))).getD 0

/-- The position of the current-sample trigger in LCLK cycles from the load point, before it for a PRE trigger. -/
def State.trigAt (s : State) (a : Fin 4) : Int :=
  let w := s.reg (R.PWM_TRIG a (s.curTrig a))
  let pos : Int := fieldGet w 0 24
  if w.getLsbD 30 then -pos else pos

/-- The anchor A in fine units (chapter 05), from the current-sample trigger of the axis. -/
def State.anchor (s : State) (a : Fin 4) : Nat :=
  let per : Int := 32 * max 1 (s.fld (F.PWM_PER_PER a))
  ((32 * s.trigAt a - s.fld (F.PWM_DT_CFG_DT_MAX a) - 32 * tSettle (s.fld (F.SNS_CFG_GAIN a))) % per).toNat

/-- A compare word of `t` fine units. -/
def compareWord (t : Nat) : Word := word (t / 32 + t % 32 * 2 ^ 24)

/-- RISE and FALL of a duty of `c` fine units (R139): a full duty is high from the load point on, a duty of zero never
is. -/
def placeDuty (per anchor : Nat) (c : Int) : Word × Word :=
  let n : Int := 32 * per
  if n ≤ c then (0#32, 0x00FFFFFF#32)
  else
    let c := max c 0
    (compareWord (((anchor : Int) - c) % n).toNat, compareWord anchor)

/-- DUTY (R137, R139). -/
def State.dutyBlock (s : State) (a : Fin 4) (vA vB vbus : Word) (p : PassSt) : Blk :=
  let per := s.fld (F.PWM_PER_PER a)
  let h := fpMul vbus fpHalf
  let half3 := fpMul fpSqrt3 fpHalf
  let x := fpMul (fpNeg fpHalf) vA
  let y := fpMul half3 vB
  let mU := fpDiv vA h
  let mB := fpDiv vB h
  let mV := fpDiv (fpAdd x y) h
  let mW := fpDiv (fpSub x y) h
  let d (m : Word) : Word := fpMul fpHalf (fpAdd fpOne m)
  let units (m : Word) : Word := fpMul (fpMul (d m) (fpOfNat 32)) (fpOfNat per)
  let ds := [mU, mV, mW].map units
  let pl := ds.map (fun u => placeDuty per (s.anchor a) (match fpToInt? u with
    | some v => v
    | none => if fpSign u then 0 else 32 * per))
  { outs := [], tr := [h, x, y, mU, mB, mV, mW] ++ ds, st := p,
    set := some ⟨pl.map Prod.fst, pl.map Prod.snd, mU, mB⟩ }

/-- ESTSEL (R171, R172). -/
def State.estselBlock (s : State) (a : Fin 4) (o : Bool) (sn cs w : Word) (st : Nat) (p : PassSt) : Blk :=
  let t := atanWord sn cs
  let kadv := fpOfRat (s.fld (F.LPE_DRV_ADV_ADV a) * s.fld (F.PWM_PER_PER a) * 256) 400000000
  let adv := fpMul w kadv
  let th := wrapBits 16 (t.1 + (fpToInt? adv).getD (Config.roundOf adv))
  let n := if s.fld (F.LPE_EST_CMP_DIS_THR a) < (angleDiff t.1 (s.thH a)).natAbs then (p.w st).toNat + 1 else 0
  let p' := if o then p.setW st (word n) else p
  { outs := [fpOfNat th, w], tr := t.2 ++ [adv], st := p',
    dis := o && decide (s.fld (F.LPE_EST_CMP_DIS_PERSIST a) < n) }

/-- STEP_MAX: ⌈W_MAX × T_pwm × 65 536⌉ (chapter 11). -/
def State.stepMax (s : State) (a : Fin 4) : Nat :=
  let w := s.reg (R.OBS_WMAX a)
  let m := fpMant w * s.fld (F.PWM_PER_PER a) * 65536
  let e := fpExp w
  let num := if 0 ≤ e then m * 2 ^ e.toNat else m
  let den := 400000000 * (if 0 ≤ e then 1 else 2 ^ (-e).toNat)
  if fpIsFinite w && !fpSign w then (num + den - 1) / den else 0

/-- OBSCLAMP in pass H (R219). -/
def State.clampH (s : State) (a : Fin 4) (ws : List Word) (p : PassSt) : Blk :=
  { outs := ws, tr := [], st := { p with clamp := { p.clamp with
      theta := s.thH a, tset := [false, false, false] } } }

/-- One value of a clamp step and whether it changed. -/
def clampHit (x lo hi : Word) : Word × Bool := let y := fpClamp x lo hi; (y, !fpIsNaN x && !fpEq x y)

/-- OBSCLAMP in pass O: Table OBS-3 (R214 to R217). -/
def State.clampO (s : State) (a : Fin 4) (ws : List Word) (p : PassSt) : Blk :=
  let c := p.clamp
  let sc := (List.range 8).map (fun j => fpFma (ws.getD j 0) (s.reg (R.OBS_SCALE a j)) (s.reg (R.OBS_OFFSET a j)))
  let v (j : Nat) : Word := sc.getD j 0
  let wm := s.reg (R.OBS_WMAX a)
  let w2 := clampHit (v 2) (fpNeg wm) wm
  let w3 := clampHit (v 3) 0 fpOne
  let q := fpAdd (fpMul (v 0) (v 0)) (fpMul (v 1) (v 1))
  let n := fpSqrt q
  let low := fpLt n (s.reg (R.OBS_NMIN a))
  let u0 := if low then v 0 else fpDiv (v 0) n
  let u1 := if low then v 1 else fpDiv (v 1) n
  let at_ := if low then (c.theta, []) else atanWord u0 u1
  let d := angleDiff at_.1 c.theta
  let sm := s.fld (F.OBS_CTRL_STEP_MAX a)
  let far := decide (sm < d.natAbs)
  let th := if far then wrapBits 16 (if 0 < d then (c.theta : Int) + sm else (c.theta : Int) - sm) else at_.1
  let acted := low || far
  let s0 := if acted then sinTab th else u0
  let s1 := if acted then cosTab th else u1
  let tm (k : Nat) : Word × Bool × List Word :=
    let x := clampHit (v (4 + k)) (s.reg (R.OBS_TLO a k)) (s.reg (R.OBS_THI a k))
    if c.tset.getD k false then
      let r := c.tref.getD k 0
      let lo := fpSub r (s.reg (R.OBS_TRATE a k))
      let hi := fpAdd r (s.reg (R.OBS_TRATE a k))
      let y := clampHit x.1 lo hi
      (y.1, x.2 || y.2, [lo, hi])
    else (x.1, x.2, [])
  let tmx := s.reg (R.OBS_TMAX a)
  let w7 := clampHit (v 7) (fpNeg tmx) tmx
  let ts := (List.range 3).map tm
  let hit := [acted, false, w2.2, w3.2] ++ ts.map (fun t => t.2.1) ++ [w7.2]
  { outs := [s0, s1, w2.1, w3.1] ++ ts.map (fun t => t.1) ++ [w7.1],
    tr := sc ++ [q, n, u0, u1] ++ at_.2 ++ ts.flatMap (fun t => t.2.2),
    st := { p with clamp := ⟨th, ts.map (fun t => t.1), [true, true, true],
      (List.range 8).map (fun j => c.hits.getD j 0 + (hit.getD j false).toNat)⟩ },
    hits := (List.range 8).filter (fun j => hit.getD j false) }

/-- OBSCLAMP; its hit counts restart in the first axis period of a frame (R217). -/
def State.clampBlock (s : State) (a : Fin 4) (x : Pass) : Blk :=
  let ws := (List.range 8).map (fun j => x.sig (0x08 + j))
  let p := if s.atFrame && (s.pwm.get a).perIdx == 0 then
      { x.st with clamp := { x.st.clamp with hits := List.replicate 8 0 } }
    else x.st
  if x.o then s.clampO a ws p else s.clampH a ws p

/-- SEQ (chapter 07): the speed reference and the state in force. -/
def State.seqBlock (s : State) (a : Fin 4) (ref flags w : Word) (p : PassSt) : Blk :=
  let f := ((fpToInt? flags).getD 0).toNat
  let x : SeqIn := ⟨ref, f.testBit 0, f.testBit 1, w, p.vlim⟩
  let q0 := s.seqNow a
  { outs := [s.seqRef a x q0.state, fpOfNat q0.state], tr := [], st := { p with seq := s.seqStep a x q0 },
    noReq := !s.seqStart a x }

/-- INJ: the injected voltage, and the polarity test's, along Headland's angle (step 4). -/
def State.injBlock (s : State) (a : Fin 4) (vA vB vbus : Word) (p : PassSt) : Blk :=
  let h := fpMul vbus fpHalf
  let m := fpMul (s.aInj a) h
  let v0 := fpMul m (sinTab (s.phInj a))
  let pol := (s.polVolt a (s.seqNow a)).map (fun d => fpMul d h)
  let v := match pol with
    | some d => fpAdd v0 d
    | none => v0
  let th := s.thH a
  let outs := [fpFma v (cosTab th) vA, fpFma v (sinTab th) vB]
  { outs := outs, tr := [h, m, v0, v] ++ pol.toList ++ outs, st := p }

/-- The block of entry `e` (Table LPE-1). -/
def State.block (s : State) (a : Fin 4) (e : GraphEntry) (x : Pass) : Blk :=
  let i (j : Nat) : Word := x.inp e j
  let b (k : Nat) : Word := s.coef a (e.coef + k)
  let p := x.st
  match e.typ with
  | 0x01 =>
    let c := clarke (i 0) (i 1) (i 2)
    { outs := [c.1, c.2], tr := [fpSub (i 1) (i 2), fpSub (fpSub (fpMul fpTwo (i 0)) (i 1)) (i 2)], st := p }
  | 0x02 =>
    let th := angleIn (i 2)
    let m := [fpMul (i 0) (cosTab th), fpMul (i 1) (sinTab th), fpMul (i 1) (cosTab th), fpMul (i 0) (sinTab th)]
    { outs := [fpAdd (m.getD 0 0) (m.getD 1 0), fpSub (m.getD 2 0) (m.getD 3 0)], tr := m, st := p }
  | 0x03 =>
    let th := angleIn (i 2)
    let m := [fpMul (i 0) (cosTab th), fpMul (i 1) (sinTab th), fpMul (i 0) (sinTab th), fpMul (i 1) (cosTab th)]
    { outs := [fpSub (m.getD 0 0) (m.getD 1 0), fpAdd (m.getD 2 0) (m.getD 3 0)], tr := m, st := p }
  | 0x04 => piBlock (i 0) (i 1) (b 0) (b 1) (b 2) (b 3) (p.w e.st) (!fpIsZero (i 2)) e.st p
  | 0x05 => biquadBlock (i 0) (b 0) (b 1) (b 2) (b 3) (b 4) e.st p
  | 0x06 =>
    let y := fpClamp (i 0) (b 0) (b 1)
    { outs := [y], tr := [], st := p, sat := !fpEq (i 0) y }
  | 0x07 =>
    let lo := fpSub (p.w e.st) (b 1)
    let hi := fpAdd (p.w e.st) (b 0)
    let y := fpClamp (i 0) lo hi
    { outs := [y], tr := [lo, hi], st := p.setW e.st y, sat := !fpEq (i 0) y }
  | 0x08 => s.estselBlock a x.o (i 0) (i 1) (i 2) e.st p
  | 0x09 => s.mdlBlock a (i 0) (i 1) (b 0) (x.sig 0x03) p
  | 0x0A =>
    let ref := if p.vlim then followRef (i 0) (i 1) else i 0
    let i0 := if (s.seqNow a).preset then 0 else p.w e.st
    piBlock ref (i 1) (b 0) (b 1) (b 2) (b 3) i0 p.vlim e.st p
  | 0x0B => s.dutyBlock a (i 0) (i 1) (i 2) p
  | 0x0C => s.clampBlock a x
  | 0x0D => s.seqBlock a (i 0) (i 1) (i 2) p
  | 0x0E => s.injBlock a (i 0) (i 1) (x.sig 0x03) p
  | 0x0F =>
    let m := fpMul (b 1) (i 1)
    { outs := [fpFma (b 0) (i 0) m], tr := [m], st := p }
  | _ => { outs := [], tr := [], st := p }

/-- The state word that counts saturation, of a supervised block (Table LPE-1, R170). -/
def satWord (typ : Nat) : Option Nat :=
  match typ with
  | 0x04 | 0x07 | 0x0A => some 1
  | 0x06 | 0x09 => some 0
  | _ => none

/-- A NaN of block `b` (R159), or an uncorrectable word it read (R160): the pass ends. -/
def passNaN (a : Fin 4) (o : Bool) (b : Nat) (ecc : Bool) (s : State) : State :=
  let s := s.setFlag (F.LPE_STAT_NAN a) true
  let s := if ecc then s.setFlag (F.LPE_STAT_ECC_UE a) true else s
  let s := s.setReg (R.LPE_NAN_LOC a) (word (s.stepN % 65536 * 65536 + (!o).toNat * 256 + b % 128))
  if o then raiseDoubt a (if ecc then 7 else 5) s else headDoubt a 3 s

/-- A saturation count beyond its limit (R170). -/
def passSat (a : Fin 4) (o : Bool) (b n : Nat) (s : State) : State :=
  if o || s.onHeadland a then
    let s := (s.setFlag (F.LPE_STAT_SATF a) true).setReg (R.LPE_SAT_LOC a)
      (word (n % 65536 * 65536 + (!o).toNat * 256 + b % 128))
    if o then raiseDoubt a 6 s else headDoubt a 4 s
  else s

/-- The hits of OBSCLAMP in pass O (R217, R218): the host's counts, and doubt beyond HIT_LIM. -/
def passHits (a : Fin 4) (hits : List Nat) (total : Nat) (s : State) : State :=
  let s := s.each hits (fun s j => s.bump (F.OBS_HITS_HITS a j) 1)
  if decide (s.fld (F.OBS_HITLIM_HIT_LIM a) < total) && !hits.isEmpty then
    raiseDoubt a 2 (s.setFlag (F.OBS_STAT_CLAMPX a) true)
  else s

/-- Runs entry `b` of the graph of axis `a`; `ue` tells that it reads an uncorrectable word. -/
def passEntry (a : Fin 4) (ue : Option Nat) (sx : State × Pass) (b : Nat) : State × Pass :=
  let s := sx.1
  let x := sx.2
  if x.ended then sx
  else if ue = some b then (passNaN a x.o b true s, { x with ended := true })
  else
    let e := s.graphEntry a b
    let r := s.block a e x
    let rs := r.tr ++ r.outs
    let s := if rs.any fpIsInf then s.setFlag (F.LPE_STAT_INF a) true else s
    if rs.any fpIsNaN then (passNaN a x.o b false s, { x with ended := true })
    else
      let cnt := match satWord e.typ with
        | some k => (if r.sat then (r.st.w (e.st + k)).toNat + 1 else 0)
        | none => 0
      let st := match satWord e.typ with
        | some k => r.st.setW (e.st + k) (word cnt)
        | none => r.st
      let sigs := (List.range r.outs.length).foldl (fun m k => SMap.put 0 m (e.out + k) (r.outs.getD k 0)) x.sigs
      let s := if e.lim ≠ 0 ∧ e.lim < cnt then passSat a x.o b cnt s else s
      let s := if r.dis then raiseDoubt a 3 (s.setFlag (F.LPE_STAT_DISAGREE a) true) else s
      let s := if e.typ = 0x0C ∧ x.o then
          (passHits a r.hits st.clamp.hits.sum s).modObs a (fun f => { f with last := r.outs })
        else s
      let s := if r.noReq then s.modLoop a (fun l => { l with needAbsent := false }) else s
      (s, { x with sigs := sigs, st := st, set := if r.set.isSome then r.set else x.set })

/-- The signal memory at the start of a pass: the input words, and the outputs as the committed pass left them (R164). -/
def State.passSigs (s : State) (a : Fin 4) (o : Bool) : SMap Word :=
  let ins := s.inputSignals a o
  (List.range 0x40).foldl (fun m k => SMap.put 0 m k (ins.getD k 0)) (s.loop.get a).sigs

/-- Pass O writes the shadow's compares that are not the host's (R161). -/
def writeShadow (a : Fin 4) (d : DutySet) (s : State) : State :=
  let hs := s.fld (F.PWM_CTRL_HOST_SRC a)
  let s := s.each (List.range 3) (fun s k =>
    if hs.testBit (2 * k) then s
    else (s.setReg (R.PWM_RISE a (2 * k)) (d.rise.getD k 0)).setReg (R.PWM_FALL a (2 * k)) (d.fall.getD k 0))
  s.modPwm a (fun p => { p with shA := d.mA, shB := d.mB })

/-- Pass H writes the Headland set buffer (R161); its other words are the shadow's. -/
def writeHset (a : Fin 4) (d : DutySet) (s : State) : State :=
  let sh := s.shadow a
  let put (l : List Word) (v : List Word) : List Word :=
    ((l.set 0 (v.getD 0 0)).set 2 (v.getD 1 0)).set 4 (v.getD 2 0)
  s.modPwm a (fun p => { p with
    hset := { sh with rise := put sh.rise d.rise, fall := put sh.fall d.fall, mA := d.mA, mB := d.mB } })

/-- The commit counters that a pass which wrote its set advances (chapter 13). -/
def passWrite (a : Fin 4) (x : Pass) (s : State) : State :=
  let s := match x.set with
    | none => s
    | some d => if x.o then writeShadow a d s else writeHset a d s
  let r : PassRun := ⟨x.st, x.sigs, true⟩
  countCommit a (s.modLoop a (fun l => if x.o then { l with passO := some r } else { l with passH := some r }))

/-- A pass of axis `a` (R161): `ce` corrected words, and the block that reads an uncorrectable one.  An axis in tenant
reset runs neither pass (R174). -/
def runPass (a : Fin 4) (o : Bool) (ce : Nat) (ue : Option Nat) (s : State) : State :=
  if s.halted a || !s.axisRuns a || !s.flag (F.LPE_CTRL_EN a) then s
  else
    let s := s.bump (F.LPE_ECC_CE a) ce
    let x : Pass := ⟨o, s.passSigs a o, (s.loop.get a).start, none, false⟩
    let r := (List.range (s.fld (F.LPE_CTRL_N_BLK a))).foldl (passEntry a ue) (s, x)
    if r.2.ended then r.1 else passWrite a r.2 r.1
/-! ## Commit and load point -/

/-- The commit cycle's selection and state handover (R165): the state set, the signals and the decision of the pass
whose set is taken; a pass that wrote nothing hands on nothing. -/
def loopCommit (a : Fin 4) (hl : Bool) (s : State) : State :=
  let l := s.loop.get a
  let s := s.setFlag (F.LPE_STAT_SEL_H a) hl
  match if hl then l.passH else l.passO with
  | none => s
  | some r =>
    let seq := l.start.seq
    let s := s.modLoop a (fun l => { l with start := { r.st with seq := seq }, sigs := r.sigs })
    let s := (s.setFlag (F.LPE_DRV_STAT_VLIM a) r.st.vlim).setFld (F.LPE_DRV_MDL_M_REQ a) r.st.mreq
    if s.offCause a && seq.state == 0 then s else seqLos a (seqDecide a r.st.seq s)

/-- The estimator's sector of the committed pass, 1 to 6, from the angle word in force (Table QUE-5, SECTOR). -/
def State.estSector (s : State) (a : Fin 4) : Nat :=
  let n := s.fld (F.LPE_CTRL_N_BLK a)
  match (List.range n).find? (fun b => (s.graphEntry a b).typ == 0x08) with
  | some b => angleIn (SMap.get 0 (s.loop.get a).sigs (s.graphEntry a b).out) * 6 / 65536 + 1
  | none => s.thH a * 6 / 65536 + 1

/-- SECTOR of axis `a`, raised when the sector changes. -/
def sectorEvent (a : Fin 4) (s : State) : State :=
  let n := s.estSector a
  let old := (s.loop.get a).sector
  let s := s.modLoop a (fun l => { l with sector := n })
  if old = 0 ∨ old = n then s else raiseAx a Ev.sector n s

/-- The Loop Engine's part of a load point: a new axis period begins, with no pass run. -/
def loopLoad (a : Fin 4) (s : State) : State := seqLoad a (s.modLoop a (fun l => { l with passO := none, passH := none }))

/-- The capture at a schedule-period boundary (R173) and the pass O outputs of OBS_VAL. -/
def loopCapture (a : Fin 4) (s : State) : State :=
  let s := s.modLoop a (fun l => { l with cap := l.sigs })
  s.each (List.range 8) (fun s j => s.setReg (R.OBS_VAL a j) ((s.obs.get a).last.getD j 0))

/-- An axis start clears the state sets and signals (R174, R230): the sequencer begins in IDLE, or in OFF while a cause
holds. -/
def loopStart (a : Fin 4) (s : State) : State :=
  let st := if s.offCause a then 0 else 1
  let s := s.modLoop a (fun l => { cap := l.cap, needAbsent := l.needAbsent, start := { seq := { state := st } } })
  let s := (s.setFlag (F.LPE_DRV_STAT_VLIM a) false).setFld (F.LPE_DRV_MDL_M_REQ a) 0
  seqShow a (delaysClear a s)

/-! ## Coefficient banks -/

/-- The first word of the idle bank that the guard refuses, with its reason: 1 RANGE, 2 NAN (R168). -/
def State.guardFail (s : State) (a : Fin 4) : Option (Nat × Nat) :=
  let idle (k : Nat) : Word := if s.flag (F.LPE_BANK_CTRL_ACTIVE a) then s.reg (R.LPE_BANK_A a k) else s.reg (R.LPE_BANK_B a k)
  let bad (k : Nat) : Option (Nat × Nat) :=
    let w := idle k
    if fpIsNaN w then some (k, 2)
    else if fpLe (s.reg (R.LPE_CLIM_LO a k)) w && fpLe w (s.reg (R.LPE_CLIM_HI a k)) then none
    else some (k, 1)
  (List.range 256).findSome? bad

/-- A swap request is refused: the record, REJ and the released lock. -/
def bankRefuse (a : Fin 4) (slot why : Nat) (s : State) : State :=
  let s := ((s.setFld (F.LPE_BANK_REJ_SLOT a) slot).setFld (F.LPE_BANK_REJ_WHY a) why).setFlag (F.LPE_BANK_CTRL_REJ a) true
  ((s.setFlag (F.LPE_BANK_CTRL_LOCK a) false).setFlag (F.LPE_BANK_CTRL_PENDING a) false).modLoop a
    (fun l => { l with check := false })

/-- The step tag of a bank swap. -/
def State.bankTag (s : State) (a : Fin 4) : Nat := s.tag48 (F.LPE_BANK_STEP_LO_STEP_LO a) (F.LPE_BANK_STEP_HI_STEP_HI a)

/-- An Exact-mode tag of tenant `t`'s input cannot be met: it is no frame boundary, or it does not lie ahead (R27). -/
def State.tagLate (s : State) (t tag : Nat) : Bool := tag % s.K != 0 || decide (tag ≤ s.stepFor t)

/-- The guard check of axis `a` ends (R168); in Exact mode a tag that cannot be met is refused (R169). -/
def guardEnd (a : Fin 4) (s : State) : State :=
  if !(s.loop.get a).check then s
  else
    match s.guardFail a with
    | some (k, why) => bankRefuse a k why s
    | none =>
      if s.exact && s.tagLate a (s.bankTag a) then bankRefuse a 0 3 s
      else (s.setFlag (F.LPE_BANK_CTRL_PENDING a) true).modLoop a (fun l => { l with check := false })

/-- A pending swap at a schedule-period boundary (R169). -/
def bankSwap (a : Fin 4) (s : State) : State :=
  if s.flag (F.LPE_BANK_CTRL_PENDING a) && (!s.exact || s.bankTag a == s.stepFor a) then
    let s := s.setFlag (F.LPE_BANK_CTRL_ACTIVE a) (!s.flag (F.LPE_BANK_CTRL_ACTIVE a))
    (s.setFlag (F.LPE_BANK_CTRL_PENDING a) false).setFlag (F.LPE_BANK_CTRL_LOCK a) false
  else s

end Sys2Proof.Machine
end

