-- ==== Sys2Proof/Machine/Crc.lean ====
section
/-! DEFINITION. The check arithmetic of the block: the CRC procedure of "Check units" (R296) with the Mode F sets of
Table HRW-3, the SHA-256 digest of R31 and the P-256 signature check of R32. -/

namespace Sys2Proof.Machine

/-- The parameters of a CRC: width, polynomial, initial value, reflections and final XOR. -/
structure CrcParams where
  width  : Nat
  poly   : Nat
  init   : Nat
  refIn  : Bool
  refOut : Bool
  xorOut : Nat
  deriving DecidableEq, Repr

/-- The Mode F parameter sets of Table HRW-3. -/
def crcF (fsel : Nat) : CrcParams :=
  match fsel with
  | 0 => ⟨8, 0x1D, 0xFF, false, false, 0xFF⟩
  | 1 => ⟨16, 0x1021, 0xFFFF, false, false, 0⟩
  | 2 => ⟨32, 0x04C11DB7, 0xFFFFFFFF, true, true, 0xFFFFFFFF⟩
  | _ => ⟨32, 0x1EDC6F41, 0xFFFFFFFF, true, true, 0xFFFFFFFF⟩

/-- The lowest `w` bits of `n` in reverse order. -/
def bitReverse (w n : Nat) : Nat :=
  match w with
  | 0 => 0
  | w + 1 => bitReverse w (n / 2) + (n % 2) * 2 ^ w

/-- One bit step of the procedure of "Check units". -/
def crcBit (p : CrcParams) (crc : Nat) (b : Nat) : Nat :=
  let top := (crc / 2 ^ (p.width - 1)) % 2 + b
  let s := (crc * 2) % 2 ^ p.width
  if top = 1 then s ^^^ p.poly else s

/-- One byte step: bits 7 down to 0, the byte reversed first under REFIN. -/
def crcByte (p : CrcParams) (crc : Nat) (b : Byte) : Nat :=
  let v := if p.refIn then bitReverse 8 b.toNat else b.toNat
  [7, 6, 5, 4, 3, 2, 1, 0].foldl (fun c k => crcBit p c (v / 2 ^ k % 2)) crc

/-- The running value after a list of bytes. -/
def crcFold (p : CrcParams) (crc : Nat) (bs : List Byte) : Nat := bs.foldl (crcByte p) crc

/-- The result of a running value: REFOUT, then XOROUT. -/
def crcResult (p : CrcParams) (crc : Nat) : Nat :=
  (if p.refOut then bitReverse p.width crc else crc) ^^^ p.xorOut

/-- The CRC of a list of bytes. -/
def crcOf (p : CrcParams) (bs : List Byte) : Nat := crcResult p (crcFold p p.init bs)

/-- CRC-32C (FSEL 3). -/
def crc32c (bs : List Byte) : Nat := crcOf (crcF 3) bs

/-- CRC-16/CCITT with initial value 0xFFFF (FSEL 1). -/
def crc16 (bs : List Byte) : Nat := crcOf (crcF 1) bs

/-- The SHA-256 round constants, first half. -/
def shaK0 : List Nat := [
  0x428A2F98, 0x71374491, 0xB5C0FBCF, 0xE9B5DBA5, 0x3956C25B, 0x59F111F1, 0x923F82A4, 0xAB1C5ED5,
  0xD807AA98, 0x12835B01, 0x243185BE, 0x550C7DC3, 0x72BE5D74, 0x80DEB1FE, 0x9BDC06A7, 0xC19BF174,
  0xE49B69C1, 0xEFBE4786, 0x0FC19DC6, 0x240CA1CC, 0x2DE92C6F, 0x4A7484AA, 0x5CB0A9DC, 0x76F988DA,
  0x983E5152, 0xA831C66D, 0xB00327C8, 0xBF597FC7, 0xC6E00BF3, 0xD5A79147, 0x06CA6351, 0x14292967]

/-- The SHA-256 round constants, second half. -/
def shaK1 : List Nat := [
  0x27B70A85, 0x2E1B2138, 0x4D2C6DFC, 0x53380D13, 0x650A7354, 0x766A0ABB, 0x81C2C92E, 0x92722C85,
  0xA2BFE8A1, 0xA81A664B, 0xC24B8B70, 0xC76C51A3, 0xD192E819, 0xD6990624, 0xF40E3585, 0x106AA070,
  0x19A4C116, 0x1E376C08, 0x2748774C, 0x34B0BCB5, 0x391C0CB3, 0x4ED8AA4A, 0x5B9CCA4F, 0x682E6FF3,
  0x748F82EE, 0x78A5636F, 0x84C87814, 0x8CC70208, 0x90BEFFFA, 0xA4506CEB, 0xBEF9A3F7, 0xC67178F2]

/-- The SHA-256 initial state. -/
def shaH0 : List Nat := [
  0x6A09E667, 0xBB67AE85, 0x3C6EF372, 0xA54FF53A, 0x510E527F, 0x9B05688C, 0x1F83D9AB, 0x5BE0CD19]

/-- Rotation of a 32-bit number to the right. -/
def rotr32 (n k : Nat) : Nat := (n >>> k) ||| ((n <<< (32 - k)) % 2 ^ 32)

/-- Extends a message schedule, held newest first, by `n` words. -/
def shaExtend : Nat → List Nat → List Nat
  | 0, w => w
  | n + 1, w =>
    let a := w.getD 14 0
    let b := w.getD 1 0
    let s0 := rotr32 a 7 ^^^ rotr32 a 18 ^^^ (a >>> 3)
    let s1 := rotr32 b 17 ^^^ rotr32 b 19 ^^^ (b >>> 10)
    shaExtend n ((w.getD 15 0 + s0 + w.getD 6 0 + s1) % 2 ^ 32 :: w)

/-- One SHA-256 round on the working state [a .. h] with the sum of round constant and schedule word. -/
def shaRound (st : List Nat) (kw : Nat) : List Nat :=
  match st with
  | [a, b, c, d, e, f, g, h] =>
    let s1 := rotr32 e 6 ^^^ rotr32 e 11 ^^^ rotr32 e 25
    let ch := (e &&& f) ^^^ ((0xFFFFFFFF ^^^ e) &&& g)
    let t1 := h + s1 + ch + kw
    let s0 := rotr32 a 2 ^^^ rotr32 a 13 ^^^ rotr32 a 22
    let mj := (a &&& b) ^^^ (a &&& c) ^^^ (b &&& c)
    [(t1 + s0 + mj) % 2 ^ 32, a, b, c, (d + t1) % 2 ^ 32, e, f, g]
  | _ => st

/-- The compression of one block, given as sixteen words newest first. -/
def shaBlock (st : List Nat) (w16 : List Nat) : List Nat :=
  let w := (shaExtend 48 w16).reverse
  let kws := List.zipWith (· + ·) (shaK0 ++ shaK1) w
  let out := kws.foldl shaRound st
  List.zipWith (fun x y => (x + y) % 2 ^ 32) st out

/-- Big-endian words of a byte list. -/
def beWords : List Byte → List Nat
  | a :: b :: c :: d :: r => (a.toNat * 2 ^ 24 + b.toNat * 2 ^ 16 + c.toNat * 2 ^ 8 + d.toNat) :: beWords r
  | _ => []

/-- Folds the blocks of a padded message; the fuel is the number of blocks. -/
def shaBlocks : Nat → List Nat → List Nat → List Nat
  | 0, st, _ => st
  | n + 1, st, ws => shaBlocks n (shaBlock st (ws.take 16).reverse) (ws.drop 16)

/-- The padding of a message of `n` bytes. -/
def shaPad (n : Nat) : List Byte :=
  let z := (55 + 64 - n % 64) % 64
  0x80#8 :: List.replicate z 0#8 ++
    [7, 6, 5, 4, 3, 2, 1, 0].map (fun k => BitVec.ofNat 8 (8 * n / 2 ^ (8 * k)))

/-- The SHA-256 digest of a byte list, as eight words (R31). -/
def sha256 (bs : List Byte) : List Nat :=
  let m := bs ++ shaPad bs.length
  shaBlocks (m.length / 64) shaH0 (beWords m)

/-- A list of 32-bit words as one big-endian number. -/
def ofWordsBE (ws : List Nat) : Nat := ws.foldl (fun n w => n * 2 ^ 32 + w) 0

/-- A list of bytes as one big-endian number. -/
def ofBytesBE (bs : List Byte) : Nat := bs.foldl (fun n b => n * 256 + b.toNat) 0

/-- The field prime of P-256. -/
def p256P : Nat := 2 ^ 256 - 2 ^ 224 + 2 ^ 192 + 2 ^ 96 - 1

/-- The group order of P-256. -/
def p256N : Nat := 0xFFFFFFFF00000000FFFFFFFFFFFFFFFFBCE6FAADA7179E84F3B9CAC2FC632551

/-- The curve constant b of P-256. -/
def p256B : Nat := 0x5AC635D8AA3A93E7B3EBBD55769886BC651D06B0CC53B0F63BCE3C3E27D2604B

/-- The base point of P-256. -/
def p256G : Nat × Nat :=
  (0x6B17D1F2E12C4247F8BCE6E563A440F277037D812DEB33A0F4A13945D898C296,
   0x4FE342E2FE1A7F9B8EE7EB4A7C0F9E162BCE33576B315ECECBB6406837BF51F5)

/-- `b ^ e` modulo `m`, over the low `k` bits of `e`. -/
def powMod (m : Nat) : Nat → Nat → Nat → Nat → Nat
  | 0, _, _, acc => acc
  | k + 1, b, e, acc => powMod m k (b * b % m) (e / 2) (if e % 2 = 1 then acc * b % m else acc)

/-- The inverse modulo a prime below 2^256. -/
def invMod (m a : Nat) : Nat := powMod m 256 (a % m) (m - 2) 1

/-- A point of the curve; none is the point at infinity. -/
abbrev EcPoint := Option (Nat × Nat)

/-- Point addition on P-256. -/
def ecAdd (a b : EcPoint) : EcPoint :=
  match a, b with
  | none, q => q
  | q, none => q
  | some (x1, y1), some (x2, y2) =>
    let p := p256P
    if x1 = x2 ∧ (y1 + y2) % p = 0 then none
    else
      let l := if x1 = x2
        then (3 * x1 * x1 + (p - 3)) % p * invMod p (2 * y1) % p
        else (y2 + p - y1) % p * invMod p ((x2 + p - x1) % p) % p
      let x3 := (l * l + 2 * p - x1 - x2) % p
      some (x3, (l * ((x1 + p - x3) % p) + p - y1) % p)

/-- Scalar multiplication over the low `k` bits of `n`. -/
def ecMul : Nat → Nat → EcPoint → EcPoint → EcPoint
  | 0, _, _, acc => acc
  | k + 1, n, q, acc => ecMul k (n / 2) (ecAdd q q) (if n % 2 = 1 then ecAdd acc q else acc)

/-- Whether the ECDSA P-256 signature (r, s) verifies for the hash value `e` under the public key `q` (R32). -/
def ecdsaVerify (q : Nat × Nat) (e r s : Nat) : Bool :=
  let n := p256N
  let p := p256P
  if r = 0 ∨ n ≤ r ∨ s = 0 ∨ n ≤ s ∨ p ≤ q.1 ∨ p ≤ q.2 then false
  else if q.2 * q.2 % p ≠ (q.1 * q.1 * q.1 + (p - 3) * q.1 + p256B) % p then false
  else
    let w := invMod n s
    match ecAdd (ecMul 256 (e * w % n) (some p256G) none) (ecMul 256 (r * w % n) (some q) none) with
    | none => false
    | some (x, _) => x % n == r

end Sys2Proof.Machine
end

