-- ==== Sys2Proof/Machine/Memory.lean ====
section
/-! DEFINITION. The granary, the plot stores and the silo as memories: reads through SECDED with its counts and doubt
(R185), writes, and the upsets that strike a word before a read.  A word is 8 bytes; a granary word has the number
offset / 8, a plot-store word 0x8000 × logical plot + offset / 8. -/

namespace Sys2Proof.Machine

/-- Where plot store `l` begins in the plot memory. -/
def plotBase (l : Nat) : Nat := 0x40000 * l

/-- The words of a list that lie among the words the `n` bytes from `k` touch. -/
def wordsIn (l : List Nat) (k n : Nat) : List Nat :=
  l.filter (fun w => decide (0 < n) && decide (k / 8 ≤ w) && decide (w ≤ (k + n - 1) / 8))

/-- The bytes from `k` with those of the words `ue` delivered as zero. -/
def zeroWords (ue : List Nat) (k : Nat) (bs : List Byte) : List Byte :=
  if ue.isEmpty then bs
  else (List.range bs.length).zipWith (fun i b => if ue.contains ((k + i) / 8) then 0#8 else b) bs

/-- Doubt of an uncorrectable word for the tenant of the schedule entry that read it (R185, R238). -/
def eccDoubt (t : Option Nat) (s : State) : State :=
  match t with
  | none => s
  | some t => raiseDoubt t 7 (detFlag F.PCR_DET_STAT_ECC_UE s)

/-- Counts of a granary read: corrected words, and uncorrectable words with GRN_UE and the offset (R185). -/
def granCount (ce ue : List Nat) (t : Option Nat) (s : State) : State :=
  let s := s.bump F.FLD_GRN_ECC_CE ce.length
  match ue.getLast? with
  | none => s
  | some w =>
    let s := (s.bump F.FLD_GRN_ECC_UE ue.length).setFlag F.FLD_STAT_GRN_UE true
    eccDoubt t (s.setFld F.FLD_GRN_ERR_OFFSET (8 * w))

/-- Reads `n` granary bytes from `k` for a schedule entry of tenant `t`, or for none. -/
def granRead (t : Option Nat) (k n : Nat) (s : State) : List Byte × State :=
  let ue := wordsIn s.field.grnUE k n
  (zeroWords ue k (memRead s.gran k n), granCount (wordsIn s.field.grnCE k n) ue t s)

/-- Counts of a read of plot store `l`. -/
def plotCount (l : Nat) (ce ue : List Nat) (t : Option Nat) (s : State) : State :=
  let s := s.bump (F.FLD_P_ECC_CE l) ce.length
  if ue.isEmpty then s
  else eccDoubt t ((s.bump (F.FLD_P_ECC_UE l) ue.length).setFlag F.FLD_STAT_STORE_UE true)

/-- Reads `n` bytes of plot store `l` from store offset `k`. -/
def plotRead (t : Option Nat) (l k n : Nat) (s : State) : List Byte × State :=
  let b := plotBase l + k
  let ue := wordsIn s.field.plotUE b n
  (zeroWords ue b (memRead s.plots b n), plotCount l (wordsIn s.field.plotCE b n) ue t s)

/-- The error words that a write of the bytes `[k, k + n)` leaves: a word written whole has fresh check bits. -/
def dropWritten (l : List Nat) (k n : Nat) : List Nat :=
  l.filter (fun w => !(decide (k ≤ 8 * w) && decide (8 * w + 8 ≤ k + n)))

/-- A write overtakes scrub's waiting write-backs of the words it touches (R294): of the granary, or of the plot
stores. -/
def overtake (plot : Bool) (k n : Nat) (s : State) : State :=
  s.modHrw (fun h => { h with wback := h.wback.filter (fun e =>
    decide (16 ≤ e.1) != plot || decide (n = 0) || decide (e.2 < k / 8) || decide ((k + n - 1) / 8 < e.2)) })

/-- Writes granary bytes from `k`. -/
def granWrite (k : Nat) (bs : List Byte) (s : State) : State :=
  let s := overtake false k bs.length { s with gran := memWrite s.gran k bs }
  s.modField (fun f => { f with
    grnCE := dropWritten f.grnCE k bs.length, grnUE := dropWritten f.grnUE k bs.length })

/-- Writes bytes of plot store `l` from store offset `k`. -/
def plotWrite (l k : Nat) (bs : List Byte) (s : State) : State :=
  let b := plotBase l + k
  let s := overtake true b bs.length { s with plots := memWrite s.plots b bs }
  s.modField (fun f => { f with
    plotCE := dropWritten f.plotCE b bs.length, plotUE := dropWritten f.plotUE b bs.length })

/-- Writes silo bytes from silo offset `k`. -/
def siloWrite (k : Nat) (bs : List Byte) (s : State) : State := { s with silo := memWrite s.silo k bs }

/-- An upset strikes a word: correctable, or uncorrectable. -/
def applyUpset (u : Upset) (s : State) : State :=
  s.modField (fun f =>
    match u.plot, u.double with
    | false, false => { f with grnCE := f.grnCE ++ [u.word] }
    | false, true => { f with grnUE := f.grnUE ++ [u.word] }
    | true, false => { f with plotCE := f.plotCE ++ [u.word] }
    | true, true => { f with plotUE := f.plotUE ++ [u.word] })

/-- The upsets that strike before a read. -/
def applyUpsets (l : List Upset) (s : State) : State := s.each l (fun s u => applyUpset u s)

end Sys2Proof.Machine
end

