-- ==== Sys2Proof/Machine/Queues.lean ====
section
/-! DEFINITION. The queues (chapter 16): ring arithmetic, the descriptors the Zauri writes with their alive counter and
overflow (R308, R318), returns (R317), the host's end of each ring (R311 to R313), the registering of doorbells (R312),
the audit (R310), timeouts (R319), and the checks of the command engine up to a descriptor's verdict (R314, R315). -/

namespace Sys2Proof.Machine

/-! ## Ring arithmetic -/

/-- Slots of queue `n`. -/
def State.queDepth (s : State) (n : Nat) : Nat := 2 ^ s.fld (F.QUE_CFG_LOG2_DEPTH n)

/-- PROD of queue `n`. -/
def State.queProd (s : State) (n : Nat) : Nat := s.fld (F.QUE_PROD_PROD n)

/-- CONS of queue `n`. -/
def State.queCons (s : State) (n : Nat) : Nat := s.fld (F.QUE_CONS_CONS n)

/-- The difference of two free-running 16-bit indices. -/
def idxSub (a b : Nat) : Nat := (a + 65536 - b % 65536) % 65536

/-- Descriptors in queue `n`. -/
def State.queOcc (s : State) (n : Nat) : Nat := idxSub (s.queProd n) (s.queCons n)

/-- The granary offset of descriptor `i` of queue `n`. -/
def State.queSlot (s : State) (n i : Nat) : Nat := s.fld (F.QUE_BASE_BASE n) + 32 * (i % s.queDepth n)

/-- Queue `n` is enabled and of the role: false H2Z, true Z2H. -/
def State.queRole (s : State) (n : Nat) (z2h : Bool) : Bool := s.flag (F.QUE_CFG_EN n) && s.flag (F.QUE_CFG_ROLE n) == z2h

/-- The tenant of queue `n`. -/
def State.queTenant (s : State) (n : Nat) : Nat := s.fld (F.QUE_CFG_TENANT n)

/-- The audit of R310: an occupancy above the depth sets AUDIT and the tenant's fault record and stops the queue.  Table
QUE-12 gives no cause code for it, so the code is free (DESIGN CHOICE, log entry 13). -/
def queAudit (n : Nat) (s : State) : State :=
  if s.flag (F.QUE_CFG_EN n) && decide (s.queDepth n < s.queOcc n) && !s.que.stopped.contains n then
    let t := s.queTenant n
    let s := s.setFlag (F.QUE_STAT_AUDIT n) true
    let s := s.modQue (fun q => { q with stopped := q.stopped ++ [n] })
    if s.fld (F.QUE_TFAULT_FIRST t) = 0 then
      (s.setFld (F.QUE_TFAULT_FIRST t) Config.auditCause.toNat).setFld (F.QUE_TFAULT_STEP t) s.stepN
    else s
  else s

/-! ## Descriptors the Zauri writes -/

/-- The 32 bytes of a descriptor (Table QUE-2). -/
def descBytes (typ tenant len step : Nat) (pay : List Byte) (alive flags status : Nat) : List Byte :=
  let body := leBytes 1 typ ++ leBytes 1 tenant ++ leBytes 2 len ++ leBytes 6 step
    ++ (pay ++ List.replicate 18 0#8).take 18 ++ leBytes 1 (alive % 16 * 16 + flags) ++ leBytes 1 status
  leBytes 2 (crc16 body) ++ body

/-- A Z2H queue that is full: the descriptor is not written (R318). -/
def queOverflow (n : Nat) (s : State) : State :=
  let s := (s.bump (F.QUE_STAT_OVF_CNT n) 1).setFlag (F.QUE_STAT_OVF n) true
  raise Ev.queOvf n (tenFault (s.queTenant n) 7 s)

/-- Queue `n` can take a descriptor of the Zauri. -/
def State.queTakes (s : State) (n : Nat) : Bool := s.queRole n true && !s.que.stopped.contains n

/-- Posts a descriptor to Z2H queue `n` (R308, R318). -/
def postDesc (n typ tenant len step : Nat) (pay : List Byte) (flags status : Nat) (s : State) : State :=
  if !s.queTakes n then s
  else if s.queDepth n ≤ s.queOcc n then queOverflow n s
  else
    let alive := if s.que.wrote.contains n then (s.fld (F.QUE_ALV_OUT_LAST n) + 1) % 16 else 0
    let p := s.queProd n
    let s := granWrite (s.queSlot n p) (descBytes typ tenant len step pay alive flags status) s
    let s := (s.setFld (F.QUE_ALV_OUT_LAST n) alive).setFld (F.QUE_PROD_PROD n) (p + 1)
    let s := if s.que.wrote.contains n then s else s.modQue (fun q => { q with wrote := q.wrote ++ [n] })
    raise (Ev.quePut n) ((p + 1) % 65536) s

/-- An input-log descriptor (Table QUE-3, INLOG), written when an asynchronous input acts with PCR_DET_INLOG.EN = 1. -/
def inlog (kind tenant addr : Nat) (v : Word) (s : State) : State :=
  if s.flag F.PCR_DET_INLOG_EN then
    postDesc (s.fld F.PCR_DET_INLOG_QUEUE) 0x13 (s.queTenant (s.fld F.PCR_DET_INLOG_QUEUE)) 12 s.stepN
      (leBytes 1 kind ++ leBytes 1 tenant ++ leBytes 2 0 ++ leBytes 4 addr ++ leBytes 4 v.toNat) 0 0 s
  else s

/-- Returns descriptor `d`, ring index `i` of queue `n`, with a status code to RESPQ (R317).  Every return but an
acknowledgement is a fault of the tenant (R307). -/
def returnDesc (n i : Nat) (d : List Byte) (code : Nat) (s : State) : State :=
  let s := s.bump (F.QUE_STAT_RET_CNT n) 1
  let s := if code = 1 then s.setFlag (F.QUE_STAT_CRC_ERR n) true else s
  let s := if code = 2 then s.setFlag (F.QUE_STAT_ALV_ERR n) true else s
  let s := if code = 0 then s else tenFault (s.queTenant n) 5 s
  let r := s.fld (F.QUE_CFG_RESPQ n)
  let fits := s.queTakes r && decide (s.queOcc r < s.queDepth r)
  let s := postDesc r 0x30 (s.queTenant n) 18 s.stepN
    (leBytes 1 n ++ (d.drop 2).take 1 ++ leBytes 2 i ++ (d.drop 12).take 14) 2 code s
  if fits then irqLatch 2 s else s

/-- Posts one EVENT descriptor for the oldest pending event of task input QUE_DB[n] (Table QUE-6, R321). -/
def eventPost (n : Nat) (s : State) : State :=
  let t := s.task (0x80 + n)
  match t.evs with
  | [] => s
  | (src, pay) :: r =>
    let s := s.setTask (0x80 + n) { t with pend := t.pend - 1, srv := (t.srv + 1) % 65536, evs := r, lost := 0 }
    postDesc n 0x20 (s.queTenant n) 4 s.stepN (leBytes 1 src ++ leBytes 1 t.lost ++ leBytes 2 pay) 0 0 s

/-! ## The host's end -/

/-- The registered producer index of queue `n`: descriptors below it have their doorbell registered. -/
def State.queBell (s : State) (n : Nat) : Nat := SMap.get 0 s.que.doorbell n

/-- Registers the doorbell of queue `n` up to index `p`. -/
def setBell (n p : Nat) (s : State) : State := s.modQue (fun q => { q with doorbell := SMap.put 0 q.doorbell n p })

/-- ENQ of one descriptor, checked by the port: it is written, PROD advances, and its doorbell is registered in the
same cycle (R311); behind a QUE_DB doorbell that still waits it is registered after that one. -/
def enqDesc (n : Nat) (d : List Byte) (s : State) : State :=
  let p := s.queProd n
  let s := granWrite (s.queSlot n p) d s
  let p := (p + 1) % 65536
  let s := s.setFld (F.QUE_PROD_PROD n) p
  let s := if s.que.waiting.any (fun w => w.1 == n) then s.modQue (fun q => { q with waiting := q.waiting ++ [(n, p)] })
    else setBell n p s
  queAudit n (raise (Ev.quePut n) p s)

/-- The head of queue `n`. -/
def queHead (n : Nat) (s : State) : List Byte × State := granRead none (s.queSlot n (s.queCons n)) 32 s

/-- Sets the consumer index of queue `n`. -/
def setCons (n c : Nat) (s : State) : State := queAudit n (s.setFld (F.QUE_CONS_CONS n) c)

/-- Whether a write of `p` to QUE_DB[n] is accepted (R312). -/
def State.bellOk (s : State) (n p : Nat) : Bool := decide (idxSub p (s.queProd n) ≤ s.queDepth n - s.queOcc n)

/-- Whether a write of `c` to QUE_CONS[n] is accepted (R313). -/
def State.consOk (s : State) (n c : Nat) : Bool :=
  s.queRole n true && decide (idxSub c (s.queCons n) ≤ s.queOcc n)

/-- An accepted QUE_DB write: PROD takes the index, and the doorbell waits for the engine's fetch (R312). -/
def bellWrite (n p : Nat) (s : State) : State :=
  let s := (s.setFld (F.QUE_PROD_PROD n) p).modQue (fun q => { q with waiting := q.waiting ++ [(n, p)] })
  queAudit n s

/-- The bytes of block data a descriptor names, for the staging buffer. -/
def descBlockLen (d : List Byte) : Nat := if leAt d 2 1 = 2 ∧ bitsOf (leAt d 30 1) 0 1 = 1 then leAt d 4 2 else 0

/-- Staging-buffer bytes in use. -/
def State.staged (s : State) : Nat := (s.que.staging.map (fun e => e.desc.length + e.block.length)).sum

/-- The descriptors of queue `n` from index `i`, `k` of them, copied with their block data. -/
def stageCopy (n i : Nat) : Nat → State → List Staged
  | 0, _ => []
  | k + 1, s =>
    let d := memRead s.gran (s.queSlot n i) 32
    ⟨n, i, d, memRead s.gran (leAt d 12 4) (descBlockLen d)⟩ :: stageCopy n ((i + 1) % 65536) k s

/-- The engine has fetched what the oldest waiting doorbell of queue `n` announces; it is registered.  A doorbell whose
data do not fit the 4 KiB staging buffer beside what it holds waits ("Host production"). -/
def bellRegister (n : Nat) (s : State) : State :=
  match s.que.waiting.find? (fun w => w.1 == n) with
  | none => s
  | some (_, p) =>
    let i := s.queBell n
    let new := stageCopy n i (idxSub p i) s
    let size := (new.map (fun e => e.desc.length + e.block.length)).sum
    if !s.que.staging.isEmpty && decide (4096 < s.staged + size) then s
    else
      let s := s.modQue (fun q => { q with waiting := q.waiting.erase (n, p), staging := q.staging ++ new })
      raise (Ev.quePut n) p (setBell n p s)

/-- Descriptor `i` of queue `n` as the engine sees it: the staged copy with its block, or the ring's. -/
def queFetch (n i : Nat) (s : State) : List Byte × Option (List Byte) × State :=
  match s.que.staging.find? (fun e => e.queue == n && e.idx == i) with
  | some e => (e.desc, some e.block, s)
  | none => let r := granRead none (s.queSlot n i) 32 s; (r.1, none, r.2)

/-- Consumes the head of queue `n` and frees its staging. -/
def queConsume (n : Nat) (s : State) : State :=
  let i := s.queCons n
  let s := s.modQue (fun q => { q with staging := q.staging.filter (fun e => !(e.queue == n && e.idx == i)) })
  setCons n ((i + 1) % 65536) s

/-! ## Tenant reset and timeouts -/

/-- Empties command queue `n` at its tenant's reset: CONS takes PROD and every descriptor is counted (R305). -/
def queFlush (n : Nat) (s : State) : State :=
  let s := s.bump (F.QUE_STAT_DISC n) (s.queOcc n)
  let s := s.modQue (fun q => { q with
    waiting := q.waiting.filter (fun w => w.1 != n), staging := q.staging.filter (fun e => e.queue != n) })
  setBell n (s.queProd n) (s.setFld (F.QUE_CONS_CONS n) (s.queProd n))

/-- Restarts queue `n` when its tenant leaves reset (R306). -/
def queRestart (n : Nat) (s : State) : State :=
  let s := ((s.setFld (F.QUE_PROD_PROD n) 0).setFld (F.QUE_CONS_CONS n) 0).setReg (R.QUE_ALV n) 0
  let s := s.modQue (fun q => { q with
    waiting := q.waiting.filter (fun w => w.1 != n), staging := q.staging.filter (fun e => e.queue != n),
    stopped := q.stopped.filter (· != n), wrote := q.wrote.filter (· != n),
    lastCons := SMap.put 0 q.lastCons n 0 })
  setBell n 0 s

/-- The enabled queues of tenant `t`. -/
def State.queuesOf (s : State) (t : Nat) : List Nat :=
  (List.range 64).filter (fun n => s.flag (F.QUE_CFG_EN n) && s.queTenant n == t)

/-- The idle count of queue `n` at a schedule-period boundary ("Timeouts", R319).  QUEUE_TIMEOUT raises what follows. -/
def queIdle (n : Nat) (s : State) : State :=
  let c := s.queCons n
  let moved := c != SMap.get 0 s.que.lastCons n
  let s := s.modQue (fun q => { q with lastCons := SMap.put 0 q.lastCons n c })
  if s.queOcc n = 0 || moved then s.setFld (F.QUE_TMO_IDLE n) 0 else s.bump (F.QUE_TMO_IDLE n) 1

/-- The idle count of queue `n` has reached TMO: the queue sets TMO, raises QUE_TMO and records the fault (R319, R307). -/
def queTimeout (n : Nat) (s : State) : State :=
  let t := s.fld (F.QUE_TMO_TMO n)
  if t = 0 ∨ s.fld (F.QUE_TMO_IDLE n) < t then s
  else raise Ev.queTmo n (irqLatch 1 (tenFault (s.queTenant n) 6 (s.setFlag (F.QUE_STAT_TMO n) true)))

/-! ## Verdicts of the command engine -/

/-- The alive counter of a descriptor. -/
def descAlive (d : List Byte) : Nat := leAt d 30 1 / 16

/-- The descriptor's CRC is correct (Table QUE-2). -/
def descCrcOk (d : List Byte) : Bool := leAt d 0 2 == crc16 (d.drop 2)

/-- The alive counter of a descriptor is in order, judged against the reference (R315). -/
def State.aliveOk (s : State) (n : Nat) (d : List Byte) : Bool :=
  !s.flag (F.QUE_CFG_ALV_CHK n) || !s.flag (F.QUE_ALV_REF_VALID n)
  || descAlive d == (s.fld (F.QUE_ALV_IN_REF n) + 1) % 16

/-- A consumed descriptor whose CRC is correct becomes the reference (R315). -/
def aliveRef (n : Nat) (d : List Byte) (s : State) : State :=
  if s.flag (F.QUE_CFG_ALV_CHK n) && descCrcOk d then
    (s.setFlag (F.QUE_ALV_REF_VALID n) true).setFld (F.QUE_ALV_IN_REF n) (descAlive d)
  else s

/-- The register space that Table MAP-1 maps. -/
def mapped (k : Nat) : Bool :=
  decide (k < 0x30000) || (decide (0x100000 ≤ k) && decide (k < 0x211000)) || (decide (0x300000 ≤ k) && decide (k < 0x400000))

/-- The chip-wide AUX_ offsets of an axis window. -/
def auxShared (k : Nat) : Bool :=
  let o := (k - 0x100000) % 0x40000
  decide (0x100000 ≤ k) && decide (k < 0x200000) && decide (0x14000 ≤ o) && decide (o < 0x14050)

/-- The tenant that owns a register (Table QUE-1): an axis window its axis, but for the chip-wide AUX_ registers, a
cutting set's registers its TENANT, a queue's registers its TENANT, the rest T[4]. -/
def State.regTenant (s : State) (k : Nat) : Nat :=
  if auxShared k then 4
  else if 0x100000 ≤ k ∧ k < 0x200000 then (k - 0x100000) / 0x40000
  else if R.FLD_CSET_CTRL 0 ≤ k ∧ k < R.FLD_CSET_CTRL 32 then s.fld (F.FLD_CSET_CTRL_TENANT ((k - R.FLD_CSET_CTRL 0) / 0x10))
  else if R.QUE_CFG 0 ≤ k ∧ k < R.QUE_CFG 64 then s.queTenant ((k - R.QUE_CFG 0) / 0x20)
  else 4

/-- The tenants whose resources a write of `v` at `k` touches: for AUX_SET and AUX_CLR the owners of the outputs whose bits
are 1 (R374). -/
def State.writeTenants (s : State) (k : Nat) (v : Word) : List Nat :=
  if auxShared k ∧ ((k - 0x100000) % 0x40000 = 0x14030 ∨ (k - 0x100000) % 0x40000 = 0x14034) then
    (setBits 8 v.toNat).map (fun j => s.fld (F.AUX_LSD_OWNER j))
  else [s.regTenant k]

/-- The words a command writes, as address and value. -/
def State.descWords (s : State) (d : List Byte) : List (Nat × Word) :=
  if leAt d 2 1 = 1 then [(leAt d 12 4, word (leAt d 16 4) &&& word (leAt d 20 4))]
  else (List.range (min 256 ((leAt d 4 2 + 3) / 4))).map (fun i =>
    (leAt d 16 4 + 4 * i, word (leNat (memRead s.gran (leAt d 12 4 + 4 * i) 4))))

/-- The static verdict on a descriptor of queue `n` at the head, 0 where nothing is wrong with it: CRC, ALIVE, TYPE,
TENANT, ADDR, LATE_TAG, BLOCK in the order of Table QUE-4's codes. -/
def State.descVerdict (s : State) (n : Nat) (d : List Byte) : Nat :=
  let typ := leAt d 2 1
  let len := leAt d 4 2
  let tag := leAt d 6 6
  let ptr := bitsOf (leAt d 30 1) 0 1
  let t := s.queTenant n
  let out (x : Nat × Word) : Bool := x.1 % 4 != 0 || !mapped x.1 || (s.writeTenants x.1 x.2).any (fun u => u != t)
  if !descCrcOk d then 1
  else if !s.aliveOk n d then 2
  else if (typ ≠ 1 ∧ typ ≠ 2) ∨ (typ = 1 ∧ ptr = 1) ∨ (typ = 2 ∧ ptr = 0) then 3
  else if leAt d 3 1 ≠ t then 4
  else if (s.descWords d).any out then 5
  else if s.exact && (tag % s.K != 0 || decide (tag < s.stepFor t)) then 6
  else if typ = 1 ∧ len ≠ 12 then 8
  else if typ = 2 ∧ (len < 4 ∨ 1024 < len ∨ len % 4 ≠ 0 ∨ 0x200000 < leAt d 12 4 + len) then 8
  else 0

/-- Whether a valid descriptor of queue `n` is due at this boundary ("Commands"): its doorbell was registered before it, and
in Exact mode its tag names it. -/
def State.descDue (s : State) (n : Nat) (d : List Byte) : Bool := !s.exact || (s.atFrame && leAt d 6 6 == s.stepFor (s.queTenant n))

end Sys2Proof.Machine
end

