-- ==== Sys2Proof/Machine/Observers.lean ====
section
/-! DEFINITION. Observers and prognostics (chapter 11): the input stage with its history (R211, R212), the raw words
(R213), the decimator and the frame record (R222, R224), and verdicts with their alerts (R225, R226). -/

namespace Sys2Proof.Machine

/-! ## Input elements -/

/-- sat8 of a binary32 value rounded to nearest, ties to even, and whether it saturated.  An infinity saturates with its
sign; what a NaN rounds to is free (DESIGN CHOICE, log entry 17). -/
def sat8 (w : Word) : Int × Bool :=
  let v := match fpToInt? w with
    | some v => v
    | none => if fpIsInf w then (if fpSign w then -1000 else 1000) else Config.roundOf w
  (clampInt v (-128) 127, decide (v < -128 ∨ 127 < v))

/-- Sources 0x00 to 0x07 of Table OBS-1 in the current axis period, as binary32 words. -/
def State.obsSources (s : State) (a : Fin 4) : List Word :=
  let d := (s.sense.get a).deliv
  let i (l : Nat) : Int := codeOf (d.i.getD l 0)
  let slow (k : Nat) : Nat := (s.det.get a).slow.getD k 0
  [fpOfInt (2 * i 0 - i 1 - i 2), fpOfInt (i 1 - i 2), d.mA, d.mB, (s.obs.get a).dem,
    fpOfNat (fieldGet d.vbus 0 14), fpOfNat (slow 0), fpOfNat (slow 1)]

/-- The value of source `src` taken `delay` axis periods back (Table OBS-1, R211). -/
def State.obsSource (s : State) (a : Fin 4) (src delay : Nat) : Word :=
  if src < 8 then ((s.obsSources a :: (s.obs.get a).hist).getD delay []).getD src 0
  else if 0x10 ≤ src ∧ src < 0x18 then fpOfInt (signedOf 16 (s.fld (F.OBS_RAW_RAW a (src - 0x10))))
  else 0

/-- Input element `e` and whether it saturated. -/
def State.obsElement (s : State) (a : Fin 4) (e : Nat) : Int × Bool :=
  sat8 (fpMul (s.obsSource a (s.fld (F.OBS_IN_SRC a e)) (s.fld (F.OBS_IN_DELAY a e))) (s.reg (R.OBS_GAIN a e)))

/-- A byte of a signed value. -/
def byteOf (v : Int) : Byte := BitVec.ofInt 8 v

/-- The input elements of axis `a` as bytes, with the saturations counted (R211). -/
def obsInput (a : Fin 4) (s : State) : List Byte × State :=
  let l := (List.range (s.fld (F.OBS_CTRL_N_IN a))).map (fun e => s.obsElement a e)
  (l.map (fun x => byteOf x.1), s.bump (F.OBS_STAT_IN_SAT_CNT a) (l.filter (fun x => x.2)).length)

/-- The raw words that 16 channels form: 128 × c[2j] + c[2j + 1]. -/
def rawWord (c : List Byte) (j : Nat) : Int := 128 * (c.getD (2 * j) 0).toInt + (c.getD (2 * j + 1) 0).toInt

/-- The observer network of axis `a` commits its output channels (R213). -/
def obsCommit (a : Fin 4) (c : List Byte) (s : State) : State :=
  let s := s.each (List.range 8) (fun s j => s.setReg (R.OBS_RAW a j) (word (wrapBits 16 (rawWord c j))))
  s.modObs a (fun o => { o with came := true })

/-- The observers' part of a load point: the history takes the sources of the period that ends, FRESH tells whether the
raw words came in it.  Called before the sample set of the new period and the new active set exist. -/
def obsLoad (a : Fin 4) (s : State) : State :=
  let src := s.obsSources a
  let s := s.setFlag (F.OBS_STAT_FRESH a) (s.obs.get a).came
  s.modObs a (fun o => { o with came := false, dem := (s.head.get a).dem, hist := (src :: o.hist).take 8 })

/-- An axis start clears the history and the raw words (R212, R230). -/
def obsStart (a : Fin 4) (s : State) : State :=
  let s := s.each (List.range 8) (fun s j => s.setReg (R.OBS_RAW a j) 0)
  s.modObs a (fun o => { o with hist := [], dem := 0, came := false, last := [] })

/-- A zero step restarts the prognostic window and the decimators (R212, R224). -/
def windowStart (s : State) : State :=
  let s := s.each allAxes (fun s a => s.modObs a (fun o => { o with acc := [], caps := 0, alert := List.replicate 8 0 }))
  (s.setFld F.FLD_PRG_STAT_FILL 0).modField (fun f => { f with absent := [], ring := 0 })

/-! ## The decimator -/

/-- One capture of a channel into its accumulators: sum, sum of squares, minimum, maximum. -/
def decimate (first : Bool) (x : Word) (acc : List Word) : List Word :=
  if first then [fpAdd 0 x, fpAdd 0 (fpMul x x), x, x]
  else [fpAdd (acc.getD 0 0) x, fpAdd (acc.getD 1 0) (fpMul x x), fpMin (acc.getD 2 0) x, fpMax (acc.getD 3 0) x]

/-- The decimator of axis `a` takes the capture of a schedule-period boundary (R222). -/
def decTake (a : Fin 4) (s : State) : State :=
  let cap := (s.loop.get a).cap
  s.modObs a (fun o => { o with
    caps := o.caps + 1,
    acc := (List.range 16).map (fun ch =>
      decimate (o.caps == 0) (SMap.get 0 cap (s.fld (F.OBS_DEC_SIG a ch))) (o.acc.getD ch [])) })

/-- The statistic `k` of Table OBS-4 at the close of a frame. -/
def State.statistic (s : State) (acc : List Word) (k : Nat) : Word :=
  let n := fpOfNat s.K
  match k with
  | 0 => fpDiv (acc.getD 0 0) n
  | 1 => fpSqrt (fpDiv (acc.getD 1 0) n)
  | 2 => acc.getD 2 0
  | _ => acc.getD 3 0

/-- The statistics of axis `a` in feature order. -/
def State.features (s : State) (a : Fin 4) : List Word :=
  (List.range 16).flatMap (fun ch =>
    ((List.range 4).filter (fun k => (s.fld (F.OBS_DEC_STATS a ch)).testBit k)).map
      (fun k => s.statistic ((s.obs.get a).acc.getD ch []) k))

/-- The features of axis `a` as bytes; zeros for an axis in tenant reset (R224). -/
def State.featureBytes (s : State) (a : Fin 4) : List Byte :=
  let l := s.features a
  (List.range l.length).map (fun f =>
    if s.inReset a then 0#8
    else byteOf (sat8 (fpFma (l.getD f 0) (s.reg (R.OBS_DGAIN a f)) (s.reg (R.OBS_DOFS a f)))).1)

/-- The configured axes. -/
def State.confAxes (s : State) : List (Fin 4) := allAxes.filter (fun a => s.axisConf a)

/-- The first granary offset of the prognostic window's ring. -/
def State.ringBase (s : State) : Nat := 0x80000 * s.fld F.FLD_PRG_CFG_BANK

/-- The frame record closes and enters the ring (R222, R224); the decimators restart. -/
def frameClose (s : State) : State :=
  let s :=
    if s.flag F.FLD_PRG_CFG_EN then
      let n := s.fld F.FLD_PRG_STAT_F
      let w := max 1 (s.fld F.FLD_PRG_CFG_W)
      let bytes := ((s.confAxes.flatMap (fun a => s.featureBytes a)) ++ List.replicate n 0#8).take n
      let abs := BitVec.ofNat 4 (allAxes.foldl (fun (m : Nat) (a : Fin 4) => if s.inReset a then m + 2 ^ a.val else m) 0)
      let s := granWrite (s.ringBase + n * s.field.ring) bytes s
      let s := s.setFld F.FLD_PRG_STAT_FILL (min w (s.fld F.FLD_PRG_STAT_FILL + 1))
      s.modField (fun f => { f with
        ring := (f.ring + 1) % w, absent := (abs :: f.absent).take w, judged := word (s.stepN - s.K), prgOut := [], prgRes := none })
    else s
  s.each allAxes (fun s a => s.modObs a (fun o => { o with acc := [], caps := 0 }))

/-- Reads the record of the frame `k` frames before the frame just closed; zeros where none was written (R224). -/
def windowRecord (k : Nat) (s : State) : List Byte × State :=
  let n := s.fld F.FLD_PRG_STAT_F
  let w := max 1 (s.fld F.FLD_PRG_CFG_W)
  if s.fld F.FLD_PRG_STAT_FILL ≤ k then (List.replicate n 0#8, s)
  else granRead (some 4) (s.ringBase + n * ((s.field.ring + 2 * w - 1 - k) % w)) n s

/-- PRG's input vectors by batch position. -/
def windowInput (s : State) : List (List Byte) × State :=
  let w := max 1 (s.fld F.FLD_PRG_CFG_W)
  (List.range w).foldl (fun x p =>
    let r := windowRecord (if Config.prgNewestFirst then p else w - 1 - p) x.2
    (x.1 ++ [r.1], r.2)) ([], s)

/-! ## The verdict -/

/-- The remaining-life bucket: the index of the largest of the eight scores, the lowest of equals. -/
def lifeBucket (l : List Int) : Nat :=
  (List.range 8).foldl (fun b i => if l.getD b 0 < l.getD i 0 then i else b) 0

/-- The verdict record of the `k`-th configured axis `a` (Table OBS-6), from PRG's output channels. -/
def State.verdict (s : State) (a : Fin 4) (k : Nat) (solo : Bool) (out : List Int) : List Byte :=
  let c (i : Nat) : Int := out.getD (16 * k + i) 0
  let fill := s.fld F.FLD_PRG_STAT_FILL
  let warm := decide (fill < s.fld F.FLD_PRG_CFG_W)
  let abs := s.field.absent.any (fun m => m.getLsbD a)
  (List.range 8).map (fun i => byteOf (c i + 128))
  ++ [BitVec.ofNat 8 (lifeBucket ((List.range 8).map (fun i => c (8 + i)))),
    BitVec.ofNat 8 (warm.toNat + 2 * abs.toNat + 4 * (s.bit F.SAF_STAT_DOUBT 4).toNat + 8 * solo.toNat),
    BitVec.ofNat 8 a.val, BitVec.ofNat 8 fill]
  ++ leBytes 4 s.field.judged.toNat

/-- The alert runs of axis `a` after a verdict; PRG_ALERT for each class whose run is complete, once a run (R226). -/
def verdictAlerts (a : Fin 4) (v : List Byte) (s : State) : State :=
  s.each (List.range 8) (fun s c =>
    let lik := (v.getD c 0).toNat
    let thr := bitsOf (s.reg (R.OBS_ALERT a (c / 4))).toNat (8 * (c % 4)) 8
    let n := if thr ≤ lik then (s.obs.get a).alert.getD c 0 + 1 else 0
    let s := s.modObs a (fun o => { o with alert := setAt o.alert c n })
    if thr ≤ lik ∧ n = s.fld (F.OBS_ALERT_N_ALERT_N a) then raiseAx a Ev.prgAlert c s else s)

/-- Posts the verdict record of axis `a`, and shows it (R225). -/
def verdictPost (a : Fin 4) (k : Nat) (solo : Bool) (out : List Int) (s : State) : State :=
  let v := s.verdict a k solo out
  let n := s.fld (F.OBS_PRG_Q_QUEUE a)
  let s := s.each (List.range 4) (fun s w => s.setReg (R.OBS_VERD a w) (word (leAt v (4 * w) 4)))
  verdictAlerts a v (postDesc n 0x10 (s.queTenant n) 16 s.stepN v 0 0 s)

/-- The verdicts of all configured axes, in ascending order. -/
def verdictsPost (solo : Bool) (out : List Int) (s : State) : State :=
  s.each (s.confAxes.zip (List.range 4)) (fun s x => verdictPost x.1 x.2 solo out s)

end Sys2Proof.Machine
end

