-- ==== Sys2Proof/Machine/Turnstile.lean ====
section
/-! DEFINITION. The Turnstile (chapter 03): the check of planned starts (R72), the books at an SCLK edge with their audit
(R71), grants (R73), refusals (R74), and returned tokens (R75). -/

namespace Sys2Proof.Machine

/-! ## Planned work -/

/-- FCLK cycles of a frame: K × TS_FCLK. -/
def State.frameFclk (s : State) : Nat := s.K * (s.fld F.PCR_SCHED_TS_LCLK * 8 / 5)

/-- The number that marks the fallow BIST among planned work (Table IMG-5, SCHED_IDX 0xFFFF). -/
def bistIdx : Nat := 0xFFFF

/-- The planned sum that runs now, of all tenants or of one. -/
def State.plannedSum (s : State) (t : Option Nat) : Nat :=
  ((s.field.planned.filter (fun p => t.all (fun t => p.2.1 == t))).map (fun p => p.2.2)).sum

/-- The plan gives entry `idx` tokens at FCLK cycle `c` of the frame: the fallow BIST until its end, every other entry from its
START for its LEN. -/
def State.planHolds (s : State) (c idx : Nat) : Bool :=
  decide (idx = bistIdx) || (s.field.sched[idx]?).any (fun e => decide (e.start ≤ c ∧ c < e.start + e.len))

/-- A planned start of entry `idx`: the three checks of "Turnstile"; the work starts whatever they say (R72). -/
def plannedStart (idx tenant start len : Nat) (s : State) : State :=
  let fits (g : GrantEntry) : Bool := g.start == start && g.len == len && g.tenant == tenant
  let mine := (s.field.grants.find? (fun g => fits g && g.idx == idx)).or (s.field.grants.find? fits)
  let s := s.modField (fun f => { f with
    planned := f.planned.filter (fun p => s.planHolds start p.1) ++ [(idx, tenant, (mine.map (fun g => g.tokens)).getD 0)] })
  if mine.isSome && decide (s.plannedSum none ≤ s.trn.plan)
      && decide (s.plannedSum (some tenant) ≤ s.fld (F.TRN_SUB_SUB tenant)) then s
  else raiseDoubt tenant 10 (s.setFlag F.TRN_STATUS_PLAN_ERR true)

/-- The planned work of entry `idx` ends. -/
def plannedEnd (idx : Nat) (s : State) : State :=
  s.modField (fun f => { f with planned := f.planned.filter (fun p => p.1 != idx) })

/-! ## Dynamic requests -/

/-- GRANTED_DYN of tenant `t`. -/
def State.trnUsed (s : State) (t : Nat) : Nat := ((s.trn.grants.filter (fun r => r.tenant == t)).map (fun r => r.cost)).sum

/-- The dynamic cap of tenant `t`: SUB − PLAN_PEAK. -/
def State.trnCap (s : State) (t : Nat) : Nat := s.fld (F.TRN_SUB_SUB t) - s.fld (F.TRN_SUB_PLAN_PEAK t)

/-- Shows the requests and grants of every tenant in TRN_DYN. -/
def trnShow (s : State) : State :=
  s.each (List.range 5) (fun s t =>
    (s.setFlag (F.TRN_DYN_WAITING t) (s.trn.queue.any (fun r => r.tenant == t))).setFld (F.TRN_DYN_USED t) (s.trnUsed t))

/-- A request fits: its cost is at most FREE and, but for a PD3 wake, within its tenant's cap (R73). -/
def State.trnFits (s : State) (r : TrnReq) : Bool :=
  decide (r.cost ≤ s.fld F.TRN_AUDIT_FREE)
  && (decide (r.who = .pd3) || decide (s.trnUsed r.tenant + r.cost ≤ s.trnCap r.tenant))

/-- Grants the waiting requests, oldest first, that fit; within a tenant none overtakes an earlier one.  `start` begins
the granted work. -/
def trnGrants (start : TrnReq → State → State) : List TrnReq → List Nat → State → State
  | [], _, s => s
  | r :: l, stuck, s =>
    if stuck.contains r.tenant then trnGrants start l stuck s
    else if s.trnFits r then
      let s := s.modTrn (fun t => { t with queue := t.queue.filter (fun q => q.who ≠ r.who), grants := t.grants ++ [r] })
      trnGrants start l stuck (start r (s.setFld F.TRN_AUDIT_FREE (s.fld F.TRN_AUDIT_FREE - r.cost)))
    else trnGrants start l (r.tenant :: stuck) s

/-- Refuses a waiting request with TIMEOUT: its tenant's count, and what `refuse` tells its requester (R74). -/
def trnRefuse (refuse : TrnReq → State → State) (r : TrnReq) (s : State) : State :=
  let s := s.modTrn (fun t => { t with queue := t.queue.filter (fun q => q.who ≠ r.who) })
  refuse r (s.bump (F.TRN_DYN_TIMEOUTS r.tenant) 1)

/-- GRANTED: the schedule's tokens and the dynamic grants. -/
def State.trnGranted (s : State) : Nat := s.trn.plan + (s.trn.grants.map (fun r => r.cost)).sum

/-- The kind code of a dynamic request, in the byte order of TRN_COST. -/
def whoKind : TrnWho → Nat
  | .scan _ => 1
  | .silo _ => 2
  | .bulk _ => 3
  | .pd3 => 4

/-- Inserts a request by tenant, then kind. -/
def trnInsert (r : TrnReq) : List TrnReq → List TrnReq
  | [] => [r]
  | q :: l => if r.tenant < q.tenant ∨ (r.tenant = q.tenant ∧ whoKind r.who ≤ whoKind q.who) then r :: q :: l else q :: trnInsert r l

/-- The waiting requests, oldest first; those of one tick by tenant, then kind ("Turnstile"). -/
def State.trnOrder (s : State) : List TrnReq :=
  s.trn.queue.filter (fun r => r.waited != 0) ++ (s.trn.queue.filter (fun r => r.waited == 0)).foldr trnInsert []

/-- An SCLK edge of the books: returned tokens move on (R75), the audit (R71), then grants (R73).  While the books are
barred every request is refused (R71). -/
def trnEdge (start refuse : TrnReq → State → State) (s : State) : State :=
  let s := s.setFld F.TRN_AUDIT_FREE (s.fld F.TRN_AUDIT_FREE + s.fld F.TRN_AUDIT_RETURNING)
  let s := (s.setFld F.TRN_AUDIT_RETURNING s.trn.ended).modTrn (fun t => { t with ended := 0 })
  let ok := decide (s.fld F.TRN_AUDIT_FREE + s.trnGranted + s.fld F.TRN_AUDIT_RETURNING = s.fld F.TRN_POOL_POOL)
  let s := if ok then s
    else raiseDoubt 4 12 ((s.setFlag F.TRN_STATUS_AUDIT_ERR true).modTrn (fun t => { t with barred := true }))
  let s := s.modTrn (fun t => { t with queue := s.trnOrder })
  let s := if s.trn.barred then s.each s.trn.queue (fun s r => trnRefuse refuse r s)
    else trnGrants start s.trn.queue [] s
  let s := s.modTrn (fun t => { t with queue := t.queue.map (fun r => { r with waited := r.waited + 1 }) })
  trnShow (s.setFld F.TRN_AUDIT_GRANTED s.trnGranted)

/-- A waiting request has reached TRN_WAIT_LIMIT (R74). -/
def trnTimeout (refuse : TrnReq → State → State) (w : TrnWho) (s : State) : State :=
  match s.trn.queue.find? (fun r => r.who = w) with
  | none => s
  | some r => trnShow (trnRefuse refuse r s)

/-- The books as the image starts them: GRANTED_PLAN = POOL − RESERVE, FREE = RESERVE. -/
def trnStart (s : State) : State :=
  let pool := s.fld F.TRN_POOL_POOL
  let rsv := s.fld F.TRN_POOL_RESERVE
  let s := s.modTrn (fun _ => { plan := pool - rsv })
  trnShow (((s.setFld F.TRN_AUDIT_FREE rsv).setFld F.TRN_AUDIT_GRANTED (pool - rsv)).setFld F.TRN_AUDIT_RETURNING 0)

end Sys2Proof.Machine
end

