-- ==== Sys2Proof/Machine/Field.lean ====
section
/-! DEFINITION. The Field's compute path (chapters 09 to 11, 13): logical plots and lanes (R180, R195), starting a schedule
entry with its input (R177, R203, R211, R249), the end of a layer (R175, R176, R198 to R200), the commit of a network
(R213), fallow BIST (R181), planned silo transfers (R192, R381), the test-plot comparison (R250, R252) and verdicts. -/

namespace Sys2Proof.Machine

/-! ## Plots and lanes -/

/-- The physical plots that the fuse maps read at start leave enabled, in ascending order (R195). -/
def State.physPlots (s : State) : List Nat :=
  (List.range 16).filter (fun p => !(s.pow.mapRead ||| s.pow.retRead).getLsbD p)

/-- The physical plot of logical plot `l`. -/
def State.physOf (s : State) (l : Nat) : Nat := s.physPlots.getD l 0

/-- N_LIST. -/
def State.nList (s : State) : Nat := s.field.fallow.length

/-- Frames since STEP 0: STEP div K. -/
def State.frameNo (s : State) : Nat := s.stepN / s.K

/-- The fallow plot of the frame, none where no plot is listed. -/
def State.fallowPlot (s : State) : Option Nat := s.field.fallow[s.frameNo % max 1 s.nList]?

/-- The logical plot of lane `n` in the frame: the listed plots that are not fallow, in list order (R180). -/
def State.lanePlot (s : State) (n : Nat) : Option Nat :=
  (s.field.fallow.eraseIdx (s.frameNo % max 1 s.nList))[n]?

/-- The lanes the schedule uses. -/
def State.lanesUsed (s : State) : List Nat :=
  ((s.field.sched.filter (fun e => decide (0x80 ≤ e.plot))).map (fun e => e.plot - 0x80)).eraseDups

/-- The logical plot a schedule entry runs on. -/
def State.entryPlot (s : State) (e : SchedEntry) : Option Nat :=
  if 0x80 ≤ e.plot then s.lanePlot (e.plot - 0x80) else if e.plot < 16 then some e.plot else none

/-- The fallow plot advances at a frame boundary: FLD_FALLOW and the plots' FALLOW, LANE and LANE_NO (R180, R181). -/
def fallowAdvance (s : State) : State :=
  if s.nList = 0 then s
  else
    let s := (s.setFld F.FLD_FALLOW_IDX (s.frameNo % s.nList)).setFld F.FLD_FALLOW_SEG (s.frameNo / s.nList % 16)
    let s := s.setFld F.FLD_FALLOW_PLOT (s.fallowPlot.getD 0)
    s.each (List.range 16) (fun s l =>
      let lane := s.lanesUsed.find? (fun n => s.lanePlot n == some l)
      ((s.setFlag (F.FLD_P_STAT_FALLOW l) (s.fallowPlot == some l)).setFlag (F.FLD_P_STAT_LANE l) lane.isSome).setFld
        (F.FLD_P_STAT_LANE_NO l) (lane.getD 0))

/-! ## Networks -/

/-- The layers of network `n`, in table order. -/
def State.netLayers (s : State) (n : Nat) : List Layer := s.field.layers.filter (fun l => l.net == n)

/-- The LUT number `k` of network `n`: eight tables for each network, in the order the networks first appear. -/
def State.netLut (s : State) (n k : Nat) : List Byte :=
  let nets := (s.field.layers.map (fun l => l.net)).eraseDups
  s.field.luts.getD (8 * nets.idxOf n + k) []

/-- The cutting-table entry of layer `k` of network `n` for tenant `t`. -/
def State.cutOf (s : State) (t n k : Nat) : Option CutEntry :=
  s.field.cuts.find? (fun c => c.tenant == t && c.net == n && c.layer == k)

/-- The copy of a cutting-table entry that a selection names. -/
def CutEntry.copy (c : CutEntry) (alt : Bool) : Nat := if alt then c.alt else c.addr

/-- The ALT bits of the 32 cutting sets. -/
def State.altBits (s : State) : BitVec 32 :=
  BitVec.ofNat 32 (((List.range 32).filter (fun c => s.flag (F.FLD_CSET_CTRL_ALT c))).foldl (fun n c => n + 2 ^ c) 0)

/-- Where the activation area begins in a plot store. -/
def actBase : Nat := 0x38000

/-- The bytes of one padded vector of `w` elements of `e` bytes. -/
def vecBytes (w e : Nat) : Nat := 16 * ((w + 15) / 16) * e

/-- Writes input vectors, one per batch position, for the first layer `l` on plot `p`; an element of a DENSE16 layer is
its int16. -/
def writeInputs (p : Nat) (l : Layer) (vs : List (List Byte)) (s : State) : State :=
  let row (v : List Byte) : List Byte :=
    let v := (v ++ List.replicate l.inW 0#8).take l.inW
    let b := if l.wide then v.flatMap (fun x => leBytes 2 (wrapBits 16 x.toInt)) else v
    (b ++ List.replicate (vecBytes l.inW l.elem) 0#8).take (vecBytes l.inW l.elem)
  plotWrite p (actBase + 16 * l.xin) (vs.flatMap row) s

/-- The seed of the test plot, row `i` (chapter 13, "The test plot"). -/
def State.tpSeed (s : State) (i : Nat) : BitVec 64 :=
  BitVec.ofNat 64 (s.fld F.SAF_TP_SEED_LO_SEED + 2 ^ 32 * s.fld F.SAF_TP_SEED_HI_SEED) ^^^ BitVec.ofNat 64 (i * 2 ^ 48)

/-- ρ: 1 on the west chip of a twin pair, else 0 (chapter 12). -/
def State.rho (s : State) : Nat := if s.twin then s.roleBit else 0

/-- K1 of chapter 12. -/
def genK1 : BitVec 64 := 0x9E3779B97F4A7C15#64

/-- The rounding seed of row `i` of physical plot `p` in Exact mode (Table DET-3). -/
def State.roundSeed (s : State) (p i : Nat) : BitVec 64 :=
  BitVec.ofNat 64 (s.ldr.hdr.seeds.getD 1 0) ^^^ BitVec.ofNat 64 (s.ldr.hdr.seeds.getD (2 + s.rho) 0)
    ^^^ (BitVec.ofNat 64 (s.frameNo * s.K) * genK1) ^^^ BitVec.ofNat 64 (p * 2 ^ 56) ^^^ BitVec.ofNat 64 (i * 2 ^ 48)

/-- The 16 generators of a run that starts now (Table DET-3, R231, "The test plot"). -/
def runSeeds (tplot : Bool) (plot : Nat) (s : State) : List (BitVec 64) × State :=
  if tplot then ((List.range 16).map (fun i => s.tpSeed i), s)
  else if s.exact then ((List.range 16).map (fun i => s.roundSeed (s.physOf plot) i), s)
  else (List.range 16).foldl (fun x _ => let f := x.2.fresh; (x.1 ++ [Config.entropy f.1], f.2)) ([], s)

/-! ## Starting an entry -/

/-- A network is PRG's: it runs for the estate. -/
def SchedEntry.prg (e : SchedEntry) : Bool := decide (4 ≤ e.tenant)

/-- Axis `a` has finished a replay and holds its stop period (R243). -/
def State.replayDone (s : State) (t : Nat) : Bool := decide (t < 4) && s.fld (F.LPE_RPL_STAT_STATE t) == 3

/-- A schedule entry of tenant `t` and OP `op` acts in this frame: its tenant is not in reset (R255), and it is no observer
RUN of an axis that holds a finished replay (R243). -/
def State.entryLive (s : State) (e : SchedEntry) : Bool :=
  !(decide (e.tenant < 4) && s.inReset e.tenant) && !(e.op == 1 && s.replayDone e.tenant)

/-- The next test vector of network `n`, in SEQ order within the frame. -/
def State.nextVec (s : State) (n : Nat) : List Byte :=
  let vs := (s.field.vecs.filter (fun v => v.net == n)).mergeSort (fun a b => decide (a.seq ≤ b.seq))
  (vs[SMap.get 0 s.field.seqNext n]?).elim [] (fun v => v.els)

/-- The golden window: record `p` for batch position `p`. -/
def goldenInput (s : State) : List (List Byte) × State :=
  let n := s.fld F.FLD_PRG_STAT_F
  (List.range (max 1 (s.fld F.FLD_PRG_CFG_W))).foldl (fun x p =>
    let r := granRead (some 4) (s.fld F.SAF_TP_WIN_OFFSET + n * p) n x.2
    (x.1 ++ [r.1], r.2)) ([], s)

/-- The input vectors of an entry: the input stage, the next test vector, the prognostic window or the golden window. -/
def entryInput (e : SchedEntry) (s : State) : List (List Byte) × State :=
  if e.op = 2 then
    if e.prg then goldenInput s
    else
      let v := s.nextVec e.net
      ([v], s.modField (fun f => { f with seqNext := SMap.put 0 f.seqNext e.net (SMap.get 0 f.seqNext e.net + 1) }))
  else if h : e.tenant < 4 then
    let r := obsInput ⟨e.tenant, h⟩ s
    ([r.1], r.2)
  else windowInput s

/-- A RUN or TPLOT schedule entry starts its network (R177): the planned grant is checked (R72), the cutting copies are
chosen (R203), the generators are seeded, and the input words are loaded. -/
def entryStart (i : Nat) (s : State) : State :=
  match s.field.sched[i]? with
  | none => s
  | some e =>
    if !s.pow.running || !s.pd 3 || !(e.op == 1 || e.op == 2) || !s.entryLive e then s
    else match s.entryPlot e, s.netLayers e.net with
      | some p, l :: _ =>
        let s := plannedStart i e.tenant e.start e.len s
        let csets := s.altBits
        let g := if 0x80 ≤ e.plot then runSeeds (e.op == 2) p s else (List.replicate 16 0#64, s)
        let x := entryInput e g.2
        let s := writeInputs p l x.1 x.2
        let r : NetRun := ⟨i, p, csets, 0, g.1, []⟩
        (s.setFlag (F.FLD_P_STAT_BUSY p) true).modField (fun f => { f with
          runs := f.runs.filter (fun q => q.plot != p) ++ [r] })
      | _, _ => s

/-! ## A layer -/

/-- Reads `n` operand bytes of a layer on plot `p` for tenant `t`. -/
def opRead (t p : Nat) (l : Layer) (k n : Nat) (s : State) : List Byte × State :=
  if l.granary then granRead (some t) k n s else plotRead (some t) p k n s

/-- The operand bytes as the memory holds them, errors aside. -/
def State.opRaw (s : State) (p : Nat) (l : Layer) (k n : Nat) : List Byte :=
  if l.granary then memRead s.gran k n else memRead s.plots (plotBase p + k) n

/-- The most bytes a cutting part of a layer can take. -/
def cutMax (l : Layer) (r : Nat) (d : Bool) : Nat :=
  16 * l.tiles * r + l.groups * (16 * r + (if d then l.tiles * 160 else 0))

/-- What the expander hands to the array: weights and scales by padded output channel, the weights that saturated, and
the bytes consumed. -/
structure LayerOps where
  weights : List (List Int)
  scales  : List Nat
  wsat    : Nat
  used    : Nat
  deriving DecidableEq, Repr

/-- The operand stream of layer `k` of a run for tenant `t` (R198, R203). -/
def layerOps (t : Nat) (run : NetRun) (k : Nat) (l : Layer) (s : State) : LayerOps × State :=
  let c := s.cutOf t l.net k
  let at_ (c : CutEntry) : Nat := c.copy (run.csets.getLsbD c.cset)
  let base := if l.flat then (c.filter (fun c => c.kind.testBit 2)).elim l.opAddr at_ else l.opAddr
  let st := opRead t run.plot l base l.stockBytes s
  let d := !l.wide && !l.flat && c.any (fun c => c.kind.testBit 0)
  let r := if !l.wide && !l.flat && c.any (fun c => c.kind.testBit 1) then rankR l.rank else 0
  let from_ := c.elim 0 at_
  let size := if d || r != 0 then (parseCutting l r d (s.opRaw run.plot l from_ (cutMax l r d))).size else 0
  let ct := opRead t run.plot l from_ size st.2
  let cut := parseCutting l r d (ct.1 ++ List.replicate (cutMax l r d) 0#8)
  let rows := (List.range (16 * l.groups)).map (fun o =>
    if l.wide then (stockRow l st.1 o, 0) else mergeRow l r cut (stockRow l st.1 o) o)
  (⟨rows.map (fun x => x.1), (List.range (16 * l.groups)).map (fun o => stockScale l st.1 o),
    (rows.map (fun x => x.2)).sum, l.stockBytes + size⟩, ct.2)

/-- The signed elements of `n` bytes of activations. -/
def elements (l : Layer) (bs : List Byte) : List Int :=
  (List.range (bs.length / l.elem)).map (fun j => signedOf (8 * l.elem) (leAt bs (l.elem * j) l.elem))

/-- The input vectors of a layer by batch position. -/
def layerInputs (t p : Nat) (l : Layer) (s : State) : List (List Int) × State :=
  let n := vecBytes l.inW l.elem
  (List.range l.batch).foldl (fun x b =>
    let r := plotRead (some t) p (actBase + 16 * l.xin + n * b) n x.2
    (x.1 ++ [elements l r.1], r.2)) ([], s)

/-- A generator after `k` advances. -/
def genAfter : Nat → BitVec 64 → BitVec 64
  | 0, g => g
  | k + 1, g => genAfter k (genNext g)

/-- The accumulators of a layer with the saturations of each: by batch position and padded output channel. -/
def layerAcc (l : Layer) (ops : LayerOps) (xs : List (List Int)) : List (List (Int × Nat)) :=
  xs.map (fun x => ops.weights.map (fun w => accumulate (if l.wide then 4 else 16) w.length w x 0 0))

/-- The value before rounding of channel `o`. -/
def layerY (l : Layer) (ops : LayerOps) (acc : List (Int × Nat)) (o : Nat) : Word :=
  requantY (acc.getD o (0, 0)).1 (ops.scales.getD o 0) l.rqMul

/-- The layer rounds stochastically. -/
def Layer.stoch (l : Layer) : Bool := l.act.testBit 7

/-- The output of channel `o` at batch position `b`: the generator of its row has advanced once per output of the row,
group by group and within a group position by position (R176, Table DET-3). -/
def layerOut (l : Layer) (lut : List Byte) (ops : LayerOps) (gens : List (BitVec 64)) (acc : List (Int × Nat)) (b o : Nat) : Int :=
  let frac := if l.stoch then some (genOut (genAfter (o / 16 * l.batch + b + 1) (gens.getD (o % 16) 0))) else none
  activate l lut (layerY l ops acc o) frac

/-- The bytes of one output vector. -/
def outBytes (l : Layer) (v : List Int) : List Byte := v.flatMap (fun q => leBytes l.elem (wrapBits (8 * l.elem) q))

/-- The last layer of PRG in Twin mode gives FP32 partials, not outputs ("Twin reduction order"). -/
def State.partialLayer (s : State) (t k n : Nat) : Bool :=
  s.twin && decide (4 ≤ t) && decide (k + 1 = (s.netLayers n).length)

/-- Runs layer `k` of a run for tenant `t`. -/
def layerRun (t : Nat) (run : NetRun) (k : Nat) (l : Layer) (s : State) : NetRun × State :=
  let x := layerOps t run k l s
  let ops := x.1
  let y := layerInputs t run.plot l x.2
  let acc := layerAcc l ops y.1
  let s := y.2.bump (F.FLD_X_STAT_WSAT run.plot) ops.wsat
  let sat := (acc.map (fun a => (a.map (fun v => v.2)).sum)).sum
  let s := if sat = 0 then s else (s.bump (F.FLD_P_STAT_ACC_SAT run.plot) sat).setFlag F.FLD_STAT_ACC_SAT true
  let s := if ops.used = l.opBytes then s
    else raiseDoubt t 8 (s.setFlag (F.FLD_X_STAT_LEN_ERR run.plot) true)
  let outs := List.range (16 * l.groups)
  if s.partialLayer t k l.net then
    ({ run with layer := k + 1, parts := acc.flatMap (fun a => (outs.take l.outW).map (fun o => layerY l ops a o)) }, s)
  else
    let lut := s.netLut l.net (l.act / 4 % 8)
    let vs := (List.range acc.length).map (fun b => outs.map (fun o => layerOut l lut ops run.gens (acc.getD b []) b o))
    let gens := if l.stoch then run.gens.map (genAfter (l.groups * l.batch)) else run.gens
    ({ run with layer := k + 1, gens := gens }, plotWrite run.plot (actBase + 16 * l.xout) (vs.flatMap (outBytes l)) s)

/-- A layer of the run of entry `i` ends (R177, R200); `ups` strike before it reads. -/
def layerEnd (i : Nat) (ups : List Upset) (s : State) : State :=
  let s := applyUpsets ups s
  match s.field.runs.find? (fun r => r.entry == i), s.field.sched[i]? with
  | some run, some e =>
    match (s.netLayers e.net)[run.layer]? with
    | none => s
    | some l =>
      let x := layerRun e.tenant run run.layer l s
      x.2.modField (fun f => { f with runs := f.runs.map (fun r => if r.entry = i then x.1 else r) })
  | _, _ => s

/-! ## The commit -/

/-- Ends the run of entry `i`: its tokens return, and its plot is no longer busy. -/
def runDrop (i : Nat) (s : State) : State :=
  let s := s.each (s.field.runs.filter (fun r => r.entry == i)) (fun s r => s.setFlag (F.FLD_P_STAT_BUSY r.plot) false)
  plannedEnd i (s.modField (fun f => { f with runs := f.runs.filter (fun r => r.entry != i) }))

/-- Ends every run of a set of schedule entries without a commit. -/
def runsDrop (p : SchedEntry → Bool) (s : State) : State :=
  s.each (s.field.runs.map (fun r => r.entry)) (fun s i => if (s.field.sched[i]?).any p then runDrop i s else s)

/-- The outputs of a run: the last layer's vectors in position order, each in channel order. -/
def runOutputs (e : SchedEntry) (run : NetRun) (l : Layer) (s : State) : List Byte × State :=
  if s.partialLayer e.tenant (run.layer - 1) e.net then (run.parts.flatMap (fun w => leBytes 4 w.toNat), s)
  else
    let n := vecBytes l.outW l.elem
    (List.range l.batch).foldl (fun x b =>
      let r := plotRead (some e.tenant) run.plot (actBase + 16 * l.xout + n * b) (l.outW * l.elem) x.2
      (x.1 ++ r.1, r.2)) ([], s)

/-- Stores the outputs of a committed test-plot run. -/
def tpStore (n i : Nat) (bs : List Byte) (s : State) : State :=
  s.modSaf (fun f =>
    let r := SMap.get {} f.tp n
    { f with tp := SMap.put {} f.tp n { r with outs := SMap.put [] r.outs i bs } })

/-- A lane of PRG commits its outputs: int8 channels, or in Twin mode partials, which wait for the reduction. -/
def laneStore (lane : Nat) (run : NetRun) (l : Layer) (bs : List Byte) (s : State) : State :=
  if s.twin then
    s.modLink (fun k => { k with parts := k.parts ++ [⟨s.roleBit, lane, 0, run.parts.take l.outW⟩], redWait := true })
  else
    s.modField (fun f => { f with
      prgOut := SMap.put [] f.prgOut lane (((elements l bs).take l.outW).map (fun v => word (wrapBits 32 v))) })

/-- The network of entry `i` commits in its last cycle (R213, R249): raw words, a lane's outputs, or the test plot's
output bytes; the commit is counted.  A run whose layers have not all ended commits nothing. -/
def networkCommit (i : Nat) (s : State) : State :=
  match s.field.runs.find? (fun r => r.entry == i), s.field.sched[i]? with
  | some run, some e =>
    let ls := s.netLayers e.net
    match ls.getLast? with
    | none => s
    | some l =>
      if run.layer < ls.length then s
      else
        let o := runOutputs e run l s
        let s := countCommit (min e.tenant 4) (runDrop i o.2)
        if e.op = 2 then tpStore e.net i o.1 s
        else if h : e.tenant < 4 then obsCommit ⟨e.tenant, h⟩ (o.1.take 16) s
        else laneStore (e.plot - 0x80) run l o.1 s
  | _, _ => s

/-! ## The verdict -/

/-- The lanes of PRG whose RUN entries act in a frame. -/
def State.prgLanes (s : State) : List Nat :=
  (s.field.sched.filter (fun e => e.op == 1 && e.prg && decide (0x80 ≤ e.plot))).map (fun e => e.plot - 0x80)

/-- PRG's outputs in Standalone mode, none before every lane has committed; of several lanes they are free (log entry
19). -/
def State.prgOutputs (s : State) : Option (List Int) :=
  let ls := s.prgLanes
  let out (n : Nat) : List Int := (SMap.get [] s.field.prgOut n).map (fun w => signedOf 32 w.toNat)
  if ls.isEmpty || ls.any (fun n => (out n).isEmpty) then none
  else match ls with
    | [n] => some (out n)
    | _ => some (Config.prgLanes ((ls.mergeSort (· ≤ ·)).map out))

/-- PRG is complete: its verdict records are posted in ascending axis order (R225, R248). -/
def prgVerdicts (s : State) : State :=
  let done (s : State) : State := s.modField (fun f => { f with prgOut := [], prgRes := none })
  if s.twin then match s.field.prgRes with
    | none => s
    | some (solo, out) => done (verdictsPost solo out s)
  else match s.prgOutputs with
    | none => s
    | some out => done (verdictsPost false out s)

/-! ## The test-plot comparison -/

/-- The test-plot entries of network `n`, with their indices, in schedule order: by START, then by lane. -/
def State.tpEntries (s : State) (n : Nat) : List (Nat × SchedEntry) :=
  let l := ((List.range s.field.sched.length).zip s.field.sched).filter (fun x => x.2.op == 2 && x.2.net == n)
  l.mergeSort (fun a b => decide (256 * a.2.start + a.2.plot ≤ 256 * b.2.start + b.2.plot))

/-- What the comparator finds for network `n` after its last TPLOT entry: its tenant, and whether its signature agrees, or none
in a frame in which its active signature changed; nothing for a tenant in reset (R250, R252, R255). -/
def State.tpJudge (s : State) (n : Nat) : Option (Nat × Option Bool) :=
  let es := s.tpEntries n
  match es with
  | [] => none
  | (_, e) :: _ =>
    let t := min e.tenant 4
    if t < 4 && s.inReset t then none
    else
      let r := SMap.get {} s.saf.tp n
      let outs := es.map (fun x => SMap.get [] r.outs x.1)
      some (t, if r.skip then none else some (outs.all (fun o => !o.isEmpty) && crc32c outs.flatten == s.fld (F.SAF_TPSIG_SIG n)))

/-- The comparison of network `n` (R250): a mismatch, or a run that did not commit, is doubt. -/
def tpCompare (n : Nat) (s : State) : State :=
  match s.tpJudge n with
  | none => s
  | some (_, none) => s.bump F.SAF_TP_STAT_SKIP 1
  | some (t, some true) => s.modSaf (fun f => { f with tpPass := f.tpPass ||| BitVec.ofNat 5 (2 ^ t) })
  | some (t, some false) => raiseDoubt t 0 (s.setBit F.SAF_TP_STAT_FAIL t true)

/-! ## Fallow BIST -/

/-- The fallow plot starts its BIST (R181). -/
def bistStart (s : State) : State :=
  if s.pow.running && s.pd 3 && s.fallowPlot.isSome then plannedStart bistIdx 4 0 s.frameFclk s else s

/-- The fallow BIST ends (R181): the segment under test holds zeros, and a failure is estate doubt. -/
def bistEnd (fail : Bool) (s : State) : State :=
  match s.fallowPlot with
  | none => s
  | some p =>
    if !s.field.planned.any (fun x => x.1 == bistIdx) then s
    else
      let seg := s.frameNo / max 1 s.nList % 16
      let s := plotWrite p (0x4000 * seg) (List.replicate 0x4000 0#8) (plannedEnd bistIdx s)
      let s := s.setReg R.FLD_BIST (word (2 ^ 31 + fail.toNat * 2 ^ 30 + p * 2 ^ 24 + seg * 2 ^ 16 + s.frameNo * s.K % 65536))
      let s := countCommit 4 s
      if fail then raiseDoubt 4 11 (s.setFlag F.FLD_STAT_BIST_FAIL true) else s

/-! ## Planned silo transfers -/

/-- Data bytes of a block of a spill-table entry. -/
def SpillEntry.blkBytes (t : SpillEntry) : Nat := 512 * 2 ^ t.blk

/-- The spill-table entry that schedule entry `e` names. -/
def State.spillOf (s : State) (e : SchedEntry) : Option SpillEntry := s.field.spills[e.net]?

/-- A planned silo transfer starts its command (R192). -/
def spillStart (i : Nat) (s : State) : State :=
  match s.field.sched[i]? with
  | none => s
  | some e =>
    if !s.pow.running || !s.pd 5 || e.op != 3 || !s.entryLive e || (s.spillOf e).isNone then s
    else
      let s := plannedStart i e.tenant e.start e.len s
      (s.setFlag F.SIL_STAT_BUSY true).modField (fun f => { f with
        spillRuns := f.spillRuns.filter (fun r => r.entry != i) ++ [⟨i, 0⟩] })

/-- A planned transfer ends: it is counted, for the estate's checkpoint and in SIL_XFER. -/
def spillDone (i : Nat) (s : State) : State :=
  let s := s.modField (fun f => { f with spillRuns := f.spillRuns.filter (fun r => r.entry != i) })
  let s := s.setFlag F.SIL_STAT_BUSY (!s.field.spillRuns.isEmpty || s.field.siloAcc.isSome)
  countCommit 4 (plannedEnd i (s.setFld F.SIL_XFER_COUNT (s.fld F.SIL_XFER_COUNT + 1)))

/-- Block `k` of a transfer of tenant `t` fails its CRC (R192, R238). -/
def blockFail (t : Nat) (x : SpillEntry) (k : Nat) (s : State) : State :=
  let s := (s.setFlag F.FLD_STAT_SILO_CRC true).setFlag F.SIL_STAT_CRC true
  let s := (s.bump F.SIL_CRC_CNT_COUNT 1).setFld F.SIL_ERR_ADDR_ADDR (x.silo + k * (x.blkBytes + 4))
  raiseDoubt t 9 (detFlag F.PCR_DET_STAT_SILO s)

/-- A block of the transfer of entry `i` ends; `bytes` are its data and its CRC-32C as received (R192). -/
def siloBlock (i : Nat) (bytes : List Byte) (s : State) : State :=
  match s.field.spillRuns.find? (fun r => r.entry == i), s.field.sched[i]? with
  | some run, some e =>
    match s.spillOf e with
    | none => s
    | some x =>
      let n := x.blkBytes
      let data := bytes.take n
      let s := granWrite (x.dest + run.done * n) data s
      let ok := bytes.length == n + 4 && leAt bytes n 4 == crc32c data
      let s := if ok then s else blockFail e.tenant x run.done s
      if x.blocks ≤ run.done + 1 then spillDone i s
      else s.modField (fun f => { f with
        spillRuns := f.spillRuns.map (fun r => if r.entry = i then { r with done := run.done + 1 } else r) })
  | _, _ => s

/-- No data strobe: the burst of entry `i` ends at once, and every block of it fails (R381). -/
def dqsTimeout (i : Nat) (s : State) : State :=
  match s.field.spillRuns.find? (fun r => r.entry == i), s.field.sched[i]? with
  | some run, some e =>
    match s.spillOf e with
    | none => s
    | some x => spillDone i (s.each ((List.range x.blocks).drop run.done) (fun s k => blockFail e.tenant x k s))
  | _, _ => s

/-! ## Cutting swaps -/

/-- The plot on which network `n` runs for tenant `t`. -/
def State.netPlot (s : State) (t n : Nat) : Nat :=
  ((s.field.sched.find? (fun e => e.tenant == t && e.net == n && decide (e.plot < 16))).map (fun e => e.plot)).getD 0

/-- The layer that a cutting-table entry names. -/
def State.cutLayer (s : State) (c : CutEntry) : Option Layer := (s.netLayers c.net)[c.layer]?

/-- The entries of cutting set `c`, in table order. -/
def State.csetEntries (s : State) (c : Nat) : List CutEntry := s.field.cuts.filter (fun e => e.cset == c)

/-- A mask of the delta record of tile (`g`, `h`) has a bit in a padding position. -/
def padMask (l : Layer) (g h : Nat) (rc : List Byte) : Bool :=
  (List.range 16).any (fun i => (List.range 16).any (fun j =>
    (leAt rc (2 * i) 2).testBit j && (decide (l.outW ≤ 16 * g + i) || decide (l.inW ≤ 16 * h + j))))

/-- Where the delta records of group `g` start in a cutting part, or any of the masks of the groups before lies in
padding. -/
def padScan (l : Layer) (r : Nat) : Nat → Nat → Nat → List Byte → Bool
  | 0, _, _, _ => false
  | n + 1, g, h, bs =>
    if h = l.tiles then padScan l r n (g + 1) 0 (bs.drop (16 * r))
    else padMask l g h bs || padScan l r n g (h + 1) (bs.drop (deltaTile bs).2)

/-- The SIZE test of one entry of a swap check, on the bytes of its inactive copy. -/
def cutSizeOk (l : Layer) (c : CutEntry) (bs : List Byte) : Bool :=
  let r := if c.kind.testBit 1 then rankR l.rank else 0
  let d := c.kind.testBit 0
  if c.kind.testBit 2 then c.bytes == l.stockBytes
  else
    (parseCutting l r d bs).size == c.bytes && decide (bs.length = c.bytes)
    && !(d && padScan l r (l.groups * (l.tiles + 1)) 0 0 (bs.drop (16 * l.tiles * r + 16 * r)))

/-- The bytes of a copy of a cutting-table entry. -/
def State.cutBytes (s : State) (c : CutEntry) (alt : Bool) : List Byte :=
  match s.cutLayer c with
  | none => []
  | some l => s.opRaw (s.netPlot c.tenant c.net) l (c.copy alt) c.bytes

/-- A swap request of set `c` is refused with reason `why` (R204, R205). -/
def cutRefuse (c why : Nat) (s : State) : State :=
  let s := (s.setFlag (F.FLD_CSET_CTRL_REJ c) true).setFld (F.FLD_CSET_CTRL_WHY c) why
  ((s.setFlag (F.FLD_CSET_CTRL_LOCK c) false).setFlag (F.FLD_CSET_CTRL_PENDING c) false).modField
    (fun f => { f with csetChk := f.csetChk.filter (· != c) })

/-- The step tag of a cutting swap. -/
def State.cutTag (s : State) (c : Nat) : Nat := s.tag48 (F.FLD_CSET_STEP_LO_STEP_LO c) (F.FLD_CSET_STEP_HI_STEP_HI c)

/-- The swap check of set `c` ends (R204): SIZE, then CRC, then in Exact mode its tag (R205). -/
def cutCheckEnd (c : Nat) (s : State) : State :=
  if !s.field.csetChk.contains c then s
  else
    let alt := !s.flag (F.FLD_CSET_CTRL_ALT c)
    let es := s.csetEntries c
    let ok (e : CutEntry) : Bool := (s.cutLayer e).any (fun l => cutSizeOk l e (s.cutBytes e alt))
    if !es.all ok then cutRefuse c 1 s
    else if crc32c (es.flatMap (fun e => s.cutBytes e alt)) != s.fld (F.FLD_CSET_CRC_CRC c) then cutRefuse c 2 s
    else if s.exact && s.tagLate (s.fld (F.FLD_CSET_CTRL_TENANT c)) (s.cutTag c) then cutRefuse c 3 s
    else (s.setFlag (F.FLD_CSET_CTRL_PENDING c) true).modField (fun f => { f with csetChk := f.csetChk.filter (· != c) })

/-- Network `n` takes its staged signature as active (R252). -/
def sigPromote (n : Nat) (s : State) : State :=
  let s := s.setFld (F.SAF_TPSIG_SIG n) (s.fld (F.SAF_TPSIG_STAGE_SIG n))
  s.modSaf (fun f => { f with tp := SMap.put {} f.tp n { SMap.get {} f.tp n with skip := true } })

/-- A cutting swap of set `c` at a schedule-period boundary (R205); a tenant in reset keeps it pending.  A check still
running at the frame boundary its tag names is refused. -/
def cutSwap (c : Nat) (s : State) : State :=
  let t := s.fld (F.FLD_CSET_CTRL_TENANT c)
  if s.exact && s.field.csetChk.contains c && decide (s.cutTag c ≤ s.stepFor t) && s.atFrame then cutRefuse c 3 s
  else if s.flag (F.FLD_CSET_CTRL_PENDING c) && !s.inReset t && (!s.exact || decide (s.cutTag c ≤ s.stepFor t)) then
    let s := s.setFlag (F.FLD_CSET_CTRL_ALT c) (!s.flag (F.FLD_CSET_CTRL_ALT c))
    let s := (s.setFlag (F.FLD_CSET_CTRL_PENDING c) false).setFlag (F.FLD_CSET_CTRL_LOCK c) false
    s.each (s.csetNets c) (fun s n => sigPromote n s)
  else s

/-! ## The checkpoint -/

/-- The commits of tenant `t` that one schedule period brings (chapter 13, "The end-of-frame checkpoint"). -/
def State.ckptPeriod (s : State) (t : Nat) : Nat :=
  let reps (p : SchedEntry → Bool) : Nat := (s.field.sched.filter (fun e => e.rep && s.entryLive e && p e)).length
  if h : t < 4 then
    let a : Fin 4 := ⟨t, h⟩
    if !s.axisRuns a then 0
    else reps (fun e => e.op != 3 && e.tenant == t)
      + (if s.flag (F.LPE_CTRL_EN a) then 2 * (s.fld F.PCR_SCHED_TS_LCLK / max 1 (s.fld (F.PWM_PER_PER a))) else 0)
  else reps (fun e => e.op == 3 || decide (4 ≤ e.tenant))

/-- The commits of tenant `t` that entries without REPEAT bring from period `j` of the frame on. -/
def State.ckptOnce (s : State) (t j : Nat) : Nat :=
  let ts := s.fld F.PCR_SCHED_TS_LCLK * 8 / 5
  let once (p : SchedEntry → Bool) : Nat :=
    (s.field.sched.filter (fun e => !e.rep && s.entryLive e && decide (j * ts ≤ e.start) && p e)).length
  if t < 4 then (if s.inReset t then 0 else once (fun e => e.op != 3 && e.tenant == t))
  else once (fun e => e.op == 3 || decide (4 ≤ e.tenant)) + (if j = 0 ∧ s.nList ≠ 0 then 1 else 0)

/-- The expected commits of tenant `t` from period `j` of the frame to its end. -/
def State.ckptRest (s : State) (t j : Nat) : Nat := (s.K - j) * s.ckptPeriod t + s.ckptOnce t j

/-- The counters and the expected counts restart at a frame boundary. -/
def ckptFrame (s : State) : State :=
  s.each (List.range 5) (fun s t => (s.setFld (F.SAF_CKPT_CNT_CNT t) 0).setFld (F.SAF_CKPT_EXP_EXP t) (s.ckptRest t 0))

/-- Within a frame the expected counts follow what changed at a boundary; `before` are the rests before it. -/
def ckptFollow (before : List Nat) (s : State) : State :=
  s.each (List.range 5) (fun s t =>
    s.setFld (F.SAF_CKPT_EXP_EXP t) (s.fld (F.SAF_CKPT_EXP_EXP t) + s.ckptRest t s.perInFrame - before.getD t 0))

/-- The end-of-frame checkpoint (R254, R255): the tenants whose counts differ, and doubt for each. -/
def checkpoint (s : State) : State :=
  if !s.pow.running then s
  else
    let out (t : Nat) : Bool := decide (t < 4) && (!s.axisConf t || s.inReset t)
    let miss := (List.range 5).filter (fun t =>
      !out t && s.fld (F.SAF_CKPT_CNT_CNT t) != s.fld (F.SAF_CKPT_EXP_EXP t))
    let s := s.setReg R.SAF_CKPT_LAST (word (s.stepN % 65536 * 65536 + miss.foldl (fun n t => n + 2 ^ t) 0))
    s.each miss (fun s t => raiseDoubt t 1 s)

end Sys2Proof.Machine
end

