-- ==== Sys2Proof/Machine/Catalog.lean ====
section
/-! DEFINITION. The register catalogue: for every register of the spec's register tables its place, its repetition
and the access code of each of its fields (Table SCO-6, Table MAP-8), and what a plain write does to a word by
those codes alone (R7, R8, R10).  An access that also acts (a WO field, a guarded write) has its meaning in the
block's own file; the catalogue says which bits of the word a write changes. -/

namespace Sys2Proof.Machine

/-- The access codes of Table SCO-6. -/
inductive Access where
  | rw | ro | w1c | w1s | wo | rws
  deriving DecidableEq, Repr

/-- One field of a register: its bits `[hi:lo]` and its access code. -/
structure FieldDef where
  hi  : Nat
  lo  : Nat
  acc : Access
  deriving DecidableEq, Repr

/-- One row of a register table: the offset (a host address, or an offset within an axis window), how many times
the register repeats and at which stride, its fields, and the bits whose Reset column reads IMG. -/
structure RegDef where
  base   : Nat
  count  : Nat
  stride : Nat
  fields : List FieldDef
  img    : Word
  deriving DecidableEq, Repr

open Access

/-- The CHIP_ registers. -/
def catChip : List RegDef := [
  /- CHIP_ID -/ ⟨0x0, 1, 4, [⟨31, 16, ro⟩, ⟨15, 12, ro⟩, ⟨11, 0, ro⟩], 0x0#32⟩,
  /- CHIP_UID_LO -/ ⟨0x4, 1, 4, [⟨31, 0, ro⟩], 0x0#32⟩,
  /- CHIP_UID_HI -/ ⟨0x8, 1, 4, [⟨31, 0, ro⟩], 0x0#32⟩,
  /- CHIP_OPT -/ ⟨0xC, 1, 4, [⟨19, 16, ro⟩, ⟨4, 0, ro⟩], 0x0#32⟩,
  /- CHIP_REPRO_SIG -/ ⟨0x10, 1, 4, [⟨31, 28, ro⟩, ⟨27, 24, ro⟩, ⟨23, 16, ro⟩, ⟨15, 12, ro⟩, ⟨11, 8, ro⟩, ⟨7, 0, ro⟩], 0x0#32⟩]

/-- The SCW_ registers. -/
def catScw : List RegDef := [
  /- SCW_SCAN -/ ⟨0x10004, 1, 4, [⟨31, 16, ro⟩, ⟨4, 0, ro⟩], 0xFFFF001F#32⟩,
  /- SCW_SCAN_SAFE -/ ⟨0x10008, 1, 4, [⟨15, 0, ro⟩], 0xFFFF#32⟩,
  /- SCW_SLOT -/ ⟨0x10040, 24, 4, [⟨5, 5, ro⟩, ⟨4, 0, ro⟩], 0x3F#32⟩,
  /- SCW_FILT -/ ⟨0x100A0, 4, 4, [⟨31, 31, ro⟩, ⟨30, 30, ro⟩, ⟨29, 29, ro⟩, ⟨12, 8, ro⟩, ⟨3, 0, ro⟩], 0xE0001F0F#32⟩,
  /- SCW_SPIN_CFG -/ ⟨0x100C0, 4, 4, [⟨31, 31, ro⟩, ⟨27, 24, ro⟩, ⟨15, 0, ro⟩], 0x8F00FFFF#32⟩,
  /- SCW_VAL -/ ⟨0x10100, 24, 4, [⟨15, 0, ro⟩], 0x0#32⟩,
  /- SCW_FVAL -/ ⟨0x10180, 4, 4, [⟨15, 0, ro⟩], 0x0#32⟩,
  /- SCW_RULE_A -/ ⟨0x10200, 32, 8, [⟨31, 31, ro⟩, ⟨30, 29, ro⟩, ⟨28, 26, ro⟩, ⟨25, 20, ro⟩, ⟨19, 12, ro⟩, ⟨7, 0, ro⟩], 0xFFFFF0FF#32⟩,
  /- SCW_RULE_B -/ ⟨0x10204, 32, 8, [⟨23, 16, ro⟩, ⟨15, 0, ro⟩], 0xFFFFFF#32⟩,
  /- SCW_FIRED -/ ⟨0x10300, 1, 4, [⟨31, 0, w1c⟩], 0x0#32⟩,
  /- SCW_SPIN -/ ⟨0x10320, 4, 4, [⟨31, 31, ro⟩, ⟨29, 28, ro⟩, ⟨27, 20, ro⟩, ⟨15, 0, ro⟩], 0x0#32⟩,
  /- SCW_LOG_HEAD -/ ⟨0x10340, 1, 4, [⟨31, 31, ro⟩, ⟨28, 24, ro⟩, ⟨23, 16, ro⟩, ⟨15, 0, ro⟩], 0x0#32⟩,
  /- SCW_LOG_TIME -/ ⟨0x10344, 1, 4, [⟨31, 0, ro⟩], 0x0#32⟩,
  /- SCW_LOG_STAT -/ ⟨0x10348, 1, 4, [⟨15, 8, w1c⟩, ⟨4, 0, ro⟩], 0x0#32⟩,
  /- SCW_TICK -/ ⟨0x10350, 1, 4, [⟨31, 0, ro⟩], 0x0#32⟩,
  /- SCW_SAFE_N -/ ⟨0x10354, 1, 4, [⟨2, 2, w1c⟩, ⟨1, 1, ro⟩, ⟨0, 0, ro⟩], 0x0#32⟩]

/-- The PCR_ registers, part 1. -/
def catPcr_0 : List RegDef := [
  /- PCR_PWR_STATE -/ ⟨0x20000, 1, 4, [⟨31, 31, ro⟩, ⟨21, 16, ro⟩, ⟨3, 0, ro⟩], 0x0#32⟩,
  /- PCR_RST_CAUSE -/ ⟨0x20004, 1, 4, [⟨5, 5, w1c⟩, ⟨4, 4, w1c⟩, ⟨3, 3, w1c⟩, ⟨2, 2, w1c⟩, ⟨1, 1, w1c⟩], 0x0#32⟩,
  /- PCR_RST_CTRL -/ ⟨0x20008, 1, 4, [⟨31, 24, wo⟩, ⟨0, 0, wo⟩], 0x0#32⟩,
  /- PCR_CLK_STATUS -/ ⟨0x2000C, 1, 4, [⟨5, 5, ro⟩, ⟨4, 4, ro⟩, ⟨3, 3, ro⟩, ⟨2, 2, ro⟩, ⟨1, 1, ro⟩, ⟨0, 0, ro⟩], 0x0#32⟩,
  /- PCR_BOOT -/ ⟨0x20010, 1, 4, [⟨1, 0, ro⟩], 0x0#32⟩,
  /- PCR_SLEEP -/ ⟨0x20020, 1, 4, [⟨31, 28, ro⟩, ⟨2, 2, rw⟩, ⟨1, 1, rw⟩, ⟨0, 0, wo⟩], 0x0#32⟩,
  /- PCR_WAKE -/ ⟨0x20024, 1, 4, [⟨31, 31, ro⟩, ⟨10, 8, ro⟩, ⟨4, 0, ro⟩], 0x0#32⟩,
  /- PCR_WAKE_HOST -/ ⟨0x20028, 1, 4, [⟨0, 0, wo⟩], 0x0#32⟩,
  /- PCR_WAKE_TIME -/ ⟨0x2002C, 1, 4, [⟨23, 0, ro⟩], 0x0#32⟩,
  /- PCR_RESTORE_BYTES -/ ⟨0x20030, 1, 4, [⟨31, 0, ro⟩], 0x0#32⟩,
  /- PCR_FLD_CTRL -/ ⟨0x20034, 1, 4, [⟨31, 31, w1c⟩, ⟨30, 30, wo⟩, ⟨15, 0, rw⟩], 0x0#32⟩,
  /- PCR_EPOCH -/ ⟨0x20038, 1, 4, [⟨31, 0, ro⟩], 0x0#32⟩,
  /- PCR_SUPPLY -/ ⟨0x2003C, 1, 4, [⟨4, 0, ro⟩], 0x0#32⟩,
  /- PCR_STEP_LO -/ ⟨0x20100, 1, 4, [⟨31, 0, ro⟩], 0x0#32⟩,
  /- PCR_STEP_HI -/ ⟨0x20104, 1, 4, [⟨15, 0, ro⟩], 0x0#32⟩,
  /- PCR_SCHED -/ ⟨0x20108, 1, 4, [⟨31, 31, ro⟩, ⟨30, 24, ro⟩, ⟨16, 0, ro⟩], 0xFF01FFFF#32⟩,
  /- PCR_FRAME_POS -/ ⟨0x2010C, 1, 4, [⟨23, 17, ro⟩, ⟨16, 0, ro⟩], 0x0#32⟩,
  /- PCR_IMG_STATUS -/ ⟨0x20200, 1, 4, [⟨31, 29, ro⟩, ⟨28, 28, ro⟩, ⟨27, 27, ro⟩, ⟨26, 26, ro⟩, ⟨25, 25, ro⟩, ⟨24, 24, w1c⟩, ⟨23, 20, ro⟩, ⟨19, 19, ro⟩, ⟨18, 16, ro⟩, ⟨15, 8, ro⟩, ⟨7, 0, ro⟩], 0x0#32⟩,
  /- PCR_IMG_ERRLOC -/ ⟨0x20204, 1, 4, [⟨31, 0, ro⟩], 0x0#32⟩,
  /- PCR_IMG_CTRL -/ ⟨0x20208, 1, 4, [⟨8, 8, rw⟩, ⟨6, 4, rw⟩, ⟨2, 2, w1s⟩, ⟨1, 1, wo⟩, ⟨0, 0, wo⟩], 0x0#32⟩,
  /- PCR_IMG_SRC -/ ⟨0x2020C, 1, 4, [⟨31, 0, rw⟩], 0x0#32⟩,
  /- PCR_IMG_FIFO -/ ⟨0x20210, 1, 4, [⟨31, 0, wo⟩], 0x0#32⟩,
  /- PCR_IMG_VER -/ ⟨0x20214, 1, 4, [⟨31, 0, ro⟩], 0xFFFFFFFF#32⟩,
  /- PCR_IMG_HASH_SEL -/ ⟨0x20218, 1, 4, [⟨2, 0, rw⟩], 0x0#32⟩,
  /- PCR_IMG_HASH -/ ⟨0x20220, 8, 4, [⟨31, 0, ro⟩], 0x0#32⟩,
  /- PCR_LIVE_REJ -/ ⟨0x20240, 1, 4, [⟨31, 0, w1c⟩], 0x0#32⟩,
  /- PCR_DET_STAT -/ ⟨0x20500, 1, 4, [⟨6, 6, w1c⟩, ⟨5, 5, w1c⟩, ⟨4, 4, w1c⟩, ⟨3, 3, w1c⟩, ⟨2, 2, w1c⟩, ⟨1, 1, w1c⟩, ⟨0, 0, w1c⟩], 0x0#32⟩,
  /- PCR_DET_LIVE_STEP_LO -/ ⟨0x20504, 1, 4, [⟨31, 0, rw⟩], 0x0#32⟩,
  /- PCR_DET_LIVE_STEP_HI -/ ⟨0x20508, 1, 4, [⟨15, 0, rw⟩], 0x0#32⟩,
  /- PCR_DET_INLOG -/ ⟨0x2050C, 1, 4, [⟨31, 31, rw⟩, ⟨5, 0, rw⟩], 0x0#32⟩]

/-- The PCR_ registers, part 2. -/
def catPcr_1 : List RegDef := [
  /- PCR_HP_STAT -/ ⟨0x20600, 2, 32, [⟨31, 31, ro⟩, ⟨30, 30, ro⟩, ⟨9, 9, w1c⟩, ⟨8, 8, w1c⟩, ⟨7, 4, ro⟩], 0x0#32⟩,
  /- PCR_HP_CNT -/ ⟨0x20604, 2, 32, [⟨31, 24, w1c⟩, ⟨23, 16, w1c⟩, ⟨15, 8, w1c⟩, ⟨7, 0, w1c⟩], 0x0#32⟩,
  /- PCR_HP_IRQ -/ ⟨0x20608, 2, 32, [⟨23, 16, rw⟩, ⟨7, 0, w1c⟩], 0x0#32⟩]

/-- The PCR_ registers. -/
def catPcr : List RegDef := catPcr_0 ++ catPcr_1

/-- The TRN_ registers. -/
def catTrn : List RegDef := [
  /- TRN_POOL -/ ⟨0x20400, 1, 4, [⟨24, 16, ro⟩, ⟨8, 0, ro⟩], 0x1FF01FF#32⟩,
  /- TRN_AUDIT -/ ⟨0x20404, 1, 4, [⟨26, 18, ro⟩, ⟨17, 9, ro⟩, ⟨8, 0, ro⟩], 0x0#32⟩,
  /- TRN_STATUS -/ ⟨0x20408, 1, 4, [⟨1, 1, w1c⟩, ⟨0, 0, w1c⟩], 0x0#32⟩,
  /- TRN_WAIT_LIMIT -/ ⟨0x2040C, 1, 4, [⟨23, 0, ro⟩], 0xFFFFFF#32⟩,
  /- TRN_SUB -/ ⟨0x20410, 5, 4, [⟨24, 16, ro⟩, ⟨8, 0, ro⟩], 0x1FF01FF#32⟩,
  /- TRN_DYN -/ ⟨0x20430, 5, 4, [⟨31, 24, w1c⟩, ⟨16, 16, ro⟩, ⟨8, 0, ro⟩], 0x0#32⟩,
  /- TRN_COST -/ ⟨0x20450, 1, 4, [⟨31, 24, ro⟩, ⟨23, 16, ro⟩, ⟨15, 8, ro⟩, ⟨7, 0, ro⟩], 0xFFFFFFFF#32⟩]

/-- The FLD_ registers. -/
def catFld : List RegDef := [
  /- FLD_CTRL -/ ⟨0x200000, 1, 4, [⟨31, 31, ro⟩, ⟨20, 16, ro⟩], 0x801F0000#32⟩,
  /- FLD_STAT -/ ⟨0x200004, 1, 4, [⟨7, 7, w1c⟩, ⟨6, 6, w1c⟩, ⟨5, 5, w1c⟩, ⟨4, 4, w1c⟩, ⟨3, 3, w1c⟩, ⟨2, 2, w1c⟩, ⟨1, 1, w1c⟩], 0x0#32⟩,
  /- FLD_MAP -/ ⟨0x200010, 2, 4, [⟨31, 0, ro⟩], 0x0#32⟩,
  /- FLD_DIS -/ ⟨0x200018, 1, 4, [⟨31, 16, ro⟩, ⟨15, 0, ro⟩], 0x0#32⟩,
  /- FLD_REPAIR -/ ⟨0x20001C, 1, 4, [⟨31, 24, wo⟩, ⟨3, 0, wo⟩], 0x0#32⟩,
  /- FLD_FALLOW -/ ⟨0x200020, 1, 4, [⟨28, 24, ro⟩, ⟨19, 16, ro⟩, ⟨11, 8, ro⟩, ⟨3, 0, ro⟩], 0x1F000000#32⟩,
  /- FLD_BIST -/ ⟨0x200024, 1, 4, [⟨31, 31, ro⟩, ⟨30, 30, ro⟩, ⟨27, 24, ro⟩, ⟨19, 16, ro⟩, ⟨15, 0, ro⟩], 0x0#32⟩,
  /- FLD_GRN_ECC -/ ⟨0x200030, 1, 4, [⟨31, 16, w1c⟩, ⟨15, 0, w1c⟩], 0x0#32⟩,
  /- FLD_GRN_ERR -/ ⟨0x200034, 1, 4, [⟨22, 0, ro⟩], 0x0#32⟩,
  /- FLD_CSET_CTRL -/ ⟨0x200100, 32, 16, [⟨31, 31, ro⟩, ⟨30, 30, ro⟩, ⟨29, 29, ro⟩, ⟨28, 28, ro⟩, ⟨24, 24, ro⟩, ⟨22, 20, ro⟩, ⟨18, 16, ro⟩, ⟨9, 9, w1c⟩, ⟨8, 8, w1c⟩, ⟨0, 0, wo⟩], 0x80700000#32⟩,
  /- FLD_CSET_CRC -/ ⟨0x200104, 32, 16, [⟨31, 0, rw⟩], 0x0#32⟩,
  /- FLD_CSET_STEP_LO -/ ⟨0x200108, 32, 16, [⟨31, 0, rw⟩], 0x0#32⟩,
  /- FLD_CSET_STEP_HI -/ ⟨0x20010C, 32, 16, [⟨15, 0, rw⟩], 0x0#32⟩,
  /- FLD_SLOT -/ ⟨0x200400, 256, 4, [⟨31, 24, ro⟩, ⟨23, 16, ro⟩, ⟨15, 8, ro⟩, ⟨7, 0, ro⟩], 0xFFFFFFFF#32⟩,
  /- FLD_SILO_CFG -/ ⟨0x200800, 2, 4, [⟨31, 31, ro⟩, ⟨30, 30, ro⟩, ⟨29, 24, ro⟩, ⟨20, 16, ro⟩, ⟨15, 0, ro⟩], 0xFF1FFFFF#32⟩,
  /- FLD_SILO_WCMD -/ ⟨0x200808, 2, 4, [⟨15, 0, ro⟩], 0xFFFF#32⟩,
  /- FLD_PRG_CFG -/ ⟨0x200C00, 1, 4, [⟨31, 31, ro⟩, ⟨27, 24, ro⟩, ⟨22, 16, ro⟩, ⟨15, 0, ro⟩], 0x8F7FFFFF#32⟩,
  /- FLD_PRG_STAT -/ ⟨0x200C04, 1, 4, [⟨31, 24, ro⟩, ⟨8, 0, ro⟩], 0x1FF#32⟩,
  /- FLD_PRG_LIFE -/ ⟨0x200C10, 8, 4, [⟨31, 0, ro⟩], 0xFFFFFFFF#32⟩,
  /- FLD_P_STAT -/ ⟨0x201000, 16, 4096, [⟨31, 31, ro⟩, ⟨30, 30, ro⟩, ⟨29, 29, ro⟩, ⟨27, 24, ro⟩, ⟨23, 20, ro⟩, ⟨15, 0, w1c⟩], 0x0#32⟩,
  /- FLD_P_ECC -/ ⟨0x201004, 16, 4096, [⟨31, 16, w1c⟩, ⟨15, 0, w1c⟩], 0x0#32⟩,
  /- FLD_X_STAT -/ ⟨0x201010, 16, 4096, [⟨31, 16, w1c⟩, ⟨1, 1, w1c⟩], 0x0#32⟩]

/-- The HRW_ registers. -/
def catHrw : List RegDef := [
  /- HRW_CTRL -/ ⟨0x300000, 1, 4, [⟨31, 31, rws⟩, ⟨15, 0, rws⟩], 0x0#32⟩,
  /- HRW_COV -/ ⟨0x300004, 1, 4, [⟨31, 16, w1c⟩, ⟨15, 0, w1c⟩], 0x0#32⟩,
  /- HRW_SCRUB_CNT -/ ⟨0x300008, 1, 4, [⟨31, 16, w1c⟩, ⟨15, 0, w1c⟩], 0x0#32⟩,
  /- HRW_SCRUB_UE -/ ⟨0x30000C, 1, 4, [⟨31, 31, ro⟩, ⟨27, 24, ro⟩, ⟨22, 0, ro⟩], 0x0#32⟩,
  /- HRW_IDLE -/ ⟨0x300040, 32, 4, [⟨31, 16, ro⟩, ⟨15, 0, ro⟩], 0x0#32⟩,
  /- HRW_CH_CFG -/ ⟨0x300100, 4, 32, [⟨31, 29, rw⟩, ⟨28, 26, rw⟩, ⟨25, 25, rw⟩, ⟨24, 24, rw⟩, ⟨22, 20, rw⟩, ⟨18, 16, rw⟩, ⟨11, 8, rw⟩], 0x0#32⟩,
  /- HRW_CH_START -/ ⟨0x300104, 4, 32, [⟨31, 0, rw⟩], 0x0#32⟩,
  /- HRW_CH_COUNT -/ ⟨0x300108, 4, 32, [⟨23, 0, rw⟩], 0x0#32⟩,
  /- HRW_CH_STRIDE -/ ⟨0x30010C, 4, 32, [⟨23, 0, rw⟩], 0x0#32⟩,
  /- HRW_CH_CTRL -/ ⟨0x300110, 4, 32, [⟨1, 1, wo⟩, ⟨0, 0, wo⟩], 0x0#32⟩,
  /- HRW_CH_STAT -/ ⟨0x300114, 4, 32, [⟨31, 28, ro⟩, ⟨27, 24, ro⟩, ⟨16, 16, w1c⟩], 0x0#32⟩,
  /- HRW_CH_DONE -/ ⟨0x300118, 4, 32, [⟨23, 0, ro⟩], 0x0#32⟩,
  /- HRW_CH_UEADR -/ ⟨0x30011C, 4, 32, [⟨31, 0, ro⟩], 0x0#32⟩]

/-- The CHK_ registers. -/
def catChk : List RegDef := [
  /- CHK_CFG -/ ⟨0x301000, 8, 64, [⟨31, 31, rw⟩, ⟨29, 28, rw⟩, ⟨22, 16, rw⟩, ⟨9, 9, rw⟩, ⟨8, 8, rw⟩, ⟨4, 4, rw⟩, ⟨0, 0, rw⟩], 0x0#32⟩,
  /- CHK_POLY_LO -/ ⟨0x301004, 8, 64, [⟨31, 0, rw⟩], 0x0#32⟩,
  /- CHK_POLY_HI -/ ⟨0x301008, 8, 64, [⟨31, 0, rw⟩], 0x0#32⟩,
  /- CHK_INIT_LO -/ ⟨0x30100C, 8, 64, [⟨31, 0, rw⟩], 0x0#32⟩,
  /- CHK_INIT_HI -/ ⟨0x301010, 8, 64, [⟨31, 0, rw⟩], 0x0#32⟩,
  /- CHK_XOR_LO -/ ⟨0x301014, 8, 64, [⟨31, 0, rw⟩], 0x0#32⟩,
  /- CHK_XOR_HI -/ ⟨0x301018, 8, 64, [⟨31, 0, rw⟩], 0x0#32⟩,
  /- CHK_REC -/ ⟨0x30101C, 8, 64, [⟨31, 16, rw⟩, ⟨15, 0, rw⟩], 0x0#32⟩,
  /- CHK_CTRL -/ ⟨0x301020, 8, 64, [⟨0, 0, wo⟩], 0x0#32⟩,
  /- CHK_DIN -/ ⟨0x301024, 8, 64, [⟨31, 0, wo⟩], 0x0#32⟩,
  /- CHK_DIN1 -/ ⟨0x301028, 8, 64, [⟨7, 0, wo⟩], 0x0#32⟩,
  /- CHK_RES_LO -/ ⟨0x30102C, 8, 64, [⟨31, 0, ro⟩], 0x0#32⟩,
  /- CHK_RES_HI -/ ⟨0x301030, 8, 64, [⟨31, 0, ro⟩], 0x0#32⟩,
  /- CHK_STAT -/ ⟨0x301034, 8, 64, [⟨31, 31, ro⟩, ⟨30, 30, ro⟩, ⟨29, 27, ro⟩, ⟨25, 24, ro⟩, ⟨10, 10, w1c⟩, ⟨9, 9, w1c⟩], 0x0#32⟩,
  /- CHK_ALV -/ ⟨0x301038, 8, 64, [⟨31, 24, ro⟩, ⟨23, 16, ro⟩, ⟨15, 0, ro⟩], 0x0#32⟩,
  /- CHK_BYTES -/ ⟨0x30103C, 8, 64, [⟨31, 0, ro⟩], 0x0#32⟩]

/-- The SAF_ registers. -/
def catSaf : List RegDef := [
  /- SAF_STAT -/ ⟨0x340000, 1, 4, [⟨31, 31, ro⟩, ⟨30, 30, ro⟩, ⟨29, 29, ro⟩, ⟨28, 28, ro⟩, ⟨27, 27, w1c⟩, ⟨19, 16, ro⟩, ⟨11, 8, ro⟩, ⟨4, 0, ro⟩], 0x0#32⟩,
  /- SAF_CAUSE -/ ⟨0x340004, 1, 4, [⟨8, 0, ro⟩], 0x0#32⟩,
  /- SAF_DCAUSE -/ ⟨0x340010, 5, 4, [⟨31, 16, ro⟩, ⟨15, 0, ro⟩], 0x0#32⟩,
  /- SAF_HCAUSE -/ ⟨0x340030, 4, 4, [⟨6, 0, w1c⟩], 0x0#32⟩,
  /- SAF_ACK -/ ⟨0x340040, 1, 4, [⟨16, 16, wo⟩, ⟨11, 8, wo⟩, ⟨4, 0, wo⟩], 0x0#32⟩,
  /- SAF_DEMAND -/ ⟨0x340044, 1, 4, [⟨31, 24, wo⟩, ⟨0, 0, wo⟩], 0x0#32⟩,
  /- SAF_REL -/ ⟨0x340048, 1, 4, [⟨31, 24, wo⟩, ⟨0, 0, wo⟩], 0x0#32⟩,
  /- SAF_REL_STAT -/ ⟨0x34004C, 1, 4, [⟨8, 8, ro⟩, ⟨3, 0, ro⟩], 0x0#32⟩,
  /- SAF_CFG -/ ⟨0x340050, 1, 4, [⟨23, 16, ro⟩, ⟨8, 8, ro⟩, ⟨3, 0, ro⟩], 0xFF010F#32⟩,
  /- SAF_STO -/ ⟨0x340054, 1, 4, [⟨31, 24, ro⟩, ⟨1, 1, ro⟩, ⟨0, 0, ro⟩], 0x0#32⟩,
  /- SAF_CKPT_EXP -/ ⟨0x340060, 5, 4, [⟨23, 0, ro⟩], 0x0#32⟩,
  /- SAF_CKPT_CNT -/ ⟨0x340080, 5, 4, [⟨23, 0, ro⟩], 0x0#32⟩,
  /- SAF_CKPT_LAST -/ ⟨0x3400A0, 1, 4, [⟨31, 16, ro⟩, ⟨4, 0, ro⟩], 0x0#32⟩,
  /- SAF_TPSIG -/ ⟨0x340100, 32, 8, [⟨31, 0, ro⟩], 0xFFFFFFFF#32⟩,
  /- SAF_TPSIG_STAGE -/ ⟨0x340104, 32, 8, [⟨31, 0, rw⟩], 0xFFFFFFFF#32⟩,
  /- SAF_TP_STAT -/ ⟨0x340200, 1, 4, [⟨31, 16, w1c⟩, ⟨4, 0, w1c⟩], 0x0#32⟩,
  /- SAF_TP_SEED_LO -/ ⟨0x340204, 1, 4, [⟨31, 0, ro⟩], 0xFFFFFFFF#32⟩,
  /- SAF_TP_SEED_HI -/ ⟨0x340208, 1, 4, [⟨31, 0, ro⟩], 0xFFFFFFFF#32⟩,
  /- SAF_TP_WIN -/ ⟨0x34020C, 1, 4, [⟨22, 0, ro⟩], 0x7FFFFF#32⟩,
  /- SAF_COND -/ ⟨0x340300, 1, 4, [⟨31, 16, ro⟩, ⟨15, 8, ro⟩, ⟨5, 5, ro⟩, ⟨4, 4, ro⟩, ⟨3, 3, ro⟩, ⟨2, 2, ro⟩, ⟨1, 1, ro⟩, ⟨0, 0, ro⟩], 0x20#32⟩,
  /- SAF_STD_CFG -/ ⟨0x340600, 8, 32, [⟨31, 31, ro⟩, ⟨30, 28, ro⟩, ⟨27, 25, ro⟩, ⟨24, 24, ro⟩, ⟨23, 23, ro⟩, ⟨22, 20, ro⟩, ⟨19, 16, ro⟩, ⟨15, 0, ro⟩], 0xFFFFFFFF#32⟩,
  /- SAF_STD_START -/ ⟨0x340604, 8, 32, [⟨31, 0, ro⟩], 0xFFFFFFFF#32⟩,
  /- SAF_STD_COUNT -/ ⟨0x340608, 8, 32, [⟨23, 0, ro⟩], 0xFFFFFF#32⟩,
  /- SAF_STD_STRIDE -/ ⟨0x34060C, 8, 32, [⟨23, 0, ro⟩], 0xFFFFFF#32⟩,
  /- SAF_STD_EXP -/ ⟨0x340610, 8, 32, [⟨31, 0, ro⟩], 0xFFFFFFFF#32⟩,
  /- SAF_STD_STAT -/ ⟨0x340614, 8, 32, [⟨31, 31, w1c⟩, ⟨30, 30, w1c⟩, ⟨15, 0, ro⟩], 0x0#32⟩]

/-- The ROT_ registers. -/
def catRot : List RegDef := [
  /- ROT_CTRL -/ ⟨0x340400, 1, 4, [⟨31, 31, ro⟩, ⟨22, 16, ro⟩, ⟨5, 0, ro⟩], 0x807F0000#32⟩,
  /- ROT_CUR -/ ⟨0x340404, 1, 4, [⟨28, 24, ro⟩, ⟨17, 16, ro⟩], 0x0#32⟩,
  /- ROT_FAIL -/ ⟨0x340408, 1, 4, [⟨23, 0, w1c⟩], 0x0#32⟩,
  /- ROT_STARVED -/ ⟨0x34040C, 1, 4, [⟨23, 0, w1c⟩], 0x0#32⟩,
  /- ROT_SKIP -/ ⟨0x340440, 24, 4, [⟨31, 16, w1c⟩, ⟨3, 0, ro⟩], 0x0#32⟩,
  /- ROT_LAST -/ ⟨0x3404A0, 24, 4, [⟨31, 0, ro⟩], 0x0#32⟩]

/-- The QUE_ registers. -/
def catQue : List RegDef := [
  /- QUE_CFG -/ ⟨0x380000, 64, 32, [⟨31, 31, ro⟩, ⟨30, 30, ro⟩, ⟨29, 29, ro⟩, ⟨28, 27, ro⟩, ⟨26, 24, ro⟩, ⟨21, 16, ro⟩, ⟨15, 12, ro⟩], 0xFF3FF000#32⟩,
  /- QUE_BASE -/ ⟨0x380004, 64, 32, [⟨22, 0, ro⟩], 0x7FFFFF#32⟩,
  /- QUE_PROD -/ ⟨0x380008, 64, 32, [⟨15, 0, ro⟩], 0x0#32⟩,
  /- QUE_CONS -/ ⟨0x38000C, 64, 32, [⟨15, 0, rw⟩], 0x0#32⟩,
  /- QUE_DB -/ ⟨0x380010, 64, 32, [⟨15, 0, wo⟩], 0x0#32⟩,
  /- QUE_TMO -/ ⟨0x380014, 64, 32, [⟨31, 16, ro⟩, ⟨15, 0, ro⟩], 0xFFFF#32⟩,
  /- QUE_STAT -/ ⟨0x380018, 64, 32, [⟨31, 24, w1c⟩, ⟨23, 16, w1c⟩, ⟨15, 8, w1c⟩, ⟨5, 5, w1c⟩, ⟨4, 4, w1c⟩, ⟨3, 3, w1c⟩, ⟨2, 2, w1c⟩, ⟨1, 1, w1c⟩, ⟨0, 0, w1c⟩], 0x0#32⟩,
  /- QUE_ALV -/ ⟨0x38001C, 64, 32, [⟨8, 8, ro⟩, ⟨7, 4, ro⟩, ⟨3, 0, ro⟩], 0x0#32⟩,
  /- QUE_TEN_CTRL -/ ⟨0x381000, 5, 16, [⟨31, 24, wo⟩, ⟨8, 8, rw⟩, ⟨5, 4, ro⟩, ⟨1, 1, ro⟩, ⟨0, 0, ro⟩], 0x30#32⟩,
  /- QUE_TFAULT -/ ⟨0x381004, 5, 16, [⟨31, 28, ro⟩, ⟨15, 0, ro⟩], 0x0#32⟩,
  /- QUE_TFSTICKY -/ ⟨0x381008, 5, 16, [⟨7, 1, w1c⟩], 0x0#32⟩,
  /- QUE_REGION -/ ⟨0x381100, 1, 4, [⟨22, 0, ro⟩], 0x7FFFFF#32⟩]

/-- The SQR_ registers. -/
def catSqr : List RegDef := [
  /- SQR_STAT -/ ⟨0x384000, 1, 4, [⟨23, 16, ro⟩, ⟨2, 2, w1c⟩, ⟨1, 1, w1c⟩, ⟨0, 0, w1c⟩], 0x0#32⟩,
  /- SQR_SWTRIG -/ ⟨0x384004, 1, 4, [⟨19, 16, wo⟩, ⟨15, 0, wo⟩], 0x0#32⟩,
  /- SQR_ROUTE -/ ⟨0x384400, 512, 8, [⟨23, 16, ro⟩, ⟨15, 8, ro⟩, ⟨7, 0, ro⟩], 0xFFFFFF#32⟩,
  /- SQR_ROUTE_CONST -/ ⟨0x384404, 512, 8, [⟨15, 0, ro⟩], 0xFFFF#32⟩,
  /- SQR_AUD_A -/ ⟨0x386000, 192, 8, [⟨31, 16, ro⟩, ⟨15, 0, ro⟩], 0x0#32⟩,
  /- SQR_AUD_B -/ ⟨0x386004, 192, 8, [⟨31, 16, ro⟩, ⟨11, 8, ro⟩, ⟨1, 0, ro⟩], 0x0#32⟩]

/-- The TRL_ registers. -/
def catTrl : List RegDef := [
  /- TRL_CTRL -/ ⟨0x3C0000, 1, 4, [⟨31, 24, wo⟩, ⟨8, 8, wo⟩, ⟨5, 4, rw⟩, ⟨1, 1, wo⟩], 0x0#32⟩,
  /- TRL_STAT -/ ⟨0x3C0004, 1, 4, [⟨31, 28, ro⟩, ⟨27, 26, ro⟩, ⟨25, 25, ro⟩, ⟨24, 23, ro⟩, ⟨22, 22, ro⟩, ⟨21, 21, ro⟩, ⟨20, 20, w1c⟩, ⟨19, 19, w1c⟩, ⟨18, 18, w1c⟩, ⟨17, 17, w1c⟩, ⟨15, 8, ro⟩], 0x0#32⟩,
  /- TRL_ERR -/ ⟨0x3C0008, 1, 4, [⟨31, 24, ro⟩, ⟨23, 16, ro⟩, ⟨3, 0, ro⟩], 0x0#32⟩,
  /- TRL_CNT -/ ⟨0x3C000C, 1, 4, [⟨31, 16, w1c⟩, ⟨15, 0, w1c⟩], 0x0#32⟩,
  /- TRL_TIME -/ ⟨0x3C0010, 1, 4, [⟨27, 16, ro⟩, ⟨11, 0, ro⟩], 0x0#32⟩,
  /- TRL_OFS -/ ⟨0x3C0014, 1, 4, [⟨31, 16, ro⟩, ⟨15, 0, ro⟩], 0x0#32⟩,
  /- TRL_STEP_OFS_LO -/ ⟨0x3C0018, 1, 4, [⟨31, 0, ro⟩], 0x0#32⟩,
  /- TRL_STEP_OFS_HI -/ ⟨0x3C001C, 1, 4, [⟨15, 0, ro⟩], 0x0#32⟩,
  /- TRL_CFG -/ ⟨0x3C0020, 1, 4, [⟨31, 31, ro⟩, ⟨15, 0, ro⟩], 0x8000FFFF#32⟩,
  /- TRL_TRAIN -/ ⟨0x3C0024, 1, 4, [⟨23, 0, ro⟩], 0xFFFFFF#32⟩,
  /- TRL_BULK_TMO -/ ⟨0x3C0028, 1, 4, [⟨15, 0, ro⟩], 0xFFFF#32⟩,
  /- TRL_SHARE_BUF -/ ⟨0x3C002C, 1, 4, [⟨22, 0, ro⟩], 0x7FFFFF#32⟩,
  /- TRL_CRED -/ ⟨0x3C0040, 4, 4, [⟨31, 24, ro⟩, ⟨23, 16, ro⟩, ⟨15, 8, ro⟩, ⟨7, 0, ro⟩], 0x0#32⟩,
  /- TRL_SHARE -/ ⟨0x3C0080, 4, 4, [⟨31, 31, ro⟩, ⟨30, 30, ro⟩, ⟨27, 26, ro⟩, ⟨23, 16, ro⟩, ⟨3, 0, ro⟩], 0xCCFF000F#32⟩,
  /- TRL_SHARE_STAT -/ ⟨0x3C0090, 4, 4, [⟨31, 16, w1c⟩, ⟨15, 0, w1c⟩], 0x0#32⟩,
  /- TRL_PEER_SIG -/ ⟨0x3C00A0, 1, 4, [⟨31, 0, ro⟩], 0x0#32⟩,
  /- TRL_BULK_CFG -/ ⟨0x3C0100, 8, 32, [⟨31, 30, rw⟩, ⟨20, 16, rw⟩, ⟨15, 0, rw⟩], 0x0#32⟩,
  /- TRL_BULK_TAG_LO -/ ⟨0x3C0104, 8, 32, [⟨31, 0, rw⟩], 0x0#32⟩,
  /- TRL_BULK_TAG_HI -/ ⟨0x3C0108, 8, 32, [⟨15, 0, rw⟩], 0x0#32⟩,
  /- TRL_BULK_CTRL -/ ⟨0x3C010C, 8, 32, [⟨0, 0, wo⟩], 0x0#32⟩,
  /- TRL_BULK_STAT -/ ⟨0x3C0110, 8, 32, [⟨31, 28, ro⟩, ⟨27, 24, ro⟩], 0x0#32⟩,
  /- TRL_TILE_CMD -/ ⟨0x3C0200, 1, 4, [⟨31, 30, wo⟩, ⟨15, 0, wo⟩], 0x0#32⟩,
  /- TRL_TILE_AUD -/ ⟨0x3C0204, 1, 4, [⟨31, 24, ro⟩, ⟨23, 16, ro⟩, ⟨15, 8, ro⟩, ⟨7, 0, ro⟩], 0x0#32⟩,
  /- TRL_TILE_ST -/ ⟨0x3C0400, 128, 4, [⟨31, 28, ro⟩, ⟨15, 0, ro⟩], 0x0#32⟩]

/-- The SIL_ registers. -/
def catSil : List RegDef := [
  /- SIL_STAT -/ ⟨0x3E0000, 1, 4, [⟨31, 31, ro⟩, ⟨4, 4, w1c⟩, ⟨3, 3, w1c⟩, ⟨2, 2, ro⟩], 0x0#32⟩,
  /- SIL_ERR_ADDR -/ ⟨0x3E0004, 1, 4, [⟨27, 0, ro⟩], 0x0#32⟩,
  /- SIL_CRC_CNT -/ ⟨0x3E0008, 1, 4, [⟨31, 0, w1c⟩], 0x0#32⟩,
  /- SIL_XFER -/ ⟨0x3E000C, 1, 4, [⟨31, 0, ro⟩], 0x0#32⟩]

/-- The SNS_ registers. -/
def catSns : List RegDef := [
  /- SNS_CFG -/ ⟨0x0, 1, 4, [⟨30, 24, ro⟩, ⟨22, 16, ro⟩, ⟨10, 8, ro⟩, ⟨1, 0, ro⟩], 0x7F7F0703#32⟩,
  /- SNS_OC -/ ⟨0x10, 4, 4, [⟨6, 0, ro⟩], 0x7F#32⟩,
  /- SNS_OFS -/ ⟨0x20, 3, 4, [⟨31, 0, ro⟩], 0x0#32⟩,
  /- SNS_CAL -/ ⟨0x2C, 1, 4, [⟨9, 9, w1c⟩, ⟨8, 8, ro⟩, ⟨0, 0, wo⟩], 0x0#32⟩,
  /- SNS_I -/ ⟨0x40, 3, 4, [⟨31, 31, ro⟩, ⟨30, 30, ro⟩, ⟨29, 29, ro⟩, ⟨28, 28, ro⟩, ⟨27, 27, ro⟩, ⟨25, 24, ro⟩, ⟨15, 0, ro⟩], 0x0#32⟩,
  /- SNS_VBUS -/ ⟨0x4C, 1, 4, [⟨13, 0, ro⟩], 0x0#32⟩,
  /- SNS_NTC -/ ⟨0x50, 2, 4, [⟨31, 31, ro⟩, ⟨30, 30, ro⟩, ⟨13, 0, ro⟩], 0x0#32⟩,
  /- SNS_TAG -/ ⟨0x58, 1, 4, [⟨31, 8, ro⟩, ⟨4, 0, ro⟩], 0x0#32⟩,
  /- SNS_MLIM -/ ⟨0x5C, 1, 4, [⟨15, 0, ro⟩], 0x0#32⟩,
  /- SNS_KCL -/ ⟨0x60, 1, 4, [⟨31, 24, ro⟩, ⟨23, 16, ro⟩, ⟨13, 0, ro⟩], 0xFFFF3FFF#32⟩,
  /- SNS_NTC_LIM -/ ⟨0x64, 1, 4, [⟨29, 16, ro⟩, ⟨13, 0, ro⟩], 0x3FFF3FFF#32⟩,
  /- SNS_SWN_CFG -/ ⟨0x70, 1, 4, [⟨23, 16, ro⟩, ⟨11, 0, ro⟩], 0xFF0FFF#32⟩,
  /- SNS_SWN_DLY -/ ⟨0x74, 3, 4, [⟨31, 31, ro⟩, ⟨27, 16, ro⟩, ⟨15, 15, ro⟩, ⟨11, 0, ro⟩], 0x0#32⟩,
  /- SNS_STAT -/ ⟨0x80, 1, 4, [⟨5, 5, w1c⟩, ⟨4, 4, w1c⟩, ⟨3, 3, w1c⟩, ⟨2, 2, w1c⟩, ⟨1, 1, w1c⟩], 0x0#32⟩,
  /- SNS_WINCNT -/ ⟨0x84, 1, 4, [⟨23, 16, ro⟩, ⟨15, 8, ro⟩, ⟨7, 0, ro⟩], 0x0#32⟩,
  /- SNS_CMD_CFG -/ ⟨0xA0, 1, 4, [⟨31, 16, ro⟩, ⟨15, 8, ro⟩, ⟨7, 4, ro⟩, ⟨3, 3, ro⟩, ⟨2, 2, ro⟩, ⟨1, 0, ro⟩], 0xFFFFFFFF#32⟩,
  /- SNS_CMD_RANGE -/ ⟨0xA4, 1, 4, [⟨31, 16, ro⟩, ⟨15, 0, ro⟩], 0xFFFFFFFF#32⟩,
  /- SNS_CMD_PMIN -/ ⟨0xA8, 1, 4, [⟨31, 0, ro⟩], 0xFFFFFFFF#32⟩,
  /- SNS_CMD_PMAX -/ ⟨0xAC, 1, 4, [⟨31, 0, ro⟩], 0xFFFFFFFF#32⟩,
  /- SNS_CMD_FS -/ ⟨0xB0, 1, 4, [⟨24, 0, ro⟩], 0x1FFFFFF#32⟩,
  /- SNS_CMD_VAL -/ ⟨0xB4, 1, 4, [⟨31, 31, ro⟩, ⟨30, 30, ro⟩, ⟨29, 29, ro⟩, ⟨15, 0, ro⟩], 0x0#32⟩,
  /- SNS_CMD_FREQ -/ ⟨0xB8, 1, 4, [⟨24, 0, ro⟩], 0x0#32⟩,
  /- SNS_CMD_STAT -/ ⟨0xBC, 1, 4, [⟨1, 1, w1c⟩, ⟨0, 0, w1c⟩], 0x0#32⟩]

/-- The PWM_ registers. -/
def catPwm : List RegDef := [
  /- PWM_CTRL -/ ⟨0x4000, 1, 4, [⟨31, 31, ro⟩, ⟨30, 30, rw⟩, ⟨25, 24, ro⟩, ⟨23, 20, ro⟩, ⟨18, 16, ro⟩, ⟨15, 8, ro⟩], 0x83F7FF00#32⟩,
  /- PWM_PER -/ ⟨0x4004, 1, 4, [⟨23, 0, ro⟩], 0xFFFFFF#32⟩,
  /- PWM_LOAD -/ ⟨0x4008, 1, 4, [⟨31, 31, rw⟩, ⟨9, 9, ro⟩, ⟨8, 8, ro⟩, ⟨0, 0, wo⟩], 0x0#32⟩,
  /- PWM_CNT -/ ⟨0x400C, 1, 4, [⟨23, 0, ro⟩], 0x0#32⟩,
  /- PWM_DT_CFG -/ ⟨0x4010, 1, 4, [⟨31, 31, ro⟩, ⟨29, 16, ro⟩, ⟨13, 0, ro⟩], 0xBFFF3FFF#32⟩,
  /- PWM_DT_CFG2 -/ ⟨0x4014, 1, 4, [⟨29, 16, ro⟩, ⟨13, 0, ro⟩], 0x3FFF3FFF#32⟩,
  /- PWM_MINPW -/ ⟨0x4018, 1, 4, [⟨13, 0, ro⟩], 0x3FFF#32⟩,
  /- PWM_DT -/ ⟨0x4020, 3, 4, [⟨31, 31, ro⟩, ⟨29, 16, ro⟩, ⟨15, 15, ro⟩, ⟨13, 0, ro⟩], 0x0#32⟩,
  /- PWM_RISE -/ ⟨0x4040, 8, 8, [⟨28, 24, rw⟩, ⟨23, 0, rw⟩], 0x1FFFFFFF#32⟩,
  /- PWM_FALL -/ ⟨0x4044, 8, 8, [⟨28, 24, rw⟩, ⟨23, 0, rw⟩], 0x1FFFFFFF#32⟩,
  /- PWM_TRIG -/ ⟨0x4080, 4, 4, [⟨31, 31, rw⟩, ⟨30, 30, rw⟩, ⟨23, 0, rw⟩], 0xC0FFFFFF#32⟩,
  /- PWM_TCH_A -/ ⟨0x4090, 4, 8, [⟨31, 30, ro⟩, ⟨23, 0, ro⟩], 0xC0FFFFFF#32⟩,
  /- PWM_TCH_B -/ ⟨0x4094, 4, 8, [⟨23, 0, ro⟩], 0xFFFFFF#32⟩,
  /- PWM_MASK -/ ⟨0x40C0, 8, 4, [⟨15, 0, ro⟩], 0xFFFF#32⟩,
  /- PWM_MASK_CTRL -/ ⟨0x40E0, 1, 4, [⟨18, 16, ro⟩, ⟨10, 8, rw⟩, ⟨1, 1, rw⟩], 0x0#32⟩,
  /- PWM_TRIP_CFG -/ ⟨0x4100, 1, 4, [⟨31, 24, ro⟩, ⟨23, 8, ro⟩, ⟨7, 7, ro⟩, ⟨6, 5, ro⟩, ⟨4, 4, ro⟩, ⟨3, 2, ro⟩, ⟨1, 1, ro⟩, ⟨0, 0, ro⟩], 0xFFFFFFFF#32⟩,
  /- PWM_TRIP_STAT -/ ⟨0x4104, 1, 4, [⟨31, 24, ro⟩, ⟨23, 8, ro⟩, ⟨3, 3, ro⟩, ⟨2, 2, ro⟩, ⟨1, 1, w1c⟩, ⟨0, 0, w1c⟩], 0x0#32⟩,
  /- PWM_TRIP_CLR -/ ⟨0x4108, 1, 4, [⟨0, 0, wo⟩], 0x0#32⟩,
  /- PWM_TRIP_TOTAL -/ ⟨0x410C, 1, 4, [⟨31, 0, w1c⟩], 0x0#32⟩,
  /- PWM_STAT -/ ⟨0x4110, 1, 4, [⟨6, 6, ro⟩, ⟨5, 5, w1c⟩, ⟨4, 4, w1c⟩, ⟨3, 3, w1c⟩, ⟨2, 2, w1c⟩, ⟨1, 1, w1c⟩], 0x0#32⟩,
  /- PWM_DITHER -/ ⟨0x4120, 1, 4, [⟨2, 0, ro⟩], 0x7#32⟩]

/-- The LPE_ registers, part 1. -/
def catLpe_0 : List RegDef := [
  /- LPE_CTRL -/ ⟨0x8000, 1, 4, [⟨31, 31, ro⟩, ⟨7, 0, ro⟩], 0x800000FF#32⟩,
  /- LPE_STAT -/ ⟨0x8004, 1, 4, [⟨31, 31, ro⟩, ⟨7, 7, w1c⟩, ⟨6, 6, w1c⟩, ⟨5, 5, w1c⟩, ⟨4, 4, w1c⟩, ⟨3, 3, w1c⟩], 0x0#32⟩,
  /- LPE_NAN_LOC -/ ⟨0x8008, 1, 4, [⟨31, 16, ro⟩, ⟨8, 8, ro⟩, ⟨6, 0, ro⟩], 0x0#32⟩,
  /- LPE_SAT_LOC -/ ⟨0x800C, 1, 4, [⟨31, 16, ro⟩, ⟨8, 8, ro⟩, ⟨6, 0, ro⟩], 0x0#32⟩,
  /- LPE_BANK_CTRL -/ ⟨0x8010, 1, 4, [⟨31, 31, ro⟩, ⟨30, 30, ro⟩, ⟨29, 29, ro⟩, ⟨9, 9, w1c⟩, ⟨8, 8, w1c⟩, ⟨0, 0, wo⟩], 0x0#32⟩,
  /- LPE_BANK_STEP_LO -/ ⟨0x8014, 1, 4, [⟨31, 0, rw⟩], 0x0#32⟩,
  /- LPE_BANK_STEP_HI -/ ⟨0x8018, 1, 4, [⟨15, 0, rw⟩], 0x0#32⟩,
  /- LPE_BANK_REJ -/ ⟨0x801C, 1, 4, [⟨15, 8, ro⟩, ⟨2, 0, ro⟩], 0x0#32⟩,
  /- LPE_HSLOT -/ ⟨0x8020, 1, 4, [⟨23, 0, ro⟩], 0xFFFFFF#32⟩,
  /- LPE_CLOOP -/ ⟨0x8024, 1, 4, [⟨15, 0, ro⟩], 0xFFFF#32⟩,
  /- LPE_ECC -/ ⟨0x8028, 1, 4, [⟨15, 0, w1c⟩], 0x0#32⟩,
  /- LPE_SUBST -/ ⟨0x8030, 4, 4, [⟨31, 0, ro⟩], 0xFFFFFFFF#32⟩,
  /- LPE_EST_CMP -/ ⟨0x8040, 1, 4, [⟨23, 16, ro⟩, ⟨15, 0, ro⟩], 0xFFFFFF#32⟩,
  /- LPE_DRV_CTRL -/ ⟨0x8400, 1, 4, [⟨1, 1, wo⟩, ⟨0, 0, rw⟩], 0x0#32⟩,
  /- LPE_DRV_STAT -/ ⟨0x8404, 1, 4, [⟨31, 24, ro⟩, ⟨23, 20, ro⟩, ⟨9, 9, ro⟩, ⟨8, 8, ro⟩, ⟨5, 4, ro⟩, ⟨3, 0, ro⟩], 0x0#32⟩,
  /- LPE_DRV_CFG -/ ⟨0x8408, 1, 4, [⟨31, 31, ro⟩, ⟨30, 30, ro⟩, ⟨10, 8, ro⟩, ⟨6, 4, ro⟩, ⟨2, 0, ro⟩], 0xC0000777#32⟩,
  /- LPE_DRV_SPD -/ ⟨0x840C, 1, 4, [⟨31, 16, ro⟩, ⟨15, 0, ro⟩], 0xFFFFFFFF#32⟩,
  /- LPE_DRV_TIME -/ ⟨0x8410, 1, 4, [⟨31, 16, ro⟩, ⟨15, 8, ro⟩, ⟨7, 0, ro⟩], 0xFFFFFFFF#32⟩,
  /- LPE_DRV_TIME2 -/ ⟨0x8414, 1, 4, [⟨31, 16, ro⟩, ⟨15, 8, ro⟩, ⟨7, 0, ro⟩], 0xFFFFFFFF#32⟩,
  /- LPE_DRV_IEND -/ ⟨0x8418, 1, 4, [⟨13, 0, ro⟩], 0x3FFF#32⟩,
  /- LPE_DRV_POL -/ ⟨0x841C, 1, 4, [⟨31, 24, ro⟩, ⟨23, 12, ro⟩, ⟨11, 0, ro⟩], 0xFFFFFFFF#32⟩,
  /- LPE_DRV_MDL -/ ⟨0x8420, 1, 4, [⟨31, 16, ro⟩, ⟨15, 0, ro⟩], 0xFFFF#32⟩,
  /- LPE_DRV_ADV -/ ⟨0x8424, 1, 4, [⟨15, 0, ro⟩], 0xFFFF#32⟩,
  /- LPE_CAP_CTRL -/ ⟨0x8800, 1, 4, [⟨31, 31, rw⟩, ⟨30, 30, w1c⟩, ⟨21, 16, rw⟩, ⟨15, 0, ro⟩], 0x0#32⟩,
  /- LPE_RPL_CTRL -/ ⟨0x8804, 1, 4, [⟨21, 16, rw⟩, ⟨1, 1, wo⟩, ⟨0, 0, wo⟩], 0x0#32⟩,
  /- LPE_RPL_VSTEP0_LO -/ ⟨0x8808, 1, 4, [⟨31, 0, rw⟩], 0x0#32⟩,
  /- LPE_RPL_VSTEP0_HI -/ ⟨0x880C, 1, 4, [⟨15, 0, rw⟩], 0x0#32⟩,
  /- LPE_RPL_STOP_LO -/ ⟨0x8810, 1, 4, [⟨31, 0, rw⟩], 0x0#32⟩,
  /- LPE_RPL_STOP_HI -/ ⟨0x8814, 1, 4, [⟨20, 16, rw⟩, ⟨15, 0, rw⟩], 0x0#32⟩,
  /- LPE_RPL_STAT -/ ⟨0x8818, 1, 4, [⟨31, 28, ro⟩, ⟨27, 24, ro⟩, ⟨8, 8, w1c⟩], 0x0#32⟩]

/-- The LPE_ registers, part 2. -/
def catLpe_1 : List RegDef := [
  /- LPE_RPL_VSTEP_LO -/ ⟨0x881C, 1, 4, [⟨31, 0, ro⟩], 0x0#32⟩,
  /- LPE_RPL_VSTEP_HI -/ ⟨0x8820, 1, 4, [⟨15, 0, ro⟩], 0x0#32⟩,
  /- LPE_BANK_A -/ ⟨0x9000, 256, 4, [⟨31, 0, rw⟩], 0xFFFFFFFF#32⟩,
  /- LPE_BANK_B -/ ⟨0x9400, 256, 4, [⟨31, 0, rw⟩], 0xFFFFFFFF#32⟩,
  /- LPE_CLIM_LO -/ ⟨0x9800, 256, 4, [⟨31, 0, ro⟩], 0xFFFFFFFF#32⟩,
  /- LPE_CLIM_HI -/ ⟨0x9C00, 256, 4, [⟨31, 0, ro⟩], 0xFFFFFFFF#32⟩,
  /- LPE_GRAPH -/ ⟨0xA000, 512, 4, [⟨31, 0, ro⟩], 0xFFFFFFFF#32⟩,
  /- LPE_SIG -/ ⟨0xB000, 256, 4, [⟨31, 0, ro⟩], 0x0#32⟩]

/-- The LPE_ registers. -/
def catLpe : List RegDef := catLpe_0 ++ catLpe_1

/-- The HDL_ registers. -/
def catHdl : List RegDef := [
  /- HDL_INJ -/ ⟨0xC000, 1, 4, [⟨15, 0, ro⟩], 0xFFFF#32⟩,
  /- HDL_INJ_INC -/ ⟨0xC004, 1, 4, [⟨31, 0, ro⟩], 0xFFFFFFFF#32⟩,
  /- HDL_INJ_RAMP -/ ⟨0xC008, 1, 4, [⟨7, 0, ro⟩], 0xFF#32⟩,
  /- HDL_HO -/ ⟨0xC00C, 1, 4, [⟨31, 16, ro⟩, ⟨15, 0, ro⟩], 0xFFFFFFFF#32⟩,
  /- HDL_HO2 -/ ⟨0xC010, 1, 4, [⟨31, 24, ro⟩, ⟨23, 16, ro⟩, ⟨15, 0, ro⟩], 0xFFFFFFFF#32⟩,
  /- HDL_STAT -/ ⟨0xC014, 1, 4, [⟨31, 31, ro⟩, ⟨30, 30, ro⟩, ⟨23, 16, ro⟩, ⟨15, 0, ro⟩], 0x0#32⟩,
  /- HDL_PL -/ ⟨0xC018, 1, 4, [⟨31, 16, ro⟩, ⟨15, 8, ro⟩], 0xFFFFFF00#32⟩,
  /- HDL_PL2 -/ ⟨0xC01C, 1, 4, [⟨15, 0, ro⟩], 0xFFFF#32⟩,
  /- HDL_ILSB -/ ⟨0xC020, 1, 4, [⟨31, 0, ro⟩], 0xFFFFFFFF#32⟩,
  /- HDL_VLSB -/ ⟨0xC024, 1, 4, [⟨31, 0, ro⟩], 0xFFFFFFFF#32⟩,
  /- HDL_R -/ ⟨0xC028, 1, 4, [⟨31, 0, ro⟩], 0xFFFFFFFF#32⟩,
  /- HDL_L -/ ⟨0xC02C, 1, 4, [⟨31, 0, ro⟩], 0xFFFFFFFF#32⟩,
  /- HDL_EMF_LPF -/ ⟨0xC030, 1, 4, [⟨31, 0, ro⟩], 0xFFFFFFFF#32⟩,
  /- HDL_E_MIN -/ ⟨0xC034, 1, 4, [⟨31, 0, ro⟩], 0xFFFFFFFF#32⟩,
  /- HDL_KP_EMF -/ ⟨0xC038, 1, 4, [⟨31, 0, ro⟩], 0xFFFFFFFF#32⟩,
  /- HDL_KI_EMF -/ ⟨0xC03C, 1, 4, [⟨31, 0, ro⟩], 0xFFFFFFFF#32⟩,
  /- HDL_KP_HFI -/ ⟨0xC040, 1, 4, [⟨31, 0, ro⟩], 0xFFFFFFFF#32⟩,
  /- HDL_KI_HFI -/ ⟨0xC044, 1, 4, [⟨31, 0, ro⟩], 0xFFFFFFFF#32⟩,
  /- HDL_HFI_LPF -/ ⟨0xC048, 1, 4, [⟨31, 0, ro⟩], 0xFFFFFFFF#32⟩,
  /- HDL_HFI_GAIN -/ ⟨0xC04C, 1, 4, [⟨31, 0, ro⟩], 0xFFFFFFFF#32⟩,
  /- HDL_CONV -/ ⟨0xC050, 1, 4, [⟨31, 16, ro⟩, ⟨7, 0, ro⟩], 0xFFFF00FF#32⟩,
  /- HDL_DEMOD -/ ⟨0xC054, 1, 4, [⟨15, 0, ro⟩], 0xFFFF#32⟩,
  /- HDL_EST -/ ⟨0xC058, 1, 4, [⟨31, 16, ro⟩, ⟨15, 0, ro⟩], 0x0#32⟩,
  /- HDL_RES -/ ⟨0xC05C, 1, 4, [⟨31, 0, ro⟩], 0x0#32⟩]

/-- The OBS_ registers. -/
def catObs : List RegDef := [
  /- OBS_CTRL -/ ⟨0x10000, 1, 4, [⟨31, 31, ro⟩, ⟨21, 16, ro⟩, ⟨13, 0, ro⟩], 0x803F0000#32⟩,
  /- OBS_IN -/ ⟨0x10100, 32, 8, [⟨10, 8, ro⟩, ⟨7, 0, ro⟩], 0x7FF#32⟩,
  /- OBS_GAIN -/ ⟨0x10104, 32, 8, [⟨31, 0, ro⟩], 0xFFFFFFFF#32⟩,
  /- OBS_SCALE -/ ⟨0x10200, 8, 8, [⟨31, 0, ro⟩], 0xFFFFFFFF#32⟩,
  /- OBS_OFFSET -/ ⟨0x10204, 8, 8, [⟨31, 0, ro⟩], 0xFFFFFFFF#32⟩,
  /- OBS_WMAX -/ ⟨0x10240, 1, 4, [⟨31, 0, ro⟩], 0xFFFFFFFF#32⟩,
  /- OBS_NMIN -/ ⟨0x10244, 1, 4, [⟨31, 0, ro⟩], 0xFFFFFFFF#32⟩,
  /- OBS_TMAX -/ ⟨0x10248, 1, 4, [⟨31, 0, ro⟩], 0xFFFFFFFF#32⟩,
  /- OBS_TLO -/ ⟨0x10250, 3, 12, [⟨31, 0, ro⟩], 0xFFFFFFFF#32⟩,
  /- OBS_THI -/ ⟨0x10254, 3, 12, [⟨31, 0, ro⟩], 0xFFFFFFFF#32⟩,
  /- OBS_TRATE -/ ⟨0x10258, 3, 12, [⟨31, 0, ro⟩], 0xFFFFFFFF#32⟩,
  /- OBS_HITLIM -/ ⟨0x10280, 1, 4, [⟨15, 0, ro⟩], 0xFFFF#32⟩,
  /- OBS_HITS -/ ⟨0x10290, 8, 4, [⟨15, 0, w1c⟩], 0x0#32⟩,
  /- OBS_STAT -/ ⟨0x102C0, 1, 4, [⟨31, 16, w1c⟩, ⟨1, 1, w1c⟩, ⟨0, 0, ro⟩], 0x0#32⟩,
  /- OBS_RAW -/ ⟨0x10300, 8, 4, [⟨15, 0, ro⟩], 0x0#32⟩,
  /- OBS_VAL -/ ⟨0x10320, 8, 4, [⟨31, 0, ro⟩], 0x0#32⟩,
  /- OBS_DEC -/ ⟨0x10400, 16, 4, [⟨11, 8, ro⟩, ⟨7, 0, ro⟩], 0xFFF#32⟩,
  /- OBS_DGAIN -/ ⟨0x10500, 64, 8, [⟨31, 0, ro⟩], 0xFFFFFFFF#32⟩,
  /- OBS_DOFS -/ ⟨0x10504, 64, 8, [⟨31, 0, ro⟩], 0xFFFFFFFF#32⟩,
  /- OBS_PRG_Q -/ ⟨0x10700, 1, 4, [⟨5, 0, ro⟩], 0x3F#32⟩,
  /- OBS_ALERT -/ ⟨0x10704, 2, 4, [⟨31, 0, ro⟩], 0xFFFFFFFF#32⟩,
  /- OBS_ALERT_N -/ ⟨0x1070C, 1, 4, [⟨7, 0, ro⟩], 0xFF#32⟩,
  /- OBS_VERD -/ ⟨0x10710, 4, 4, [⟨31, 0, ro⟩], 0x0#32⟩]

/-- The AUX_ registers. -/
def catAux : List RegDef := [
  /- AUX_PAIR -/ ⟨0x14000, 4, 4, [⟨31, 30, ro⟩, ⟨23, 16, ro⟩, ⟨15, 8, ro⟩, ⟨7, 0, ro⟩], 0xC0FFFFFF#32⟩,
  /- AUX_LSD -/ ⟨0x14010, 8, 4, [⟨31, 31, ro⟩, ⟨26, 24, ro⟩, ⟨1, 1, ro⟩, ⟨0, 0, ro⟩], 0x87000003#32⟩,
  /- AUX_SET -/ ⟨0x14030, 1, 4, [⟨7, 0, wo⟩], 0x0#32⟩,
  /- AUX_CLR -/ ⟨0x14034, 1, 4, [⟨7, 0, wo⟩], 0x0#32⟩,
  /- AUX_REQ -/ ⟨0x14038, 1, 4, [⟨7, 0, ro⟩], 0x0#32⟩,
  /- AUX_STAT -/ ⟨0x1403C, 1, 4, [⟨27, 24, ro⟩, ⟨23, 16, ro⟩, ⟨3, 0, ro⟩], 0x0#32⟩,
  /- AUX_FLAG -/ ⟨0x14040, 1, 4, [⟨31, 24, w1c⟩, ⟨23, 16, w1c⟩, ⟨15, 8, w1c⟩, ⟨7, 0, w1c⟩], 0x0#32⟩,
  /- AUX_HALL -/ ⟨0x14050, 1, 4, [⟨31, 31, ro⟩, ⟨15, 8, ro⟩, ⟨2, 0, ro⟩], 0x8000FF00#32⟩]

/-- Whether the register row `d` has a register at offset `o`. -/
def RegDef.covers (d : RegDef) (o : Nat) : Bool :=
  d.base ≤ o && (o - d.base) % d.stride == 0 && decide ((o - d.base) / d.stride < d.count)

/-- The rows that describe the registers of an axis window (Table MAP-6), by offset. -/
def axisRows (o : Nat) : List RegDef :=
  if o < 0x4000 then catSns
  else if o < 0x8000 then catPwm
  else if o < 0xC000 then catLpe
  else if o < 0x10000 then catHdl
  else if o < 0x14000 then catObs
  else catAux

/-- The rows that describe the chip registers (Table MAP-4), by host address. -/
def chipRows (k : Nat) : List RegDef :=
  if k < 0x10000 then catChip
  else if k < 0x20000 then catScw
  else if k < 0x30000 then catPcr ++ catTrn
  else if k < 0x300000 then catFld
  else if k < 0x340000 then catHrw ++ catChk
  else if k < 0x380000 then catSaf ++ catRot
  else if k < 0x3C0000 then catQue ++ catSqr
  else if k < 0x3E0000 then catTrl
  else catSil

/-- The catalogue row of the register at host address `k`, none where no register is assigned (R384). -/
def regDefAt (k : Nat) : Option RegDef :=
  if 0x100000 ≤ k ∧ k < 0x200000 then
    let o := (k - 0x100000) % 0x40000
    (axisRows o).find? (fun d => d.covers o)
  else (chipRows k).find? (fun d => d.covers k)

/-- The bits of the register at host address `k` that an image loads (R9). -/
def imgMask (k : Nat) : Word := ((regDefAt k).map (fun d => d.img)).getD 0

/-- The mask of the bits `[hi:lo]`. -/
def bitMask (hi lo : Nat) : Word := BitVec.ofNat 32 ((2 ^ (hi + 1 - lo) - 1) * 2 ^ lo)

/-- What writing `v` does to one field of the word `w`, by its access code (Table SCO-6).
`lk` says whether the image is sealed, which makes an RWS field read-only (R10). -/
def FieldDef.write (lk : Bool) (v w : Word) (f : FieldDef) : Word :=
  let m := bitMask f.hi f.lo
  match f.acc with
  | .rw  => (w &&& ~~~m) ||| (v &&& m)
  | .rws => if lk then w else (w &&& ~~~m) ||| (v &&& m)
  | .w1c => w &&& ~~~(v &&& m)
  | .w1s => w ||| (v &&& m)
  | .ro | .wo => w

/-- What writing `v` does to the word `w` of a register, field by field (R7). -/
def RegDef.write (d : RegDef) (lk : Bool) (v w : Word) : Word :=
  d.fields.foldl (fun acc f => f.write lk v acc) w

end Sys2Proof.Machine
end

