-- ==== Sys2Proof/Machine/View.lean ====
section
/-! DEFINITION. What the registers show: the stored word of a register, or, for fields that other state holds (fuses,
counters of the Square, the log of Scarecrow, captured signals, live levels), the value read from there.  A `Face` is
everything they are read from at one instant, which is also what the register snapshot of chapter 15 copies. -/

namespace Sys2Proof.Machine

/-- The home of a register: the chip-wide AUX_ registers, which every axis window shows, have theirs in the first. -/
def homeKey (k : Nat) : Nat :=
  let o := (k - 0x100000) % 0x40000
  if 0x100000 ≤ k ∧ k < 0x200000 ∧ 0x14000 ≤ o ∧ o < 0x14050 then 0x100000 + o else k

/-- What the registers show now. -/
def State.face (s : State) : Face :=
  { regs := s.regs, step := s.stepN, armed := s.armed, pwm := s.pwm,
    caps := ⟨s.loop.q0.cap, s.loop.q1.cap, s.loop.q2.cap, s.loop.q3.cap⟩,
    tasks := s.tasks, routes := s.routes, fuses := s.fuses, mapRead := s.pow.mapRead, retRead := s.pow.retRead,
    digests := s.ldr.digests, log := s.scw.log,
    rdPend := ⟨s.ports.p0.rd.any (fun r => r.data.isNone && !r.bad), s.ports.p1.rd.any (fun r => r.data.isNone && !r.bad)⟩,
    wrPend := ⟨s.ports.p0.wr.isSome, s.ports.p1.wr.isSome⟩,
    safeN := s.safeNAsked, safePin := s.safeNAsked != s.saf.safeNOff, pairI := s.saf.pairI }

/-- The stored word of a register. -/
def Face.reg (f : Face) (k : Nat) : Word := SMap.get (resetWord k) f.regs k

/-- The value of a stored field. -/
def Face.fld (f : Face) (x : Fld) : Nat := fieldGet (f.reg x.addr) x.lo x.width

/-- The disabled-plot map as read from the fuses. -/
def Face.disabled (f : Face) : BitVec 16 := f.mapRead ||| f.retRead

/-- The enabled physical plots, in ascending order (R195). -/
def Face.plots (f : Face) : List Nat := (List.range 16).filter (fun p => !f.disabled.getLsbD p)

/-- CHIP_REPRO_SIG (Table DET-7, R237). -/
def Face.reproSig (f : Face) : Word :=
  let hash := crcOf (crcF 0) (leBytes 2 f.disabled.toNat)
  let part := if f.fuses.partno = 0x4816 then 0 else if f.fuses.partno = 0x4812 then 1 else 2
  word (f.fuses.stepping * 2 ^ 28 + 7 * 2 ^ 24 + hash % 256 * 2 ^ 16 + f.fuses.grade * 2 ^ 12 + part * 2 ^ 8
    + f.fuses.poolMax % 256)

/-- A word of the CHIP_ block (Table MAP-5). -/
def Face.chipWord (f : Face) (k : Nat) : Word :=
  if k = R.CHIP_ID then word (f.fuses.partno * 2 ^ 16 + f.fuses.stepping * 2 ^ 12 + 0x1C7)
  else if k = R.CHIP_UID_LO then word f.fuses.uid
  else if k = R.CHIP_UID_HI then word (f.fuses.uid / 2 ^ 32)
  else if k = R.CHIP_OPT then word (f.fuses.axes.toNat * 2 ^ 16 + f.plots.length)
  else if k = R.CHIP_REPRO_SIG then f.reproSig
  else 0

/-- A word of the SCW_ block: the log's oldest entry, its count, and the SAFE_N levels (Table SCW-9). -/
def Face.scwWord (f : Face) (k : Nat) : Word :=
  if k = R.SCW_LOG_HEAD then
    (f.log.head?).elim 0 (fun e => word (2 ^ 31 + e.rule * 2 ^ 24 + e.acts % 256 * 2 ^ 16 + e.value % 65536))
  else if k = R.SCW_LOG_TIME then (f.log.head?).elim 0 (fun e => e.tick)
  else if k = R.SCW_LOG_STAT then (f.reg k &&& 0xFF00#32) ||| word (f.log.length % 32)
  else if k = R.SCW_SAFE_N then (f.reg k &&& 4#32) ||| word (2 * f.safePin.toNat + f.safeN.toNat)
  else f.reg k

/-- An enabled queue that interrupts port `p` holds a descriptor (Table QUE-13, SRC bit 0). -/
def Face.queLevel (f : Face) (p : Nat) : Bool :=
  (List.range 64).any (fun n => f.fld (F.QUE_CFG_EN n) = 1 && (f.fld (F.QUE_CFG_IRQ n)).testBit p
    && f.fld (F.QUE_PROD_PROD n) != f.fld (F.QUE_CONS_CONS n))

/-- A word of the PCR_ block. -/
def Face.pcrWord (f : Face) (k : Nat) : Word :=
  if k = R.PCR_STEP_LO then word f.step
  else if k = R.PCR_STEP_HI then word (f.step / 2 ^ 32)
  else if k = R.PCR_FRAME_POS then
    (f.reg k &&& 0x1FFFF#32) ||| word (f.step % max 1 (f.fld F.PCR_SCHED_K) * 2 ^ 17)
  else if k = R.PCR_IMG_STATUS then (f.reg k &&& ~~~0x02000000#32) ||| word (f.fuses.authReq.toNat * 2 ^ 25)
  else if k = R.PCR_IMG_CTRL then (f.reg k &&& ~~~4#32) ||| word (4 * f.fld F.PCR_IMG_STATUS_SEALED)
  else if R.PCR_IMG_HASH 0 ≤ k ∧ k ≤ R.PCR_IMG_HASH 7 then
    let d := f.digests.getD (f.fld F.PCR_IMG_HASH_SEL_SEL) []
    word (leNat (((d.drop (k - R.PCR_IMG_HASH 0)).take 4).map (fun b => BitVec.ofNat 8 b)))
  else if k = R.PCR_HP_IRQ 0 then (f.reg k &&& ~~~1#32) ||| word (f.queLevel 0).toNat
  else if k = R.PCR_HP_IRQ 1 then (f.reg k &&& ~~~1#32) ||| word (f.queLevel 1).toNat
  else if k = R.PCR_HP_STAT 0 then (f.reg k &&& 0x3FFFFFFF#32) ||| word (f.rdPend.p0.toNat * 2 ^ 31 + f.wrPend.p0.toNat * 2 ^ 30)
  else if k = R.PCR_HP_STAT 1 then (f.reg k &&& 0x3FFFFFFF#32) ||| word (f.rdPend.p1.toNat * 2 ^ 31 + f.wrPend.p1.toNat * 2 ^ 30)
  else f.reg k

/-- A word of the FLD_ block: the plot map is the fuses'. -/
def Face.fldWord (f : Face) (k : Nat) : Word :=
  let phys (l : Nat) : Nat := f.plots.getD l 0
  if k = R.FLD_MAP 0 then word ((List.range 8).foldl (fun n j => n + phys j * 2 ^ (4 * j)) 0)
  else if k = R.FLD_MAP 1 then word ((List.range 8).foldl (fun n j => n + phys (8 + j) * 2 ^ (4 * j)) 0)
  else if k = R.FLD_DIS then word (f.retRead.toNat * 2 ^ 16 + f.mapRead.toNat)
  else if 0x201000 ≤ k ∧ k % 0x1000 = 0 then (f.reg k &&& ~~~0x00F00000#32) ||| word (phys (k / 0x1000 - 0x201) * 2 ^ 20)
  else f.reg k

/-- A word of the SAF_ block: SAF_STAT's fuse bit and SAF_COND (R276, R281). -/
def Face.safWord (f : Face) (k : Nat) : Word :=
  if k = R.SAF_STAT then (f.reg k &&& ~~~0x10000000#32) ||| word ((!f.fuses.jtagLock).toNat * 2 ^ 28)
  else if k = R.SAF_COND then
    (f.reg k &&& 0xFFFFFF10#32) ||| word (32 * f.fld F.SAF_CFG_DUAL_REL + 8 * f.fuses.authReq.toNat
      + 4 * f.fld F.PCR_IMG_STATUS_SIGNED + 2 * f.fld F.PCR_IMG_STATUS_SEALED + f.fuses.jtagLock.toNat)
  else f.reg k

/-- The kind code of task input `k` (SQR_AUD_B.KIND). -/
def kindCode (k : Nat) : Nat := if 0x80 ≤ k then 2 else if k < 0x40 ∧ k % 0x10 = 4 then 1 else 0

/-- A word of the SQR_ block: the route table and the counts of the task inputs (Table QUE-12). -/
def Face.sqrWord (f : Face) (k : Nat) : Word :=
  if 0x384400 ≤ k ∧ k < 0x385400 then
    match f.routes[(k - 0x384400) / 8]? with
    | none => 0
    | some r =>
      if k % 8 = 4 then word (r.cst.getD 0 % 65536)
      else word ((r.en.toNat + 2 * r.cst.isSome.toNat) * 2 ^ 16 + r.dst * 2 ^ 8 + r.src)
  else if 0x386000 ≤ k ∧ k < 0x386600 then
    let c := (k - 0x386000) / 8
    let t := SMap.get {} f.tasks c
    if k % 8 = 4 then word (t.mrg * 2 ^ 16 + t.pend % 16 * 2 ^ 8 + kindCode c) else word (t.rcv * 2 ^ 16 + t.srv)
  else f.reg k

/-- A word of axis window `a`: the captured signals, ARMED, the mask pattern in force, and with VIEW = 1 the active compare set
(Tables PWM-8 and PWM-10). -/
def Face.axisWord (f : Face) (a : Fin 4) (k : Nat) : Word :=
  let o := k - axisBase a
  let act := (f.pwm.get a).active
  let view := f.fld (F.PWM_CTRL_VIEW a) = 1
  if 0xB000 ≤ o ∧ o < 0xB400 then SMap.get 0 (f.caps.get a) ((o - 0xB000) / 4)
  else if o = 0x4008 then (f.reg k &&& ~~~0x100#32) ||| word ((f.armed.getLsbD (f.fld (F.PWM_CTRL_GROUP a))).toNat * 2 ^ 8)
  else if o = 0x40E0 ∧ f.fld (F.PWM_MASK_CTRL_FORCE a) = 1 then
    (f.reg k &&& ~~~0x70000#32) ||| word (f.fld (F.PWM_MASK_CTRL_FSEL a) * 2 ^ 16)
  else if view ∧ o = 0x4004 then word (act.per % 2 ^ 24)
  else if view ∧ 0x4040 ≤ o ∧ o < 0x4080 then
    (if o % 8 = 0 then act.rise else act.fall).getD ((o - 0x4040) / 8) 0
  else if view ∧ 0x4080 ≤ o ∧ o < 0x4090 then act.trig.getD ((o - 0x4080) / 4) 0
  else f.reg k

/-- The word that a register shows; an address with no register shows 0 (R384). -/
def Face.word (f : Face) (k : Nat) : Word :=
  let k := homeKey k
  if (regDefAt k).isNone then 0
  else if k < 0x10000 then f.chipWord k
  else if k < 0x20000 then f.scwWord k
  else if k < 0x30000 then f.pcrWord k
  else if h : 0x100000 ≤ k ∧ k < 0x200000 then f.axisWord ⟨(k - 0x100000) / 0x40000, by omega⟩ k
  else if 0x200000 ≤ k ∧ k < 0x300000 then f.fldWord k
  else if 0x340000 ≤ k ∧ k < 0x380000 then f.safWord k
  else if 0x384000 ≤ k ∧ k < 0x388000 then f.sqrWord k
  else if k = R.TRL_STAT then (f.reg k &&& ~~~0x00200000#32) ||| Sys2Proof.word (f.pairI.toNat * 2 ^ 21)
  else f.reg k

/-- The word that a register shows now. -/
def State.shown (s : State) (k : Nat) : Word := s.face.word k

end Sys2Proof.Machine
end

