-- ==== Sys2Proof/Machine/Harrow.lean ====
section
/-! DEFINITION. Harrow and the check units (chapter 15): the computation and the alive results of a unit (R296 to R299),
scans of the four spaces (R287 to R293), scrub (R294, R295) and the standing checks (R300, R301). -/

namespace Sys2Proof.Machine

/-! ## Check units -/

/-- The 64-bit number of a LO and HI register pair of words. -/
def State.reg64 (s : State) (lo hi : Nat) : Nat := (s.reg lo).toNat + 2 ^ 32 * (s.reg hi).toNat

/-- The parameters of unit `n`: Mode F or Mode P from its registers; `std` selects FSEL 3 whatever they hold. -/
def State.chkParams (s : State) (n : Nat) (std : Bool) : CrcParams :=
  if std then crcF 3
  else if s.flag (F.CHK_CFG_MODE n) then
    { width := s.fld (F.CHK_CFG_WIDTH n), poly := s.reg64 (R.CHK_POLY_LO n) (R.CHK_POLY_HI n),
      init := s.reg64 (R.CHK_INIT_LO n) (R.CHK_INIT_HI n), refIn := s.flag (F.CHK_CFG_REFIN n),
      refOut := s.flag (F.CHK_CFG_REFOUT n), xorOut := s.reg64 (R.CHK_XOR_LO n) (R.CHK_XOR_HI n) }
  else crcF (s.fld (F.CHK_CFG_FSEL n))

/-- INIT of unit `n`: the initial value is loaded; the byte count, the alive results and DONE are cleared. -/
def chkInit (n : Nat) (std : Bool) (s : State) : State :=
  let s := ((s.setFld (F.CHK_BYTES_BYTES n) 0).setReg (R.CHK_ALV n) 0x0000FFFF#32).setFlag (F.CHK_STAT_DONE n) false
  s.modHrw (fun h => { h with
    crc := SMap.put 0 h.crc n (s.chkParams n std).init, recBuf := SMap.put [] h.recBuf n [],
    alvRef := SMap.put none h.alvRef n none, alvIdx := SMap.put 0 h.alvIdx n 0 })

/-- One whole record reaches the alive check of unit `n` (R298). -/
def alvJudge (n : Nat) (r : List Byte) (s : State) : State :=
  let b := leAt r (s.fld (F.CHK_REC_ALV_OFF n)) 1
  let c := if s.flag (F.CHK_CFG_ALV_HI n) then b / 16 else b % 16
  let i := SMap.get 0 s.hrw.alvIdx n
  let next (s : State) : State := s.modHrw (fun h => { h with
    alvRef := SMap.put none h.alvRef n (some c), alvIdx := SMap.put 0 h.alvIdx n (i + 1) })
  match SMap.get none s.hrw.alvRef n with
  | none => next s
  | some q =>
    if c = (q + 1) % 16 then next s
    else
      let s := if s.fld (F.CHK_ALV_FIRST n) = 0xFFFF then s.setFld (F.CHK_ALV_FIRST n) i else s
      next (s.bump (if c = q then F.CHK_ALV_REPEAT n else F.CHK_ALV_JUMP n) 1)

/-- Splits the stream into records; `f` bounds their number. -/
def alvRecords (n len : Nat) : Nat → List Byte → State → State
  | 0, bs, s => s.modHrw (fun h => { h with recBuf := SMap.put [] h.recBuf n bs })
  | f + 1, bs, s =>
    if len = 0 ∨ bs.length < len then s.modHrw (fun h => { h with recBuf := SMap.put [] h.recBuf n bs })
    else alvRecords n len f (bs.drop len) (alvJudge n (bs.take len) s)

/-- Bytes reach unit `n`, and the result follows (R296, R298). -/
def chkFeed (n : Nat) (std : Bool) (bs : List Byte) (s : State) : State :=
  let p := s.chkParams n std
  let c := crcFold p (SMap.get 0 s.hrw.crc n) bs
  let s := s.modHrw (fun h => { h with crc := SMap.put 0 h.crc n c })
  let s := if s.flag (F.CHK_CFG_ALV_EN n) then
      let buf := SMap.get [] s.hrw.recBuf n ++ bs
      alvRecords n (s.fld (F.CHK_REC_REC_LEN n)) buf.length buf s
    else s
  let s := s.setFld (F.CHK_BYTES_BYTES n) (s.fld (F.CHK_BYTES_BYTES n) + bs.length)
  let r := crcResult p c
  (s.setReg (R.CHK_RES_LO n) (word r)).setReg (R.CHK_RES_HI n) (word (r / 2 ^ 32))

/-- The unit's result is complete and the unit is released (R296). -/
def chkDone (n : Nat) (s : State) : State :=
  ((s.setFlag (F.CHK_STAT_DONE n) true).setFld (F.CHK_STAT_OWNER n) 0).setFlag (F.CHK_STAT_BUSY n) false

/-- The unit is released without a result. -/
def chkFree (n : Nat) (s : State) : State := (s.setFld (F.CHK_STAT_OWNER n) 0).setFlag (F.CHK_STAT_BUSY n) false

/-- The unit has an owner. -/
def State.chkOwned (s : State) (n : Nat) : Bool := s.fld (F.CHK_STAT_OWNER n) != 0

/-- A host access that a unit with an owner ignores, setting COLL (R299). -/
def chkHost (n : Nat) (f : State → State) (s : State) : State :=
  if s.chkOwned n then s.setFlag (F.CHK_STAT_COLL n) true else f s

/-- A host write of INIT. -/
def chkHostInit (n : Nat) (s : State) : State := chkHost n (chkInit n false) s

/-- Host bytes through CHK_DIN or CHK_DIN1; the unit serves the host until their result follows. -/
def chkHostFeed (n : Nat) (bs : List Byte) (s : State) : State :=
  chkHost n (fun s => (chkFeed n false bs s).setFlag (F.CHK_STAT_DONE n) true) s

/-- The configuration in the registers of unit `n` is one R297 allows in Mode P. -/
def State.chkModeOk (s : State) (n : Nat) : Bool :=
  let p := s.chkParams n false
  !s.flag (F.CHK_CFG_MODE n)
  || (decide (3 ≤ p.width ∧ p.width ≤ 64) && decide (p.poly < 2 ^ p.width) && decide (p.init < 2 ^ p.width)
      && decide (p.xorOut < 2 ^ p.width))

/-- A host write of `w` to a configuration register `k` of unit `n` (its fields by their access codes are already merged
into `w`): refused with CFG_ERR where the configuration would break R297 or, in CHK_REC, R298. -/
def chkConfig (n k : Nat) (w : Word) (s : State) : State :=
  chkHost n (fun s =>
    let t := s.setReg k w
    let bad := !t.chkModeOk n
      || (k == R.CHK_REC n && decide (t.fld (F.CHK_REC_REC_LEN n) < t.fld (F.CHK_REC_ALV_OFF n) + 1))
    if bad then s.setFlag (F.CHK_STAT_CFG_ERR n) true else t) s

/-! ## Scans -/

/-- A scan's description: space, bytes per element, CFGONLY, MASKLIVE, plot, first address, elements, stride. -/
structure ScanDesc where
  space   : Nat
  e       : Nat
  cfgOnly : Bool
  maskLive : Bool
  plot    : Nat
  start   : Nat
  count   : Nat
  stride  : Nat
  deriving DecidableEq, Repr

/-- The description in the registers of channel `c`. -/
def State.chDesc (s : State) (c : Nat) : ScanDesc :=
  let e := elemBytes (s.fld (F.HRW_CH_CFG_ELEM c))
  let st := s.fld (F.HRW_CH_STRIDE_STRIDE c)
  ⟨s.fld (F.HRW_CH_CFG_SPACE c), e, s.flag (F.HRW_CH_CFG_CFGONLY c), s.flag (F.HRW_CH_CFG_MASKLIVE c),
    s.fld (F.HRW_CH_CFG_PLOT c), s.fld (F.HRW_CH_START_START c), s.fld (F.HRW_CH_COUNT_COUNT c),
    if st = 0 then e else st⟩

/-- The description of standing check `i`. -/
def State.stdDesc (s : State) (i : Nat) : ScanDesc :=
  let e := elemBytes (s.fld (F.SAF_STD_CFG_ELEM i))
  let st := s.fld (F.SAF_STD_STRIDE_STRIDE i)
  ⟨s.fld (F.SAF_STD_CFG_SPACE i), e, s.flag (F.SAF_STD_CFG_CFGONLY i), s.flag (F.SAF_STD_CFG_MASKLIVE i),
    s.fld (F.SAF_STD_CFG_PLOT i), s.fld (F.SAF_STD_START_START i), s.fld (F.SAF_STD_COUNT_COUNT i),
    if st = 0 then e else st⟩

/-- Element `i` starts here (Table HRW-2). -/
def ScanDesc.addr (d : ScanDesc) (i : Nat) : Nat := d.start + i * d.stride

/-- The scan reads a memory of PD3: a plot store, or any of banks 4 to 15. -/
def ScanDesc.inPd3 (d : ScanDesc) : Bool := d.space == 1 || (d.space == 0 && decide (0x200000 < d.addr (d.count - 1) + d.e))

/-- The LIVE fields of the register at `k`. -/
def State.liveMask (s : State) (k : Nat) : Word :=
  s.ldr.live.foldl (fun m d => if d.addr = k then m ||| word d.mask else m) 0

/-- A register word of the held snapshot as the stream carries it ("The register snapshot"). -/
def State.snapWord (s : State) (f : Option Face) (d : ScanDesc) (k : Nat) : Word :=
  let w := (f.map (fun f => f.word k)).getD 0
  let w := if d.cfgOnly then w &&& imgMask k else w
  if d.maskLive then w &&& ~~~s.liveMask k else w

/-- Streams one element: its bytes, with the error counts of the memory and the channel's UE (R287, R291, R292). -/
def scanElem (c : Nat) (f : Option Face) (d : ScanDesc) (i : Nat) (s : State) : List Byte × State :=
  let k := d.addr i
  let flagUe (l : List Nat) (base : Nat) (s : State) : State :=
    match l.getLast? with
    | none => s
    | some w => (s.setFlag (F.HRW_CH_STAT_UE c) true).setFld (F.HRW_CH_UEADR_ADDR c) (8 * w - base)
  match d.space with
  | 0 =>
    let ue := wordsIn s.field.grnUE k d.e
    (memRead s.gran k d.e, flagUe ue 0 (granCount (wordsIn s.field.grnCE k d.e) ue none s))
  | 1 =>
    let b := plotBase d.plot + k
    let ue := wordsIn s.field.plotUE b d.e
    (memRead s.plots b d.e, flagUe ue (plotBase d.plot) (plotCount d.plot (wordsIn s.field.plotCE b d.e) ue none s))
  | 2 => ((List.range (d.e / 4)).flatMap (fun j => leBytes 4 (s.snapWord f d (k + 4 * j)).toNat), s)
  | _ => (memRead s.silo k d.e, s)

/-- Streams the elements from `i`, `n` of them. -/
def scanElems (c : Nat) (f : Option Face) (d : ScanDesc) (i : Nat) : Nat → State → List Byte × State
  | 0, s => ([], s)
  | n + 1, s =>
    let r := scanElem c f d i s
    let q := scanElems c f d (i + 1) n r.2
    (r.1 ++ q.1, q.2)

/-- The snapshot that channel `c` holds (key 4: the standing checks). -/
def State.heldSnap (s : State) (c : Nat) : Option Face := SMap.get none s.hrw.held c

/-- Takes or gives back the snapshot of channel `c` (R291). -/
def setHeld (c : Nat) (f : Option Face) (s : State) : State :=
  s.modHrw (fun h => { h with held := SMap.put none h.held c f })

/-- The units channel `c` owns. -/
def State.chUnits (s : State) (c : Nat) : List Nat :=
  (List.range 8).filter (fun n => s.fld (F.CHK_STAT_OWNER n) == 2 && s.fld (F.CHK_STAT_CH n) == c)

/-- Channel `c` waits or runs. -/
def State.chBusy (s : State) (c : Nat) : Bool := s.fld (F.HRW_CH_STAT_STATE c) == 1 || s.fld (F.HRW_CH_STAT_STATE c) == 2

/-! ## Standing checks -/

/-- Starts the first standing check that is due, once its unit has no other owner (R300). -/
def stdNext (s : State) : State :=
  match s.hrw.std with
  | [] => s
  | i :: _ =>
    let u := s.fld (F.SAF_STD_CFG_UNIT i)
    if s.chkOwned u then s
    else
      let s := ((s.setFld (F.CHK_STAT_OWNER u) 3).setFld (F.CHK_STAT_CH u) 3).setFlag (F.CHK_STAT_BUSY u) true
      setHeld 4 s.hrw.snap (chkInit u true (s.setFld (F.SAF_STD_STAT_STEP i) s.stepN))

/-- The standing checks that fall due at a frame boundary (R301). -/
def stdDue (s : State) : State :=
  if s.inReset 4 then s
  else
    let due := (List.range 8).filter (fun i => s.flag (F.SAF_STD_CFG_EN i)
      && s.frameNo % max 1 (s.fld (F.SAF_STD_CFG_PERIOD i)) == 0
      && (s.pd 3 || !(s.stdDesc i).inPd3))
    let s := s.each due (fun s i => if s.hrw.std.contains i then s.setFlag (F.SAF_STD_STAT_LATE i) true else s)
    let s := s.modHrw (fun h => { h with std := h.std ++ due.filter (fun i => !h.std.contains i) })
    stdNext s

/-- The first standing check runs: its unit is its own. -/
def State.stdRuns (s : State) : Option Nat :=
  s.hrw.std.head?.filter (fun i => s.fld (F.CHK_STAT_OWNER (s.fld (F.SAF_STD_CFG_UNIT i))) == 3)

/-- A standing check ends: it streams, compares and gives way to the next (R300). -/
def stdEnd (s : State) : State :=
  match s.stdRuns with
  | none => s
  | some i =>
    let u := s.fld (F.SAF_STD_CFG_UNIT i)
    let d := s.stdDesc i
    let r := scanElems 3 (s.heldSnap 4) d 0 d.count s
    let s := chkDone u (chkFeed u true r.1 r.2)
    let ok := (s.reg (R.CHK_RES_LO u)).toNat == s.fld (F.SAF_STD_EXP_EXPECT i)
    let s := (setHeld 4 none s).modHrw (fun h => { h with std := h.std.drop 1 })
    let s := if ok then s
      else raise Ev.chkMismatch i (irqLatch 7 (s.setFlag (F.SAF_STD_STAT_MISMATCH i) true))
    stdNext s

/-- Stops the standing checks that `p` selects, without a comparison. -/
def stdStop (p : Nat → Bool) (s : State) : State :=
  let run := s.stdRuns.filter p
  let s := match run with
    | some i => setHeld 4 none (chkFree (s.fld (F.SAF_STD_CFG_UNIT i)) s)
    | none => s
  stdNext (s.modHrw (fun h => { h with std := h.std.filter (fun i => !p i) }))

/-! ## The life of a scan -/

/-- Channel `c` ends without its result, with reason `why`; its request is withdrawn or its tokens returned. -/
def scanEndWhy (c why : Nat) (s : State) : State :=
  if s.chBusy c then
    let s := s.each (s.chUnits c) (fun s n => chkFree n s)
    stdNext (setHeld c none (trnEnd (.scan c) (scanStop c 4 why s)))
  else s

/-- The Turnstile grants channel `c` its tokens: the scan starts (R289). -/
def scanRun (c : Nat) (s : State) : State :=
  let s := s.setFld (F.HRW_CH_STAT_STATE c) 2
  if !s.pd 3 && (s.chDesc c).inPd3 then scanEndWhy c 3 s
  else setHeld c s.hrw.snap (s.each (s.chUnits c) (fun s n => chkInit n false s))

/-- The Turnstile refuses channel `c` (R74, R289). -/
def scanRefused (c : Nat) (s : State) : State := scanEndWhy c 1 s

/-- The last element of channel `c` has been streamed, and the result follows (R287, R296). -/
def scanDone (c : Nat) (s : State) : State :=
  if s.fld (F.HRW_CH_STAT_STATE c) = 2 then
    let d := s.chDesc c
    let r := scanElems c (s.heldSnap c) d 0 d.count s
    let s := r.2.each (s.chUnits c) (fun s n => chkDone n (chkFeed n false r.1 s))
    let s := (scanStop c 3 0 s).setFld (F.HRW_CH_DONE_ELEMS c) d.count
    stdNext (setHeld c none (trnEnd (.scan c) s))
  else s

/-- Channel `c` ends STARVED after it served `n` elements (R289). -/
def scanStarved (c n : Nat) (s : State) : State :=
  if s.fld (F.HRW_CH_STAT_STATE c) = 2 then
    let d := s.chDesc c
    let r := scanElems c (s.heldSnap c) d 0 (min n d.count) s
    let s := r.2.each (s.chUnits c) (fun s u => chkFeed u false r.1 s)
    scanEndWhy c 2 (s.setFld (F.HRW_CH_DONE_ELEMS c) (min n d.count))
  else s

/-- The scan channels. -/
def scanChannels : List Nat := [0, 1, 2, 3]

/-- PD3 goes off: the scans that read its memories end (R293), and so do such standing checks. -/
def scansPd3 (s : State) : State :=
  let s := s.each scanChannels (fun s c => if s.fld (F.HRW_CH_STAT_STATE c) = 2 ∧ (s.chDesc c).inPd3 then scanEndWhy c 3 s else s)
  stdStop (fun i => (s.stdDesc i).inPd3) s

/-- A tenant reset takes effect: its channels end (R293); with the estate's, all channels and the standing checks stop
("Tenants"). -/
def scansTenant (t : Nat) (s : State) : State :=
  let s := s.each scanChannels (fun s c => if t = 4 ∨ s.fld (F.HRW_CH_CFG_TENANT c) = t then scanEndWhy c 7 s else s)
  if t = 4 then stdStop (fun _ => true) s else s

/-! ## Scrub -/

/-- Words of memory `m`: a granary bank (0 to 15) or a plot store (16 to 31). -/
def scrubSize (m : Nat) : Nat := if m < 16 then 65536 else 32768

/-- The number of word `i` of memory `m`. -/
def scrubWord (m i : Nat) : Nat := if m < 16 then 65536 * m + i else 32768 * (m - 16) + i

/-- Memory `m` exists and lies in a domain that is on. -/
def State.scrubOn (s : State) (m : Nat) : Bool :=
  if m < 4 then s.pd 5 else if m < 16 then s.pd 5 && s.pd 3 else s.pd 5 && s.pd 3 && decide (m - 16 < s.physPlots.length)

/-- Scrub reads the next word of memory `m` (R294). -/
def scrubAccess (m : Nat) (s : State) : State :=
  if !s.flag F.HRW_CTRL_SCRUB_EN || !s.scrubOn m then s
  else
    let i := SMap.get 0 s.hrw.ptr m
    let w := scrubWord m i
    let next := (i + 1) % scrubSize m
    let s := if next = 0 then s.setFld (F.HRW_IDLE_SWEEPS m) (s.fld (F.HRW_IDLE_SWEEPS m) + 1) else s
    let s := s.modHrw (fun h => { h with
      ptr := SMap.put 0 h.ptr m next, touched := if h.touched.contains m then h.touched else h.touched ++ [m] })
    if (if m < 16 then s.field.grnUE else s.field.plotUE).contains w then
      let s := (s.bump F.HRW_SCRUB_CNT_UE 1).setFlag F.HRW_SCRUB_UE_PSTORE (decide (16 ≤ m))
      (s.setFld F.HRW_SCRUB_UE_PLOT (if m < 16 then 0 else m - 16)).setFld F.HRW_SCRUB_UE_OFFSET
        (if m < 16 then 8 * w else 8 * i)
    else if (if m < 16 then s.field.grnCE else s.field.plotCE).contains w then
      s.modHrw (fun h => { h with wback := h.wback ++ [(m, w)] })
    else s

/-- The next waiting write-back of memory `m` is performed (R294). -/
def scrubWriteBack (m : Nat) (s : State) : State :=
  if !s.scrubOn m then s
  else match s.hrw.wback.find? (fun e => e.1 == m) with
  | none => s
  | some e =>
    let s := (s.bump F.HRW_SCRUB_CNT_CE 1).modHrw (fun h => { h with wback := h.wback.erase e })
    s.modField (fun f =>
      if m < 16 then { f with grnCE := f.grnCE.filter (· != e.2) } else { f with plotCE := f.plotCE.filter (· != e.2) })

/-- The coverage counts at a frame boundary (R295). -/
def scrubFrame (s : State) : State :=
  let one (r : State × Bool) (m : Nat) : State × Bool :=
    let s := r.1
    if !s.scrubOn m then r
    else if s.hrw.touched.contains m then (s.setFld (F.HRW_IDLE_IDLE_FR m) 0, r.2)
    else
      let s := s.bump (F.HRW_IDLE_IDLE_FR m) 1
      if s.fld (F.HRW_IDLE_IDLE_FR m) ≤ s.fld F.HRW_CTRL_SCRUB_LIMIT then (s, r.2)
      else (if m < 16 then s.setBit F.HRW_COV_BANK m true else s.setBit F.HRW_COV_PLOT (m - 16) true, true)
  let r := (List.range 32).foldl one (s, false)
  let s := r.1.modHrw (fun h => { h with touched := [] })
  if r.2 then raise Ev.hrwCov 0 (irqLatch 6 s) else s

/-- The snapshot of a schedule-period boundary, taken after the actions of Table PER-5. -/
def snapTake (s : State) : State := s.modHrw (fun h => { h with snap := some s.face })

end Sys2Proof.Machine
end

