-- ==== Sys2Proof/Machine/Windows.lean ====
section
/-! DEFINITION. The memory windows (chapters 09, 16 and 19): where a window access falls (R386), the access itself once a
free slot, an idle cycle or a silo gap serves it (R185 to R188, R194, R206), its timeout (R186), and the unplanned silo
bursts (R193) with their Turnstile charge. -/

namespace Sys2Proof.Machine

/-- What a window access reaches. -/
inductive WinTarget where
  /-- The granary from an offset. -/
  | gran (off : Nat)
  /-- The store of a logical plot from a store offset. -/
  | plot (l off : Nat)
  /-- The silo from a silo offset, on a chip select. -/
  | silo (cs off : Nat)
  deriving DecidableEq, Repr

/-- The granary window holds `n` bytes from host address `k`. -/
def inGranWin (k n : Nat) : Bool := decide (0x1000000 ≤ k) && decide (k + n ≤ 0x1800000)

/-- The target of `n` bytes from host address `k`, none where R386 gives BAD_ADDR. -/
def State.winTarget (s : State) (k n : Nat) : Option WinTarget :=
  if inGranWin k n then some (.gran (k - 0x1000000))
  else if 0x2000000 ≤ k ∧ k + n ≤ 0x2400000 then
    let l := (k - 0x2000000) / 0x40000
    let o := (k - 0x2000000) % 0x40000
    if o + n ≤ 0x40000 ∧ l < s.physPlots.length then some (.plot l o) else none
  else if 0x10000000 ≤ k ∧ k + n ≤ 0x20000000 then
    let cs := (k - 0x10000000) / 0x8000000
    let o := (k - 0x10000000) % 0x8000000
    if s.flag (F.FLD_SILO_CFG_PRESENT cs) ∧ o + n ≤ 2 ^ s.fld (F.FLD_SILO_CFG_SIZE cs) then some (.silo cs (k - 0x10000000))
    else none
  else none

/-! ## Unplanned silo bursts -/

/-- The number of a window request: 0 and 1 the reads of the ports, 2 and 3 their writes. -/
def winNum (p : Fin 2) (wr : Bool) : Nat := p.val + if wr then 2 else 0

/-- An unplanned access `n` may start: its tokens are granted, or its scan runs, and it is not under way. -/
def State.siloReady (s : State) (n : Nat) : Bool :=
  s.field.siloAcc != some n
  && (if n < 4 then s.trn.grants.any (fun r => r.who = .silo n)
      else s.fld (F.HRW_CH_STAT_STATE (n - 4)) == 2 && s.fld (F.HRW_CH_CFG_SPACE (n - 4)) == 3)

/-- SIL_STAT.GAP_WAIT shows that an unplanned access waits; BUSY that a transfer is in progress. -/
def siloShow (s : State) : State :=
  (s.setFlag F.SIL_STAT_GAP_WAIT ((List.range 8).any (fun n => s.siloReady n))).setFlag F.SIL_STAT_BUSY
    (!s.field.spillRuns.isEmpty || s.field.siloAcc.isSome)

/-- A gap is long enough: unplanned access `n` starts (R193).  None starts during a planned transfer. -/
def siloStart (n : Nat) (s : State) : State :=
  if s.siloReady n && s.field.spillRuns.isEmpty && s.field.siloAcc.isNone && s.pd 5 then
    siloShow (s.modField (fun f => { f with siloAcc := some n }))
  else s

/-- Unplanned access `n` is over: its tokens return. -/
def siloOver (n : Nat) (s : State) : State :=
  let s := s.modField (fun f => { f with siloAcc := if f.siloAcc = some n then none else f.siloAcc })
  siloShow (trnEnd (.silo n) s)

/-! ## Ends of an access -/

/-- A posted window write fails with code `why` (R330, Table QUE-13). -/
def winWriteFail (p : Fin 2) (why : Nat) (s : State) : State :=
  let s := (s.setFlag (F.PCR_HP_STAT_WIN_ERR p) true).setFld (F.PCR_HP_STAT_WIN_WHY p) why
  s.setBit (F.PCR_HP_IRQ_SRC p) 4 true

/-- A window access fails: a read is answered with the access-error response, a posted write sets WIN_ERR and
WIN_WHY. -/
def winFail (p : Fin 2) (wr : Bool) (why : Nat) (s : State) : State :=
  let s := if wr then (winWriteFail p why s).modPort p (fun q => { q with wr := none })
    else s.modPort p (fun q => { q with rd := q.rd.map (fun r => { r with bad := true }) })
  siloOver (winNum p wr) s

/-- The error codes of a target whose domain is off: PD3 off (R187), or another domain. -/
def State.winOff (s : State) (n : Nat) : WinTarget → Option Nat
  | .gran o => if 0x200000 < o + n ∧ !s.pd 3 then some 3 else if !s.pd 5 then some 6 else none
  | .plot _ _ => if !s.pd 3 then some 3 else none
  | .silo _ _ => if !s.pd 5 then some 6 else none

/-- Ends an access that meets a domain that is off; PD3 also sets WIN_PD3 (R187). -/
def winOffEnd (p : Fin 2) (wr : Bool) (why : Nat) (s : State) : State :=
  winFail p wr why (if why = 3 then s.setFlag F.FLD_STAT_WIN_PD3 true else s)

/-! ## Cutting collisions -/

/-- Whether the bytes `[k, k + n)` and `[j, j + m)` meet. -/
def overlap (k n j m : Nat) : Bool := decide (k < j + m) && decide (j < k + n)

/-- The target touches copy `alt` of entry `e`. -/
def State.touchesCopy (s : State) (n : Nat) (e : CutEntry) (alt : Bool) : WinTarget → Bool
  | .gran o => (s.cutLayer e).any (fun l => l.granary) && overlap o n (e.copy alt) e.bytes
  | .plot l o => (s.cutLayer e).any (fun y => !y.granary) && l == s.netPlot e.tenant e.net && overlap o n (e.copy alt) e.bytes
  | .silo _ _ => false

/-- The valid cutting sets whose active copy, or whose locked copy, a write of `n` bytes touches (R206). -/
def State.cutHit (s : State) (n : Nat) (w : WinTarget) : List Nat :=
  (List.range 32).filter (fun c =>
    let alt := s.flag (F.FLD_CSET_CTRL_ALT c)
    s.flag (F.FLD_CSET_CTRL_VALID c) && (s.csetEntries c).any (fun e =>
      s.touchesCopy n e alt w || (s.flag (F.FLD_CSET_CTRL_LOCK c) && s.touchesCopy n e (!alt) w)))

/-! ## The access -/

/-- The words that a write of `n` bytes from `k` covers only in part. -/
def partWords (l : List Nat) (k n : Nat) : List Nat :=
  (wordsIn l k n).filter (fun w => decide (8 * w < k) || decide (k + n < 8 * w + 8))

/-- The window read of port `p` is performed (R185). -/
def winReadServe (p : Fin 2) (r : WinRead) (w : WinTarget) (s : State) : State :=
  match w with
  | .gran o =>
    let bad := !(wordsIn s.field.grnUE o r.len).isEmpty
    let x := granRead none o r.len s
    if bad then winFail p false 1 x.2 else x.2.modPort p (fun q => { q with rd := some { r with data := some x.1 } })
  | .plot l o =>
    let bad := !(wordsIn s.field.plotUE (plotBase l + o) r.len).isEmpty
    let x := plotRead none l o r.len s
    if bad then winFail p false 1 x.2 else x.2.modPort p (fun q => { q with rd := some { r with data := some x.1 } })
  | .silo _ o =>
    siloOver (winNum p false) (s.modPort p (fun q => { q with rd := some { r with data := some (memRead s.silo o r.len) } }))

/-- The words of `l` without those of `ws`. -/
def dropWords (l ws : List Nat) : List Nat := l.filter (fun w => !ws.contains w)

/-- The window write of port `p` is performed (R188, R194, R206).  A word written in part is read first: an uncorrectable
one fails the access, a correctable one is counted and rewritten. -/
def winWriteServe (p : Fin 2) (bs : List Byte) (w : WinTarget) (s : State) : State :=
  let hit := s.cutHit bs.length w
  if !hit.isEmpty then winFail p true 4 (s.each hit (fun s c => s.setFlag (F.FLD_CSET_CTRL_COLL c) true))
  else
    let done (s : State) : State := s.modPort p (fun q => { q with wr := none })
    match w with
    | .gran o =>
      let ue := partWords s.field.grnUE o bs.length
      let ce := partWords s.field.grnCE o bs.length
      let s := granCount ce ue none s
      if !ue.isEmpty then winFail p true 1 s
      else done (granWrite o bs (s.modField (fun f => { f with grnCE := dropWords f.grnCE ce })))
    | .plot l o =>
      let ue := partWords s.field.plotUE (plotBase l + o) bs.length
      let ce := partWords s.field.plotCE (plotBase l + o) bs.length
      let s := plotCount l ce ue none s
      if !ue.isEmpty then winFail p true 1 s
      else done (plotWrite l o bs (s.modField (fun f => { f with plotCE := dropWords f.plotCE ce })))
    | .silo cs o =>
      if !s.flag (F.FLD_SILO_CFG_PSRAM cs) then winFail p true 5 (s.setFlag F.SIL_STAT_HOST_NOR true)
      else siloOver (winNum p true) (done (siloWrite o bs s))

/-- A silo access is performed only while it is under way; the others when their slot or cycle comes. -/
def State.winMayServe (s : State) (p : Fin 2) (wr : Bool) : WinTarget → Bool
  | .silo _ _ => s.field.siloAcc == some (winNum p wr)
  | _ => true

/-- The pending window read of port `p`. -/
def State.winPend (s : State) (p : Fin 2) : Option WinRead := (s.ports.get p).rd.filter (fun r => r.data.isNone && !r.bad)

/-- A free slot, idle cycle or gap performs the window access of port `p` (R186). -/
def winServe (p : Fin 2) (wr : Bool) (s : State) : State :=
  if wr then
    match (s.ports.get p).wr with
    | none => s
    | some (k, bs) =>
      match s.winTarget k bs.length with
      | none => s
      | some w =>
        match s.winOff bs.length w with
        | some y => winOffEnd p true y s
        | none => if s.winMayServe p true w then winWriteServe p bs w s else s
  else
    match s.winPend p with
    | none => s
    | some r =>
      match s.winTarget r.addr r.len with
      | none => s
      | some w =>
        match s.winOff r.len w with
        | some y => winOffEnd p false y s
        | none => if s.winMayServe p false w then winReadServe p r w s else s

/-- The window access of port `p` was not served in time (R186). -/
def winTimeout (p : Fin 2) (wr : Bool) (s : State) : State :=
  let busy := if wr then (s.ports.get p).wr.isSome else (s.winPend p).isSome
  if busy then winFail p wr 2 (s.setFlag F.FLD_STAT_WIN_TMO true) else s

/-- An accepted window access to the silo asks for its tokens; a NOR write is refused without them (R194). -/
def winAsk (p : Fin 2) (wr : Bool) (w : WinTarget) (s : State) : State :=
  match w with
  | .silo cs _ =>
    if wr && !s.flag (F.FLD_SILO_CFG_PSRAM cs) then winFail p true 5 (s.setFlag F.SIL_STAT_HOST_NOR true)
    else trnRequest (.silo (winNum p wr)) 4 (s.fld F.TRN_COST_SILO) s
  | _ => s

/-- The Turnstile refuses the tokens of window access `n` (R74). -/
def siloRefused (n : Nat) (s : State) : State :=
  if h : n < 4 then winFail ⟨n % 2, by omega⟩ (decide (2 ≤ n)) 2 s else s

end Sys2Proof.Machine
end

