-- ==== Sys2Proof/Machine/Tramline.lean ====
section
/-! DEFINITION. Tramline (chapter 17): frames and their books (R337, R338), the slot cycle (R340), received bursts (R341,
R342), training (R343 to R348), the link states (R350 to R352), PAIR_SAFE (R353, R354), and the timebase discipline
(R349). -/

namespace Sys2Proof.Machine

/-! ## Frames -/

/-- The virtual channel of a frame TYPE, none for a TYPE that no running link carries (Table TRL-4; CAP and ALIGN belong to
training). -/
def frameVc (typ : Nat) : Option (Fin 4) :=
  if typ ≤ 4 then some 0
  else if typ = 0x10 then some 1
  else if typ = 0x20 then some 2
  else if typ = 0x30 ∨ typ = 0x31 ∨ (0x33 ≤ typ ∧ typ ≤ 0x38) then some 3
  else none

/-- The 64 bytes of a frame (Table TRL-3). -/
def frameBytes (v : Fin 4) (f : TxFrame) (seq cret : Nat) : List Byte :=
  let body := leBytes 1 f.typ ++ leBytes 1 (v.val + 64 * f.last.toNat + 128 * f.first.toNat) ++ leBytes 2 seq
    ++ leBytes 6 f.step ++ leBytes 2 cret ++ f.pay
  body ++ leBytes 4 (crc32c body)

/-- TYPE of a received frame. -/
def frType (b : List Byte) : Nat := leAt b 0 1

/-- SEQ of a received frame. -/
def frSeq (b : List Byte) : Nat := leAt b 2 2

/-- STEP of a received frame. -/
def frStep (b : List Byte) : Nat := leAt b 4 6

/-- LAST of a received frame. -/
def frLast (b : List Byte) : Bool := (leAt b 1 1).testBit 6

/-- A frame that the receiver accepts: CRC, codes and EOF, and a TYPE of Table TRL-4 on its channel (R337). -/
def frameOk (f : LinkFrame) : Bool :=
  f.clean && leAt f.bytes 60 4 == crc32c (f.bytes.take 60)
  && (frameVc (frType f.bytes)).any (fun v => leAt f.bytes 1 1 % 4 == v.val)

/-- INIT credits of a virtual channel (Table TRL-5). -/
def vcInit (v : Fin 4) : Nat := [4, 16, 32, 64].getD v.val 0

/-- The largest number of frames of a burst: N = floor((t_slot − 250 ns) / 68 ns), with t_slot = TS_LCLK / 16 × 2.5 ns. -/
def State.burstMax (s : State) : Nat := (s.fld F.PCR_SCHED_TS_LCLK * 5 - 8000) / 2176

/-- Changes the books of virtual channel `v`. -/
def modVc (v : Fin 4) (f : VcSt → VcSt) (s : State) : State :=
  s.modLink (fun l => { l with vcs := l.vcs.set v (f (l.vcs.get v)) })

/-- HELD: occupied buffers and credits not yet returned. -/
def VcSt.held (c : VcSt) : Nat := c.occ + c.owed

/-! ## Tiles -/

/-- The state of tile-table entry `k` (Table TRL-8). -/
def State.tileState (s : State) (k : Nat) : Nat := s.fld (F.TRL_TILE_ST_STATE k)

/-- Sets the state of tile-table entry `k`. -/
def setTile (k st : Nat) (s : State) : State := s.setFld (F.TRL_TILE_ST_STATE k) st

/-- The tile-table entries with their indices. -/
def State.tileList (s : State) : List (Nat × TileEnt) := (List.range s.link.tiles.length).zip s.link.tiles

/-- The tile-table entries this chip owns (R361). -/
def State.tilesOwned (s : State) : List (Nat × TileEnt) :=
  if s.fld F.TRL_STAT_ROLE = 0 then [] else s.tileList.filter (fun e => e.2.owner == s.roleBit)

/-- TRL_TILE_AUD, and the check that RESIDENT + EVICTING + SILO = OWNED (R363). -/
def tileAudit (s : State) : State :=
  let n (st : Nat) : Nat := (s.tilesOwned.filter (fun e => s.tileState e.1 == st)).length
  let own := s.tilesOwned.length
  let s := (((s.setFld F.TRL_TILE_AUD_OWNED own).setFld F.TRL_TILE_AUD_RESIDENT (n 1)).setFld F.TRL_TILE_AUD_EVICTING (n 2)).setFld
    F.TRL_TILE_AUD_SILO (n 3)
  if n 1 + n 2 + n 3 = own then s else raise (Ev.link 5) 0 (s.setFlag F.TRL_STAT_TILE_ERR true)

/-- The owner's tiles are RESIDENT when its role is first known (DESIGN CHOICE, log entry 65). -/
def tileStart (s : State) : State :=
  tileAudit (s.each s.tilesOwned (fun s e => if s.tileState e.1 = 0 then setTile e.1 1 s else s))

/-- An eviction ends once its silo write has ended and its EVN_ACK has arrived or the link has gone off (R361). -/
def evictCheck (s : State) : State :=
  match s.link.evict with
  | some e =>
    if e.wrote && e.acked then tileAudit (setTile e.idx 3 (s.modLink (fun l => { l with evict := none }))) else s
  | none => s

/-! ## Bulk descriptors -/

/-- Bulk descriptor `i` ends in STATE `st` with a result: its tokens return and TL_BULK_DONE is raised. -/
def bulkEnd (i st res : Nat) (s : State) : State :=
  let s := trnEnd (.bulk i) (bulkSet i st res s)
  raise (Ev.link 6) i (s.modLink (fun l => { l with fetches := l.fetches.filter (fun f => f.desc != i) }))

/-- Ends bulk descriptor `i` if it waits or runs. -/
def bulkDrop (i st res : Nat) (s : State) : State :=
  let k := s.fld (F.TRL_BULK_STAT_STATE i)
  if k = 1 ∨ k = 2 then bulkEnd i st res s else s

/-! ## Link states -/

/-- What LINK_OFF flushes (R351, "Error counters and link states"). -/
def linkFlush (s : State) : State :=
  s.modLink (fun l => { l with
    txq := Quad.all [], rx := [], cut := none, recs := [], hold := [],
    evict := l.evict.map (fun e => { e with acked := true }) })

/-- The chip enters LINK_OFF with a cause, 0 to leave CAUSE as it is; a link that is off already stays as it is. -/
def linkOff (cause : Nat) (s : State) : State :=
  let st := s.fld F.TRL_STAT_STATE
  if st = 0 ∨ 10 ≤ st then s
  else
    let s := s.setFld F.TRL_STAT_STATE 10
    let s := if cause = 0 then s else s.setFld F.TRL_STAT_CAUSE cause
    let safety := (s.link.txq.get 0).any (fun f => f.typ == 2 || f.typ == 4)
    let s := linkFlush (if safety then pairOut true s else s)
    let s := s.each (List.range 8) (fun s i => bulkDrop i 4 7 s)
    let s := s.each (List.range s.link.tiles.length) (fun s k => if s.tileState k = 8 then setTile k 9 s else s)
    raise (Ev.link 2) 0 (evictCheck s)

/-- The partials still held when the link returns to UP are flushed. -/
def partFlush (s : State) : State := s.modLink (fun l => { l with txq := l.txq.set 2 [] })

/-- The link is UP: TL_UP. -/
def linkUp (s : State) : State := raise (Ev.link 0) 0 (partFlush (s.setFld F.TRL_STAT_STATE 7))

/-- The state that the larger error counter gives (Table TRL-7, R350); retraining ends by itself. -/
def linkJudge (s : State) : State :=
  let st := s.fld F.TRL_STAT_STATE
  let m := max (s.fld F.TRL_ERR_TEC) (s.fld F.TRL_ERR_REC)
  if !s.linkLive then s
  else if 192 ≤ m then linkOff 7 s
  else if st = 7 ∧ 96 ≤ m then raise (Ev.link 1) 0 (s.setFld F.TRL_STAT_STATE 8)
  else if st = 8 ∧ m < 96 then linkUp s
  else s

/-- `n` errors count in REC and for the next heartbeat; the counters are frozen in LINK_OFF (R350). -/
def linkErr (n : Nat) (s : State) : State :=
  if s.linkLive then (s.bump F.TRL_ERR_REC (8 * n)).modLink (fun l => { l with errs := satAdd l.errs n 255 }) else s

/-- An accepted frame counts. -/
def linkGood (s : State) : State :=
  (s.setFld F.TRL_ERR_REC (s.fld F.TRL_ERR_REC - 1)).modLink (fun l => { l with goods := satAdd l.goods 1 65535 })

/-- A rejected frame (R337). -/
def linkReject (s : State) : State := (linkErr 1 s).bump F.TRL_CNT_CRC_ERR 1

/-- The drift alarm: slot-phase retraining starts (R342). -/
def driftAlarm (s : State) : State :=
  let st := s.fld F.TRL_STAT_STATE
  if st = 7 ∨ st = 8 then
    raise (Ev.link 3) 0 ((s.setFlag F.TRL_STAT_DRIFT true).setFld F.TRL_STAT_STATE 9)
  else s

/-! ## Books -/

/-- The CUT_STAT answer to a cutting message (Table TRL-4). -/
def cutAnswer (c res : Nat) (s : State) : State := linkQueue 3 0x33 true true (leBytes 1 c ++ leBytes 1 res) s

/-- `n` frames of channel `v` are found missing: ACCT advances over them and their credits are owed (R337).  A cutting
message being received is LOST. -/
def linkMissing (v : Fin 4) (n : Nat) (s : State) : State :=
  if n = 0 then s
  else
    let s := modVc v (fun c => { c with acct := (c.acct + n) % 65536, owed := c.owed + n }) (linkErr n s)
    match s.link.cut with
    | some m => if v = 3 then cutAnswer m.cset 5 (s.modLink (fun l => { l with cut := none })) else s
    | none => s

/-- Credits returned to this chip in CRET (R338). -/
def linkCret (b : List Byte) (s : State) : State :=
  let w := leAt b 10 2
  s.each allAxes (fun s v =>
    let n := bitsOf w (4 * v.val) 4
    modVc v (fun c => { c with txc := c.txc + n, retIn := (c.retIn + n) % 65536 }) s)

/-- A frame has been consumed: its buffer is freed. -/
def linkFree (v : Fin 4) (s : State) : State := modVc v (fun c => { c with occ := c.occ - 1, owed := c.owed + 1 }) s

/-! ## Sending -/

/-- The owed credits that a frame returns: at most 15 of each channel (R338). -/
def State.cretWord (s : State) : Nat :=
  (allAxes.map (fun v => min 15 (s.link.vcs.get v).owed * 2 ^ (4 * v.val))).sum

/-- Takes the owed credits into a frame that is sent. -/
def cretTake (s : State) : State :=
  s.each allAxes (fun s v => modVc v (fun c =>
    let n := min 15 c.owed
    { c with owed := c.owed - n, retOut := (c.retOut + n) % 65536 }) s)

/-- Sends a frame in the burst being built. -/
def sendFrame (v : Fin 4) (f : TxFrame) (s : State) : State :=
  let seq := if f.typ = 0 then 0 else (s.link.vcs.get v).txSeq
  let b := frameBytes v f seq s.cretWord
  let s := (cretTake s).modLink (fun l => { l with burst := l.burst ++ [b] })
  if f.typ = 0 then s else modVc v (fun c => { c with txSeq := (c.txSeq + 1) % 65536, txc := c.txc - 1 }) s

/-- The average of the arrival offsets, in UI. -/
def State.ofsMean (s : State) : Int :=
  let l := s.link.offs
  let sum : Int := l.foldl (· + ·) 0
  let n : Int := max 1 (l.length : Int)
  let q := sum / n
  if sum % n = 0 then q else if Config.ofsUp sum l.length then q + 1 else q

/-- The heartbeat's payload (Table TRL-4): the books as latched at the schedule-period boundary. -/
def State.heartbeat (s : State) : List Byte :=
  let per (n : Nat) (f : VcSt → Nat) : List Byte := allAxes.flatMap (fun v => leBytes n (f (s.link.latch.get v)))
  per 2 (fun c => c.acct) ++ per 2 (fun c => c.retOut) ++ per 1 (fun c => c.held)
  ++ leBytes 1 s.link.errs ++ leBytes 1 0 ++ leBytes 2 s.link.goods ++ leBytes 1 (s.fld F.SAF_STAT_DOUBT)
  ++ leBytes 1 ((s.flag F.SAF_STAT_SAFE).toNat + 2 * (s.fld F.TRL_STAT_STATE == 8).toNat)
  ++ leBytes 2 (wrapBits 16 s.ofsMean) ++ per 2 (fun c => c.txSeq) ++ leBytes 2 s.tilesOwned.length

/-- The first frame of slot 0 (R340); it is sent only while a credit of VC[0] is held (R338). -/
def sendHeartbeat (s : State) : State :=
  if (s.link.vcs.get 0).txc = 0 then s
  else (sendFrame 0 ⟨1, true, true, s.stepN, (s.heartbeat ++ List.replicate 48 0#8).take 48⟩ s).modLink
    (fun l => { l with errs := 0, goods := 0 })

/-- Channel `v` sends in the present state: VC[2] and VC[3] are held in PASSIVE and in retraining, VC[3] needs its slot. -/
def State.vcSends (s : State) (slot : Nat) (v : Fin 4) : Bool :=
  (decide (v.val < 2) || s.fld F.TRL_STAT_STATE == 7) && (v.val != 3 || (s.fld F.TRL_CFG_SLOT_MAP).testBit slot)

/-- Sends up to `n` frames of channel `v` that are old enough: all but its `young` newest. -/
def sendVc (v : Fin 4) (young : Nat) : Nat → State → State
  | 0, s => s
  | n + 1, s =>
    match s.link.txq.get v with
    | [] => s
    | f :: r =>
      if (s.link.vcs.get v).txc = 0 ∨ r.length < young ∨ s.burstMax ≤ s.link.burst.length then s
      else sendVc v young n (sendFrame v f (s.modLink (fun l => { l with txq := l.txq.set v r })))

/-- A slot starts: the burst (R340).  `young` counts the newest frames of each channel queued less than 8 LCLK cycles
before. -/
def slotStart (slot : Nat) (young : List Nat) (s : State) : State :=
  if !s.linkLive then s
  else
    let s := s.modLink (fun l => { l with burst := [] })
    let s := if slot = 0 then sendHeartbeat s else s
    let s := s.each allAxes (fun s v =>
      if s.vcSends slot v then sendVc v (young.getD v.val 0) (s.link.txq.get v).length s else s)
    if s.link.burst.isEmpty then sendFrame 0 ⟨0, true, true, s.stepN, List.replicate 48 0#8⟩ s else s

/-! ## Receiving -/

/-- The frames that SEQ shows missing before a sequenced frame; none for a frame behind what is accounted. -/
def seqGap (acct seq : Nat) : Option Nat :=
  let d := (seq + 65536 - acct % 65536) % 65536
  if d < 32768 then some d else none

/-- A sequenced frame that is accepted: on time, or LATE on VC[3], it takes a buffer; another LATE frame is discarded with its
SEQ and credit accounted (R341). -/
def linkTake (v : Fin 4) (late : Bool) (b : List Byte) (s : State) : State :=
  match seqGap (s.link.vcs.get v).acct (frSeq b) with
  | none => linkReject s
  | some n =>
    let s := linkGood (linkMissing v n s)
    let s := modVc v (fun c => { c with acct := (c.acct + 1) % 65536 }) s
    if late && v != 3 then modVc v (fun c => { c with owed := c.owed + 1 }) s
    else (modVc v (fun c => { c with occ := c.occ + 1 }) s).modLink (fun l => { l with rx := l.rx ++ [b] })

/-- One frame of a burst. -/
def linkReceive (late : Bool) (f : LinkFrame) (s : State) : State :=
  let s := if late then ((s.bump F.TRL_CNT_LATE 1).bump F.TRL_ERR_LATE_RUN 1) else s.setFld F.TRL_ERR_LATE_RUN 0
  let s := if !frameOk f then linkReject s
    else match frameVc (frType f.bytes) with
      | none => linkReject s
      | some v =>
        if frType f.bytes = 0 then
          let s := linkGood s
          if late then s else s.modLink (fun l => { l with rx := l.rx ++ [f.bytes] })
        else linkTake v late f.bytes s
  if late && s.fld F.TRL_ERR_LATE_RUN == 4 then driftAlarm s else s

/-- A burst's SOF is registered at LCLK cycle `lclk` of the schedule period: on time within 50 cycles of
E = slot start + RX_EXP, a UI being 2/25 of an LCLK cycle (R341). -/
def State.burstOnTime (s : State) (slot lclk : Nat) : Bool :=
  let e : Int := 25 * (slot * (s.fld F.PCR_SCHED_TS_LCLK / 16) : Nat) + 2 * (s.link.rxExp : Int)
  let d : Int := 25 * (lclk : Int) - e
  decide (-1250 ≤ d) && decide (d ≤ 1250)

/-- A burst is received; `ui` is its arrival offset. -/
def burstReceived (slot lclk : Nat) (ui : Int) (fs : List LinkFrame) (s : State) : State :=
  if !s.linkLive then s
  else
    let onTime := s.burstOnTime slot lclk
    let s := if onTime && fs.any (fun f => frameOk f && frType f.bytes == 1) then
        let s := s.modLink (fun l => { l with offs := (ui :: l.offs).take 16 })
        s.setFld F.TRL_OFS_LOCAL (wrapBits 16 s.ofsMean)
      else s
    linkJudge (s.each fs (fun s f => if s.linkLive then linkReceive (!onTime) f s else s))

/-- The guard window of slot 0 closed without an accepted HEARTBEAT. -/
def noHeartbeat (s : State) : State := linkJudge (linkErr 1 s)

/-- Takes the oldest accepted frame of the channel of TYPE `typ` for its handling, if it is of that TYPE: its credits count and
its buffer is freed.  A NULL frame is the oldest of the NULL frames. -/
def linkPop (typ : Nat) (s : State) : Option (List Byte) × State :=
  let mine (b : List Byte) : Bool :=
    if typ = 0 then frType b == 0 else frType b != 0 && frameVc (frType b) == frameVc typ
  match s.link.rx.find? mine with
  | none => (none, s)
  | some b =>
    if frType b ≠ typ then (none, s)
    else
      let s := linkCret b (s.modLink (fun l => { l with rx := l.rx.erase b }))
      (some b, if typ = 0 then s else linkFree ((frameVc typ).getD 0) s)

/-- Handles the oldest frame of a TYPE. -/
def linkHandle (typ : Nat) (f : List Byte → State → State) (s : State) : State :=
  match linkPop typ s with
  | (none, s) => s
  | (some b, s) => f b s

/-! ## Heartbeats and safety frames -/

/-- The step offset of a frame's STEP: the peer's STEP minus the local STEP. -/
def State.stepOfs (s : State) (peer : Nat) : Nat := (peer + 2 ^ 48 - s.stepN) % 2 ^ 48

/-- STEP_OFS. -/
def State.linkOfs (s : State) : Nat := s.tag48 F.TRL_STEP_OFS_LO_STEP_OFS F.TRL_STEP_OFS_HI_STEP_OFS

/-- A twin tag as a local step. -/
def State.localStep (s : State) (t : Nat) : Nat := (t + 2 ^ 48 - s.linkOfs) % 2 ^ 48

/-- The books of channel `v` as a heartbeat shows them: TXC, HELD of the peer, and the two brackets (R339). -/
def State.bookOf (s : State) (b : List Byte) (v : Fin 4) : Nat × Nat × Nat × Nat :=
  let c := s.link.latch.get v
  let acct := leAt b (12 + 2 * v.val) 2
  let ret := leAt b (20 + 2 * v.val) 2
  (c.txc, leAt b (28 + v.val) 1, (c.txSeq + 65536 - acct) % 65536, (ret + 65536 - c.retIn % 65536) % 65536)

/-- The audit of R339 for channel `v`. -/
def State.bookOk (s : State) (b : List Byte) (v : Fin 4) : Bool :=
  let (txc, held, flight, ret) := s.bookOf b v
  txc + flight + held + ret == vcInit v && decide (flight ≤ s.burstMax) && decide (ret ≤ s.burstMax)

/-- Shows the audited books of channel `v` in TRL_CRED. -/
def bookShow (b : List Byte) (v : Fin 4) (s : State) : State :=
  let (txc, held, flight, ret) := s.bookOf b v
  (((s.setFld (F.TRL_CRED_TXC v) txc).setFld (F.TRL_CRED_HELD v) held).setFld (F.TRL_CRED_FLIGHT v) flight).setFld
    (F.TRL_CRED_RFLIGHT v) ret

/-- TEC follows the peer's ERR and GOOD (Table TRL-7). -/
def tecUpdate (b : List Byte) (s : State) : State :=
  s.setFld F.TRL_ERR_TEC (min 255 (s.fld F.TRL_ERR_TEC + 8 * leAt b 32 1) - leAt b 34 2)

/-- The tile counts of both chips sum to the tiles in the table (R363). -/
def tileCount (b : List Byte) (s : State) : State :=
  if s.tilesOwned.length + leAt b 48 2 = s.link.tiles.length then s
  else raise (Ev.link 5) 0 (s.setFlag F.TRL_STAT_TILE_ERR true)

/-- A received HEARTBEAT (R339, R348, R350, R354, R363). -/
def heartbeatIn (b : List Byte) (s : State) : State :=
  let ofs := s.stepOfs (frStep b)
  if s.link.ofsSet && ofs != s.linkOfs then linkJudge (linkReject s)
  else
    let s := if s.link.ofsSet then s
      else ((s.setFld F.TRL_STEP_OFS_LO_STEP_OFS ofs).setFld F.TRL_STEP_OFS_HI_STEP_OFS (ofs / 2 ^ 32)).modLink
        (fun l => { l with ofsSet := true })
    let s := s.each allAxes (fun s v =>
      linkMissing v ((seqGap (s.link.vcs.get v).acct (leAt b (40 + 2 * v.val) 2)).getD 0) s)
    let s := s.each allAxes (fun s v => bookShow b v s)
    let s := (tecUpdate b s).setFld F.TRL_OFS_PEER (leAt b 38 2)
    let s := s.modLink (fun l => { l with peerDoubt := leAt b 36 1 })
    let s := tileCount b s
    if allAxes.all (fun v => s.bookOk b v) then linkJudge s
    else linkOff 8 (raise (Ev.link 5) 0 (s.setFlag F.TRL_STAT_CRED_ERR true))

/-- A received DOUBT frame (R354). -/
def doubtIn (b : List Byte) (s : State) : State := s.modLink (fun l => { l with peerDoubt := leAt b 12 1 })

/-- A received RETRACT: the records of its range that are not yet used are discarded (R355); TL_RETRACT carries the axis
mask. -/
def retractIn (b : List Byte) (s : State) : State :=
  let lo := s.localStep (leAt b 12 6)
  let hi := s.localStep (leAt b 18 6)
  let m := leAt b 24 1
  let s := s.modLink (fun l => { l with
    recs := l.recs.filter (fun r => r.used || !(m.testBit r.axis && decide (lo ≤ r.step) && decide (r.step ≤ hi))) })
  raise (Ev.link 4) m s

/-! ## Training -/

/-- Training starts at LANE_DETECT: every credit book and counter restarts from INIT and 0. -/
def trainStart (s : State) : State :=
  let books : Quad VcSt := ⟨{ txc := vcInit 0 }, { txc := vcInit 1 }, { txc := vcInit 2 }, { txc := vcInit 3 }⟩
  let s := (s.setFld F.TRL_STAT_STATE 1).setReg R.TRL_ERR 0
  linkFlush (s.modLink (fun l => { l with
    vcs := books, latch := books, errs := 0, goods := 0, offs := [], ofsSet := false, peerDoubt := 0, sentDoubt := 0, burst := [] }))

/-- Training fails: the link is off with the cause. -/
def trainFail (cause : Nat) (s : State) : State := linkOff cause s

/-- The words of the running image's IMG_HASH as PCR_IMG_HASH shows them. -/
def State.imgHash (s : State) : List Word :=
  let d := s.ldr.digests.getD 0 []
  (List.range 8).map (fun w => word (leNat (((d.drop (4 * w)).take 4).map (fun b => BitVec.ofNat 8 b))))

/-- CAPABILITY (R345). -/
def trainCap (stepping : Nat) (hash : List Word) (sig : Word) (force : Nat) (run : Bool) (kept : Nat) (s : State) : State :=
  let s := (s.setReg R.TRL_PEER_SIG sig).modLink (fun l => { l with peerForce := force, peerRun := run, peerRole := kept })
  if hash ≠ s.imgHash then trainFail 3 s
  else if stepping ≠ s.fuses.stepping then trainFail 4 s
  else s.setFld F.TRL_STAT_STATE 5

/-- The role that R346 gives this chip: 1 east, 2 west, none where the election fails. -/
def State.elected (s : State) (draws : List (Nat × Nat)) : Option Nat :=
  let kept := s.fld F.TRL_STAT_ROLE
  let f := s.fld F.TRL_CTRL_FORCE
  let pf := s.link.peerForce
  if kept ≠ 0 then some kept
  else if s.link.peerRole ≠ 0 then some (3 - s.link.peerRole)
  else if s.pow.running ∧ !s.link.peerRun then some 1
  else if s.link.peerRun ∧ !s.pow.running then some 2
  else if f = 1 ∨ f = 2 ∨ pf = 1 ∨ pf = 2 then
    if f = pf then none else if f = 1 ∨ pf = 2 then some 1 else some 2
  else (draws.take 8).findSome? (fun d => if d.1 = d.2 then none else some (if d.2 < d.1 then 1 else 2))

/-- SLOT_ALIGN and the end of retraining: LINK_DLY is set, TX_DLY and RX_EXP are recentred, or the phase fails (R336,
R347). -/
def linkPhase (dly : Nat) (apart : Bool) (s : State) : State :=
  if 1000 < dly ∨ apart then linkOff 6 s
  else
    let s := (s.setFld F.TRL_TIME_LINK_DLY dly).setFld F.TRL_TIME_TX_DLY 200
    let s := s.modLink (fun l => { l with rxExp := dly, offs := [] })
    linkUp (s.setFld F.TRL_ERR_LATE_RUN 0)

/-- The axes are held in tenant reset until the link first reaches UP (R344). -/
def State.linkHold (s : State) : Bool := s.twin && s.flag F.TRL_CFG_HOLD_AXES && !s.link.wasUp

/-- The training state machine advances if its state's leaving condition is what the step reports (R343). -/
def trainAdvance (t : TrainStep) (s : State) : State :=
  match s.fld F.TRL_STAT_STATE, t with
  | 1, .signal => s.setFld F.TRL_STAT_STATE 2
  | 2, .lock => s.setFld F.TRL_STAT_STATE 3
  | 3, .deskew swap pol skew =>
    if 16 < skew then s
    else ((s.setFlag F.TRL_STAT_LANE_SWAP swap).setFld F.TRL_STAT_POL pol.toNat).setFld F.TRL_STAT_STATE 4
  | 4, .cap stepping hash sig force run kept => trainCap stepping.toNat hash sig force.toNat run kept.toNat s
  | 5, .elect draws =>
    match s.elected draws with
    | none => trainFail 5 s
    | some r => (s.setFld F.TRL_STAT_ROLE r).setFld F.TRL_STAT_STATE 6
  | 6, .align dly apart =>
    let s := linkPhase dly.toNat apart s
    if s.linkLive then tileStart (s.modLink (fun l => { l with wasUp := true })) else s
  | _, _ => s

/-- Training is in progress. -/
def State.training (s : State) : Bool := decide (1 ≤ s.fld F.TRL_STAT_STATE) && decide (s.fld F.TRL_STAT_STATE ≤ 6)

/-- TRAIN_LIMIT passed without UP (R343). -/
def trainTmo (s : State) : State := if s.training then trainFail 1 s else s

/-- A lane shows no transition (R343): training is held at LANE_DETECT, a running link goes off. -/
def laneLoss (s : State) : State :=
  if s.training then s.setFld F.TRL_STAT_STATE 1 else if s.linkLive then linkOff 2 s else s

/-- Retraining ends (R342). -/
def retrainEnd (dly : Nat) (apart : Bool) (s : State) : State :=
  if s.fld F.TRL_STAT_STATE = 9 then linkJudge (linkPhase dly apart s) else s

/-- The receiver has counted 128 idle symbol sets. -/
def offReady (s : State) : State := if s.fld F.TRL_STAT_STATE = 10 then s.setFld F.TRL_STAT_STATE 11 else s

/-- A keyed write of TRL_CTRL.ACK (R352). -/
def trlAck (s : State) : State :=
  if s.fld F.TRL_STAT_STATE = 11 then trainStart s else s.setFlag F.TRL_STAT_ACK_REJ true

/-- A write of TRL_CTRL.PS_CLR (R353). -/
def psClr (s : State) : State := if s.flag F.SAF_STAT_SAFE then s else pairOut false s

/-! ## The boundary -/

/-- TX_DLY moves one UI toward an OFS of 0; none where it would leave its range (R349). -/
def State.txMove (s : State) : Option Nat :=
  let d := s.fld F.TRL_TIME_TX_DLY
  let o := signedOf 16 (s.fld F.TRL_OFS_PEER)
  if o = 0 then some d
  else if 0 < o then (if d = 0 then none else some (d - 1))
  else if 400 ≤ d then none else some (d + 1)

/-- RX_EXP moves one UI toward the chip's own average; none where it would move more than 40 ns from LINK_DLY. -/
def State.rxMove (s : State) : Option Nat :=
  let d := s.fld F.TRL_TIME_LINK_DLY
  let r := s.link.rxExp
  let o := s.ofsMean
  if o = 0 then some r
  else if 0 < o then (if d + 200 ≤ r then none else some (r + 1))
  else if r = 0 ∨ r + 200 ≤ d then none else some (r - 1)

/-- The timebase discipline of the west (R349). -/
def linkDiscipline (s : State) : State :=
  if s.fld F.TRL_STAT_ROLE = 2 ∧ (s.fld F.TRL_STAT_STATE = 7 ∨ s.fld F.TRL_STAT_STATE = 8) then
    match s.txMove, s.rxMove with
    | some t, some r => (s.setFld F.TRL_TIME_TX_DLY t).modLink (fun l => { l with rxExp := r })
    | some t, none => driftAlarm (s.setFld F.TRL_TIME_TX_DLY t)
    | none, some r => driftAlarm (s.modLink (fun l => { l with rxExp := r }))
    | none, none => driftAlarm s
  else s

/-- The link's part of a schedule-period boundary: the books are latched (R339), and the west adjusts its timing. -/
def linkBoundary (s : State) : State := linkDiscipline (s.modLink (fun l => { l with latch := l.vcs }))

end Sys2Proof.Machine
end

