-- ==== Sys2Proof/Machine/Twin.lean ====
section
/-! DEFINITION. What the twin link carries (chapter 17): shared observers (R355, R356, R235), the reduction (R358, R236),
cuttings (R207, R359), remote tiles (R361 to R363) and the bulk descriptors (R360). -/

namespace Sys2Proof.Machine

/-! ## Shared observers -/

/-- Axis `a` leads. -/
def State.leads (s : State) (a : Fin 4) : Bool :=
  s.twin && s.flag (F.TRL_SHARE_EN a) && !s.flag (F.TRL_SHARE_FOLLOWER a)

/-- Axis `a` follows. -/
def State.follows (s : State) (a : Fin 4) : Bool :=
  s.twin && s.flag (F.TRL_SHARE_EN a) && s.flag (F.TRL_SHARE_FOLLOWER a)

/-- The 24 bytes of a record in a SHARE frame. -/
def shareBytes (r : ShareRec) : List Byte :=
  leBytes 1 r.axis ++ leBytes 1 r.per ++ leBytes 2 0 ++ (r.ws.flatMap (fun w => leBytes 2 w) ++ List.replicate 16 0#8).take 16
    ++ leBytes 4 0

/-- The empty record. -/
def shareEmpty : List Byte := 0xFF#8 :: List.replicate 23 0#8

/-- Queues a leader's record: one record in each frame. -/
def shareQueue (r : ShareRec) (s : State) : State := linkQueueAt r.step 1 0x10 true true (shareBytes r ++ shareEmpty) s

/-- A leader forms a record at its crossing ("Shared observers"): sent at once in Swift mode, in Exact mode held until the
test plot of the frame has passed.  None while it is in doubt or in tenant reset. -/
def shareForm (a : Fin 4) (s : State) : State :=
  if !s.leads a || !s.axisRuns a || s.halted a || s.bit F.SAF_STAT_DOUBT a then s
  else
    let r : ShareRec := ⟨a, s.stepN, (s.pwm.get a).perIdx, (List.range 8).map (fun j => s.fld (F.OBS_RAW_RAW a j)), false⟩
    if !s.exact || s.saf.tpPass.getLsbD a then shareQueue r s
    else s.modLink (fun l => { l with hold := l.hold ++ [r] })

/-- After the test-plot comparison of tenant `t`: in Exact mode a pass sends the records held, in Swift mode a mismatch
retracts the frame's (R355).  `failed` tells a mismatch. -/
def shareJudge (t : Nat) (failed : Bool) (s : State) : State :=
  if h : t < 4 then
    let a : Fin 4 := ⟨t, h⟩
    if !s.leads a then s
    else if s.exact then
      if s.saf.tpPass.getLsbD a then
        let mine := s.link.hold.filter (fun r => r.axis == t)
        (s.each mine (fun s r => shareQueue r s)).modLink (fun l => { l with hold := l.hold.filter (fun r => r.axis != t) })
      else s
    else if failed then
      linkQueue 0 0x03 true true (leBytes 6 (s.stepN - s.perInFrame) ++ leBytes 6 s.stepN ++ leBytes 1 (2 ^ t)) s
    else s
  else s

/-- The local step at which an Exact-mode record acts: two frames after its own. -/
def State.shareAct (s : State) (r : ShareRec) : Nat := r.step + 2 * s.K

/-- A record of a SHARE frame arrives.  In Exact mode one whose period has passed is discarded (R235). -/
def shareTake (step : Nat) (b : List Byte) (s : State) : State :=
  let axis := leAt b 0 1
  if axis = 0xFF then s
  else
    let r : ShareRec := ⟨axis, s.localStep step, leAt b 1 1, (List.range 8).map (fun j => leAt b (4 + 2 * j) 2), false⟩
    if s.exact && decide (s.shareAct r < s.stepN) then detFlag F.PCR_DET_STAT_TWIN_LATE s
    else s.modLink (fun l => { l with recs := r :: l.recs })

/-- A received SHARE frame. -/
def shareIn (b : List Byte) (s : State) : State :=
  shareTake (frStep b) ((b.drop 36).take 24) (shareTake (frStep b) ((b.drop 12).take 24) s)

/-- The present axis period of the follower `a`, counted in axis periods of its leader. -/
def State.leaderNow (s : State) (a : Fin 4) : Nat :=
  let n (x : Fin 4) : Nat := s.fld F.PCR_SCHED_TS_LCLK / max 1 (s.fld (F.PWM_PER_PER x))
  let l := n ⟨s.fld (F.TRL_SHARE_PEER_AXIS a) % 4, by omega⟩
  s.stepN * l + (s.pwm.get a).perIdx * l / max 1 (n a)

/-- The age of a record at the follower's crossing, in leader axis periods. -/
def State.shareAge (s : State) (a : Fin 4) (r : ShareRec) : Nat :=
  let l := s.fld F.PCR_SCHED_TS_LCLK / max 1 (s.fld (F.PWM_PER_PER (s.fld (F.TRL_SHARE_PEER_AXIS a) % 4)))
  s.leaderNow a - (r.step * l + r.per)

/-- The record a follower may use at its crossing (R356): the newest in Swift mode, the one of its step and period in Exact
mode; none while the link is not UP or PASSIVE or its leader is in doubt. -/
def State.sharePick (s : State) (a : Fin 4) : Option ShareRec :=
  let p := s.fld (F.TRL_SHARE_PEER_AXIS a)
  let st := s.fld F.TRL_STAT_STATE
  if (st ≠ 7 ∧ st ≠ 8) ∨ s.link.peerDoubt.testBit p then none
  else if s.exact then
    s.link.recs.find? (fun r => r.axis == p && s.shareAct r == s.stepN && r.per == (s.pwm.get a).perIdx)
  else
    s.link.recs.find? (fun r => r.axis == p && decide (s.shareAge a r ≤ s.fld (F.TRL_SHARE_SHARE_AGE a)))

/-- The words a follower substitutes, and its counts (R356). -/
def shareCross (a : Fin 4) (s : State) : State :=
  let own (s : State) : State := s.modObs a (fun o => { o with shared := [] })
  if !s.follows a || !s.axisRuns a || s.halted a then own s
  else match s.sharePick a with
    | some r =>
      let m := s.fld (F.TRL_SHARE_MASK a)
      let ws := (List.range 8).map (fun j => if m.testBit j then some (signedOf 16 (r.ws.getD j 0)) else none)
      let s := s.modLink (fun l => { l with recs := l.recs.map (fun q => if q = r then { q with used := true } else q) })
      let s := if r.used then s
        else inlog 5 a.val (Config.inlogField 5 a.val 0 s.stepN).toNat (Config.inlogField 5 a.val 1 s.stepN) s
      (s.bump (F.TRL_SHARE_STAT_USED a) 1).modObs a (fun o => { o with shared := ws })
    | none =>
      let s := own (s.bump (F.TRL_SHARE_STAT_MISS a) 1)
      if s.exact then detFlag F.PCR_DET_STAT_TWIN_LATE s else s

/-- Records that no crossing can use any more go at a boundary; records still held at a frame boundary are not sent. -/
def sharePrune (s : State) : State :=
  let s := s.modLink (fun l => { l with recs := l.recs.filter (fun r => decide (s.stepN ≤ r.step + max 4 (2 * s.K))) })
  if s.atFrame then s.modLink (fun l => { l with hold := [] }) else s

/-! ## Reduction -/

/-- The own partials are complete: every lane of PRG has committed. -/
def State.partsOwn (s : State) : Bool :=
  s.prgLanes.all (fun n => s.link.parts.any (fun p => p.role == s.roleBit && p.lane == n))

/-- Queues the PARTIAL frames of one lane, at most 11 values in each. -/
def partQueue (lane first : Nat) : Nat → List Word → State → State
  | 0, _, s => s
  | n + 1, ws, s =>
    let w := ws.take 11
    if w.isEmpty then s
    else
      let pay := leBytes 1 lane ++ leBytes 1 first ++ leBytes 2 w.length ++ w.flatMap (fun v => leBytes 4 v.toNat)
      partQueue lane (first + w.length) n (ws.drop 11) (linkQueue 2 0x20 true true pay s)

/-- Each chip sends its partials once its lanes have ended ("Reduction"); `i` is the entry that has just committed. -/
def partSend (i : Nat) (s : State) : State :=
  match s.field.sched[i]? with
  | none => s
  | some e =>
    if !s.twin || e.op != 1 || !e.prg || !s.partsOwn then s
    else s.each (s.link.parts.filter (fun p => p.role == s.roleBit)) (fun s p => partQueue p.lane p.first p.vals.length p.vals s)

/-- A received PARTIAL frame; after the sum it is late and discarded. -/
def partialIn (b : List Byte) (s : State) : State :=
  if s.link.redDone then s
  else
    let n := min 11 (leAt b 14 2)
    let p : Partial := ⟨1 - s.roleBit, leAt b 12 1, leAt b 13 1, (List.range n).map (fun j => word (leAt b (16 + 4 * j) 4))⟩
    s.modLink (fun l => { l with parts := l.parts ++ [p] })

/-- The partials that are summed: a chip that is not in UP or retraining leaves the twin's out (R358). -/
def State.partsUsed (s : State) : List Partial :=
  let st := s.fld F.TRL_STAT_STATE
  if st = 7 ∨ st = 9 then s.link.parts else s.link.parts.filter (fun p => p.role == s.roleBit)

/-- The order of the sum: arrival in Swift mode, east lanes then west lanes in Exact mode (R236). -/
def State.partsOrder (s : State) : List Partial :=
  if s.exact then s.partsUsed.mergeSort (fun p q => decide (256 * p.role + p.lane ≤ 256 * q.role + q.lane)) else s.partsUsed

/-- The value a partial has for channel `c`. -/
def Partial.at (p : Partial) (c : Nat) : Option Word := if p.first ≤ c then p.vals[c - p.first]? else none

/-- Channel `c` of every lane of both chips has arrived. -/
def State.partsFull (s : State) (c : Nat) : Bool :=
  (List.range 2).all (fun r => s.prgLanes.all (fun n =>
    s.partsUsed.any (fun p => p.role == r && p.lane == n && (p.at c).isSome)))

/-- The sum of channel `c`, from +0.0. -/
def State.partSum (s : State) (c : Nat) : Word :=
  (s.partsOrder.filterMap (fun p => p.at c)).foldl fpAdd 0

/-- The last layer of PRG. -/
def State.prgLast (s : State) : Option Layer :=
  (s.field.sched.find? (fun e => e.op == 1 && e.prg)).bind (fun e => (s.netLayers e.net).getLast?)

/-- The partials are summed at the end of the waiting slot; with one missing the verdict is SOLO (R236, R238). -/
def reductionSum (s : State) : State :=
  if !s.link.redWait then s
  else match s.prgLast with
    | none => s
    | some l =>
      let cs := List.range l.outW
      let solo := !cs.all (fun c => s.partsFull c)
      let out := cs.map (fun c => activate l (s.netLut l.net (l.act / 4 % 8)) (s.partSum c) none)
      let s := if solo then detFlag F.PCR_DET_STAT_SOLO_SUM s else s
      (s.modField (fun f => { f with prgRes := some (solo, out) })).modLink
        (fun k => { k with parts := [], redWait := false, redDone := true })

/-- A new frame is judged: the partials of the frame before are discarded. -/
def reductionFrame (s : State) : State := s.modLink (fun l => { l with parts := [], redWait := false, redDone := false })

/-! ## Cuttings -/

/-- The entry takes a cutting that the interface expands (R207).  A DENSE16 layer has no cutting form, so its entry carries its
flat stream (DESIGN CHOICE, log entry 66). -/
def State.cutExpands (s : State) (c : CutEntry) : Bool := c.kind.testBit 2 && (s.cutLayer c).any (fun l => !l.wide)

/-- The bytes that CUT_SEND sends of one entry's inactive copy. -/
def State.cutSendBytes (s : State) (c : CutEntry) : List Byte :=
  let alt := !s.flag (F.FLD_CSET_CTRL_ALT c.cset)
  match s.cutLayer c with
  | none => []
  | some l =>
    if s.cutExpands c then
      let r := rankR l.rank
      let raw := s.opRaw (s.netPlot c.tenant c.net) l (c.copy alt) (cutMax l r true)
      raw.take (parseCutting l r true raw).size
    else s.cutBytes c alt

/-- Queues CUT_DATA frames of 48 bytes; the last one has LAST. -/
def cutQueue : Nat → List Byte → State → State
  | 0, _, s => s
  | n + 1, bs, s =>
    if bs.isEmpty then s
    else cutQueue n (bs.drop 48) (linkQueue 3 0x31 false (decide (bs.length ≤ 48)) (bs.take 48) s)

/-- CUT_SEND of bulk descriptor `i` starts ("Bulk: cuttings and remote tiles"). -/
def cutSend (i : Nat) (s : State) : State :=
  let c := s.fld (F.TRL_BULK_CFG_CSET i)
  let bs := (s.csetEntries c).flatMap (fun e => s.cutSendBytes e)
  let nets := s.csetNets c
  let tag := s.tag48 (F.TRL_BULK_TAG_LO_STEP i) (F.TRL_BULK_TAG_HI_STEP i)
  let pay := leBytes 1 c ++ leBytes 1 nets.length ++ leBytes 2 0 ++ leBytes 4 bs.length
    ++ leBytes 4 (s.fld (F.FLD_CSET_CRC_CRC c)) ++ leBytes 6 (if s.exact then tag else 0) ++ leBytes 2 0
    ++ nets.flatMap (fun n => leBytes 2 n ++ leBytes 4 (s.fld (F.SAF_TPSIG_STAGE_SIG n)))
  cutQueue (bs.length / 48 + 1) bs (linkQueue 3 0x30 true false pay s)

/-- The inactive copy of set `c` is locked or a swap is pending. -/
def State.cutClosed (s : State) (c : Nat) : Bool := s.flag (F.FLD_CSET_CTRL_LOCK c) || s.flag (F.FLD_CSET_CTRL_PENDING c)

/-- A received CUT_BEGIN (R207, R359): the signatures are staged, the set's CRC and in Exact mode its tag are written. -/
def cutBegin (b : List Byte) (s : State) : State :=
  let c := leAt b 12 1 % 32
  if s.cutClosed c then cutAnswer c 2 s
  else
    let s := s.each (List.range (min 4 (leAt b 13 1))) (fun s k =>
      s.setFld (F.SAF_TPSIG_STAGE_SIG (leAt b (32 + 6 * k) 2 % 64)) (leAt b (34 + 6 * k) 4))
    let s := s.setFld (F.FLD_CSET_CRC_CRC c) (leAt b 20 4)
    let t := s.localStep (leAt b 24 6)
    let s := if s.exact then
        (s.setFld (F.FLD_CSET_STEP_LO_STEP_LO c) t).setFld (F.FLD_CSET_STEP_HI_STEP_HI c) (t / 2 ^ 32)
      else s
    s.modLink (fun l => { l with cut := some ⟨c, leAt b 16 4, []⟩ })

/-- Writes bytes at offset `k` of the inactive copy of an entry. -/
def cutPut (e : CutEntry) (k : Nat) (bs : List Byte) (s : State) : State :=
  let at_ := e.copy (!s.flag (F.FLD_CSET_CTRL_ALT e.cset)) + k
  match s.cutLayer e with
  | none => s
  | some l => if l.granary then granWrite at_ bs s else plotWrite (s.netPlot e.tenant e.net) at_ bs s

/-- Writes the received bytes `bs`, which begin at byte `k` of the message, into the copies in table order, up to the first
entry that is expanded. -/
def cutPlace : List CutEntry → Nat → List Byte → State → State
  | [], _, _, s => s
  | e :: r, k, bs, s =>
    if s.cutExpands e then s
    else if e.bytes ≤ k then cutPlace r (k - e.bytes) bs s
    else cutPlace r 0 (bs.drop (e.bytes - k)) (cutPut e k (bs.take (e.bytes - k)) s)

/-- The flat stream that a received cutting makes of a layer's stock part (R198, R207): its scales, and the merged weights in
the layout of Table EXP-1. -/
def flatStream (l : Layer) (stock cut : List Byte) : List Byte :=
  let r := rankR l.rank
  let c := parseCutting l r true cut
  let rows := (List.range (16 * l.groups)).map (fun o => (mergeRow l r c (stockRow l stock o) o).1)
  (List.range l.groups).flatMap (fun g =>
    (stock.drop (g * l.groupBytes)).take 32
    ++ (List.range l.tiles).flatMap (fun h => (List.range 16).flatMap (fun i =>
      (((rows.getD (16 * g + i) []).drop (16 * h)).take 16).map byteOf)))

/-- The last byte has been received: the entries from the first that is expanded take their bytes. -/
def cutFinish : List CutEntry → List Byte → State → State
  | [], _, s => s
  | e :: r, bs, s =>
    match s.cutLayer e with
    | none => cutFinish r bs s
    | some l =>
      if s.cutExpands e then
        let n := (parseCutting l (rankR l.rank) true bs).size
        let stock := granRead none e.stock l.stockBytes s
        cutFinish r (bs.drop n) (cutPut e 0 (flatStream l stock.1 bs) stock.2)
      else cutFinish r (bs.drop e.bytes) (cutPut e 0 (bs.take e.bytes) s)

/-- A received CUT_DATA frame (R207): its bytes are written, and with the last one the swap is raised. -/
def cutData (b : List Byte) (s : State) : State :=
  match s.link.cut with
  | none => s
  | some m =>
    let done (s : State) : State := s.modLink (fun l => { l with cut := none })
    if s.cutClosed m.cset then cutAnswer m.cset 2 (done s)
    else
      let bs := ((b.drop 12).take 48).take (m.total - m.buf.length)
      let es := s.csetEntries m.cset
      let s := cutPlace es m.buf.length bs s
      let buf := m.buf ++ bs
      if frLast b then
        let rest := es.dropWhile (fun e => !s.cutExpands e)
        let n := ((es.take (es.length - rest.length)).map (fun e => e.bytes)).sum
        cutSwapReq m.cset true (done (cutFinish rest (buf.drop n) s))
      else s.modLink (fun l => { l with cut := some { m with buf := buf } })

/-- The swap check of a set whose last request came from this interface has ended since `before`: CUT_STAT carries its
result. -/
def cutReport (before : State) (c : Nat) (s : State) : State :=
  if before.field.csetChk.contains c && !s.field.csetChk.contains c && s.flag (F.FLD_CSET_CTRL_TWIN c) then
    if s.flag (F.FLD_CSET_CTRL_PENDING c) then cutAnswer c 1 s
    else cutAnswer c ([1, 3, 4, 12].getD (s.fld (F.FLD_CSET_CTRL_WHY c)) 1) s
  else s

/-- A received CUT_STAT ends the sender's descriptor with its result. -/
def cutStat (b : List Byte) (s : State) : State :=
  let c := leAt b 12 1
  let r := leAt b 13 1 % 16
  match (List.range 8).find? (fun i => s.fld (F.TRL_BULK_STAT_STATE i) == 2 && s.fld (F.TRL_BULK_CFG_KIND i) == 0
      && s.fld (F.TRL_BULK_CFG_CSET i) == c) with
  | none => s
  | some i => bulkEnd i (if r = 1 then 3 else 4) r s

/-! ## Remote tiles -/

/-- The tile-table entry of a tile, with its index. -/
def State.tileOf (s : State) (t : Nat) : Option (Nat × TileEnt) := s.tileList.find? (fun e => e.2.tile == t)

/-- The tile-table entry of a tile this chip owns (R361). -/
def State.tileMine (s : State) (t : Nat) : Option (Nat × TileEnt) := s.tilesOwned.find? (fun e => e.2.tile == t)

/-- Bytes of a tile. -/
def tileBytes : Nat := 4096

/-- The payload that EVN, EVN_ACK and TILE_ABSENT share. -/
def tilePay (t g id : Nat) : List Byte := leBytes 2 t ++ leBytes 2 g ++ leBytes 1 id

/-- Queues the TILE_DATA frames of a tile, 40 bytes in each. -/
def tileQueue (t g id : Nat) (final : Bool) (bs : List Byte) (s : State) : State :=
  let n := (bs.length + 39) / 40
  s.each (List.range n) (fun s k =>
    linkQueue 3 0x35 (decide (k = 0)) (decide (k + 1 = n))
      (leBytes 2 t ++ leBytes 2 g ++ leBytes 2 (40 * k) ++ leBytes 1 final.toNat ++ leBytes 1 id ++ (bs.drop (40 * k)).take 40) s)

/-- A received RTF_REQ: the owner serves it from the granary, from the eviction buffer with FINAL, or with TILE_ABSENT
(R361). -/
def rtfReq (b : List Byte) (s : State) : State :=
  let t := leAt b 12 2
  let id := leAt b 14 1
  match s.tileMine t with
  | none => s
  | some (k, e) =>
    let g := s.fld (F.TRL_TILE_ST_GEN k)
    match s.tileState k with
    | 1 => let r := granRead none e.gran tileBytes s; tileQueue t g id false r.1 r.2
    | 2 => tileQueue t g id true ((s.link.evict.map (fun v => v.buf)).getD []) s
    | _ => linkQueue 3 0x38 true true (tilePay t g id) s

/-- A received TILE_DATA frame of a pending request: it is written to the region; the last one installs the copy as VALID, or,
with FINAL, only ends the request (R362). -/
def tileData (b : List Byte) (s : State) : State :=
  let t := leAt b 12 2
  let off := leAt b 16 2
  match s.link.fetches.find? (fun f => f.id == leAt b 19 1 && f.tile == t), s.tileOf t with
  | some f, some (k, e) =>
    let s := granWrite (e.gran + off) (((b.drop 20).take 40).take (tileBytes - off)) s
    if !frLast b then s
    else if (leAt b 18 1).testBit 0 then bulkEnd f.desc 3 8 s
    else bulkEnd f.desc 3 1 ((setTile k 8 s).setFld (F.TRL_TILE_ST_GEN k) (leAt b 14 2))
  | _, _ => s

/-- A received EVN: the borrowed copy is STALE, and EVN_ACK is queued (R362). -/
def evnIn (b : List Byte) (s : State) : State :=
  let t := leAt b 12 2
  match s.tileOf t with
  | none => s
  | some (k, e) =>
    if e.owner = s.roleBit then s
    else linkQueue 3 0x37 true true (tilePay t (leAt b 14 2) 0) (if s.tileState k = 8 then setTile k 9 s else s)

/-- A received EVN_ACK (R361). -/
def evnAck (b : List Byte) (s : State) : State :=
  let t := leAt b 12 2
  evictCheck (s.modLink (fun l => { l with evict := l.evict.map (fun v =>
    if (l.tiles[v.idx]?).any (fun e => e.tile == t) then { v with acked := true } else v) }))

/-- A received TILE_ABSENT ends its request with ABSENT. -/
def tileAbsent (b : List Byte) (s : State) : State :=
  match s.link.fetches.find? (fun f => f.id == leAt b 16 1 && f.tile == leAt b 12 2) with
  | none => s
  | some f => bulkEnd f.desc 4 9 s

/-- The silo write of the eviction ends: the buffer is in the silo (R361). -/
def evictWritten (s : State) : State :=
  match s.link.evict with
  | none => s
  | some v =>
    let at_ := ((s.link.tiles[v.idx]?).map (fun e => e.silo)).getD 0
    evictCheck ((siloWrite at_ v.buf s).modLink (fun l => { l with evict := some { v with wrote := true } }))

/-- EVICT of tile-table entry `k`: the tile goes to the buffer, the silo write starts, and EVN is sent; with the link off no
acknowledgement is awaited. -/
def tileEvict (k : Nat) (e : TileEnt) (s : State) : State :=
  if s.tileState k ≠ 1 ∨ s.link.evict.isSome then s
  else
    let r := granRead none e.gran tileBytes s
    let s := setTile k 2 (r.2.modLink (fun l => { l with evict := some ⟨k, false, !s.linkLive, r.1⟩ }))
    tileAudit (linkQueue 3 0x36 true true (tilePay e.tile (s.fld (F.TRL_TILE_ST_GEN k)) 0) s)

/-- LOAD of tile-table entry `k` from the silo, with its generation incremented. -/
def tileLoad (k : Nat) (e : TileEnt) (s : State) : State :=
  if s.tileState k ≠ 3 then s
  else
    let s := granWrite e.gran (memRead s.silo e.silo tileBytes) s
    tileAudit ((setTile k 1 s).setFld (F.TRL_TILE_ST_GEN k) (s.fld (F.TRL_TILE_ST_GEN k) + 1))

/-- A write of TRL_TILE_CMD: EVICT or LOAD of a tile this chip owns. -/
def tileCmd (op t : Nat) (s : State) : State :=
  match s.tileMine t with
  | none => s
  | some (k, e) => if op = 1 then tileEvict k e s else if op = 2 then tileLoad k e s else s

/-! ## Bulk descriptors -/

/-- RTF of bulk descriptor `i` starts. -/
def rtfStart (i : Nat) (s : State) : State :=
  let t := s.fld (F.TRL_BULK_CFG_TILE i)
  let id := s.link.nextId
  let s := s.modLink (fun l => { l with nextId := (id + 1) % 256, fetches := l.fetches ++ [⟨id, i, t⟩] })
  linkQueue 3 0x34 true true (leBytes 2 t ++ leBytes 1 id) s

/-- The Turnstile grants the tokens of bulk descriptor `i`: it runs. -/
def bulkStart (i : Nat) (s : State) : State :=
  if s.fld (F.TRL_BULK_STAT_STATE i) ≠ 1 then s
  else
    let s := bulkSet i 2 0 s
    if s.fld (F.TRL_BULK_CFG_KIND i) = 0 then cutSend i s else rtfStart i s

/-- The Turnstile refuses them. -/
def bulkRefused (i : Nat) (s : State) : State := bulkDrop i 4 10 s

/-- BULK_TMO schedule periods have passed since the grant (R360). -/
def bulkTimeout (i : Nat) (s : State) : State := if s.fld (F.TRL_BULK_STAT_STATE i) = 2 then bulkEnd i 4 6 s else s

end Sys2Proof.Machine
end

