-- ==== Sys2Proof/Machine/Power.lean ====
section
/-! DEFINITION. Power, clocks and resets (chapter 03): the resets of Table PWR-3, the start sequence (R57, R60, R61), PD3 (R63,
R64), sleep (R66, R67), wake (R68 to R70), and the switching off of the domains in the safe state (R259). -/

namespace Sys2Proof.Machine

/-! ## States and domains -/

/-- PCR_PWR_STATE.STATE (Table PWR-7). -/
def State.pwr (s : State) : Nat := s.fld F.PCR_PWR_STATE_STATE

/-- Sets PCR_PWR_STATE.STATE. -/
def setPwr (n : Nat) (s : State) : State := s.setFld F.PCR_PWR_STATE_STATE n

/-- Switches domain PDn on or off. -/
def setPd (n : Nat) (b : Bool) (s : State) : State := s.setBit F.PCR_PWR_STATE_PD_ON n b

/-- The configured axes hold all six gate outputs low and do not drive (R66). -/
def State.axisStopped (s : State) (a : Fin 4) : Bool :=
  let q := (s.loop.get a).start.seq.state
  !s.axisConf a || ((q == 0 || q == 1 || q == 10) && s.gates a &&& 0x3F#8 == 0)

/-- A configured axis is being calibrated. -/
def State.calRuns (s : State) : Bool := allAxes.any (fun a => s.axisConf a && s.flag (F.SNS_CAL_BUSY a))

/-- The calibrations of a start or wake begin, on every configured axis at once ("Offset calibration"). -/
def calAll (s : State) : State :=
  s.each allAxes (fun s a => if s.axisConf a then s.setFlag (F.SNS_CAL_BUSY a) true else s)

/-! ## Resets -/

/-- What lies outside the chip and keeps its level through a reset: the pins of the trip inputs, PAIR_SAFE_I and the STO
channels. -/
def pinsKeep (o s : State) : State :=
  let s := s.each allAxes (fun s a => s.modPwm a (fun p => { p with nflt := (o.pwm.get a).nflt, oc := (o.pwm.get a).oc }))
  let s := s.modSaf (fun f => { f with pairI := o.saf.pairI, stoA := o.saf.stoA, stoB := o.saf.stoB })
  s.setFlag F.SAF_STAT_STO_STOP (!(o.saf.stoA && o.saf.stoB))

/-- Power-on reset: nothing of the chip survives (Table PWR-3); the fuses, the silo devices and the levels of the pins are
no state of it. -/
def powerOnReset (s : State) : State :=
  pinsKeep s { State.reset with fuses := s.fuses, silo := s.silo, freeIdx := s.freeIdx, pending := s.pending }

/-- A PIN, BOR, CLK or HOST reset: everything but PCR_RST_CAUSE, which records the cause (Table PWR-3); SCW_TICK counts from
power-on reset (chapter 04, "Log, SAFE_N and the STO tick"). -/
def fullReset (cause : Fld) (s : State) : State :=
  let r := (powerOnReset s).setReg R.PCR_RST_CAUSE (s.reg R.PCR_RST_CAUSE)
  (r.setReg R.SCW_TICK (s.reg R.SCW_TICK)).setFlag cause true

/-- A reset that runs the start sequence from its fuse-read step. -/
def fuseReset (cause : Fld) (s : State) : State := setPwr 1 (fullReset cause s)

/-- NRESET is low; a brown-out whose reset is still due is recorded too. -/
def pinReset (s : State) : State :=
  let bor := s.pow.borReset
  let s := fullReset F.PCR_RST_CAUSE_PIN s
  if bor then s.setFlag F.PCR_RST_CAUSE_BOR true else s

/-- A write of PCR_RST_CTRL: with KEY 0xA5 and FULL a HOST reset. -/
def rstCtrl (v : Word) (s : State) : State :=
  if fieldGet v 24 8 = 0xA5 ∧ fieldGet v 0 1 = 1 then fuseReset F.PCR_RST_CAUSE_HOST s else s

/-! ## The start sequence -/

/-- NRESET is first seen high: BOOTSEL is sampled and the fuses are read (R60, Table PWR-4 steps 2 and 3). -/
def nresetRelease (boot : Nat) (s : State) : State :=
  if s.pow.nreset then s
  else
    let s := setPwr 1 (s.setFld F.PCR_BOOT_BOOTSEL boot)
    let port : Option (Fin 2) := if boot = 1 then some 0 else if boot = 2 then some 1 else none
    let s := s.modPow (fun p => { p with nreset := true, mapRead := s.fuses.fused, retRead := s.fuses.retired })
    s.modLdr (fun l => { l with bootPort := port })

/-- Reference detection (R57): CLKIN, the crystal, or neither, which is a CLK reset.  PD2 and PD5 switch on. -/
def refDetect (r : Option Bool) (s : State) : State :=
  if s.pwr ≠ 1 ∨ !s.pow.nreset then s
  else match r with
    | none => fuseReset F.PCR_RST_CAUSE_CLK s
    | some clkin =>
      let s := (setPwr 2 s).modPow (fun p => { p with refDone := true })
      setPd 5 true (setPd 2 true (s.setFlag F.PCR_CLK_STATUS_REF_SRC clkin))

/-- The main PLL is locked, in the start sequence or in a wake. -/
def pllLock (s : State) : State :=
  if (s.pwr = 2 ∧ s.pow.refDone) ∨ (s.pwr = 11 ∧ s.pow.waking) then s.setFlag F.PCR_CLK_STATUS_PLL_LOCK true else s

/-! ## PD3 -/

/-- The image names a plot. -/
def State.namesPlots (s : State) : Bool := s.fld F.FLD_CTRL_PLOTS_USED != 0

/-- The Zauri asks for the PD3 wake charge, to power PD3. -/
def pd3Request (s : State) : State :=
  trnRequest .pd3 4 (s.fld F.TRN_COST_PD3_WAKE) (s.modPow (fun p => { p with pd3Done := false }))

/-- PD3 is to be powered in this start or wake. -/
def State.pd3Wanted (s : State) : Bool := s.namesPlots && !s.pd 3 && !s.pow.needAck && !s.pow.noPd3 && !s.trnHas .pd3

/-- The PD3 part of a start or wake begins, or there is nothing to do. -/
def pd3Begin (s : State) : State :=
  if s.pd3Wanted then pd3Request s else s.modPow (fun p => { p with pd3Done := true })

/-- The tokens are granted: FLD_PWREN is asserted and FLD_PGOOD awaited (R63). -/
def pd3Granted (s : State) : State := s.modPow (fun p => { p with pd3Wait := true })

/-- Step 12: once step 11 has ended, Twin mode switches PD4 on and trains (R344). -/
def startNext (s : State) : State :=
  if s.pwr = 5 ∧ s.twin ∧ s.pow.pd3Done ∧ (!s.pd 3 ∨ s.pow.fillDone) ∧ !s.calRuns then
    trainStart ((setPd 4 true (setPwr 6 s)).setFlag F.PCR_CLK_STATUS_TL_LOCK true)
  else s

/-- The PD3 wake charge goes back when a power-up that follows the start of the schedule ends. -/
def pd3Release (s : State) : State := if s.pow.running then trnEnd .pd3 s else s

/-- FLD_PGOOD is high: PD3 is released from isolation and reset (R63). -/
def pd3Good (s : State) : State :=
  if !s.pow.pd3Wait then s
  else startNext (pd3Release ((setPd 3 true s).modPow (fun p => { p with pd3Wait := false, pd3Done := true, fillDone := false })))

/-- The PD3 power-up fails: FLD_PWREN is deasserted and LOST is set (R63). -/
def pd3Fail (s : State) : State :=
  let s := s.modPow (fun p => { p with pd3Wait := false, pd3Done := true, needAck := true })
  startNext (pd3Release (s.setFlag F.PCR_FLD_CTRL_LOST true))

/-- PGOOD_TMO has passed without FLD_PGOOD (R63). -/
def pgoodTimeout (s : State) : State := if s.pow.pd3Wait then pd3Fail s else s

/-- Keeps the entries of a memory outside `[lo, hi)`. -/
def dropRange (m : SMap Byte) (lo hi : Nat) : SMap Byte := m.filter (fun e => decide (e.1 < lo) || decide (hi ≤ e.1))

/-- PD3 has no power: its runs and scans end, and its memories, the plot stores and banks 4 to 15, are lost. -/
def pd3Down (s : State) : State :=
  let s := scansPd3 (setPd 3 false (plannedEnd bistIdx (runsDrop (fun e => e.op != 3) s)))
  let s := { s with plots := [], gran := dropRange s.gran 0x200000 0x800000 }
  let s := s.modField (fun f => { f with
    plotCE := [], plotUE := [], grnCE := f.grnCE.filter (· < 0x40000), grnUE := f.grnUE.filter (· < 0x40000) })
  s.modPow (fun p => { p with fillDone := false, pd3Wait := false })

/-- Loss of PD3 power-good (R64): doubt for every axis while the schedule runs; before that, and during a power-up, a
failed power-up. -/
def pd3Lost (s : State) : State :=
  if s.pow.pd3Wait then pd3Fail s
  else if !s.pd 3 then s
  else if !s.pow.running then pd3Fail (pd3Down s)
  else
    let s := (pd3Down s).modPow (fun p => { p with needAck := true })
    detFlag F.PCR_DET_STAT_PD3 (doubtAxes 4 (s.setFlag F.PCR_FLD_CTRL_LOST true))

/-- A write of PCR_FLD_CTRL.ACK: PD3 may be powered again (R64). -/
def pd3Ack (s : State) : State :=
  if !s.pow.needAck then s
  else
    let s := s.modPow (fun p => { p with needAck := false, noPd3 := false })
    if s.applied && s.pd 2 && s.pd3Wanted then pd3Request s else s

/-! ## Stopping the schedule and switching off -/

/-- The schedule stops: what runs on it ends. -/
def schedStop (s : State) : State :=
  let s := runsDrop (fun _ => true) s
  let s := s.modField (fun f => { f with planned := [], spillRuns := [], siloAcc := none, csetChk := [] })
  let s := { s with rot := { s.rot with active := none } }
  (s.setFlag F.SIL_STAT_BUSY false).modPow (fun p => { p with running := false, zeroPend := false })

/-- PD4 goes off: the link goes off, and its registers show no link. -/
def pd4Down (s : State) : State :=
  if s.pd 4 then
    setPd 4 false (((linkOff 0 s).setFld F.TRL_STAT_STATE 0).setFlag F.PCR_CLK_STATUS_TL_LOCK false)
  else s

/-- PD5 goes off: scans and window accesses end. -/
def pd5Down (s : State) : State :=
  let s := stdStop (fun _ => true) (s.each scanChannels (fun s c => scanEndWhy c 3 s))
  let s := s.each [(0, false), (1, false), (0, true), (1, true)] (fun s (x : Fin 2 × Bool) =>
    let busy := if x.2 then (s.ports.get x.1).wr.isSome else (s.winPend x.1).isSome
    if busy then winFail x.1 x.2 6 s else s)
  setPd 5 false s

/-- PD1 to PD5 are switched off and the main PLL stops. -/
def domainsOff (s : State) : State :=
  let s := pd5Down (pd3Down (pd4Down (schedStop s)))
  let s := trnEnd .pd3 (setPd 1 false (setPd 2 false (auxOff s)))
  let s := s.each allAxes (fun s a => (s.modSense a (fun n => { n with conv := 0, slow := false })).setFlag (F.SNS_CAL_BUSY a) false)
  ((s.setFlag F.PCR_CLK_STATUS_PLL_LOCK false).setFlag F.PCR_CLK_STATUS_ALIGNED false).setFlag F.PCR_PWR_STATE_READY false

/-- 50 µs after the safety demand the chip is in SAFE (R259); a clock fault's CLK reset follows (R58). -/
def safePowerOff (s : State) : State :=
  if !s.flag F.SAF_STAT_SAFE || s.pwr = 12 then s
  else
    let clk := s.pow.clkReset
    let s := setPwr 12 (domainsOff s)
    if clk then fuseReset F.PCR_RST_CAUSE_CLK s else s

/-- A clock fault: 0 PLL lock lost, 1 reference lost, 2 beat-checker error (R58).  While no PLL runs only the reference counts,
as a CLK reset cause (R57). -/
def clockFault (kind : Nat) (s : State) : State :=
  if s.flag F.PCR_CLK_STATUS_PLL_LOCK then
    let s := if kind = 0 then s.setFlag F.PCR_CLK_STATUS_PLL_LOCK false
      else if kind = 1 then s.setFlag F.PCR_CLK_STATUS_REF_LOST true else s.setFlag F.PCR_CLK_STATUS_BEAT_ERR true
    safeDemand 1 (s.modPow (fun p => { p with clkReset := true }))
  else if kind = 1 ∧ (s.pwr = 2 ∨ s.pwr = 11) then fuseReset F.PCR_RST_CAUSE_CLK s
  else s

/-- Supply monitors have tripped: VDD_CORE, VDDA, VDDIO, VDDIO18 by bit (R59). -/
def supplyTrip (rails : Nat) (s : State) : State :=
  if rails % 16 = 0 then s
  else
    let s := s.setFld F.PCR_SUPPLY_LOW (s.fld F.PCR_SUPPLY_LOW ||| rails % 16)
    safeDemand 2 (if rails.testBit 0 then s.modPow (fun p => { p with borReset := true }) else s)

/-- VDD_CORE is back after a brown-out (R59). -/
def borReset (s : State) : State := if s.pow.borReset then fuseReset F.PCR_RST_CAUSE_BOR s else s

/-- The VDD_TL monitor has tripped (Table PWR-2): in Twin mode with an image applied the link goes off; its CAUSE is free (log
entry 22). -/
def tlSupplyTrip (s : State) : State :=
  let s := s.setBit F.PCR_SUPPLY_LOW 4 true
  if s.twin && (s.linkLive || s.training) then (linkOff 0 s).setFld F.TRL_STAT_CAUSE Config.tlSupplyCause.toNat else s

/-! ## Sleep -/

/-- The reason to refuse a sleep request, 0 for none (R66, Table PWR-10). -/
def State.sleepWhy (s : State) : Nat :=
  if !s.applied || s.pwr != 7 then 4
  else if allAxes.any (fun a => !s.axisStopped a) then 1
  else if !s.trn.grants.isEmpty then 2
  else 0

/-- A write of PCR_SLEEP.GO (R66); while a request is being entered another has no effect. -/
def sleepRequest (s : State) : State :=
  if s.pwr = 8 then s
  else
    let w := s.sleepWhy
    let s := s.setFld F.PCR_SLEEP_REJ w
    if w = 0 then (setPwr 8 s).modPow (fun p => { p with sleepReq := true }) else s

/-- The frame boundary of an accepted request: waiting dynamic requests are refused by `refuse`, the domains are switched
off, and what PCR_SLEEP says is kept (R67). -/
def sleepEntry (refuse : TrnReq → State → State) (s : State) : State :=
  if s.pwr ≠ 8 ∨ !s.pow.sleepReq then s
  else
    let s := trnShow (s.each s.trn.queue (fun s r => trnRefuse refuse r s))
    let s := (domainsOff s).modPow (fun p => { p with sleepReq := false })
    let s := if s.flag F.PCR_SLEEP_RET then s
      else (({ s with gran := [] }).modPow (fun p => { p with retLost := true })).modField (fun f => { f with grnCE := [], grnUE := [] })
    setPwr (if s.flag F.PCR_SLEEP_MODE then 10 else 9) s

/-! ## Wake -/

/-- The wake sequence starts from cause `src`: 1 Scarecrow rule, 2 WAKE pin, 3 host, 4 safe-state exit. -/
def wakeStart (src rule : Nat) (noPd3 : Bool) (s : State) : State :=
  let s := (s.setFld F.PCR_WAKE_SRC src).setFld F.PCR_WAKE_RULE rule
  let s := setPd 5 true (setPd 2 true (setPwr 11 s))
  let s := s.modPow (fun p => { p with
    waking := true, noPd3 := noPd3, restDone := false, fillDone := false, wakeTick := s.fld F.SCW_TICK_TICK })
  if s.applied then pd3Begin s else s

/-- A wake cause: in sleep the sequence starts, during sleep entry the entry is abandoned ("A wake cause during sleep entry").
A Scarecrow rule wakes only from watch sleep. -/
def wakeCause (src rule : Nat) (noPd3 : Bool) (s : State) : State :=
  if s.pwr = 8 ∧ s.pow.sleepReq then
    (setPwr 7 (s.setFld F.PCR_SLEEP_REJ 3)).modPow (fun p => { p with sleepReq := false })
  else if s.pwr = 9 ∨ (s.pwr = 10 ∧ src ≠ 1) then wakeStart src rule noPd3 s
  else s

/-- The wake stops: a full image load is required, and every configured axis is held in tenant reset (R70). -/
def needImage (s : State) : State :=
  (s.setFlag F.PCR_WAKE_NEED_IMAGE true).each allAxes (fun s a =>
    if s.axisConf a then (s.setFlag (F.QUE_TEN_CTRL_RST a) true).setFlag (F.QUE_TEN_CTRL_IN_RESET a) true else s)

/-- The part of a wake that follows the divider alignment: calibration, restore, PD4. -/
def wakeAligned (s : State) : State :=
  let s := calAll (setPd 1 true s)
  let s := if s.twin then trainStart ((setPd 4 true s).setFlag F.PCR_CLK_STATUS_TL_LOCK true) else s
  if s.fld F.PCR_RESTORE_BYTES_BYTES = 0 then s.modPow (fun p => { p with restDone := true })
  else if s.pow.fromSilo then s
  else needImage s

/-- The dividers are aligned: the start sequence waits for an image, or begins its silo boot (Table PWR-5); a wake goes on. -/
def dividersAligned (s : State) : State :=
  if !s.flag F.PCR_CLK_STATUS_PLL_LOCK || s.flag F.PCR_CLK_STATUS_ALIGNED then s
  else
    let s := s.setFlag F.PCR_CLK_STATUS_ALIGNED true
    if s.pow.waking && s.applied then wakeAligned s
    else
      let s := (setPwr 3 s).modPow (fun p => { p with waking := false })
      if s.fld F.PCR_BOOT_BOOTSEL = 0 then
        let s := (setPwr 4 s).setFld F.PCR_IMG_STATUS_STATE 1
        s.modLdr (fun l => { l with siloBoot := true, loading := true, fromSilo := true, bytes := [] })
      else s

/-- The first boundary from now begins the zero step (R68). -/
def declareZero (s : State) : State :=
  let s := setPwr 7 (s.setFlag F.PCR_PWR_STATE_READY true)
  s.modPow (fun p => { p with zeroPend := true })

/-- Every step that the image requires has completed (R61). -/
def State.startDone (s : State) : Bool :=
  s.applied && s.pow.pd3Done && (!s.pd 3 || s.pow.fillDone) && !s.calRuns
  && (if s.twin then s.pwr == 6 && !s.training else s.pwr == 5)

/-- READY (R61). -/
def readyStep (s : State) : State := if s.startDone then declareZero s else s

/-- Calibration and restore of a wake have ended (R68). -/
def wakeComplete (s : State) : State :=
  if s.pwr = 11 ∧ s.pow.waking ∧ s.flag F.PCR_CLK_STATUS_ALIGNED ∧ s.pow.restDone ∧ !s.calRuns ∧ !s.flag F.PCR_WAKE_NEED_IMAGE then
    declareZero s
  else s

/-- A write of FLD_REPAIR (R196). -/
def fldRepair (v : Word) (s : State) : State :=
  if fieldGet v 24 8 = 0x5C ∧ s.pwr = 3 then
    { s with fuses := { s.fuses with retired := s.fuses.retired ||| BitVec.ofNat 16 (2 ^ fieldGet v F.FLD_REPAIR_PHYS.lo F.FLD_REPAIR_PHYS.width) } }
  else s

end Sys2Proof.Machine
end

