-- ==== Sys2Proof/Machine/Scarecrow.lean ====
section
/-! DEFINITION. Scarecrow (chapter 04): the end of a slot with its channel, filters and rules (R76 to R86, R90 to R92), the spin
trackers (R87, R88), the log (R90) and the write that clears SCW_FIRED. -/

namespace Sys2Proof.Machine

/-! ## States and sources -/

/-- Scarecrow scans and evaluates: an image is applied and the Zauri is not in deep sleep (R76). -/
def State.scwOn (s : State) : Bool := s.applied && s.pwr != 10

/-- The bit of ARM that the present state selects: 2 RUN, 1 WATCH, 0 SAFE. -/
def State.armBit (s : State) : Nat := if s.flag F.SAF_STAT_SAFE || s.pwr == 12 then 0 else if s.pwr = 9 then 1 else 2

/-- The axis whose pins channel `c` measures (Table SCW-1). -/
def chanAxis (c : Nat) : Nat :=
  if c < 4 then c else if c < 12 then (c - 4) / 2 else if c < 16 then c - 12 else (c - 16) / 2

/-- SPIN_VEL of axis `a`; 0 where the part has no such axis (R91). -/
def State.spinVel (s : State) (a : Nat) : Nat :=
  let d := s.fld (F.SCW_SPIN_DIR a)
  let v := s.fld (F.SCW_SPIN_SPD a)
  if !s.axisPresent a then 0
  else if d = 1 then min 0xFFFF (0x8000 + v)
  else if d = 2 then max 1 (0x8000 - v)
  else 0x8000

/-- SPIN_DIR of axis `a`. -/
def State.spinDir (s : State) (a : Nat) : Nat := if s.axisPresent a then s.fld (F.SCW_SPIN_DIR a) else 0

/-! ## Filters -/

/-- The output of a filter unit from its taps: an IIR's value, or the mean of eight taps. -/
def filtOut (ma : Bool) (taps : List Int) : Int :=
  if ma then taps.foldl (· + ·) 0 / 8 else taps.getD 0 0

/-- One input of a filter unit: the first one sets an IIR and fills the taps of an MA8. -/
def filtStep (ma : Bool) (shift : Nat) (x : Int) (taps : List Int) : List Int :=
  match taps with
  | [] => if ma then List.replicate 8 x else [x]
  | y :: _ => if ma then (x :: taps).take 8 else [((wrapBits 16 (y + (x - y) / 2 ^ shift) : Nat) : Int)]

/-- The units F[0] to F[3] in order: those whose input was updated in this tick take it; `upd` lists the sources updated so
far. -/
def filtersRun (chan v : Nat) (s : State) : List Nat × State :=
  (List.range 4).foldl (fun (x : List Nat × State) i =>
    let s := x.2
    let chain := s.flag (F.SCW_FILT_CHAIN i) && i != 0
    let due := s.flag (F.SCW_FILT_EN i)
      && (if chain then x.1.contains (0x18 + i - 1) else s.fld (F.SCW_FILT_CHAN i) == chan)
    if due then
      let input : Nat := if chain then s.fld (F.SCW_FVAL_VALUE (i - 1)) else v
      let ma := s.flag (F.SCW_FILT_TYPE i)
      let taps := filtStep ma (s.fld (F.SCW_FILT_SHIFT i)) input (s.scw.filt.getD i {}).taps
      let s := s.modScw (fun w => { w with filt := setAt w.filt i ⟨taps⟩ })
      (x.1 ++ [0x18 + i], s.setFld (F.SCW_FVAL_VALUE i) (wrapBits 16 (filtOut ma taps)))
    else x) ([chan], s)

/-! ## Rules -/

/-- A LEVEL rule's value (R79): its state after it, and whether it fires. -/
def ruleLevel (beyond : Bool) (persist rearm : Nat) (r : RuleSt) : RuleSt × Bool :=
  if r.fired then
    if beyond then ({ r with back := 0 }, false)
    else if rearm ≠ 0 ∧ rearm ≤ r.back + 1 then ({}, false)
    else ({ r with back := r.back + 1 }, false)
  else if !beyond then ({ r with cnt := 0 }, false)
  else if persist ≤ r.cnt + 1 then ({ cnt := 0, fired := true }, true)
  else ({ r with cnt := r.cnt + 1 }, false)

/-- An ABSENT rule's value (R80, R81). -/
def ruleAbsent (above : Bool) (persist : Nat) (r : RuleSt) : RuleSt × Bool :=
  if r.side.isSome && r.side != some above then ({ side := some above }, false)
  else
    let r := { r with side := some above }
    if r.fired then (r, false)
    else if persist ≤ r.cnt + 1 then ({ r with cnt := 0, fired := true }, true)
    else ({ r with cnt := r.cnt + 1 }, false)

/-- The counters of rule `r`. -/
def State.rule (s : State) (r : Nat) : RuleSt := SMap.get {} s.scw.rules r

/-- Stores the counters of rule `r`. -/
def setRule (r : Nat) (q : RuleSt) (s : State) : State :=
  s.modScw (fun w => { w with rules := SMap.put {} w.rules r q })

/-- Rule `r` evaluates a value: whether it fires. -/
def ruleEval (r v : Nat) (s : State) : Bool × State :=
  let k := s.fld (F.SCW_RULE_A_KIND r)
  let q := s.rule r
  if !s.flag (F.SCW_RULE_A_EN r) || k == 3 then (false, s)
  else if !(s.fld (F.SCW_RULE_A_ARM r)).testBit s.armBit then (false, setRule r { fired := q.fired, back := q.back } s)
  else
    let th := s.fld (F.SCW_RULE_B_THRESH r)
    let p := max 1 (s.fld (F.SCW_RULE_A_PERSIST r))
    let x := if k = 2 then ruleAbsent (decide (th < v)) p q
      else ruleLevel (if k = 0 then decide (th < v) else decide (v < th)) p (s.fld (F.SCW_RULE_B_REARM r)) q
    (x.2, setRule r x.1 s)

/-- The value of rule source `src`. -/
def State.ruleSource (s : State) (src : Nat) : Nat :=
  if src < 0x18 then s.fld (F.SCW_VAL_VALUE src)
  else if src < 0x1C then s.fld (F.SCW_FVAL_VALUE (src - 0x18))
  else if src < 0x20 then s.spinVel (src - 0x1C)
  else s.spinDir (src - 0x20)

/-- The rules evaluated in a tick, ascending: those that fire, with their values. -/
def rulesRun (upd : List Nat) (s : State) : List (Nat × Nat) × State :=
  (List.range 32).foldl (fun (x : List (Nat × Nat) × State) r =>
    let src := x.2.fld (F.SCW_RULE_A_SRC r)
    if upd.contains src then
      let v := x.2.ruleSource src
      let y := ruleEval r v x.2
      (if y.1 then x.1 ++ [(r, v)] else x.1, y.2)
    else x) ([], s)

/-- Writes a log entry; one that finds the FIFO full is dropped and counted (R90). -/
def logPut (e : LogEntry) (s : State) : State :=
  if s.scw.log.length < 16 then s.modScw (fun w => { w with log := w.log ++ [e] }) else s.bump F.SCW_LOG_STAT_DROPS 1

/-- Action bits of rule `r`. -/
def State.ruleActs (s : State) (r : Nat) : Nat := s.fld (F.SCW_RULE_A_ACTION r)

/-- A WAKE action can be taken: in watch sleep, or while sleep is being entered (R85, "A WAKE rule fires while sleep entry is
under way"). -/
def State.wakeTaken (s : State) : Bool := s.pwr == 9 || (s.pwr == 8 && s.pow.sleepReq)

/-- The actions of the rules that fire in one tick (R83 to R85). -/
def rulesFire (l : List (Nat × Nat)) (s : State) : State :=
  let acts (r : Nat) : Nat := if s.wakeTaken then s.ruleActs r else s.ruleActs r - (s.ruleActs r &&& 0x21)
  let safe := l.any (fun x => (s.ruleActs x.1).testBit 3)
  let s' := s
  let s := s.each l (fun s x =>
    let s := s.setBit F.SCW_FIRED_FIRED x.1 true
    let s := if (acts x.1).testBit 4 then logPut ⟨x.1, acts x.1, x.2, s.reg R.SCW_TICK⟩ s else s
    if s.pd 2 then raise Ev.scwFire x.1 s else s)
  if safe then safeDemand 0 s
  else if !s'.wakeTaken then s
  else match l.find? (fun x => (s'.ruleActs x.1).testBit 0) with
    | none => s
    | some x => wakeCause 1 x.1 ((s'.ruleActs x.1).testBit 5) s

/-- The slots of a scan: 1 to 24. -/
def State.nSlot (s : State) : Nat := max 1 (min 24 (s.fld F.SCW_SCAN_N_SLOT))

/-- A slot ends (R77): `code` is the conversion of its channel, or in edge mode the edges counted.  A channel named again
later in the scan is not converted (R78). -/
def slotEnd (code : Nat) (s : State) : State :=
  if !s.scwOn then s
  else
    let n := s.scw.slot
    let c := s.fld (F.SCW_SLOT_CHAN n)
    let first := !(List.range n).any (fun k => s.fld (F.SCW_SLOT_CHAN k) == c)
    let last := decide (s.nSlot ≤ n + 1)
    let x := if first && decide (c < 24) then
        let v := if s.axisPresent (chanAxis c) then code % 1024 * 64 else 0
        filtersRun c v (s.setFld (F.SCW_VAL_VALUE c) v)
      else ([], s)
    let upd := if last then x.1 ++ (List.range 8).map (fun k => 0x1C + k) else x.1
    let y := rulesRun upd (x.2.modScw (fun w => { w with slot := if last then 0 else n + 1 }))
    if y.1.isEmpty then y.2 else rulesFire y.1 y.2

/-- The scan, the filters and the counters restart (R86). -/
def scanReset (s : State) : State :=
  s.modScw (fun w => { w with slot := 0, filt := [{}, {}, {}, {}], rules := [] })

/-- A write of ones to SCW_FIRED: each bit clears, and its rule is rearmed with its counter cleared. -/
def firedWrite (v : Word) (s : State) : State :=
  let s := s.setReg R.SCW_FIRED (s.reg R.SCW_FIRED &&& ~~~v)
  s.each (List.range 32) (fun s r => if v.toNat.testBit r then setRule r {} s else s)

/-- A read of SCW_LOG_TIME has returned: the oldest entry leaves the log. -/
def logTake (s : State) : State := s.modScw (fun w => { w with log := w.log.drop 1 })

/-! ## Spin trackers -/

/-- The forward sequence of sector codes (Table SCW-2). -/
def sectorSeq : List Nat := [1, 3, 2, 6, 4, 5]

/-- A sector code with V and W swapped. -/
def swapVw (c : Nat) : Nat := c % 2 + 4 * (c / 2 % 2) + 2 * (c / 4 % 2)

/-- The direction of a change of code: 1 forward, 2 reverse, 0 for a glitch. -/
def sectorDir (a b : Nat) : Nat :=
  if !sectorSeq.contains a || !sectorSeq.contains b then 0
  else
    let d := (sectorSeq.idxOf b + 6 - sectorSeq.idxOf a) % 6
    if d = 1 then 1 else if d = 5 then 2 else 0

/-- Changes the tracker of axis `a`. -/
def modSpin (a : Fin 4) (f : SpinSt → SpinSt) (s : State) : State :=
  s.modScw (fun w => { w with spin := w.spin.set a (f (w.spin.get a)) })

/-- SPD from the last six intervals, 0 before there are six. -/
def spinSpeed (l : List Nat) : Nat :=
  if l.length < 6 then 0 else min 0xFFFF (40000000 / max 1 (l.take 6).sum)

/-- The tracker runs: it is powered, its axis exists, and it is not held. -/
def State.spinOn (s : State) (a : Fin 4) : Bool := s.scwOn && s.axisPresent a && !s.flag (F.SCW_SPIN_HOLD a)

/-- A deglitched change of the comparators {W, V, U} of axis `a` from `old` to `new`, `ticks` SCLK ticks after the transition or
glitch before (R87). -/
def spinChange (a : Fin 4) (old new ticks : Nat) (s : State) : State :=
  if !s.spinOn a then s
  else
    let form (c : Nat) : Nat := if s.flag (F.SCW_SPIN_CFG_SWAP_VW a) then swapVw c else c
    let d := sectorDir (form old) (form new)
    let t := s.scw.spin.get a
    if d = 0 then
      let s := (s.bump (F.SCW_SPIN_GLITCH a) 1).setFld (F.SCW_SPIN_SPD a) 0
      modSpin a (fun _ => { code := form new, timed := true }) s
    else
      let against := t.run != 0 && t.dir != d
      let run := if against then 1 else t.run + 1
      let iv := if against then [] else if t.timed then (ticks :: t.ivals).take 6 else t.ivals
      let dir := if against then 3 else if 3 ≤ run then d else s.fld (F.SCW_SPIN_DIR a)
      let s := (s.setFld (F.SCW_SPIN_DIR a) dir).setFld (F.SCW_SPIN_SPD a) (spinSpeed iv)
      modSpin a (fun _ => { code := form new, run := run, dir := d, ivals := iv, timed := true }) s

/-- No transition for STILL × 256 ticks. -/
def spinStill (a : Fin 4) (s : State) : State :=
  if !s.spinOn a || s.fld (F.SCW_SPIN_CFG_STILL a) = 0 then s
  else modSpin a (fun t => { code := t.code }) ((s.setFld (F.SCW_SPIN_DIR a) 0).setFld (F.SCW_SPIN_SPD a) 0)

/-- 400 ticks after all six gate outputs are low the tracker restarts from UNKNOWN (R88). -/
def spinRestart (a : Fin 4) (s : State) : State :=
  if !s.flag (F.SCW_SPIN_HOLD a) || s.gates a &&& 0x3F#8 ≠ 0 then s
  else
    let s := ((s.setFlag (F.SCW_SPIN_HOLD a) false).setFld (F.SCW_SPIN_DIR a) 3).setFld (F.SCW_SPIN_SPD a) 0
    modSpin a (fun t => { code := t.code }) s

end Sys2Proof.Machine
end

