-- ==== Sys2Proof/Machine/SafeCmd.lean ====
section
/-! DEFINITION. The safety block's events (chapter 13): acknowledges (R247, R258, R270), the release of the safe state (R264,
R265), STO (R266 to R270), the readbacks (R89, R262), PAIR_SAFE_I (R354), and Rotation (R271 to R274). -/

namespace Sys2Proof.Machine

/-! ## Acknowledges -/

/-- SAF_ACK.DOUBT_ACK: the causes are cleared, and the wait for a clean frame starts (R247). -/
def doubtAck (m : Nat) (s : State) : State :=
  s.each (List.range 5) (fun s t =>
    if m.testBit t && s.bit F.SAF_STAT_DOUBT t then setRet t .waitFrame (s.setReg (R.SAF_DCAUSE t) 0) else s)

/-- An axis safety stop of Headland doubt ends once no failure of Table SAF-3 is active and it has been acknowledged: the axis
goes to IDLE and drives on Headland until a clean frame (R258). -/
def axstopEnd (a : Fin 4) (s : State) : State :=
  if s.saf.hstop.getLsbD a && s.saf.axAck.getLsbD a && s.fld (F.SAF_HCAUSE_CAUSE a) == 0 then
    let m := ~~~BitVec.ofNat 4 (2 ^ a.val)
    let s := s.modSaf (fun f => { f with hstop := f.hstop &&& m, axAck := f.axAck &&& m })
    startOnHeadland a (axstopRefresh (s.setBit F.SAF_STAT_HDOUBT a false))
  else s

/-- SAF_ACK.AXSTOP_ACK. -/
def axstopAck (m : Nat) (s : State) : State :=
  let s := s.modSaf (fun f => { f with axAck := f.axAck ||| (BitVec.ofNat 4 m &&& f.hstop) })
  s.each allAxes (fun s a => axstopEnd a s)

/-- SAF_ACK.STO_ACK (R270). -/
def stoAck (s : State) : State :=
  if !s.flag F.SAF_STAT_STO_DISC_FAULT then s
  else if s.saf.stoSeq = 2 then
    (s.setFlag F.SAF_STAT_STO_DISC_FAULT false).modSaf (fun f => { f with stoSeq := 0 })
  else s.setFlag F.SAF_STAT_STO_ACK_REJ true

/-! ## The safe state -/

/-- A write of SAF_DEMAND. -/
def demandWrite (v : Word) (s : State) : State :=
  if fieldGet v 24 8 = 0xD5 ∧ fieldGet v 0 1 = 1 then safeDemand 3 s else s

/-- A rule with the SAFE action is set in SCW_FIRED. -/
def State.scwSafeFired (s : State) : Bool :=
  (List.range 32).any (fun r => s.bit F.SCW_FIRED_FIRED r && (s.ruleActs r).testBit 3)

/-- The condition that refuses a release, 0 for none (R264, R265). -/
def State.relWhy (s : State) : Nat :=
  if s.saf.resetOnly then 4
  else if s.flag F.SAF_STAT_STO_DISC_FAULT || s.saf.stoA != s.saf.stoB then 2
  else if s.scwSafeFired then 3
  else if s.pwr ≠ 12 ∨ (s.twin ∧ s.saf.pairI)
      ∨ allAxes.any (fun a => s.bit F.SAF_CFG_HDL_ESC a && s.fld (F.SAF_HCAUSE_CAUSE a) != 0) then 1
  else 0

/-- The release is refused with a reason. -/
def relRefuse (why : Nat) (s : State) : State :=
  ((s.setFld F.SAF_REL_STAT_WHY why).setFlag F.SAF_REL_STAT_HALF false).modSaf (fun f => { f with relPort := none })

/-- The release is accepted: the wake sequence runs with SRC = 4. -/
def relAccept (s : State) : State :=
  let s := (relRefuse 0 s).setFlag F.SAF_STAT_SAFE false
  let s := s.setFld F.SAF_STAT_HDOUBT s.saf.hstop.toNat
  wakeStart 4 0 false (pairOut false s)

/-- A write of SAF_REL by port `p` (R264, R265); outside the safe state it has no effect. -/
def relWrite (p : Fin 2) (v : Word) (s : State) : State :=
  if fieldGet v 24 8 ≠ 0x3C ∨ fieldGet v 0 1 = 0 ∨ !s.flag F.SAF_STAT_SAFE then s
  else if s.relWhy ≠ 0 then relRefuse s.relWhy s
  else if !s.flag F.SAF_CFG_DUAL_REL then relAccept s
  else match s.saf.relPort with
    | some q => if q = p then s else relAccept s
    | none => (s.setFlag F.SAF_REL_STAT_HALF true).modSaf (fun f => { f with relPort := some p })

/-- The second port has not written in time (R265). -/
def relTimeout (s : State) : State := if s.saf.relPort.isSome then relRefuse 5 s else s

/-- A GDEN pin differs from its commanded level (R262). -/
def gdenMismatch (s : State) : State := safeDemand 6 s

/-- The level of the SAFE_N pin has been compared on two ticks (R89). -/
def safeNRead (pin : Bool) (s : State) : State :=
  let off := pin != s.enables.getLsbD 6
  let s := s.modSaf (fun f => { f with safeNOff := off })
  if off then raiseDoubt 4 13 (s.setFlag F.SCW_SAFE_N_MISMATCH true) else s

/-- PAIR_SAFE_I has been high for 1 µs, or is low again (R354); in Standalone mode it is ignored (R334). -/
def pairIn (level : Bool) (s : State) : State :=
  if !s.twin then s
  else
    let s := s.modSaf (fun f => { f with pairI := level })
    if level then safeDemand 4 s else s

/-! ## STO -/

/-- A stop demand of the channels that are low (R266): every configured axis goes to OFF. -/
def stoStop (aLow bLow : Bool) (s : State) : State :=
  if !aLow && !bLow then s
  else
    let s := s.modSaf (fun f => { f with stoA := f.stoA && !aLow, stoB := f.stoB && !bLow })
    let s := s.setFlag F.SAF_STAT_STO_STOP true
    let s := s.each allAxes (fun s a => if s.axisConf a then driveOff a s else s)
    auxKillNow (axstopRefresh s)

/-- COUNT at a tick (R268): 0 at the first disagreeing tick, then rising; cleared where the channels agree. -/
def stoCount (a b : Bool) (s : State) : State :=
  if a = b then (s.setFld F.SAF_STO_COUNT 0).modSaf (fun f => { f with stoCount := false })
  else if s.saf.stoCount then s.bump F.SAF_STO_COUNT 1
  else (s.setFld F.SAF_STO_COUNT 0).modSaf (fun f => { f with stoCount := true })

/-- COUNT has reached D and the channels still disagree: STO_DISC_FAULT is latched. -/
def stoLatch (a b : Bool) (s : State) : State :=
  let d := s.fld F.SAF_CFG_STO_D
  if a != b && decide (0 < d) && decide (d ≤ s.fld F.SAF_STO_COUNT) && !s.flag F.SAF_STAT_STO_DISC_FAULT then
    (s.setFlag F.SAF_STAT_STO_DISC_FAULT true).modSaf (fun f => { f with stoSeq := 0 })
  else s

/-- The STO stop ends: each axis goes to IDLE, and a start request must first be absent (R269). -/
def stoEnd (s : State) : State :=
  let s := s.setFlag F.SAF_STAT_STO_STOP false
  axstopRefresh (s.each allAxes (fun s a => s.modLoop a (fun l => { l with needAbsent := true })))

/-- A 100 µs tick of the discrepancy logic with the filtered levels, true for run (R268 to R270). -/
def stoTick (a b : Bool) (s : State) : State :=
  let s := stoStop (!a) (!b) s
  let s := ((s.setFlag F.SAF_STO_A a).setFlag F.SAF_STO_B b).modSaf (fun f => { f with stoA := a, stoB := b })
  let was := s.flag F.SAF_STAT_STO_DISC_FAULT
  let s := stoLatch a b (stoCount a b s)
  let s := if was && !a && !b && s.saf.stoSeq == 0 then s.modSaf (fun f => { f with stoSeq := 1 })
    else if was && a && b && s.saf.stoSeq == 1 then s.modSaf (fun f => { f with stoSeq := 2 }) else s
  if a && b && s.flag F.SAF_STAT_STO_STOP && !s.flag F.SAF_STAT_STO_DISC_FAULT then stoEnd s else s

/-! ## Rotation -/

/-- The checker of the frame. -/
def State.rotChk (s : State) : Nat := s.fld F.ROT_CUR_CHK

/-- The slice of checker `c`. -/
def State.sliceOf (s : State) (c : Nat) : Option Slice := s.ldr.slices.find? (fun x => x.chk == c)

/-- The check unit that a turn of checker 19 tests is free ("Rotation coverage"); the turns are numbered from 0. -/
def State.rotUnitFree (s : State) : Bool := s.rotChk != 19 || s.fld (F.CHK_STAT_OWNER ((s.rot.turns - 1) % 8)) == 0

/-- A window of the frame's checker starts (R271): `quiet` tells that the checker is quiescent, `gap` the FCLK cycles to the next
guarded instant. -/
def sliceStart (w : Nat) (quiet : Bool) (gap : Nat) (s : State) : State :=
  if !s.flag F.ROT_CTRL_EN || s.rot.done || s.rot.active.isSome || !s.pow.running then s
  else match s.sliceOf s.rotChk with
    | none => s
    | some x =>
      if quiet && s.rotUnitFree && decide (x.len + 32 ≤ gap) && decide (x.wins.getD w 0xFFFFFFFF ≠ 0xFFFFFFFF) then
        { s with rot := { s.rot with active := some s.rotChk } }
      else s

/-- Class of a checker (Table SAF-9): 0 A, 1 E, 2 S. -/
def chkClass (c : Nat) : Nat :=
  if 7 ≤ c ∧ c ≤ 13 then 2 else if c = 15 ∨ c = 19 ∨ c = 20 ∨ c = 22 ∨ c = 23 then 1 else 0

/-- The consequence of a checker that failed, by its class (R272, R255). -/
def rotFail (c : Nat) (s : State) : State :=
  let s := s.setBit F.ROT_FAIL_FAIL c true
  if chkClass c = 2 then safeDemand 7 s
  else if chkClass c = 1 then raiseDoubt 4 15 s
  else s.each allAxes (fun s a => if s.axisRuns a then raiseDoubt a 15 s else s)

/-- A turn of checker `c` is passed. -/
def rotPass (c : Nat) (s : State) : State :=
  let s := (s.setFld F.ROT_CUR_RESULT 1).setFld (F.ROT_SKIP_CONSEC c) 0
  s.setFld (F.ROT_LAST_STEP c) s.stepN

/-- The running slice ends (R272): `flagged` tells that the checker flagged the injected fault in time. -/
def sliceEnd (flagged : Bool) (s : State) : State :=
  match s.rot.active with
  | none => s
  | some c =>
    let s := { s with rot := { s.rot with active := none, done := true } }
    if flagged then rotPass c s else rotFail c ((s.setFld F.ROT_CUR_RESULT 2).setFld (F.ROT_SKIP_CONSEC c) 0)

/-- A frame ends in which the checker's slice has not run: a skipped turn (R273); in Standalone mode a turn of checker 22 is
passed (R274). -/
def rotClose (s : State) : State :=
  if !s.flag F.ROT_CTRL_EN || s.rot.done then s
  else
    let c := s.rotChk
    if c = 22 ∧ !s.twin then rotPass c s
    else
      let s := ((s.setFld F.ROT_CUR_RESULT 3).bump (F.ROT_SKIP_TOTAL c) 1).bump (F.ROT_SKIP_CONSEC c) 1
      if s.fld (F.ROT_SKIP_CONSEC c) = 8 then raiseDoubt 4 14 (s.setBit F.ROT_STARVED_STARVED c true) else s

/-- A frame begins: the checker of the frame is list entry (STEP div K) mod N_ROT. -/
def rotOpen (s : State) : State :=
  if !s.flag F.ROT_CTRL_EN then s
  else
    let n := max 1 s.ldr.rotList.length
    let i := s.stepN / s.K % n
    let s := ((s.setFld F.ROT_CTRL_IDX i).setFld F.ROT_CUR_CHK (s.ldr.rotList.getD i 0)).setFld F.ROT_CUR_RESULT 0
    let t := if s.rotChk = 19 then s.rot.turns + 1 else s.rot.turns
    { s with rot := { active := none, done := false, turns := t } }

end Sys2Proof.Machine
end

