-- ==== Sys2Proof/Machine/Image.lean ====
section
/-! DEFINITION. The Cadastre image as data (chapter 02): its header (Table IMG-1), sections (Table IMG-2) and records (Table
IMG-4), the tables the chapters lay out, and what an image configures: register fields, tables and memories (R34). -/

namespace Sys2Proof.Machine

/-! ## Sections and records -/

/-- A record: type, table identifier, image byte offset, body. -/
structure ImgRec where
  typ  : Nat
  rid  : Nat
  off  : Nat
  body : List Byte
  deriving DecidableEq, Repr

/-- A section: index, image byte offset, TYPE, FLAGS, payload, the stored CRC, its records, and the offset of the first
record that breaks Table IMG-4. -/
structure Sect where
  idx  : Nat
  off  : Nat
  typ  : Nat
  flags : Nat
  pay  : List Byte
  crc  : Nat
  recs : List ImgRec
  bad  : Option Nat
  deriving DecidableEq, Repr

/-- The TENANT flag. -/
def Sect.tenant (x : Sect) : Bool := x.flags.testBit 0

/-- The RETAIN flag. -/
def Sect.retain (x : Sect) : Bool := x.flags.testBit 2

/-- TENANT_ID. -/
def Sect.tid (x : Sect) : Nat := bitsOf x.flags 4 3

/-- The section's bytes before its CRC. -/
def Sect.body (x : Sect) : List Byte := leBytes 2 x.typ ++ leBytes 2 x.flags ++ leBytes 4 x.pay.length ++ x.pay

/-- The tables: identifier, section type, bytes per entry, 0 where the manual lays out none (the share map). -/
def imgTables : List (Nat × Nat × Nat) :=
  [(0x0101, 0x06, 16), (0x0102, 0x06, 1), (0x0103, 0x06, 64), (0x0104, 0x06, 16), (0x0105, 0x06, 12), (0x0201, 0x0F, 16),
   (0x0401, 0x04, 16), (0x0701, 0x07, 32), (0x0702, 0x07, 256), (0x0901, 0x09, 24), (0x0A01, 0x0A, 36), (0x0A02, 0x0A, 8),
   (0x0B01, 0x0B, 8), (0x0C01, 0x0C, 16), (0x0D01, 0x0D, 1), (0x0D02, 0x0D, 20), (0x1001, 0x10, 0), (0x1002, 0x10, 16)]

/-- A multiple of 4 at or above `n`. -/
def ceil4 (n : Nat) : Nat := (n + 3) / 4 * 4

/-- A TABLE record of section type `typ` is of a table the section carries, of its entry size, and fills its body. -/
def tableOk (typ rid : Nat) (b : List Byte) : Bool :=
  let size := leAt b 0 2
  let used := 4 + size * leAt b 2 2
  decide (4 ≤ b.length) && decide (0 < size) && b.length == ceil4 used && (b.drop used).all (· == 0)
  && imgTables.any (fun t => t.1 == rid && t.2.1 == typ && (t.2.2 == 0 || t.2.2 == size))

/-- A record body has the form Table IMG-4 gives its type. -/
def recordOk (typ : Nat) (r : ImgRec) : Bool :=
  let n := r.body.length
  (r.typ == 4 || r.rid == 0) &&
  match r.typ with
  | 1 => n % 8 == 0
  | 2 => n % 16 == 0
  | 3 => decide (4 ≤ n)
  | 4 => tableOk typ r.rid r.body
  | 5 => n == 16 && leAt r.body 12 4 == 0
  | _ => false

/-- The records of a payload from image offset `off` on, and the offset at which they stop making sense; the fuel is the
number of 8-byte units. -/
def parseRecs (typ : Nat) : Nat → Nat → List Byte → List ImgRec × Option Nat
  | _, _, [] => ([], none)
  | 0, off, _ :: _ => ([], some off)
  | n + 1, off, b :: bs =>
    let l := b :: bs
    let len := leAt l 4 4
    let r : ImgRec := ⟨leAt l 0 2, leAt l 2 2, off, (l.drop 8).take len⟩
    if l.length < 8 + len ∨ len % 4 ≠ 0 ∨ !recordOk typ r then ([], some off)
    else
      let x := parseRecs typ n (off + 8 + len) (l.drop (8 + len))
      (r :: x.1, x.2)

/-- A section's records: PART and SIGN are raw, of 16 and 128 bytes. -/
def sectRecs (typ off : Nat) (pay : List Byte) : List ImgRec × Option Nat :=
  if typ = 0x01 then ([], if pay.length = 16 then none else some off)
  else if typ = 0xFF then ([], if pay.length = 128 then none else some off)
  else parseRecs typ (pay.length / 8 + 1) (off + 8) pay

/-- What stops the walk over the sections. -/
inductive WalkStop where
  /-- A section runs past IMG_SIZE: its index and offset. -/
  | long (idx off : Nat)
  /-- The sections end elsewhere than at IMG_SIZE. -/
  | count
  deriving DecidableEq, Repr

/-- Walks `n` sections from offset `off` up to `size` (R29). -/
def walkSects (size : Nat) : Nat → Nat → Nat → List Byte → List Sect × Option WalkStop
  | 0, _, off, _ => ([], if off = size then none else some .count)
  | n + 1, idx, off, bs =>
    let len := leAt bs 4 4
    if size ≤ off then ([], some .count)
    else if size < off + 8 ∨ size < off + 12 + len then ([], some (.long idx off))
    else
      let pay := (bs.drop 8).take len
      let rs := sectRecs (leAt bs 0 2) off pay
      let x := walkSects size n (idx + 1) (off + 12 + len) (bs.drop (12 + len))
      (⟨idx, off, leAt bs 0 2, leAt bs 2 2, pay, leAt bs (8 + len) 4, rs.1, rs.2⟩ :: x.1, x.2)

/-- An image: its bytes, header, sections, and what stopped the walk. -/
structure Img where
  bytes : List Byte
  hdr   : ImgHdr
  sects : List Sect
  stop  : Option WalkStop
  deriving DecidableEq, Repr

/-- Four words from offset `o`. -/
def quadAt (bs : List Byte) (o : Nat) : List Nat := (List.range 4).map (fun a => leAt bs (o + 4 * a) 4)

/-- The header's fields. -/
def parseHdr (bs : List Byte) : ImgHdr :=
  { fmtVer := leAt bs 4 2, imgVer := leAt bs 8 4, mode := leAt bs 0x16 1, axes := leAt bs 0x17 1, ts := leAt bs 0x18 4,
    k := leAt bs 0x1C 1, cObs := quadAt bs 0x20, cLoop := quadAt bs 0x30, cPrg := leAt bs 0x40 4,
    nSpill := leAt bs 0x44 2, tSpill := leAt bs 0x48 4, seeds := (List.range 4).map (fun i => leAt bs (0x50 + 8 * i) 8) }

/-- IMG_SIZE. -/
def imgSize (bs : List Byte) : Nat := leAt bs 0x10 4

/-- Reads an image. -/
def parseImg (bs : List Byte) : Img :=
  let size := imgSize bs
  let bs := bs.take size
  let x := walkSects size (leAt bs 0x14 2) 0 0x100 (bs.drop 0x100)
  ⟨bs, parseHdr bs, x.1, x.2⟩

/-- The section of a type and tenant. -/
def Img.find (m : Img) (typ tid : Nat) : Option Sect := m.sects.find? (fun x => x.typ == typ && x.tid == tid)

/-- Every record with its section. -/
def Img.recs (m : Img) : List (Sect × ImgRec) := m.sects.flatMap (fun x => x.recs.map (fun r => (x, r)))

/-- Splits a list into `k` pieces of `n` bytes. -/
def pieces (n : Nat) : Nat → List Byte → List (List Byte)
  | 0, _ => []
  | k + 1, bs => bs.take n :: pieces n k (bs.drop n)

/-- The entries of a TABLE record. -/
def ImgRec.entries (r : ImgRec) : List (List Byte) := pieces (leAt r.body 0 2) (leAt r.body 2 2) (r.body.drop 4)

/-- The records of table `rid`. -/
def Img.tables (m : Img) (rid : Nat) : List (Sect × ImgRec) := m.recs.filter (fun x => x.2.typ == 4 && x.2.rid == rid)

/-- The entries of table `rid` with the tenant of their section. -/
def Img.tab (m : Img) (rid : Nat) : List (Nat × List Byte) :=
  (m.tables rid).flatMap (fun x => x.2.entries.map (fun e => (x.1.tid, e)))

/-- The {address, value} pairs of a REGSET record. -/
def ImgRec.pairs (r : ImgRec) : List (Nat × Nat) :=
  (pieces 8 (r.body.length / 8) r.body).map (fun p => (leAt p 0 4, leAt p 4 4))

/-- The declarations of a LIVE record of a section of tenant `t`. -/
def ImgRec.lives (t : Nat) (r : ImgRec) : List LiveDecl :=
  (pieces 16 (r.body.length / 16) r.body).map (fun p => ⟨leAt p 0 4, leAt p 4 4, leAt p 8 4, leAt p 12 4, t⟩)

/-- A BLOB record's destination and data. -/
def ImgRec.blob (r : ImgRec) : Nat × List Byte := (leAt r.body 0 4, r.body.drop 4)

/-! ## Table entries -/

/-- A schedule entry (Table IMG-5). -/
def decSched (e : List Byte) : SchedEntry :=
  ⟨leAt e 0 1, leAt e 1 1, leAt e 2 2, (leAt e 4 1).testBit 0, (leAt e 4 1).testBit 1, leAt e 5 1, leAt e 8 4, leAt e 12 4⟩

/-- A planned grant (Table IMG-5). -/
def decGrant (e : List Byte) : GrantEntry :=
  ⟨leAt e 0 2, leAt e 2 1, leAt e 3 1, (leAt e 4 1).testBit 0, leAt e 6 2, leAt e 8 4, leAt e 12 4⟩

/-- A layer descriptor (Table FLD-2). -/
def decLayer (e : List Byte) : Layer :=
  ⟨leAt e 0 1, leAt e 1 1, leAt e 2 1, leAt e 3 1, leAt e 4 2, leAt e 6 2, leAt e 8 1, leAt e 9 1,
   signedOf 8 (leAt e 10 1), signedOf 8 (leAt e 11 1), leAt e 12 4, leAt e 16 4, leAt e 20 2, leAt e 22 2, leAt e 24 2⟩

/-- A cutting-table entry of tenant `t` (Table EXP-4). -/
def decCut (t : Nat) (e : List Byte) : CutEntry :=
  ⟨t, leAt e 0 1, leAt e 1 1, leAt e 2 1, leAt e 3 1, leAt e 4 4, leAt e 8 4, leAt e 12 4, leAt e 16 4⟩

/-- A spill-table entry (chapter 09, "The silo"). -/
def decSpill (e : List Byte) : SpillEntry := ⟨leAt e 0 4, leAt e 4 4, leAt e 8 2, leAt e 10 1⟩

/-- A test vector (Table SAF-5). -/
def decVec (e : List Byte) : TestVec := ⟨leAt e 0 2, leAt e 2 2, e.drop 4⟩

/-- A Rotation slice (chapter 13, RID 0x0D02). -/
def decSlice (e : List Byte) : Slice := ⟨leAt e 0 2, leAt e 2 2, (List.range 4).map (fun i => leAt e (4 + 4 * i) 4)⟩

/-- A route (Table QUE-12, SQR_ROUTE). -/
def decRoute (e : List Byte) : Route :=
  ⟨(leAt e 2 1).testBit 0, leAt e 0 1, leAt e 1 1, if (leAt e 2 1).testBit 1 then some (leAt e 4 2) else none⟩

/-- A tile (chapter 17, RID 0x1002). -/
def decTile (e : List Byte) : TileEnt := ⟨leAt e 0 2, leAt e 2 1, leAt e 4 4, leAt e 8 4⟩

/-! ## Register fields -/

/-- Loads one word of a REGSET: the bits whose Reset column reads IMG (R9). -/
def loadImg (k : Nat) (v : Word) (s : State) : State :=
  let k := homeKey k
  s.setReg k ((s.reg k &&& ~~~imgMask k) ||| (v &&& imgMask k))

/-- Clears the image's fields of every stored register of a set. -/
def clearImg (p : Nat → Bool) (s : State) : State :=
  s.each s.regs (fun s e => if p e.1 then s.setReg e.1 (s.reg e.1 &&& ~~~imgMask e.1) else s)

/-- The REGSET records of a set of sections. -/
def loadRegsets (p : Sect → Bool) (m : Img) (s : State) : State :=
  s.each (m.recs.filter (fun x => x.2.typ == 1 && p x.1)) (fun s x =>
    s.each x.2.pairs (fun s kv => loadImg kv.1 (word kv.2) s))

/-- Loads the queue table entry `e` (RID 0x0C01). -/
def loadQueue (e : List Byte) (s : State) : State :=
  let n := leAt e 0 1
  let f := leAt e 10 1
  let s := (s.setFlag (F.QUE_CFG_EN n) true).setFld (F.QUE_CFG_ROLE n) (leAt e 2 1)
  let s := (s.setFlag (F.QUE_CFG_ALV_CHK n) (f.testBit 0)).setFld (F.QUE_CFG_IRQ n) (bitsOf f 1 2)
  let s := (s.setFld (F.QUE_CFG_TENANT n) (leAt e 1 1)).setFld (F.QUE_CFG_RESPQ n) (leAt e 11 1)
  let s := (s.setFld (F.QUE_CFG_LOG2_DEPTH n) (leAt e 3 1)).setFld (F.QUE_BASE_BASE n) (leAt e 4 4)
  s.setFld (F.QUE_TMO_TMO n) (leAt e 8 2)

/-- The 32-bit words of a list of bytes. -/
def wordsOf (bs : List Byte) : List Word := (pieces 4 (bs.length / 4) bs).map (fun p => word (leNat p))

/-- Stores words at every fourth address from `k` up. -/
def putWords (k : Nat) (ws : List Word) (s : State) : State :=
  (ws.foldl (fun (x : Nat × State) w => (x.1 + 4, x.2.setReg x.1 w)) (k, s)).2

/-- The graph of axis `a` (Table LPE-3): its entries, their number, and that it is configured (DEDUCED, log entry 68). -/
def loadGraph (m : Img) (a : Fin 4) (s : State) : State :=
  let es := (m.tab 0x0401).filter (fun e => e.1 == a.val)
  let s := (putWords (R.LPE_GRAPH a 0) (wordsOf (es.flatMap (fun e => e.2))) s).setFld (F.LPE_CTRL_N_BLK a) es.length
  s.setFlag (F.LPE_CTRL_EN a) (!es.isEmpty)

/-- What an image gives the registers of axis `a` beside its REGSET records: C_LOOP of the header, the graph, and what the
Zauri computes when it applies an image (STEP_MAX, M_LIM). -/
def loadAxis (m : Img) (a : Fin 4) (s : State) : State :=
  let s := (loadGraph m a s).setFld (F.LPE_CLOOP_C_LOOP a) (m.hdr.cLoop.getD a.val 0)
  mlimUpdate a (s.setFld (F.OBS_CTRL_STEP_MAX a) (s.stepMax a))

/-- The cutting tables: entries, and the sets they make valid with their tenants. -/
def loadCuts (m : Img) (s : State) : State :=
  let cs := (m.tab 0x0901).map (fun e => decCut e.1 e.2)
  let s := s.modField (fun f => { f with cuts := cs })
  s.each cs (fun s c => (s.setFlag (F.FLD_CSET_CTRL_VALID c.cset) true).setFld (F.FLD_CSET_CTRL_TENANT c.cset) c.tenant)

/-- The expected signatures of the TPLOT sections of a set (Table SAF-5): active and staged. -/
def loadSigs (p : Nat → Bool) (m : Img) (s : State) : State :=
  s.each ((m.tab 0x0A02).filter (fun e => p e.1)) (fun s e =>
    let n := leAt e.2 0 2
    let v := leAt e.2 4 4
    if n < 32 then (s.setFld (F.SAF_TPSIG_SIG n) v).setFld (F.SAF_TPSIG_STAGE_SIG n) v else s)

/-- The number of features of axis `a`. -/
def State.featureCount (s : State) (a : Fin 4) : Nat :=
  ((List.range 16).map (fun ch => popcount16 (s.fld (F.OBS_DEC_STATS a ch)))).sum

/-- The sum of F_a over the configured axes. -/
def State.recordBytes (s : State) : Nat := ((s.confAxes).map (fun a => s.featureCount a)).sum

/-- Tokens of planned grants of the tenants of a set in FCLK cycle `c` of the frame. -/
def State.planAt (s : State) (p : Nat → Bool) (tsf c : Nat) : Nat :=
  ((s.field.grants.filter (fun g => p g.tenant
    && (let x := if g.rep then c % tsf else c; decide (g.start ≤ x) && decide (x < g.start + g.len)))).map (fun g => g.tokens)).sum

/-- The FCLK cycles of the frame at which a planned grant begins. -/
def State.planStarts (s : State) (tsf : Nat) : List Nat :=
  s.field.grants.flatMap (fun g => if g.rep then (List.range s.K).map (fun p => p * tsf + g.start) else [g.start])

/-- The largest planned token sum over the frame of the tenants of a set (R41). -/
def State.planPeak (s : State) (p : Nat → Bool) (tsf : Nat) : Nat :=
  ((s.planStarts tsf).map (fun c => s.planAt p tsf c)).foldl max 0

/-- TS_FCLK. -/
def State.tsFclk (s : State) : Nat := s.fld F.PCR_SCHED_TS_LCLK * 8 / 5

/-- The class S checkers of Table SAF-9. -/
def classS : List Nat := [7, 8, 9, 10, 11, 12, 13]

/-- The largest cyclic gap in frames between list entries of checker `c` (R281). -/
def rotGap (l : List Nat) (c : Nat) : Nat :=
  let at_ := (List.range l.length).filter (fun i => l.getD i 99 == c)
  ((List.range at_.length).map (fun j =>
    let x := at_.getD j 0
    let y := if j + 1 < at_.length then at_.getD (j + 1) 0 else at_.getD 0 0 + l.length
    y - x)).foldl max 0

/-- SAF_COND.ROT_S_GAP and ROT_S_OK (R281). -/
def rotCond (s : State) : State :=
  let g := (classS.map (rotGap s.ldr.rotList)).foldl max 0
  let ms := (g * s.K * s.fld F.PCR_SCHED_TS_LCLK + 399999) / 400000
  (s.setFld F.SAF_COND_ROT_S_GAP (min ms 255)).setFlag F.SAF_COND_ROT_S_OK (decide (ms ≤ 500))

/-! ## Configuration -/

/-- The tables of a full image. -/
def loadTables (m : Img) (s : State) : State :=
  let ent (rid : Nat) : List (List Byte) := (m.tab rid).map (fun e => e.2)
  let s := s.modField (fun _ => {
    sched := (ent 0x0101).map decSched, grants := (ent 0x0201).map decGrant,
    fallow := (ent 0x0102).map (fun e => leAt e 0 1), layers := (ent 0x0701).map decLayer, luts := ent 0x0702,
    spills := (ent 0x0104).map decSpill, vecs := (ent 0x0A01).map decVec, init := ent 0x0105 })
  let s := loadSigs (fun _ => true) m (loadCuts m s)
  let s := putWords (R.FLD_SLOT 0) (wordsOf (ent 0x0103).flatten) s
  let s := s.each (ent 0x0C01) (fun s e => loadQueue e s)
  let s := s.modLdr (fun l => { l with rotList := (ent 0x0D01).map (fun e => leAt e 0 1), slices := (ent 0x0D02).map decSlice })
  let s := s.modLink (fun k => { k with tiles := (ent 0x1002).map decTile })
  { s with routes := (ent 0x0B01).map decRoute }

/-- PART's payload. -/
def Img.part (m : Img) : List Byte := ((m.find 0x01 7).map (fun x => x.pay)).getD []

/-- The fields the loader computes from header, PART and tables. -/
def loadDerived (m : Img) (s : State) : State :=
  let s := ((s.setFlag F.FLD_CTRL_EN true).setFld F.FLD_CTRL_PLOTS_USED (leAt m.part 4 1)).setFld F.FLD_FALLOW_N_LIST s.field.fallow.length
  let s := s.setFld F.FLD_PRG_STAT_F ((s.recordBytes + 15) / 16 * 16)
  let s := s.setFld F.ROT_CTRL_N_ROT s.ldr.rotList.length
  let s := s.each (List.range 5) (fun s t =>
    s.setFld (F.TRN_SUB_PLAN_PEAK t) (s.planPeak (· == t) s.tsFclk))
  rotCond (s.each allAxes (fun s a => if m.hdr.axes.testBit a.val then loadAxis m a s else s))

/-- Everything a full image configures but the memories: over the fields of no image (R9, R34). -/
def configure (m : Img) (s : State) : State :=
  let h := m.hdr
  let s := loadRegsets (fun _ => true) m (clearImg (fun _ => true) s)
  let s := (s.setFlag F.PCR_SCHED_MODE_EXACT (h.mode.testBit 0)).setFld F.PCR_SCHED_K h.k
  let s := (s.setFld F.PCR_SCHED_TS_LCLK h.ts).setFld F.PCR_IMG_VER_IMG_VER h.imgVer
  let s := s.modLdr (fun l => { l with
    applied := true, hdr := h, axes := h.axes, twin := h.mode.testBit 1, image := m.bytes,
    live := (m.recs.filter (fun x => x.2.typ == 2)).flatMap (fun x => x.2.lives x.1.tid), pend := [] })
  loadDerived m (loadTables m s)

/-- The host address lies in the window of axis `a`'s own registers. -/
def inAxis (a k : Nat) : Bool := decide (axisBase a ≤ k) && decide (k < axisBase a + 0x14000)

/-- What a tenant reload configures of image `m`, the running image with the tenant's sections replaced (R46, R208). -/
def configureTenant (a : Fin 4) (m : Img) (s : State) : State :=
  let csets := (List.range 32).filter (fun c => s.flag (F.FLD_CSET_CTRL_VALID c) && s.fld (F.FLD_CSET_CTRL_TENANT c) == a.val)
  let s := s.each csets (fun s c => s.setReg (R.FLD_CSET_CTRL c) 0)
  let s := loadRegsets (fun x => x.tenant && x.tid == a.val) m (clearImg (inAxis a) s)
  let s := s.modField (fun f => { f with
    vecs := (m.tab 0x0A01).map (fun e => decVec e.2), csetChk := f.csetChk.filter (fun c => !csets.contains c) })
  let s := loadAxis m a (loadSigs (· == a.val) m (loadCuts m s))
  s.modLdr (fun l => { l with
    image := m.bytes,
    live := l.live.filter (fun d => d.tenant != a.val)
      ++ (m.recs.filter (fun x => x.2.typ == 2 && x.1.tenant && x.1.tid == a.val)).flatMap (fun x => x.2.lives a.val),
    pend := l.pend.filter (fun d => !inAxis a d.addr) })

/-! ## Memories -/

/-- The BLOB records of a set of sections: section, destination, data. -/
def Img.blobs (m : Img) : List (Sect × Nat × List Byte) :=
  (m.recs.filter (fun x => x.2.typ == 3)).map (fun x => (x.1, x.2.blob))

/-- A destination in the granary window. -/
def granOff (k : Nat) : Option Nat := if 0x01000000 ≤ k ∧ k < 0x01800000 then some (k - 0x01000000) else none

/-- A destination in the plot-store window: logical plot and store offset. -/
def plotOff (k : Nat) : Option (Nat × Nat) :=
  if 0x02000000 ≤ k ∧ k < 0x02400000 then some ((k - 0x02000000) / 0x40000, (k - 0x02000000) % 0x40000) else none

/-- A destination in the silo window. -/
def siloOff (k : Nat) : Option Nat := if 0x10000000 ≤ k ∧ k < 0x20000000 then some (k - 0x10000000) else none

/-- Writes the granary and silo data of a set of sections. -/
def placeBlobs (p : Sect → Nat → Bool) (m : Img) (s : State) : State :=
  s.each m.blobs (fun s x =>
    if !p x.1 x.2.1 then s
    else match granOff x.2.1, siloOff x.2.1 with
      | some o, _ => granWrite o x.2.2 s
      | _, some o => siloWrite o x.2.2 s
      | none, none => s)

/-- The networks that a logical plot runs. -/
def State.netsOn (s : State) (l : Nat) : List Nat :=
  ((s.field.sched.filter (fun e => e.plot == l && (e.op == 1 || e.op == 2))).map (fun e => e.net)).eraseDups

/-- Network `n` has a layer whose STORE operands begin in the `len` bytes at store offset `o`. -/
def State.readsStock (s : State) (n o len : Nat) : Bool :=
  s.field.layers.any (fun l => l.net == n && !l.granary && decide (o ≤ l.opAddr) && decide (l.opAddr < o + len))

/-- The logical plots that `len` bytes placed at store offset `o` of plot `l` are copied to: `l`, and for a STOCK section
every other plot that runs a network with operands in them ("Capacity", chapter 10). -/
def State.copyPlots (s : State) (x : Sect) (l o len : Nat) : List Nat :=
  if x.typ = 0x08 then
    (List.range 16).filter (fun p => p == l || (s.netsOn p).any (fun n => s.readsStock n o len))
  else [l]

/-- Fills the plot stores with the image's plot-store data (Table PWR-4 step 11). -/
def fillPlots (p : Sect → Bool) (m : Img) (s : State) : State :=
  s.each m.blobs (fun s x =>
    if !p x.1 then s
    else match plotOff x.2.1 with
      | some (l, o) => s.each (s.copyPlots x.1 l o x.2.2.length) (fun s q => plotWrite q o x.2.2 s)
      | none => s)

/-- The granary bytes of a section's BLOB that lie outside banks 0 to 3. -/
def outside (k n : Nat) : Nat :=
  match granOff k with
  | none => 0
  | some o => min n (o + n - min (o + n) 0x200000)

/-- The granary bytes of an image that lie in banks 0 to 3. -/
def Img.inside (m : Img) : Nat :=
  (m.blobs.map (fun x => if (granOff x.2.1).isSome then x.2.2.length - outside x.2.1 x.2.2.length else 0)).sum

/-- The RETAIN sections' data outside banks 0 to 3, in image order, with whether the room left in the retention region
takes each BLOB. -/
def retained : Nat → List (Sect × Nat × List Byte) → List (Nat × List Byte × Bool)
  | _, [] => []
  | room, x :: r =>
    let n := outside x.2.1 x.2.2.length
    if x.1.retain && decide (0 < n) then
      if n ≤ room then (x.2.1, x.2.2, true) :: retained (room - n) r
      else (x.2.1, x.2.2, false) :: retained room r
    else retained room r

/-- The RETAIN data of an image. -/
def Img.retained (m : Img) : List (Nat × List Byte × Bool) := Machine.retained (0x200000 - min 0x200000 m.inside) m.blobs

/-- B_restore (chapter 03, "Sleep and wake"): granary bytes outside the retention region, RETAIN data that did not fit in
it, and SILOREF data of sections without RETAIN. -/
def Img.restoreBytes (m : Img) : Nat :=
  let plain := (m.blobs.map (fun x => if x.1.retain then 0 else outside x.2.1 x.2.2.length)).sum
  let kept := (m.retained.map (fun x => if x.2.2 then 0 else outside x.1 x.2.1.length)).sum
  let refs := ((m.recs.filter (fun x => x.2.typ == 5 && !x.1.retain)).map (fun x => leAt x.2.body 4 4)).sum
  plain + kept + refs

/-- Writes the part of a BLOB that lies outside banks 0 to 3. -/
def refill (k : Nat) (bs : List Byte) (s : State) : State :=
  match granOff k with
  | none => s
  | some o => let d := 0x200000 - min 0x200000 o; granWrite (o + d) (bs.drop d) s

/-- The wake restore: every granary byte of the image outside the retention region is as in the image. -/
def restoreGran (m : Img) (s : State) : State :=
  let s := s.each (m.blobs.filter (fun x => !x.1.retain)) (fun s x => refill x.2.1 x.2.2 s)
  s.each (m.retained.filter (fun x => !x.2.2)) (fun s x => refill x.1 x.2.1 s)

/-- The retention region's copies of RETAIN data go back to banks 4 to 15. -/
def refillRetained (m : Img) (s : State) : State :=
  s.each (m.retained.filter (fun x => x.2.2)) (fun s x => refill x.1 x.2.1 s)

end Sys2Proof.Machine
end

