-- ==== Sys2Proof/Machine/Checks.lean ====
section
/-! DEFINITION. The loader's verdict, stages 1 to 3 and 5 of Table IMG-6 (R29 to R33, R45): what fails, where, and which
failing condition is the first. -/

namespace Sys2Proof.Machine

/-- A failing condition: its code, and its item as section index (none for the header) and image byte offset; no item
where the manual names none. -/
structure Finding where
  code : Nat
  item : Option (Option Nat × Nat)
  deriving DecidableEq, Repr

/-- A failing header field. -/
def hdrAt (off code : Nat) : Finding := ⟨code, some (none, off)⟩

/-- A failing section. -/
def sectAt (x : Sect) (code : Nat) : Finding := ⟨code, some (some x.idx, x.off)⟩

/-- A failing record. -/
def recAt (x : Sect × ImgRec) (code : Nat) : Finding := ⟨code, some (some x.1.idx, x.2.off)⟩

/-- A failing entry of table `rid`, of tenant `tid`: the table's record. -/
def tabAt (m : Img) (rid tid code : Nat) : Finding :=
  match (m.tables rid).find? (fun x => x.1.tid == tid) with
  | some x => recAt x code
  | none => ⟨code, none⟩

/-- A failing register field: the last REGSET record that names register `k`. -/
def regAt (m : Img) (k code : Nat) : Finding :=
  match (m.recs.filter (fun x => x.2.typ == 1 && x.2.pairs.any (fun p => p.1 == k))).getLast? with
  | some x => recAt x code
  | none => ⟨code, none⟩

/-- The findings of a condition. -/
def failIf (b : Bool) (f : Finding) : List Finding := if b then [f] else []

/-- The order of items within one code: the header first, then section by section, by offset. -/
def itemKey (i : Option Nat × Nat) : Nat := (i.1.map (fun n => n + 1)).getD 0 * 2 ^ 32 + i.2

/-- The first failing condition of a stage (R33): the least code, and its first item; the item is open if one of the
findings of that code names none. -/
def firstFinding (l : List Finding) : Option Finding :=
  match l with
  | [] => none
  | f :: r =>
    let code := r.foldl (fun c x => min c x.code) f.code
    let same := (f :: r).filter (fun x => x.code == code)
    let items := same.filterMap (fun x => x.item)
    if same.any (fun x => x.item.isNone) then some ⟨code, none⟩
    else some ⟨code, items.foldl (fun b i => match b with
      | none => some i
      | some j => if itemKey i < itemKey j then some i else some j) none⟩

/-! ## Stage 1 -/

/-- The part's bit of PART_MASK. -/
def partBit (partno : Nat) : Nat := if partno = 0x4816 then 0 else if partno = 0x4812 then 1 else 2

/-- The reserved bytes and bits of the header: offset, size, and mask. -/
def hdrReserved : List (Nat × Nat × Nat) :=
  [(0x0C, 2, 0xFFF8), (0x0E, 2, 0xFFFC), (0x16, 1, 0xF8), (0x17, 1, 0xF0), (0x1D, 3, 2 ^ 24 - 1), (0x46, 2, 0xFFFF),
   (0x4C, 4, 2 ^ 32 - 1), (0x94, 104, 2 ^ 832 - 1)]

/-- Stage 1 over the header bytes; `room` is what the silo window leaves from PCR_IMG_SRC on, none for a host load. -/
def stage1 (partno : Nat) (room : Option Nat) (bs : List Byte) : List Finding :=
  let h := parseHdr bs
  let size := imgSize bs
  let conf (a : Nat) : Bool := h.axes.testBit a
  failIf (leAt bs 0 4 != 0x54534443) (hdrAt 0x00 0x01)
  ++ failIf (crc32c (bs.take 0xFC) != leAt bs 0xFC 4) (hdrAt 0xFC 0x02)
  ++ failIf (h.fmtVer != 1) (hdrAt 0x04 0x03) ++ failIf (leAt bs 6 2 != 0x100) (hdrAt 0x06 0x03)
  ++ failIf (!(leAt bs 0x0C 2).testBit (partBit partno)) (hdrAt 0x0C 0x04)
  ++ failIf (!(leAt bs 0x0E 2).testBit 1) (hdrAt 0x0E 0x05)
  ++ failIf (decide (size < 0x100) || decide (0x04000000 < size) || room.any (fun r => decide (r < size))) (hdrAt 0x10 0x06)
  ++ hdrReserved.flatMap (fun x => failIf ((leAt bs x.1 x.2.1 &&& x.2.2) != 0) (hdrAt x.1 0x07))
  ++ failIf (h.k == 0 || decide (100 < h.k)) (hdrAt 0x1C 0x07)
  ++ failIf (leAt bs 0x14 2 == 0 || decide (256 < leAt bs 0x14 2)) (hdrAt 0x14 0x07)
  ++ (List.range 4).flatMap (fun a =>
      failIf (!conf a && h.cObs.getD a 0 != 0) (hdrAt (0x20 + 4 * a) 0x07)
      ++ failIf (!conf a && h.cLoop.getD a 0 != 0) (hdrAt (0x30 + 4 * a) 0x07))

/-! ## Stage 2 -/

/-- The section types of Table IMG-3. -/
def sectTypes : List Nat := [1, 2, 3, 4, 5, 6, 7, 8, 9, 0xA, 0xB, 0xC, 0xD, 0xE, 0xF, 0x10, 0x11, 0xFF]

/-- The section types that allow TENANT. -/
def tenantTypes : List Nat := [2, 3, 4, 5, 9, 0xA]

/-- TYPE and FLAGS of a section are in order (code 0x11). -/
def Sect.typeOk (x : Sect) : Bool :=
  sectTypes.contains x.typ && (x.flags &&& 0xFF88) == 0
  && (if x.tenant then tenantTypes.contains x.typ && decide (x.tid < 4) else x.tid == 7)

/-- Where a section stands in the order of R30. -/
def Sect.key (x : Sect) : Nat := 8 * x.typ + x.tid

/-- The order of R30 is broken at section `x` after `p`. -/
def orderBad : Option Sect → List Sect → List Sect
  | _, [] => []
  | none, x :: r => (if x.typ = 1 then [] else [x]) ++ orderBad (some x) r
  | some p, x :: r => (if x.typ = 1 ∨ p.typ = 0xFF ∨ x.key ≤ p.key then [x] else []) ++ orderBad (some x) r

/-- The sections an image must hold: of a full image, and of a tenant image for axis `t`. -/
def required (axes target : Nat) : List (Nat × Nat) :=
  let own (t : Nat) : List (Nat × Nat) := tenantTypes.map (fun y => (y, t))
  if target = 7 then
    [1, 6, 7, 8, 0xA, 0xB, 0xC, 0xD, 0xE, 0xF, 0x11].map (fun y => (y, 7)) ++ (setBits 4 axes).flatMap own
  else (1, 7) :: own target

/-- A register address lies in the windows Table IMG-3 gives a section. -/
def secWin (typ tid k : Nat) : Bool :=
  let within (lo hi : Nat) : Bool := decide (lo ≤ k) && decide (k < hi)
  let axis (a lo : Nat) : Bool := within (axisBase a + lo) (axisBase a + lo + 0x4000)
  match typ with
  | 0x02 => axis tid 0
  | 0x03 => axis tid 0x4000
  | 0x04 => axis tid 0x8000
  | 0x05 => axis tid 0xC000
  | 0x06 => within 0x200000 0x211000
  | 0x07 => within 0x200000 0x211000 || (List.range 4).any (fun a => axis a 0x10000)
  | 0x0A => within 0x340000 0x340400 || within 0x340600 0x380000
  | 0x0B => within 0x384000 0x388000
  | 0x0C => within 0x380000 0x384000
  | 0x0D => within 0x340000 0x380000
  | 0x0E => within 0x10000 0x20000
  | 0x0F => within 0x20400 0x20500
  | 0x10 => within 0x3C0000 0x3E0000
  | 0x11 => (List.range 4).any (fun a => axis a 0x14000)
  | _ => false

/-- `n` bytes from `k` lie in the memory windows Table IMG-3 gives a section, within one window and one plot store. -/
def blobWin (typ k n : Nat) : Bool :=
  let gran := inGranWin k n
  let plot := decide (0x2000000 ≤ k) && decide (k % 0x40000 + n ≤ 0x40000) && decide (k < 0x2400000)
  let silo := decide (0x10000000 ≤ k) && decide (k + n ≤ 0x20000000)
  match typ with
  | 0x06 => gran || plot
  | 0x08 => gran || plot || silo
  | 0x09 => gran || plot || silo
  | 0x0A => gran
  | _ => false

/-- A silo address lies on a chip select without PSRAM (R194). -/
def State.onNor (s : State) (o : Nat) : Bool := !s.flag (F.FLD_SILO_CFG_PSRAM (o / 0x8000000))

/-- The addresses of a record are in order (code 0x15), with the silo configuration of `c`. -/
def addrOk (c : State) (x : Sect) (r : ImgRec) : Bool :=
  match r.typ with
  | 1 => r.pairs.all (fun p => secWin x.typ x.tid p.1 && imgMask (homeKey p.1) != 0 && word p.2 &&& ~~~imgMask (homeKey p.1) == 0)
  | 2 => (r.lives x.tid).all (fun d => secWin x.typ x.tid d.addr)
  | 3 => blobWin x.typ r.blob.1 r.blob.2.length && !(siloOff r.blob.1).any c.onNor
  | _ => true

/-- The structural conditions of stage 2 over a loaded image; `c` is the state it would configure. -/
def stage2 (c : State) (silo : SMap Byte) (target : Nat) (m : Img) : List Finding :=
  let have_ := m.sects.map (fun x => (x.typ, x.tid))
  m.sects.flatMap (fun x => failIf (crc32c x.body != x.crc) (sectAt x 0x10) ++ failIf (!x.typeOk) (sectAt x 0x11))
  ++ (orderBad none m.sects).map (fun x => sectAt x 0x12)
  ++ failIf (!(required m.hdr.axes target).all (fun q => have_.contains q)) ⟨0x12, none⟩
  ++ m.sects.flatMap (fun x => failIf (x.pay.length % 4 != 0) (sectAt x 0x13)
      ++ (match x.bad with | some o => [⟨0x14, some (some x.idx, o)⟩] | none => []))
  ++ (match m.stop with
      | some (.long i o) => [⟨0x13, some (some i, o)⟩]
      | some .count => [hdrAt 0x14 0x16]
      | none => [])
  ++ m.recs.flatMap (fun x => failIf (!addrOk c x.1 x.2) (recAt x 0x15)
      ++ failIf (x.2.typ == 5 && (decide (0x10000000 < leAt x.2.body 0 4 + leAt x.2.body 4 4)
          || crc32c (memRead silo (leAt x.2.body 0 4) (leAt x.2.body 4 4)) != leAt x.2.body 8 4)) (recAt x 0x17))
  ++ (m.tables 0x1002).flatMap (fun x =>
      failIf ((x.2.entries.map decTile).any (fun t => c.onNor t.silo)) (recAt x 0x15))

/-! ## Stage 3 -/

/-- The bytes the digest covers (R31). -/
def Img.hashed (m : Img) : List Byte :=
  let n := ((m.find 0xFF 7).map (fun x => x.off)).getD m.bytes.length
  let z (k : Nat) : List Byte := List.replicate k 0#8
  let b := m.bytes.take n
  b.take 0x70 ++ z 0x20 ++ (b.take 0xFC).drop 0x90 ++ z 4 ++ b.drop 0x100

/-- The digest of an image, as eight big-endian words. -/
def Img.digest (m : Img) : List Nat := sha256 m.hashed

/-- The image carries a SIGN section. -/
def Img.signs (m : Img) : Bool := (m.find 0xFF 7).isSome

/-- Stage 3 (R31, R32). -/
def stage3 (f : Fuses) (m : Img) : List Finding :=
  let hash := ofBytesBE ((m.bytes.drop 0x70).take 0x20)
  let off := leAt m.bytes 0x90 4
  failIf (ofWordsBE m.digest != hash) (hdrAt 0x70 0x20)
  ++ (match m.find 0xFF 7 with
      | none => failIf f.authReq (hdrAt 0x90 0x21) ++ failIf (off != 0) (hdrAt 0x90 0x24)
      | some x =>
        let be (o : Nat) : Nat := ofBytesBE ((x.pay.drop o).take 32)
        failIf (ofWordsBE (sha256 (x.pay.take 64)) != f.keyHash) (sectAt x 0x22)
        ++ failIf (!ecdsaVerify (be 0, be 32) hash (be 64) (be 96)) (sectAt x 0x23)
        ++ failIf (off != x.off) (hdrAt 0x90 0x24))

/-! ## Tenant images -/

/-- The running image with the tenant's sections replaced by those of a tenant image `t` for axis `a`. -/
def mergeImg (a : Nat) (run t : Img) : Img :=
  let mine (x : Sect) : Bool := x.tenant && x.tid == a
  let secs := (run.sects.filter (fun x => !mine x && x.typ != 0xFF) ++ t.sects.filter mine).mergeSort
    (fun x y => decide (x.key ≤ y.key))
  let body := secs.flatMap (fun x => x.body ++ leBytes 4 x.crc)
  let h := run.bytes.take 0x10 ++ leBytes 4 (0x100 + body.length) ++ leBytes 2 secs.length ++ (run.bytes.take 0x100).drop 0x16
  parseImg (h ++ body)

/-- A finding in a merged image, as an item of the tenant image: none where that image does not hold it. -/
def Finding.inTenant (merged t : Img) (f : Finding) : Finding :=
  match f.item with
  | some (some i, o) =>
    match merged.sects[i]? with
    | some x =>
      match (if x.tenant then t.find x.typ x.tid else none) with
      | some y => { f with item := some (some y.idx, y.off + (o - x.off)) }
      | none => { f with item := none }
    | none => { f with item := none }
  | _ => f

/-- The chip-wide header fields a tenant image must repeat, by offset and size (R45). -/
def chipFields : List (Nat × Nat) := [(0x04, 2), (0x16, 1), (0x17, 1), (0x18, 4), (0x1C, 1), (0x40, 4), (0x44, 2), (0x48, 4), (0x50, 32)]

/-- Stage 5: a reload of tenant `a` (R45); `held` says that a running image has the tenant in reset. -/
def stage5 (a : Nat) (held : Bool) (run t : Img) : List Finding :=
  let same (o n : Nat) : Bool := leAt run.bytes o n == leAt t.bytes o n
  failIf (!held) ⟨0x40, none⟩
  ++ (t.sects.filter (fun x => x.typ != 1 && x.typ != 0xFF && !(x.tenant && x.tid == a))).map (fun x => sectAt x 0x41)
  ++ chipFields.flatMap (fun f => failIf (!same f.1 f.2) (hdrAt f.1 0x42))
  ++ failIf (!same (0x20 + 4 * a) 4) (hdrAt (0x20 + 4 * a) 0x43)
  ++ failIf (!same (0x30 + 4 * a) 4) (hdrAt (0x30 + 4 * a) 0x43)

end Sys2Proof.Machine
end

