-- ==== Sys2Proof/Machine/Rules.lean ====
section
/-! DEFINITION. The chapters' own conditions on an image (code RECORD of stage 2, and stage 4 of Table IMG-6), judged on the
image and on the state `c` it would configure.  A condition over table entries fails at the table's record, one over a
register field at the REGSET record that sets it. -/

namespace Sys2Proof.Machine

/-! ## Graphs (R163, R220, R162) -/

/-- Per block code of Table LPE-1 from 0x01 on: cost, outputs, bank words, state words. Table LPE-1 gives no number for
the state words of OBSCLAMP and SEQ: none is counted here (DESIGN CHOICE, log 26). -/
def blockTable : List (Nat × Nat × Nat × Nat) :=
  [(4, 2, 0, 0), (8, 2, 0, 0), (8, 2, 0, 0), (8, 1, 4, 2), (8, 1, 5, 2), (3, 1, 2, 1), (4, 1, 2, 2), (10, 2, 0, 1),
   (18, 3, 1, 1), (12, 1, 4, 2), (20, 0, 0, 0), (16, 8, 0, 0), (20, 2, 0, 0), (6, 2, 0, 0), (3, 1, 2, 0)]

/-- The row of a block code. -/
def blockRow (typ : Nat) : Option (Nat × Nat × Nat × Nat) := if typ = 0 then none else blockTable[typ - 1]?

/-- The graph of axis `a`. -/
def State.graph (c : State) (a : Fin 4) : List GraphEntry :=
  (List.range (min 128 (c.fld (F.LPE_CTRL_N_BLK a)))).map (fun b => c.graphEntry a b)

/-- Ranges of words, as start and length, lie below 256 and do not overlap. -/
def rangesOk (l : List (Nat × Nat)) : Bool :=
  let l := l.filter (fun x => x.2 != 0)
  l.all (fun x => decide (x.1 + x.2 ≤ 256)) && decide (l.Pairwise (fun x y => x.1 + x.2 ≤ y.1 ∨ y.1 + y.2 ≤ x.1))

/-- R163 over `n` entries. -/
def graphOk (n : Nat) (g : List GraphEntry) : Bool :=
  let row (e : GraphEntry) : Nat × Nat × Nat × Nat := (blockRow e.typ).getD (0, 0, 0, 0)
  let one (t : Nat) : Bool := (g.filter (fun e => e.typ == t)).length == 1
  let outs := g.map (fun e => (e.out, (row e).2.1))
  let isOut (k : Nat) : Bool := outs.any (fun x => decide (x.1 ≤ k) && decide (k < x.1 + x.2))
  decide (1 ≤ n) && decide (n ≤ 128) && g.all (fun e => (blockRow e.typ).isSome)
  && one 8 && one 9 && one 0xD && one 0xB && (g.getLast?).any (fun e => e.typ == 0xB)
  && g.all (fun e => e.ins.all (fun k => k == 0xFF || decide (k < 0x40) || isOut k))
  && rangesOk outs && rangesOk (g.map (fun e => (e.coef, (row e).2.2.1))) && rangesOk (g.map (fun e => (e.st, (row e).2.2.2)))
  && g.all (fun e => !(e.typ == 9 || e.typ == 0xA) || e.lim != 0)

/-- R220 over a graph. -/
def clampOk (g : List GraphEntry) : Bool :=
  match g.filter (fun e => e.typ == 0xC), g.find? (fun e => e.typ == 8) with
  | [oc], some es =>
    decide (g.idxOf oc < g.idxOf es) && es.ins.getD 0 0 == oc.out && es.ins.getD 1 0 == oc.out + 1
    && g.all (fun e => e.typ == 0xC || !e.ins.any (fun k => decide (8 ≤ k) && decide (k < 16)))
  | _, _ => false

/-- C_LOOP by R162. -/
def graphCost (g : List GraphEntry) : Nat := 8 + (g.map (fun e => ((blockRow e.typ).getD (0, 0, 0, 0)).1)).sum

/-! ## Constants (R147, R221) -/

/-- A positive finite number. -/
def fpPos (w : Word) : Bool := fpIsFinite w && fpLt 0 w

/-- A number in (0, 1]. -/
def fpUnit (w : Word) : Bool := fpLt 0 w && fpLe w fpOne

/-- The registers of axis `a` that break R147. -/
def State.badHdl (c : State) (a : Fin 4) : List Nat :=
  let bad (p : Word → Bool) (l : List Nat) : List Nat := l.filter (fun k => !p (c.reg k))
  bad fpPos [R.HDL_R a, R.HDL_L a, R.HDL_ILSB a, R.HDL_VLSB a, R.HDL_E_MIN a]
  ++ (if c.fld (F.HDL_CONV_CONV_N a) = 0 then [R.HDL_CONV a] else [])
  ++ bad fpUnit [R.HDL_EMF_LPF a, R.HDL_HFI_LPF a]
  ++ bad fpIsFinite [R.HDL_KP_EMF a, R.HDL_KI_EMF a, R.HDL_KP_HFI a, R.HDL_KI_HFI a, R.HDL_HFI_GAIN a]

/-- An input source of Table OBS-1. -/
def obsSrcOk (n : Nat) : Bool := decide (n < 8) || (decide (0x10 ≤ n) && decide (n < 0x18)) || n == 0x1F

/-- The registers of axis `a` that break R221. -/
def State.badObs (c : State) (a : Fin 4) : List Nat :=
  let bad (p : Word → Bool) (l : List Nat) : List Nat := l.filter (fun k => !p (c.reg k))
  let n := min 32 (c.fld (F.OBS_CTRL_N_IN a))
  let lo := fpNeg (fpOfNat 50)
  let hi := fpOfNat 250
  bad fpIsFinite ((List.range 8).flatMap (fun j => [R.OBS_SCALE a j, R.OBS_OFFSET a j])
    ++ (List.range n).map (fun e => R.OBS_GAIN a e))
  ++ bad (fun w => fpLt 0 w) ([R.OBS_WMAX a, R.OBS_TMAX a] ++ (List.range 3).map (fun k => R.OBS_TRATE a k))
  ++ bad (fun w => fpLt 0 w && fpLt w fpOne) [R.OBS_NMIN a]
  ++ ((List.range 3).filter (fun k => !(fpLe lo (c.reg (R.OBS_TLO a k)) && fpLe (c.reg (R.OBS_THI a k)) hi
        && fpLt (c.reg (R.OBS_TLO a k)) (c.reg (R.OBS_THI a k))))).map (fun k => R.OBS_TLO a k)
  ++ ((List.range n).filter (fun e => !obsSrcOk (c.fld (F.OBS_IN_SRC a e)))).map (fun e => R.OBS_IN a e)
  ++ (if 16383 < c.stepMax a then [R.OBS_WMAX a] else [])

/-! ## Layers and cuttings (R179, R201) -/

/-- A schedule entry runs a network on a fixed plot. -/
def State.onFixed (c : State) (e : SchedEntry) : Bool :=
  (e.op == 1 || e.op == 2) && decide (e.plot < 16) && !c.field.fallow.contains e.plot

/-- A schedule entry runs a network on a lane. -/
def onLane (e : SchedEntry) : Bool := (e.op == 1 || e.op == 2) && decide (0x80 ≤ e.plot)

/-- R179 and the layer conditions of R201, with the layer's descriptor bytes. -/
def State.layerOk (c : State) (raw : List Byte) (l : Layer) : Bool :=
  let r := rankR l.rank
  let act (x w : Nat) : Bool := decide (16 * x + l.batch * vecBytes w l.elem ≤ 0x8000)
  let es := c.field.sched.filter (fun e => e.net == l.net)
  (l.op == 1 || l.op == 2) && (l.act &&& 0x60) == 0 && (l.src &&& 0x0C) == 0 && (l.granary || decide (l.src < 16))
  && decide (1 ≤ l.inW) && decide (l.inW ≤ 4096) && decide (1 ≤ l.outW) && decide (l.outW ≤ 4096)
  && decide (1 ≤ l.batch) && decide (l.batch ≤ 64) && decide (l.rank ≤ 5) && leAt raw 26 6 == 0
  && !(l.act.testBit 7 && es.any (fun e => c.onFixed e)) && !(!l.granary && es.any onLane)
  && (l.granary || decide (l.opAddr + l.stockBytes ≤ actBase)) && act l.xin l.inW && act l.xout l.outW
  && !(l.rank != 0 && l.flat) && decide (r * (16 * l.tiles) ≤ 2048) && !(l.wide && l.rank != 0)

/-- OPBYTES of layer `k` of its network against its stock part and its cuttings (R201). -/
def State.opBytesOk (c : State) (k : Nat) (l : Layer) : Bool :=
  let cs := c.field.cuts.filter (fun e => e.net == l.net && e.layer == k && !e.kind.testBit 2)
  if cs.isEmpty then l.opBytes == l.stockBytes else cs.all (fun e => l.opBytes == l.stockBytes + e.bytes)

/-- Two byte ranges, as start and length, share a byte. -/
def clash (x y : Nat × Nat) : Bool := decide (x.1 < y.1 + y.2) && decide (y.1 < x.1 + x.2)

/-- The operand ranges of layer `k` of network `n`: its stock and every copy of its cuttings that plot `p` holds (none: the
granary). -/
def State.operands (c : State) (p : Option Nat) (n k : Nat) (l : Layer) : List (Nat × Nat) :=
  (l.opAddr, l.stockBytes) :: (c.field.cuts.filter (fun e => e.net == n && e.layer == k
    && p.all (fun q => c.netPlot e.tenant n == q))).flatMap (fun e => [(e.addr, e.bytes), (e.alt, e.bytes)])

/-- The copies of cutting-table entry `e` of layer `l` (R201): apart from each other and from other layers' operands, within
the OPA or the bank that SRC names. -/
def State.copiesOk (c : State) (e : CutEntry) (l : Layer) : Bool :=
  let a := (e.addr, e.bytes)
  let b := (e.alt, e.bytes)
  let bank := bitsOf l.src 4 4
  let inside (x : Nat × Nat) : Bool :=
    if l.granary then decide (0x80000 * bank ≤ x.1) && decide (x.1 + x.2 ≤ 0x80000 * (bank + 1)) else decide (x.1 + x.2 ≤ actBase)
  let p := c.netPlot e.tenant e.net
  let nets := if l.granary then (c.field.layers.map (fun y => y.net)).eraseDups else c.netsOn p
  let others := nets.flatMap (fun n =>
    let ls := c.netLayers n
    ((List.range ls.length).zip ls).flatMap (fun y =>
      if (n == e.net && y.1 == e.layer) || y.2.granary != l.granary then []
      else c.operands (if l.granary then none else some p) n y.1 y.2))
  inside a && inside b && !clash a b && !others.any (fun y => clash a y || clash b y)

/-- STOCKADDR holds a stock part of the layer's shape in the STOCK section's data. -/
def stockHeld (m : Img) (e : CutEntry) (l : Layer) : Bool :=
  m.blobs.any (fun x => x.1.typ == 8 && (granOff x.2.1).any (fun o =>
    decide (o ≤ e.stock) && decide (e.stock + l.stockBytes ≤ o + x.2.2.length)))

/-- R201 over a cutting-table entry. -/
def State.cutOk (c : State) (m : Img) (e : CutEntry) : Bool :=
  match c.cutLayer e with
  | none => false
  | some l =>
    let d := e.kind.testBit 0
    let low := e.kind.testBit 1
    let flat := e.kind.testBit 2
    decide (e.kind < 8) && decide (e.cset < 32)
    && (if flat then e.addr == l.opAddr && e.bytes == l.opBytes && stockHeld m e l
        else !l.wide && !l.flat && low == (l.rank != 0))
    && !(l.flat && (d || low)) && cutSizeOk l e (c.cutBytes e false) && c.copiesOk e l

/-- One cutting set is in the tables of one tenant, and no (NET, LAYER) pair is twice in one table (R201). -/
def cutsOk (cs : List CutEntry) : Bool :=
  decide (cs.Pairwise (fun x y => (x.cset = y.cset → x.tenant = y.tenant)
    ∧ ¬(x.tenant = y.tenant ∧ x.net = y.net ∧ x.layer = y.layer)))

/-! ## Queues, routes and outputs (R309, R324, R375) -/

/-- R309 over queue `n`. -/
def State.queueOk (c : State) (n : Nat) : Bool :=
  let size := 32 * c.queDepth n
  let b := c.fld (F.QUE_BASE_BASE n)
  let reg := c.fld F.QUE_REGION_OFFSET
  let q := c.fld (F.QUE_CFG_RESPQ n)
  decide (2 ≤ c.fld (F.QUE_CFG_LOG2_DEPTH n)) && decide (c.fld (F.QUE_CFG_LOG2_DEPTH n) ≤ 10)
  && decide (reg ≤ b) && decide (b + size ≤ reg + 0x40000) && b % size == 0
  && (List.range 64).all (fun k => k == n || !c.flag (F.QUE_CFG_EN k)
      || !clash (b, size) (c.fld (F.QUE_BASE_BASE k), 32 * c.queDepth k))
  && (c.flag (F.QUE_CFG_ROLE n) || (c.queRole q true && c.queTenant q == c.queTenant n))

/-- R324 over a route. -/
def State.routeOk (c : State) (r : Route) : Bool :=
  !srcReserved r.src && !dstReserved r.dst
  && !(kindCode r.dst == 1 && !srcPayload r.src && r.cst.isNone)
  && !(kindCode r.dst == 2 && !c.queRole (r.dst - 0x80) true)

/-- The AUX_ registers that break R375; `tenants` is PART's TENANTS. -/
def State.badAux (c : State) (tenants : Nat) : List Nat :=
  let en (j : Nat) : Bool := c.flag (F.AUX_LSD_EN j)
  (List.range 4).flatMap (fun k =>
    let exceeds (j load : Nat) : Bool := en j && decide (c.fld (F.AUX_PAIR_BUDGET k) < load)
    if c.fld (F.AUX_PAIR_POLICY k) = 3 then [R.AUX_PAIR k]
    else if c.fld (F.AUX_PAIR_POLICY k) = 0
      ∧ (exceeds (2 * k) (c.fld (F.AUX_PAIR_ILOAD_EVEN k)) || exceeds (2 * k + 1) (c.fld (F.AUX_PAIR_ILOAD_ODD k))) then [R.AUX_PAIR k]
    else [])
  ++ ((List.range 8).filter (fun j => let o := c.fld (F.AUX_LSD_OWNER j)
      (en j && !(decide (o < 5) && tenants.testBit o)) || (o == 4 && c.flag (F.AUX_LSD_KILL_AXSTOP j)))).map (fun j => R.AUX_LSD j)

/-! ## Stage 2, the chapters' RECORD conditions -/

/-- The observer RUN entries of axis `a`. -/
def State.obsRuns (c : State) (a : Fin 4) : List SchedEntry :=
  c.field.sched.filter (fun e => e.op == 1 && e.tenant == a.val && decide (e.plot < 16))

/-- RECORD over one axis: R147, R163, R209, R220, R221, R309's verdict queue. -/
def axisRecords (m : Img) (c : State) (a : Fin 4) : List Finding :=
  let g := c.graph a
  let nets := ((c.obsRuns a).map (fun e => e.net)).eraseDups
  let shape (n : Nat) : Bool :=
    let ls := c.netLayers n
    (ls.getLast?).any (fun l => l.outW == 16) && (ls.head?).any (fun l => l.inW == c.fld (F.OBS_CTRL_N_IN a))
  (c.badHdl a).map (fun k => regAt m k 0x14)
  ++ failIf (!graphOk (((m.tab 0x0401).filter (fun e => e.1 == a.val)).length) g) (tabAt m 0x0401 a.val 0x14)
  ++ failIf (!clampOk g) (tabAt m 0x0401 a.val 0x14)
  ++ failIf (!nets.all shape) (tabAt m 0x0701 7 0x14)
  ++ (c.badObs a).map (fun k => regAt m k 0x14)
  ++ failIf (!c.queRole (c.fld (F.OBS_PRG_Q_QUEUE a)) true) (regAt m (R.OBS_PRG_Q a) 0x14)

/-- PRG is enabled. -/
def State.prgOn (c : State) : Bool := c.flag F.FLD_PRG_CFG_EN

/-- The record width of the window, padded. -/
def State.recordWidth (c : State) : Nat := (c.recordBytes + 15) / 16 * 16

/-- R223's RECORD conditions hold. -/
def State.prgOk (c : State) : Bool :=
  let w := c.fld F.FLD_PRG_CFG_W
  !c.prgOn || (decide (c.recordBytes ≤ 256) && decide (1 ≤ w) && decide (w ≤ 64)
    && ((c.netLayers (c.fld F.FLD_PRG_CFG_NET)).head?).any (fun l => l.inW == c.recordWidth && l.batch == w))

/-- The networks with test-plot entries. -/
def State.tpNets (c : State) : List Nat := ((c.field.sched.filter (fun e => e.op == 2)).map (fun e => e.net)).eraseDups

/-- R251's RECORD conditions: vectors match the test-plot entries in number (PRG runs on the golden window), and every
network with such entries has a signature. -/
def vectorsOk (m : Img) (c : State) : Bool :=
  let obs := c.tpNets.filter (fun n => c.field.sched.any (fun e => e.op == 2 && e.net == n && !e.prg))
  let sigs := (m.tab 0x0A02).map (fun e => leAt e.2 0 2)
  (obs ++ c.field.vecs.map (fun v => v.net)).all (fun n =>
    (c.field.vecs.filter (fun v => v.net == n)).length == (c.field.sched.filter (fun e => e.op == 2 && e.net == n && !e.prg)).length)
  && c.tpNets.all (fun n => sigs.contains n)

/-- R275 holds of a slice. -/
def State.sliceOk (c : State) (x : Slice) : Bool :=
  decide (16 ≤ x.len) && decide (x.len ≤ 640) && x.wins.all (fun w => w == 0xFFFFFFFF || decide (w < c.frameFclk))

/-- PART's own fields: reserved bytes 0, PLOTS_USED 1 to 16 (R29). -/
def partOk (p : List Byte) : Bool := leAt p 6 2 == 0 && decide (leAt p 5 1 < 32) && decide (1 ≤ leAt p 4 1) && decide (leAt p 4 1 ≤ 16)

/-- The chapters' RECORD conditions over an image and the state it would configure. -/
def recordRules (m : Img) (c : State) : List Finding :=
  let rl := c.ldr.rotList
  let ls := c.field.layers
  let conf := allAxes.filter (fun a => m.hdr.axes.testBit a.val)
  let idx (l : Layer) (i : Nat) : Nat := ((ls.take i).filter (fun y => y.net == l.net)).length
  let raws := (m.tab 0x0701).map (fun e => e.2)
  conf.flatMap (axisRecords m c)
  ++ failIf (!((List.range ls.length).zip ls).all (fun x => c.layerOk (raws.getD x.1 []) x.2 && c.opBytesOk (idx x.2 x.1) x.2))
      (tabAt m 0x0701 7 0x14)
  ++ (c.field.cuts.filter (fun e => !c.cutOk m e)).map (fun e => tabAt m 0x0901 e.tenant 0x14)
  ++ failIf (!cutsOk c.field.cuts) ⟨0x14, none⟩
  ++ failIf (!c.prgOk) (regAt m R.FLD_PRG_CFG 0x14)
  ++ failIf (!vectorsOk m c) ⟨0x14, none⟩
  ++ failIf (decide (rl.length < 24) || decide (64 < rl.length) || !(List.range 24).all (fun k => rl.contains k))
      (tabAt m 0x0D01 7 0x14)
  ++ failIf (!c.ldr.slices.all (fun x => c.sliceOk x)) (tabAt m 0x0D02 7 0x14)
  ++ failIf (c.fld F.QUE_REGION_OFFSET % 0x40000 != 0 || decide (0x200000 < c.fld F.QUE_REGION_OFFSET + 0x40000))
      (regAt m R.QUE_REGION 0x14)
  ++ failIf (!((List.range 64).filter (fun n => c.flag (F.QUE_CFG_EN n))).all (fun n => c.queueOk n)) (tabAt m 0x0C01 7 0x14)
  ++ failIf (decide (512 < c.routes.length) || !c.routes.all (fun r => c.routeOk r)) (tabAt m 0x0B01 7 0x14)
  ++ (c.badAux (leAt m.part 5 1)).map (fun k => regAt m k 0x14)

/-! ## Layer timing ("Layers and their cycle count") -/

/-- The owner code of slot `j` of bank `b`. -/
def State.slotOwner (c : State) (b j : Nat) : Nat := fieldGet (c.reg (R.FLD_SLOT (16 * b + j / 4))) (8 * (j % 4)) 8

/-- The slots of bank `b` that `owner` owns. -/
def State.ownSlots (c : State) (b owner : Nat) : List Nat := (List.range 64).filter (fun j => c.slotOwner b j == owner)

/-- The OPR owner code of a schedule entry. -/
def oprOwner (e : SchedEntry) : Nat := if 0x80 ≤ e.plot then 0x20 + (e.plot - 0x80) else 0x10 + e.plot

/-- Slots of a list in the first `n` cycles of a schedule period. -/
def slotsIn (own : List Nat) (n : Nat) : Nat := n / 64 * own.length + (own.filter (fun j => decide (j < n % 64))).length

/-- Slots of a list in the `n` cycles from frame cycle `k` on, schedule periods being `ts` cycles long. -/
def slotsFrom (own : List Nat) (ts k n : Nat) : Nat :=
  let upTo (x : Nat) : Nat := x / ts * slotsIn own ts + slotsIn own (x % ts)
  upTo (k + n) - upTo k

/-- w: the wait of a layer from its first cycle `k` to its first OPR slot. -/
def slotWait (own : List Nat) (ts k : Nat) : Nat :=
  ((List.range 128).find? (fun w => own.contains ((k + w) % ts % 64))).getD 0

/-- P, the cadence of a layer whose owner has `own` OPR slots in its bank. -/
def Layer.cadence (l : Layer) (own : List Nat) : Nat :=
  let t := max 1 (l.groups * l.tiles)
  let port := if l.granary then 64 / max 1 own.length * ((l.opBytes + 8 * t - 1) / (8 * t)) else (l.opBytes + 48 * t - 1) / (48 * t)
  max (max (l.batch * if l.wide then 4 else 1) port) (if l.flat then 0 else rankR l.rank)

/-- A timed layer: its descriptor and index, first cycle, w, P, and C_layer. -/
structure LayerTime where
  lay : Layer
  k   : Nat
  at_ : Nat
  w   : Nat
  p   : Nat
  len : Nat
  deriving DecidableEq, Repr

/-- The layers of a network from cycle `t` on, for OPR owner `owner`. -/
def State.timeLayers (c : State) (owner : Nat) : Nat → Nat → List Layer → List LayerTime
  | _, _, [] => []
  | k, t, l :: r =>
    let own := if l.granary then c.ownSlots (bitsOf l.src 4 4) owner else []
    let w := if l.granary then slotWait own (max 1 c.tsFclk) t else 0
    let p := l.cadence own
    let len := 8 + w + (l.groups * l.tiles + 1) * p
    ⟨l, k, t, w, p, len⟩ :: c.timeLayers owner (k + 1) (t + len) r

/-- The layers of a schedule entry's network, timed from its START. -/
def State.entryLayers (c : State) (e : SchedEntry) : List LayerTime :=
  c.timeLayers (oprOwner e) 0 (e.start + 8) (c.netLayers e.net)

/-- C_net of a schedule entry's network. -/
def State.netCycles (c : State) (e : SchedEntry) : Nat := 16 + ((c.entryLayers e).map (fun x => x.len)).sum

/-- The sizes of `n` delta records, group by group of `h` tiles, each group after its U rows of `u` bytes. -/
def deltaSizes (u h : Nat) : Nat → Nat → List Byte → List Nat
  | 0, _, _ => []
  | n + 1, i, bs =>
    let bs := if i % h = 0 then bs.drop u else bs
    let z := (deltaTile bs).2
    z :: deltaSizes u h n (i + 1) (bs.drop z)

/-- F(t) for every tile ("Fetch order"), with the bytes of the layer's cutting and its kind. -/
def streamEnds (l : Layer) (kind : Nat) (cut : List Byte) : List Nat :=
  let r := if kind.testBit 1 && !kind.testBit 2 then rankR l.rank else 0
  let d := kind.testBit 0 && !kind.testBit 2
  let h := max 1 l.tiles
  let t := l.groups * l.tiles
  let zs := if d then deltaSizes (16 * r) h t 0 (cut.drop (16 * l.tiles * r)) else []
  let tile (i : Nat) : Nat :=
    (if l.wide then 512 else 256) + zs.getD i 0 + (if i % h = 0 then 32 + 16 * r else 0) + (if i = 0 then 16 * l.tiles * r else 0)
  ((List.range t).foldl (fun (x : Nat × List Nat) i => (x.1 + tile i, x.2 ++ [x.1 + tile i])) (0, [])).2

/-- R202 over one timed layer of entry `e`. -/
def State.portOk (c : State) (e : SchedEntry) (x : LayerTime) : Bool :=
  let cut := c.cutOf e.tenant e.net x.k
  let kind := (cut.map (fun y => y.kind)).getD 0
  let bs := (cut.map (fun y => c.cutBytes y false)).getD []
  let own := c.ownSlots (bitsOf x.lay.src 4 4) (oprOwner e)
  let fs := streamEnds x.lay kind bs
  (List.range fs.length).all (fun t =>
    let n := 8 + x.w + (t + 1) * x.p
    decide (fs.getD t 0 ≤ if x.lay.granary then 8 * slotsFrom own (max 1 c.tsFclk) x.at_ n else 48 * n))

/-! ## Stage 4 -/

/-- The sample latch in LCLK cycles after the load point: acquisition and conversion from the trigger's ACLK edge. -/
def State.latchAt (c : State) (a : Fin 4) : Int := 10 * ((c.trigAt a + 9) / 10 + c.fld (F.SNS_CFG_N_ACQ_SH a) + 18)

/-- R22 holds for axis `a` with PWM_PER = `per`. -/
def State.lscOk (c : State) (a : Fin 4) (per : Nat) : Bool :=
  let cl := c.ldr.hdr.cLoop.getD a.val 0
  let co := c.ldr.hdr.cObs.getD a.val 0
  decide (8 * (c.trigAt a + 10 * (c.fld (F.SNS_CFG_N_ACQ_SH a) + 18) + cl + 14) + 5 * co ≤ 8 * ((per : Int) - 60))

/-- The FCLK cycles at which the samples of axis `a` are latched in a schedule period (R210), in ascending order. -/
def State.latches (c : State) (a : Fin 4) : List Nat :=
  let per := c.per a
  ((List.range (c.fld F.PCR_SCHED_TS_LCLK / max 1 per)).map (fun (p : Nat) =>
    ((c.latchAt a * 8 / 5 + p * per * 8 / 5) % max 1 c.tsFclk).toNat)).mergeSort (· ≤ ·)

/-- R210 holds for axis `a`. -/
def State.obsStartsOk (c : State) (a : Fin 4) : Bool :=
  let es := c.obsRuns a
  es.all (fun e => e.rep) && (es.map (fun e => e.start)).mergeSort (· ≤ ·) == c.latches a

/-- The LSC conditions of axis `a`: R22, R210, R162. -/
def lscRules (m : Img) (c : State) (a : Fin 4) : List Finding :=
  let cl := m.hdr.cLoop.getD a.val 0
  let hs : Int := c.fld (F.LPE_HSLOT_H_START a)
  failIf (!c.lscOk a (c.per a)) (regAt m (R.PWM_TRIG a (c.curTrig a)) 0x31)
  ++ failIf (!c.obsStartsOk a) (tabAt m 0x0101 7 0x31)
  ++ failIf (m.hdr.cObs.getD a.val 0 % 8 != 0) (hdrAt (0x20 + 4 * a.val) 0x31)
  ++ failIf (cl != graphCost (c.graph a)) (hdrAt (0x30 + 4 * a.val) 0x31)
  ++ failIf (decide (hs < c.latchAt a + 48) || decide ((c.per a : Int) - 60 < hs + cl + 9)) (regAt m (R.LPE_HSLOT a) 0x31)

/-- L_v of Table PER-6 in tenths of an FCLK cycle, from the header. -/
def timeOfVerdict (h : ImgHdr) : Nat :=
  15360 + 10 * h.cPrg + (if h.mode.testBit 1 then 2 * h.ts + (if h.mode.testBit 0 then h.ts else 0) else 0)

/-- The cycles in which the passes of axis `a` run and write, as LCLK start and length within T_s (R162). -/
def State.passSlots (c : State) (a : Fin 4) : List (Nat × Nat) :=
  let ts := max 1 (c.fld F.PCR_SCHED_TS_LCLK)
  let cl := c.ldr.hdr.cLoop.getD a.val 0
  let o : Int := c.latchAt a + (c.ldr.hdr.cObs.getD a.val 0 * 5 / 8 + 5 : Nat)
  let h : Int := c.fld (F.LPE_HSLOT_H_START a)
  (List.range (ts / max 1 (c.per a))).flatMap (fun (p : Nat) => [o, h].map (fun (x : Int) => (((x + (p * c.per a : Nat)) % (ts : Int)).toNat, cl + 9)))

/-- Two slots of a cycle of `ts` overlap. -/
def slotClash (ts : Nat) (x y : Nat × Nat) : Bool := clash x y || clash (x.1 + ts, x.2) y || clash x (y.1 + ts, y.2)

/-- No two passes of any axes overlap (R162). -/
def State.passesOk (c : State) (axes : List (Fin 4)) : Bool :=
  let l := axes.flatMap (fun a => c.passSlots a)
  decide (l.Pairwise (fun x y => slotClash (max 1 (c.fld F.PCR_SCHED_TS_LCLK)) x y = false))

/-- The frame intervals of a schedule entry, as start and length. -/
def State.entrySpans (c : State) (e : SchedEntry) : List (Nat × Nat) :=
  if e.rep then (List.range c.K).map (fun q => (q * c.tsFclk + e.start, e.len)) else [(e.start, e.len)]

/-- A schedule entry is one that Table IMG-5 lays out, and ends in time (R38). -/
def State.entryOk (c : State) (e : SchedEntry) : Bool :=
  decide (e.tenant ≤ 4) && decide (e.start + e.len ≤ if e.rep then c.tsFclk else c.K * c.tsFclk)
  && (if e.op = 3 then e.plot == 0x40 else (e.op == 1 || e.op == 2) && (decide (e.plot < 16) || (decide (0x80 ≤ e.plot) && decide (e.plot < 0x90))))

/-- No two entries on one plot overlap (R38). -/
def State.entriesApart (c : State) (es : List SchedEntry) : Bool :=
  decide (es.Pairwise (fun x y => x.plot = y.plot → ((c.entrySpans x).any (fun i => (c.entrySpans y).any (clash i))) = false))

/-- LEN_min of a transfer ("The silo"). -/
def lenMin (dummy : Nat) (x : SpillEntry) : Nat :=
  let n := 5 + dummy + (x.blocks * (x.blkBytes + 4) + 1) / 2
  16 * ((n + 4) / 5) + 16

/-- The granary range a spill-table entry writes. -/
def SpillEntry.range (x : SpillEntry) : Nat × Nat := (x.dest, x.blocks * x.blkBytes)

/-- R191 over a SPILL entry. -/
def State.spillOk (c : State) (e : SchedEntry) : Bool :=
  match c.spillOf e with
  | none => false
  | some x => e.start % 16 == 0 && decide (lenMin (c.fld (F.FLD_SILO_CFG_DUMMY (x.silo / 0x8000000))) x ≤ e.len)

/-- The SPILL entries on the verdict path (R191). -/
def State.pathSpills (c : State) : List SchedEntry :=
  let lanes := c.field.sched.filter onLane
  let first := lanes.foldl (fun b e => min b e.start) (2 ^ 32)
  let last := lanes.foldl (fun b e => max b (e.start + e.len)) 0
  c.field.sched.filter (fun e => e.op == 3 && !e.rep && decide (first ≤ e.start) && decide (e.start < last))

/-- A layer of entry `e` reads what a spill entry `x` writes, before the spill ends (R178). -/
def State.spillEarly (c : State) (e x : SchedEntry) : Bool :=
  match c.spillOf x with
  | none => false
  | some sp => (c.entryLayers e).any (fun y => y.lay.granary
      && (c.operands none e.net y.k y.lay).any (fun r => clash r sp.range)
      && (if e.rep == x.rep then decide (y.at_ < x.start + x.len)
          else if x.rep then decide (y.at_ < y.at_ / max 1 c.tsFclk * c.tsFclk + x.start + x.len)
          else (List.range c.K).any (fun q => decide (x.start / max 1 c.tsFclk ≤ q) && decide (q * c.tsFclk + y.at_ < x.start + x.len))))

/-- SCHED over a RUN or TPLOT entry: R178, R202, R251. -/
def State.runOk (c : State) (m : Img) (e : SchedEntry) : Bool :=
  let n := c.netCycles e
  (if onLane e then decide (n ≤ e.len) else n == e.len)
  && !(e.op == 1 && decide (e.plot < 16) && m.hdr.axes.testBit e.tenant && decide (e.tenant < 4) && m.hdr.cObs.getD e.tenant 0 != e.len)
  && !c.field.sched.any (fun x => x.op == 3 && c.spillEarly e x)
  && (c.entryLayers e).all (fun y => c.portOk e y) && !(e.op == 2 && (!e.guard || e.rep))

/-- The networks that need test-plot entries (R251). -/
def State.tpNeeded (c : State) (axes : List (Fin 4)) : List Nat :=
  axes.flatMap (fun a => (c.obsRuns a).map (fun e => e.net)) ++ (if c.prgOn then [c.fld F.FLD_PRG_CFG_NET] else [])

/-- The SCHED conditions. -/
def schedRules (m : Img) (c : State) (axes : List (Fin 4)) : List Finding :=
  let es := c.field.sched
  let at_ := tabAt m 0x0101 7 0x34
  failIf (!es.all (fun e => c.entryOk e) || !c.entriesApart es) at_
  ++ failIf (!(es.filter (fun e => e.op == 1 || e.op == 2)).all (fun e => c.runOk m e)) at_
  ++ failIf (!(es.filter (fun e => e.op == 3)).all (fun e => c.spillOk e)) at_
  ++ failIf (m.hdr.nSpill != c.pathSpills.length) (hdrAt 0x44 0x34)
  ++ failIf (c.pathSpills.any (fun e => decide (m.hdr.tSpill < e.len))) (hdrAt 0x48 0x34)
  ++ failIf (!(c.tpNeeded axes).all (fun n => c.tpNets.contains n)) at_
  ++ failIf (!c.passesOk axes) ⟨0x34, none⟩

/-- A grant matches a schedule entry (R40). -/
def grantFits (g : GrantEntry) (e : SchedEntry) : Bool :=
  g.start == e.start && g.len == e.len && g.tenant == e.tenant && g.rep == e.rep

/-- The GRANT conditions (R40). -/
def grantRules (m : Img) (c : State) : List Finding :=
  let es := c.field.sched
  let gs := c.field.grants
  let one (x : Nat × SchedEntry) : Bool := (gs.filter (fun g => g.kind != 2 && g.idx == x.1 && grantFits g x.2)).length == 1
  let gOk (g : GrantEntry) : Bool :=
    if g.kind = 2 then !g.rep && g.start == 0 && g.len == c.frameFclk
    else (g.kind == 1 || g.kind == 3) && (es[g.idx]?).any (grantFits g)
  failIf (!((List.range es.length).zip es).all one) (tabAt m 0x0101 7 0x36)
  ++ failIf (!gs.all gOk) (tabAt m 0x0201 7 0x36)

/-- The BUDGET conditions (R41, R237). -/
def budgetRules (m : Img) (poolMax : Nat) (c : State) : List Finding :=
  let pool := c.fld F.TRN_POOL_POOL
  let res := c.fld F.TRN_POOL_RESERVE
  let exceed := (List.range 5).filter (fun t => decide (c.fld (F.TRN_SUB_SUB t) < c.planPeak (· == t) c.tsFclk))
  failIf (decide (pool < res) || decide (pool - res < c.planPeak (fun _ => true) c.tsFclk) || decide (2 * poolMax < pool))
    (regAt m R.TRN_POOL 0x37)
  ++ exceed.map (fun t => regAt m (R.TRN_SUB t) 0x37)

/-- A slot entry carries no reserved code (Table FLD-3). -/
def slotCodeOk (n : Nat) : Bool := n == 0 || (decide (0x10 ≤ n) && decide (n < 0x50)) || n == 0x50 || n == 0x60 || n == 0x70

/-- The OPR slots of a granary layer are of a legal number and evenly spaced (R184). -/
def oprOk (own : List Nat) : Bool :=
  let n := own.length
  [1, 2, 4, 8, 16, 32, 64].contains n && (List.range n).all (fun i => own.getD i 0 == own.getD 0 0 + i * (64 / max 1 n))

/-- The SLOT conditions of R184 and R223. -/
def State.slotsOk (c : State) : Bool :=
  let banks := List.range 16
  let row (b : Nat) : List Nat := (List.range 64).map (fun j => c.slotOwner b j)
  let count (b n : Nat) : Nat := ((row b).filter (fun x => x == n)).length
  let spill (x : SpillEntry) : Bool :=
    let b := x.dest / 0x80000
    decide (b < 16) && decide (x.dest + x.range.2 ≤ 0x80000 * (b + 1)) && decide (6 ≤ count b 0x50)
  banks.all (fun b => (row b).all slotCodeOk && (if b < 4 then decide (4 ≤ count b 0) else count b 0x70 == 0))
  && (c.field.sched.filter (fun e => c.onFixed e || onLane e)).all (fun e => (c.netLayers e.net).all (fun l =>
      !l.granary || oprOk (c.ownSlots (bitsOf l.src 4 4) (oprOwner e))))
  && c.field.spills.all spill && (!c.prgOn || decide (2 ≤ count (c.fld F.FLD_PRG_CFG_BANK) 0x40))

/-- The SLOT conditions of R357. -/
def State.tramOk (c : State) : Bool :=
  let count (b : Nat) : Nat := ((List.range 64).filter (fun j => c.slotOwner b j == 0x60)).length
  let two (o : Nat) : Bool := decide (2 ≤ count (o / 0x80000))
  let buf := c.fld F.TRL_SHARE_BUF_OFFSET
  let shares := allAxes.any (fun a => c.flag (F.TRL_SHARE_EN a))
  c.link.tiles.all (fun t => two t.gran)
  && (c.field.cuts.filter (fun e => (c.cutLayer e).any (fun l => l.granary))).all (fun e => two e.addr && two e.alt)
  && !(c.exact && shares && !(two buf && Config.shareBufFits buf (2 * c.K)))

/-- R357's MODE conditions on axis `a` hold. -/
def State.shareOk (c : State) (a : Fin 4) : Bool :=
  let en (k : Nat) : Bool := c.flag (F.TRL_SHARE_EN k)
  let b := c.fld (F.TRL_SHARE_PEER_AXIS a)
  let age := c.fld (F.TRL_SHARE_SHARE_AGE a)
  !en a || ((!c.flag (F.TRL_SHARE_FOLLOWER a) || (en b && !c.flag (F.TRL_SHARE_FOLLOWER b)))
    && decide (1 ≤ age) && decide (age ≤ 4) && !(c.exact && c.fld (F.TRL_SHARE_MASK a) % 16 != 0))

/-- The fields of the register at `k`, none where there is none. -/
def fieldsAt (k : Nat) : List FieldDef := ((regDefAt k).map (fun d => d.fields)).getD []

/-- A LIVE declaration names one field, and its range contains the image's own value (code 0x39). -/
def State.liveOk (c : State) (d : LiveDecl) : Bool :=
  match (fieldsAt (homeKey d.addr)).find? (fun f => (bitMask f.hi f.lo).toNat == d.mask) with
  | none => false
  | some f => let v := fieldGet (c.shown d.addr) f.lo (f.hi + 1 - f.lo); decide (d.lo ≤ v) && decide (v ≤ d.hi)

/-- Stage 4 but for the rules that name no code; `plots` and `f` are the facts of R37. -/
def stage4 (m : Img) (f : Fuses) (plots : Nat) (c : State) : List Finding :=
  let h := m.hdr
  let axes := allAxes.filter (fun a => h.axes.testBit a.val)
  let twin := h.mode.testBit 1
  let laneN := c.lanesUsed.foldl (fun b n => max b (n + 1)) 0
  failIf (decide (h.ts < 4000) || decide (80000 < h.ts) || h.ts % 10 != 0 || (twin && h.ts % 80 != 0)) (hdrAt 0x18 0x30)
  ++ failIf (decide (h.k * h.ts < 40000)) (hdrAt 0x1C 0x30)
  ++ axes.flatMap (fun a => let p := c.per a
      failIf (decide (p < 4000) || decide (80000 < p) || p % 10 != 0 || h.ts % max 1 p != 0) (regAt m (R.PWM_PER a) 0x30))
  ++ axes.flatMap (lscRules m c)
  ++ failIf (h.nSpill == 0 && decide (384000 < timeOfVerdict h)) (hdrAt 0x40 0x32)
  ++ failIf (f.partno == 0x2816 && (h.axes &&& 0xC) != 0) (hdrAt 0x17 0x33)
  ++ (m.sects.filter (fun x => x.tenant && !h.axes.testBit x.tid)).map (fun x => sectAt x 0x33)
  ++ schedRules m c axes
  ++ failIf (decide (c.nList < 2) || decide (c.nList ≤ laneN)) (tabAt m 0x0102 7 0x35)
  ++ failIf (c.field.sched.any (fun e => c.field.fallow.contains e.plot)) (tabAt m 0x0101 7 0x35)
  ++ grantRules m c ++ budgetRules m f.poolMax c
  ++ failIf (!c.slotsOk) (tabAt m 0x0103 7 0x38)
  ++ failIf (twin && !c.tramOk) ⟨0x38, none⟩
  ++ (m.recs.filter (fun x => x.2.typ == 2 && !(x.2.lives x.1.tid).all (fun d => c.liveOk d))).map (fun x => recAt x 0x39)
  ++ (match m.find 0x10 7 with
      | some x => failIf (!twin) (sectAt x 0x3A)
      | none => failIf twin ⟨0x3A, none⟩)
  ++ failIf (twin && !axes.all (fun a => c.shareOk a)) ⟨0x3A, none⟩
  ++ (match m.find 0x01 7 with
      | some x => failIf (decide (plots < leAt x.pay 4 1)) (sectAt x 0x3B)
      | none => [])

/-- Setting of output `u` in mask pattern `p` of axis `a`. -/
def State.maskSet (c : State) (a : Fin 4) (p u : Nat) : Nat := fieldGet (c.reg (R.PWM_MASK a p)) (2 * u) 2

/-- The rules that reject an image and name no code hold of axis `a`: R126, R133, R143, R149. -/
def State.axisSound (c : State) (a : Fin 4) : Bool :=
  let dtLo := c.fld (F.PWM_DT_CFG_DT_MIN a)
  let dtHi := c.fld (F.PWM_DT_CFG_DT_MAX a)
  let fix := c.fld (F.PWM_DT_CFG2_DT_FIX a)
  let per := c.per a
  let inc := c.fld (F.HDL_INJ_INC_INJ_INC a)
  let run := c.fld (F.LPE_DRV_CFG_RUN_PAT a)
  let brk := c.fld (F.LPE_DRV_CFG_BRAKE_PAT a)
  let off := c.fld (F.LPE_DRV_CFG_OFF_PAT a)
  decide (dtLo ≤ dtHi) && decide (dtLo ≤ fix) && decide (fix ≤ dtHi)
  && (List.range 8).all (fun p => (List.range 3).all (fun k => !(c.maskSet a p (2 * k) == 2 && c.maskSet a p (2 * k + 1) == 2)))
  && (List.range 4).all (fun n => !(c.flag (F.PWM_TRIG_EN a n) && c.flag (F.PWM_TRIG_PRE a n)
      && (c.fld (F.PWM_TRIG_POS a n) == 0 || decide (per < 2 * c.fld (F.PWM_TRIG_POS a n)))))
  && decide (500 * (per * 2 ^ 32) ≤ inc * 400000000) && decide (inc * 400000000 ≤ 4000 * (per * 2 ^ 32)) && decide (inc ≤ 2 ^ 30)
  && decide (c.fld (F.HDL_INJ_A_INJ a) ≤ 8192)
  && decide (c.fld (F.LPE_DRV_SPD_CATCH_SPD a) < c.fld (F.HDL_HO_HO_DN a)) && decide (c.fld (F.HDL_HO_HO_DN a) < c.fld (F.HDL_HO_HO_UP a))
  && c.routes.any (fun r => r.en && r.src == 0x20 * a.val + Ev.drvMask && r.dst == 0x10 * a.val + 4)
  && (List.range 8).all (fun u => c.maskSet a run u % 3 == 0)
  && (List.range 3).all (fun k => c.maskSet a brk (2 * k) == 1 && c.maskSet a brk (2 * k + 1) == 2
      && c.maskSet a off (2 * k) == 1 && c.maskSet a off (2 * k + 1) == 1)

/-- The rules that name no code hold: R121 and those of every configured axis. -/
def State.sound (c : State) (axes : List (Fin 4)) : Bool :=
  axes.all (fun a => c.axisSound a) && axes.all (fun a => axes.all (fun b =>
    c.fld (F.PWM_CTRL_GROUP a) != c.fld (F.PWM_CTRL_GROUP b) || c.per a == c.per b))

/-! ## The verdict -/

/-- The state that image `m` would configure on this part: over the part's facts and the silo of `s`. -/
def State.candidate (s : State) (m : Img) : State :=
  let c : State := { State.reset with
    fuses := s.fuses, pow := { State.reset.pow with mapRead := s.pow.mapRead, retRead := s.pow.retRead }, silo := s.silo }
  fillPlots (fun _ => true) m (placeBlobs (fun _ _ => true) m (configure m c))

/-- How a load ends. -/
inductive Verdict where
  /-- Every stage has passed; the image carries a signature. -/
  | pass (signed : Bool)
  /-- A failing condition. -/
  | fail (f : Finding)
  /-- A rule without a code rejects the image. -/
  | reject
  deriving DecidableEq, Repr

/-- Stages 2 to 5 over the bytes of a load for `target` (R33). -/
def State.judge (s : State) (target : Nat) (bs : List Byte) : Verdict :=
  let t := parseImg bs
  let run := parseImg s.ldr.image
  let full := decide (target = 7)
  let m := if full then t else mergeImg target run t
  let has := full || s.applied
  let c := s.candidate m
  let axes := allAxes.filter (fun a => m.hdr.axes.testBit a.val)
  let lift (l : List Finding) : List Finding := if full then l else l.map (fun f => f.inTenant m t)
  let part := match t.find 0x01 7 with
    | some x => failIf (!partOk x.pay) (sectAt x 0x14)
    | none => []
  let st (l : List Finding) (k : Verdict) : Verdict := match firstFinding l with
    | some f => .fail f
    | none => k
  st (stage2 c s.silo target t ++ part ++ (if has then lift (recordRules m c) else []))
    (st (stage3 s.fuses t)
      (if has && !c.sound axes then .reject
       else st (if has then lift (stage4 m s.fuses s.physPlots.length c) else [])
        (st (if full then [] else stage5 target (s.applied && s.inReset target) run t) (.pass t.signs))))

end Sys2Proof.Machine
end

