-- ==== Sys2Proof/Machine/Loader.lean ====
section
/-! DEFINITION. The loader (chapter 02, "The loader"): starting a load, its words, its end in a verdict, a failure (R33, R35,
R46), the application of an image (R34, R46, R47), the plot-store fill and the wake restore (R61, R70). -/

namespace Sys2Proof.Machine

/-! ## Starting a load -/

/-- A load of tenant `t`, or a full load, is under way. -/
def State.loadTargets (s : State) (t : Nat) : Bool :=
  s.ldr.loading && (s.fld F.PCR_IMG_STATUS_TARGET == t || s.fld F.PCR_IMG_STATUS_TARGET == 7)

/-- Every configured axis is held in tenant reset (R47). -/
def State.axesHeld (s : State) : Bool := allAxes.all (fun a => !s.axisConf a || s.inReset a.val)

/-- A START of `target` by port `p` begins a load: no load is under way, the port may load (Table PWR-5), and a full load
over a running image finds the axes in tenant reset (R47). -/
def State.mayStart (s : State) (p : Fin 2) (target : Nat) : Bool :=
  !s.ldr.loading && [3, 5, 6, 7, 11].contains s.pwr && s.ldr.bootPort.all (· == p)
  && (decide (target < 4) || (target == 7 && (!s.applied || s.axesHeld)))

/-- START (R48): the port owns the loader. -/
def loadStart (p : Fin 2) (s : State) : State :=
  let target := s.fld F.PCR_IMG_CTRL_TARGET
  if !s.mayStart p target then s
  else
    let s := ((s.setFld F.PCR_IMG_STATUS_STATE 1).setFld F.PCR_IMG_STATUS_OWNER p.val).setFld F.PCR_IMG_STATUS_TARGET target
    let s := ((s.setFlag F.PCR_IMG_STATUS_ERR_HDR false).setFld F.PCR_IMG_STATUS_ERR 0).setFld F.PCR_IMG_STATUS_ERR_SECT 0
    let s := (s.setReg R.PCR_IMG_ERRLOC 0).modLdr (fun l => { l with
      loading := true, fromSilo := s.flag F.PCR_IMG_CTRL_SRC_SILO, bytes := [], ready := false, sealHeld := false,
      signed := false })
    if target = 7 ∧ s.pwr = 3 then setPwr 4 s else s

/-! ## Failure -/

/-- No image is applied any more: the schedule and the link stop, and no field, table or rule of an image stands (R35). -/
def imageGone (s : State) : State :=
  let s := auxOff (pd4Down (schedStop s))
  let s := scanReset (clearImg (fun _ => true) s)
  let s := s.modField (fun f => { grnCE := f.grnCE, grnUE := f.grnUE, plotCE := f.plotCE, plotUE := f.plotUE })
  let s := s.modLdr (fun l => { l with
    applied := false, hdr := {}, axes := 0, twin := false, image := [], live := [], pend := [], rotList := [], slices := [] })
  { s with routes := [] }.setFlag F.PCR_PWR_STATE_READY false

/-- The load ends in FAILED with this report (R33, R35, R46). -/
def loadFailed (code : Nat) (sect : Option Nat) (off : Word) (s : State) : State :=
  let target := s.fld F.PCR_IMG_STATUS_TARGET
  let s := ((s.setFld F.PCR_IMG_STATUS_STATE 4).setFld F.PCR_IMG_STATUS_ERR code).setFlag F.PCR_IMG_STATUS_ERR_HDR sect.isNone
  let s := (s.setFld F.PCR_IMG_STATUS_ERR_SECT (sect.getD 0)).setReg R.PCR_IMG_ERRLOC off
  let s := s.modLdr (fun l => { l with
    loading := false, bytes := [], ready := false, sealHeld := false, signed := false, siloBoot := false })
  if target = 7 then setPwr 3 (if s.applied then imageGone s else s)
  else tenFault target 4 (s.setBit F.PCR_IMG_STATUS_TEN_NOIMG target true)

/-- The load fails with `code`; the manual names no failing item (DESIGN CHOICE, log entry 24). -/
def loadStop (code : Nat) (s : State) : State :=
  let r := Config.stopItem code s.ldr.bytes
  loadFailed code (r.1.map (fun x => x.toNat)) r.2 s

/-- The load fails by a finding. -/
def loadFind (f : Finding) (s : State) : State :=
  match f.item with
  | some (sect, off) => loadFailed f.code sect (word off) s
  | none => loadStop f.code s

/-- The load ends by a verdict of stages 2 to 5. -/
def loadVerdict (v : Verdict) (s : State) : State :=
  match v with
  | .pass sg => (s.setFld F.PCR_IMG_STATUS_STATE 2).modLdr (fun l => { l with ready := true, signed := sg })
  | .fail f => loadFind f s
  | .reject =>
    let r := Config.rejectReport s.ldr.bytes
    loadFailed r.1.toNat (r.2.1.map (fun x => x.toNat)) r.2.2 s

/-- What the loader checks once it holds `bs`, which it has not judged before (R33): stage 1 on the header, the others on
the whole image. -/
def loadCheck (room : Option Nat) (s : State) : State :=
  let bs := s.ldr.bytes
  if bs.length < 256 then s
  else match firstFinding (if bs.length = 256 then stage1 s.fuses.partno room (bs.take 256) else []) with
    | some f => loadFind f s
    | none => if bs.length = imgSize bs then loadVerdict (s.judge (s.fld F.PCR_IMG_STATUS_TARGET) bs) s else s

/-! ## The host as source -/

/-- A word at PCR_IMG_FIFO (R48): the loader takes it from the owner of a host load. -/
def fifoWord (p : Fin 2) (w : Word) (s : State) : State :=
  if s.ldr.loading && !s.ldr.fromSilo && !s.ldr.ready && s.fld F.PCR_IMG_STATUS_OWNER == p.val then
    loadCheck none (s.modLdr (fun l => { l with bytes := l.bytes ++ leBytes 4 w.toNat }))
  else s

/-- 40 000 ticks have passed since a FIFO word without the next (R49). -/
def loadStall (s : State) : State :=
  if s.ldr.loading && !s.ldr.fromSilo && !s.ldr.ready && !s.ldr.bytes.isEmpty then loadStop 0x51 s else s

/-- PCR_IMG_CTRL.ABORT. -/
def loadAbort (s : State) : State := if s.ldr.loading then loadStop 0x50 s else s

/-- PCR_IMG_CTRL.SEAL (R42): held during a load, else it seals the applied image. -/
def sealWrite (s : State) : State :=
  if s.ldr.loading then s.modLdr (fun l => { l with sealHeld := true })
  else if s.applied then s.setFlag F.PCR_IMG_STATUS_SEALED true
  else s

/-- A write of PCR_IMG_CTRL by port `p`: none takes effect from the other port during a load, and none during the silo boot
(R48).  Of several bits, ABORT acts first, then START, then SEAL. -/
def imgCtrl (p : Fin 2) (v : Word) (s : State) : State :=
  if s.ldr.loading && (s.ldr.siloBoot || s.fld F.PCR_IMG_STATUS_OWNER != p.val) then s
  else
    let s := s.setFlag F.PCR_IMG_CTRL_SRC_SILO (v.getLsbD 8)
    let s := s.setFld F.PCR_IMG_CTRL_TARGET (fieldGet v 4 3)
    let s := s.when (v.getLsbD 1) loadAbort
    let s := s.when (v.getLsbD 0) (loadStart p)
    s.when (v.getLsbD 2) sealWrite

/-! ## The silo as source -/

/-- The silo address a silo load reads from. -/
def State.loadSrc (s : State) : Nat := if s.ldr.siloBoot then 0 else s.fld F.PCR_IMG_SRC_ADDR

/-- A load from the silo has read its image, or up to its first failing condition: the devices hold `bs` from the source
address on. -/
def siloLoadEnd (bs : List Byte) (s : State) : State :=
  if s.ldr.loading && s.ldr.fromSilo && !s.ldr.ready then
    let src := s.loadSrc
    let room := 0x10000000 - src
    let s := siloWrite src (bs.take room) s
    let hd := memRead s.silo src (min 256 room) ++ List.replicate (256 - room) 0
    let s := (loadCheck (some room) (s.modLdr (fun l => { l with bytes := hd })))
    if !s.ldr.loading || s.ldr.ready then s
    else loadCheck (some room) (s.modLdr (fun l => { l with bytes := memRead s.silo src (imgSize hd) }))
  else s

/-! ## Application -/

/-- The digest a header carries, as bytes. -/
def hashBytes (bs : List Byte) : List Nat := ((bs.drop 0x70).take 32).map (fun b => b.toNat)

/-- A full image takes effect (R34, Table PWR-4 step 9), over whatever ran before (R47). -/
def applyFull (s : State) : State :=
  let l := s.ldr
  let m := parseImg l.bytes
  let src := s.loadSrc
  let s := auxOff (pd4Down (schedStop s))
  let s := placeBlobs (fun _ _ => true) m (configure m s)
  let s := s.setFlag F.PCR_IMG_STATUS_SEALED (m.hdr.mode.testBit 2 || l.sealHeld || s.flag F.PCR_IMG_STATUS_SEALED)
  let s := ((s.setFlag F.PCR_IMG_STATUS_SIGNED l.signed).setFld F.PCR_IMG_STATUS_TEN_NOIMG 0).setFld F.PCR_IMG_STATUS_STATE 3
  let s := (s.setFld F.PCR_RESTORE_BYTES_BYTES m.restoreBytes).setFlag F.PCR_WAKE_NEED_IMAGE false
  let s := s.modLdr (fun l => { l with
    loading := false, ready := false, bytes := [], sealHeld := false, siloBoot := false, siloSrc := src, bootPort := none,
    digests := [hashBytes m.bytes, [], [], [], []] })
  let s := s.modPow (fun p => { p with fromSilo := l.fromSilo, retLost := false, fillDone := false, restDone := false, waking := false })
  let s := setPd 1 true (setPwr 5 (s.setFlag F.PCR_PWR_STATE_READY false))
  let s := s.each allAxes (fun s a =>
    let s := ((s.setFlag (F.LPE_BANK_CTRL_ACTIVE a) false).setFlag (F.LPE_BANK_CTRL_PENDING a) false)
    (s.setFlag (F.LPE_BANK_CTRL_LOCK a) false).modLoop a (fun x => { x with check := false }))
  let s := s.each (List.range 32) (fun s c =>
    ((s.setFlag (F.FLD_CSET_CTRL_LOCK c) false).setFlag (F.FLD_CSET_CTRL_PENDING c) false).setFlag (F.FLD_CSET_CTRL_ALT c) false)
  let s := s.each (List.range 64) (fun s n => queRestart n s)
  let s := s.each allAxes (fun s a =>
    if s.linkHold then s.setFlag (F.QUE_TEN_CTRL_IN_RESET a) true else s)
  startNext (pd3Begin (calAll (scanReset (trnStart s))))

/-- A tenant image takes effect (R46). -/
def applyTenant (a : Fin 4) (s : State) : State :=
  let l := s.ldr
  let t := parseImg l.bytes
  let m := mergeImg a.val (parseImg l.image) t
  let mine (x : Sect) : Bool := x.tenant && x.tid == a.val
  let s := placeBlobs (fun x _ => mine x) m (configureTenant a m s)
  let s := if s.pd 3 then fillPlots mine m s else s
  let s := (s.setFlag F.PCR_IMG_STATUS_SEALED (l.sealHeld || s.flag F.PCR_IMG_STATUS_SEALED)).setFld F.PCR_IMG_STATUS_STATE 3
  (s.setBit F.PCR_IMG_STATUS_TEN_NOIMG a.val false).modLdr (fun x => { x with
    loading := false, ready := false, bytes := [], sealHeld := false,
    digests := setAt x.digests (1 + a.val) (hashBytes l.bytes) })

/-- IMAGE_APPLY: the image whose stages have passed takes effect. -/
def imageApply (s : State) : State :=
  if !s.ldr.ready then s
  else
    let t := s.fld F.PCR_IMG_STATUS_TARGET
    if h : t < 4 then applyTenant ⟨t, h⟩ s else applyFull s

/-! ## Plot stores and the wake restore -/

/-- Step 11 of Table PWR-4 ends: the plot stores hold what the image puts there; a wake's retained data are back too. -/
def plotFillEnd (s : State) : State :=
  if s.applied && s.pd 3 && !s.pow.fillDone && (s.pwr == 5 || s.pwr == 11) then
    let m := parseImg s.ldr.image
    let s := fillPlots (fun _ => true) m s
    let s := if s.pow.retLost then s else refillRetained m s
    startNext (s.modPow (fun p => { p with fillDone := true }))
  else s

/-- The wake restore ends, every section CRC good or one wrong (R70). -/
def restoreEnd (good : Bool) (s : State) : State :=
  if s.pwr = 11 ∧ s.pow.waking ∧ !s.pow.restDone ∧ s.pow.fromSilo ∧ s.flag F.PCR_CLK_STATUS_ALIGNED
      ∧ !s.flag F.PCR_WAKE_NEED_IMAGE then
    if good then (restoreGran (parseImg s.ldr.image) s).modPow (fun p => { p with restDone := true }) else needImage s
  else s

end Sys2Proof.Machine
end

