-- ==== Sys2Proof/Machine/Live.lean ====
section
/-! DEFINITION. LIVE fields (chapter 02, R43 and R44): which writes are accepted (R43, R124, R233), and when they act. -/

namespace Sys2Proof.Machine

/-- A LIVE write is refused: LIVE_REJ and its count (R43). -/
def liveRefuse (s : State) : State := (s.setFlag F.PCR_IMG_STATUS_LIVE_REJ true).bump F.PCR_LIVE_REJ_COUNT 1

/-- The low bit of a declaration's field. -/
def LiveDecl.pos (d : LiveDecl) : Nat := ((List.range 32).find? (fun k => d.mask.testBit k)).getD 0

/-- The value that a written word gives the declared field, shifted down to bit 0. -/
def LiveDecl.value (d : LiveDecl) (v : Word) : Nat := (v &&& word d.mask).toNat / 2 ^ d.pos

/-- The axis whose PWM_PER lies at `k`. -/
def perAxis (k : Nat) : Option (Fin 4) := allAxes.find? (fun a => R.PWM_PER a == k)

/-- The pending new period of axis `a`, the latest written first. -/
def State.pendPer (s : State) (a : Fin 4) : Option Nat :=
  (s.ldr.pend.reverse.find? (fun x => x.addr == R.PWM_PER a)).map (fun x => x.val.toNat % 2 ^ 24)

/-- The other configured axes of `a`'s load group. -/
def State.groupMates (s : State) (a : Fin 4) : List (Fin 4) :=
  allAxes.filter (fun b => b != a && s.inGroup (s.fld (F.PWM_CTRL_GROUP a)) b)

/-- R124 and chapter 11 on a new period of axis `a`; a group member that has received another is against it ("A LIVE period
change in a load group"). -/
def State.perOk (s : State) (a : Fin 4) (v : Nat) : Bool :=
  decide (0 < v) && v % 10 == 0 && s.fld F.PCR_SCHED_TS_LCLK % v == 0 && s.lscOk a v
  && decide ((s.setFld (F.PWM_PER_PER a) v).stepMax a ≤ 16383)
  && (s.groupMates a).all (fun b => (s.pendPer b).all (· == v))

/-- A value for a declared field is acceptable (R43): in its range, of no tenant under reload, and as R124 asks. -/
def State.liveTakes (s : State) (d : LiveDecl) (v : Word) : Bool :=
  let x := d.value v
  decide (d.lo ≤ x) && decide (x ≤ d.hi)
  && !allAxes.any (fun a => inAxis a d.addr && s.ldr.loading && s.fld F.PCR_IMG_STATUS_TARGET == a.val)
  && (perAxis d.addr).all (fun a => s.perOk a x)

/-- The step tag of a port's LIVE writes. -/
def State.liveTag (s : State) (p : Fin 2) : Nat := (s.ports.get p).detLo.toNat + 2 ^ 32 * ((s.ports.get p).detHi.toNat % 2 ^ 16)

/-- The declared field at `k` gets its bits of `v`, and what is computed from it follows (R104). -/
def liveStore (k mask : Nat) (v : Word) (s : State) : State :=
  let h := homeKey k
  let s := s.setReg h ((s.reg h &&& ~~~(word mask)) ||| (v &&& word mask))
  s.each allAxes (fun s a => if inAxis a k then mlimUpdate a s else s)

/-- A new period of axis `a` takes effect with the load point of this boundary: in the set that becomes active, and in STEP_MAX
(R124) and SNS_MLIM (R96). -/
def perStore (a : Fin 4) (v : Nat) (s : State) : State :=
  let s := mlimUpdate a (s.setFld (F.PWM_PER_PER a) v)
  let s := s.modPwm a (fun p => { p with committed := some { p.committed.getD p.active with per := v } })
  s.setFld (F.OBS_CTRL_STEP_MAX a) (s.stepMax a)

/-- One declaration meets a write of `v`: refused, at once where the field's description says so (SCW_RULE THRESH), or for the
boundary its tag names; `port` is none for a queue command, which acts in its visit. -/
def liveField (port : Option (Fin 2)) (v : Word) (s : State) (d : LiveDecl) : State :=
  let now := (R.SCW_RULE_B 0 ≤ d.addr && d.addr ≤ R.SCW_RULE_B 31) || (port.isNone && (perAxis d.addr).isNone)
  let tag := if s.exact then some (match port with
    | some p => s.liveTag p
    | none => s.stepFor d.tenant + 1) else none
  let p := port.getD 0
  let late := match port with
    | some q => s.exact && (s.tagLate d.tenant (s.liveTag q) || decide (16 ≤ (s.ldr.pend.filter (fun (x : LivePend) => x.port == q)).length))
    | none => false
  if !s.liveTakes d v then liveRefuse s
  else if now then
    let s := liveStore d.addr d.mask v s
    if port.isSome then inlog 2 d.tenant d.addr (v &&& word d.mask) s else s
  else if late then liveRefuse s
  else s.modLdr (fun l => { l with pend := l.pend ++ [(⟨d.addr, d.mask, v &&& word d.mask, tag, p⟩ : LivePend)] })

/-- The LIVE fields of a write of `v` at `k` (R43). -/
def liveWrite (port : Option (Fin 2)) (k : Nat) (v : Word) (s : State) : State :=
  s.each (s.ldr.live.filter (fun d => homeKey d.addr == homeKey k)) (fun s d => liveField port v s d)

/-- The declared tenant of a pending write. -/
def State.liveTenant (s : State) (x : LivePend) : Nat :=
  ((s.ldr.live.find? (fun d => d.addr == x.addr && d.mask == x.mask)).map (fun d => d.tenant)).getD 4

/-- A pending write is due at this boundary (R44). -/
def State.liveDue (s : State) (x : LivePend) : Bool := x.tag.all (· == s.stepFor (s.liveTenant x))

/-- The due new periods take effect before the load point of this boundary: a load group whose members have not all received
the same one keeps its period, and the writes are refused (R121; DEDUCED, log entry 27). -/
def livePeriods (s : State) : State :=
  let due := s.ldr.pend.filter (fun x => (perAxis x.addr).isSome && s.liveDue x)
  let last (a : Fin 4) : Option Nat := (due.reverse.find? (fun x => x.addr == R.PWM_PER a)).map (fun x => x.val.toNat % 2 ^ 24)
  let good (a : Fin 4) : Bool := (last a).isSome && (s.groupMates a).all (fun b => last b == last a)
  let ok := allAxes.filter good
  let s := s.modLdr (fun l => { l with pend := l.pend.filter (fun x => !((perAxis x.addr).isSome && s.liveDue x)) })
  let s := s.each due (fun s x => match perAxis x.addr with
    | some a => if ok.contains a then inlog 2 (s.liveTenant x) x.addr x.val s else liveRefuse s
    | none => s)
  s.each ok (fun s a => match last a with
    | some v => perStore a v s
    | none => s)

/-- The other due writes act, in the order they were registered (R44, R234). -/
def liveBoundary (s : State) : State :=
  let due := s.ldr.pend.filter (fun x => s.liveDue x)
  let s := s.modLdr (fun l => { l with pend := l.pend.filter (fun x => !s.liveDue x) })
  s.each due (fun s x => inlog 2 (s.liveTenant x) x.addr x.val (liveStore x.addr x.mask x.val s))

end Sys2Proof.Machine
end

