-- ==== Sys2Proof/Machine/AuxOut.lean ====
section
/-! DEFINITION. The Aux controller and the Hall inputs (chapter 18): requests and releases (R373, R374), the decision of a
tick (R365 to R371), the off-delay (R369), Hall codes (R378). -/

namespace Sys2Proof.Machine

/-- A write of AUX_SET with bits `v`, bound: an output with a kill cause is refused with KILLED, one not in use with REFUSED
(R373); the others wait for the tick. -/
def auxSet (v : Nat) (s : State) : State :=
  let js := (List.range 8).filter (fun j => v.testBit j)
  let dead := js.filter (fun j => s.auxKilled j)
  let off := js.filter (fun j => !s.auxKilled j && !s.flag (F.AUX_LSD_EN j))
  let live := js.filter (fun j => !s.auxKilled j && s.flag (F.AUX_LSD_EN j))
  let s := s.each dead (fun s j => s.setBit F.AUX_FLAG_KILLED j true)
  let s := s.each off (fun s j => s.setBit F.AUX_FLAG_REFUSED j true)
  s.modAux (fun x => { x with waiting := x.waiting ++ [(true, (live.map (fun j => 2 ^ j)).sum)] })

/-- A write of AUX_CLR with bits `v`, bound. -/
def auxClr (v : Nat) (s : State) : State := s.modAux (fun x => { x with waiting := x.waiting ++ [(false, v % 256)] })

/-- The last waiting write that names LSD[j]: a request (true) or a release. -/
def State.auxAsk (s : State) (j : Nat) : Option Bool := ((s.aux.waiting.reverse.find? (fun w => w.2.testBit j))).map (fun w => w.1)

/-- What a pair's policy makes of its requests: the requests that stand, those refused, those refused for the budget, whether
the odd load is dropped, and whether an off-delay runs (even, odd). -/
structure AuxChoice where
  req  : Bool × Bool
  ref  : Bool × Bool
  bud  : Bool × Bool
  drop : Bool
  wait : Bool
  deriving DecidableEq, Repr

/-- The decision over a pair (R367 to R371): `e` and `o` stand after the releases, `ne` and `no` are new, `fits` is the budget,
`dly` an off-delay that runs. -/
def auxChoice (policy : Nat) (fits dly e o ne no : Bool) : AuxChoice :=
  if policy = 0 then
    let ge := ne && (!o || fits)
    let busy := e || ge
    let go := no && (!busy || fits)
    ⟨(e || ge, o || go), (false, false), (ne && !ge, no && !go), false, false⟩
  else if policy = 1 then
    let ge := ne && !o
    let go := no && !(e || ge)
    ⟨(e || ge, o || go), (ne && !ge, no && !go), (false, false), false, false⟩
  else
    let wins := ne && o
    let go := no && !(e || ne || dly)
    ⟨(e || ne, (o && !wins) || go), (false, no && !go), (false, false), wins, wins || (dly && e)⟩

/-- Pair `k` at a tick. -/
def auxPair (k : Nat) (s : State) : State :=
  let j := 2 * k
  let was (i : Nat) : Bool := s.bit F.AUX_REQ_REQ i && s.auxAsk i != some false
  let new (i : Nat) : Bool := !was i && s.auxAsk i == some true
  let fits := decide (s.fld (F.AUX_PAIR_ILOAD_EVEN k) + s.fld (F.AUX_PAIR_ILOAD_ODD k) ≤ s.fld (F.AUX_PAIR_BUDGET k))
  let c := auxChoice (s.fld (F.AUX_PAIR_POLICY k)) fits (s.bit F.AUX_STAT_DELAY k) (was j) (was (j + 1)) (new j) (new (j + 1))
  let on (i : Nat) : Bool := s.bit F.AUX_STAT_LSD_ON i
  let hsd := s.bit F.AUX_STAT_HSD_ON k
  let want (r : Bool) : Bool := r && !c.wait
  let fell := (on j && !want c.req.1) || (on (j + 1) && !want c.req.2)
  let next (r o : Bool) : Bool := want r && (o || (hsd && !fell))
  let any := want c.req.1 || want c.req.2
  let s := (s.setBit F.AUX_REQ_REQ j c.req.1).setBit F.AUX_REQ_REQ (j + 1) c.req.2
  let s := if c.ref.1 then s.setBit F.AUX_FLAG_REFUSED j true else s
  let s := if c.ref.2 then s.setBit F.AUX_FLAG_REFUSED (j + 1) true else s
  let s := if c.bud.1 then s.setBit F.AUX_FLAG_BUDGET j true else s
  let s := if c.bud.2 then s.setBit F.AUX_FLAG_BUDGET (j + 1) true else s
  let s := if c.drop then s.setBit F.AUX_FLAG_DROPPED (j + 1) true else s
  let s := s.setBit F.AUX_STAT_DELAY k c.wait
  let s := (s.setBit F.AUX_STAT_LSD_ON j (next c.req.1 (on j))).setBit F.AUX_STAT_LSD_ON (j + 1) (next c.req.2 (on (j + 1)))
  s.setBit F.AUX_STAT_HSD_ON k (any || (hsd && fell))

/-- The tick of the Aux controller (R365); nothing happens in a debug halt (R382), and outside READY the outputs are low
(Table AUX-2). -/
def auxDecision (s : State) : State :=
  if s.anyHalted then s
  else if !s.flag F.PCR_PWR_STATE_READY then auxOff s
  else
    let s := auxKillNow s
    (s.each (List.range 4) (fun s k => auxPair k s)).modAux (fun x => { x with waiting := [] })

/-- The off-delay of pair `k` ends: HSD[k] rises for the even load (R369). -/
def offDelayEnd (k : Nat) (s : State) : State :=
  if s.anyHalted || !s.bit F.AUX_STAT_DELAY k then s
  else (s.setBit F.AUX_STAT_DELAY k false).setBit F.AUX_STAT_HSD_ON k true

/-- The filtered Hall code of axis `a` (R378). -/
def hallChange (a : Fin 4) (code : BitVec 3) (s : State) : State :=
  if s.flag (F.AUX_HALL_EN a) && s.fld (F.AUX_HALL_CODE a) != code.toNat then
    raiseAx a Ev.hall code.toNat (s.setFld (F.AUX_HALL_CODE a) code.toNat)
  else s

end Sys2Proof.Machine
end

