-- ==== Sys2Proof/Machine/Replay.lean ====
section
/-! DEFINITION. Determinism and replay (chapter 12): the axis start (R230, R231), the slow inputs of a schedule period, the
capture records (R239), and a replay from its request to its end (R240 to R243). -/

namespace Sys2Proof.Machine

/-! ## The axis start -/

/-- The physical plot of the observer RUN entry of axis `a`. -/
def State.obsPhys (s : State) (a : Fin 4) : Nat :=
  match s.field.sched.find? (fun e => e.op == 1 && e.tenant == a.val && decide (e.plot < 16)) with
  | some e => s.physOf e.plot
  | none => 0

/-- The dither seed of axis `a` that starts at step `st` in Exact mode (Table DET-3). -/
def State.ditherSeed (s : State) (a : Fin 4) (st : Nat) : BitVec 64 :=
  BitVec.ofNat 64 (s.ldr.hdr.seeds.getD 0 0) ^^^ (BitVec.ofNat 64 st * genK1) ^^^ BitVec.ofNat 64 (s.obsPhys a * 2 ^ 56)
    ^^^ BitVec.ofNat 64 (a.val * 2 ^ 48)

/-- Seeds the dither generator of axis `a` (R231). -/
def ditherStart (a : Fin 4) (st : Nat) (s : State) : State :=
  if s.exact then s.modDet a (fun d => { d with gen := s.ditherSeed a st })
  else
    let f := s.fresh
    f.2.modDet a (fun d => { d with gen := Config.entropy f.1 })

/-- An axis start at step `st` (R230): state sets, OBSCLAMP, observer history and raw words, Headland, the dither. -/
def axisStart (a : Fin 4) (st : Nat) (s : State) : State :=
  ditherStart a st (headStart a (obsStart a (loopStart a s)))

/-! ## The slow inputs -/

/-- The slow inputs as the registers hold them: the NTC codes, the command word, spin DIR and SPD. -/
def State.slowLive (s : State) (a : Fin 4) : List Nat :=
  [s.fld (F.SNS_NTC_CODE a 0), s.fld (F.SNS_NTC_CODE a 1), (s.reg (R.SNS_CMD_VAL a)).toNat,
    s.fld (F.SCW_SPIN_DIR a), s.fld (F.SCW_SPIN_SPD a)]

/-! ## Capture -/

/-- The number of the next capture record, and the count advanced. -/
def capSeq (a : Fin 4) (s : State) : Nat × State :=
  let n := s.fld (F.LPE_CAP_CTRL_SEQ a)
  (n, s.setFld (F.LPE_CAP_CTRL_SEQ a) (n + 1))

/-- Writes a capture record to the queue of axis `a`; one that finds it full is dropped and sets DROP (R239). -/
def capPost (a : Fin 4) (typ : Nat) (rec_ : List Byte) (s : State) : State :=
  let q := s.fld (F.LPE_CAP_CTRL_QUEUE a)
  let full := s.queTakes q && decide (s.queDepth q ≤ s.queOcc q)
  let s := if full then s.setFlag (F.LPE_CAP_CTRL_DROP a) true else s
  postDesc q typ a.val 16 s.stepN rec_ 0 0 s

/-- The FAST record of axis `a` (Table DET-5), written in the commit cycle; `hl` tells that Headland's set was
committed. -/
def capFast (a : Fin 4) (hl : Bool) (s : State) : State :=
  if !s.flag (F.LPE_CAP_CTRL_EN a) || !s.axisRuns a then s
  else
    let x := (s.sense.get a).deliv
    let w (l : Nat) : Nat := (x.i.getD l 0).toNat
    let q := capSeq a s
    let tags := bitsOf (w 0) 30 1 + 2 * bitsOf (w 1) 30 1 + 4 * bitsOf (w 2) 30 1 + 8 * max (bitsOf (w 0) 28 1) (max (bitsOf (w 1) 28 1) (bitsOf (w 2) 28 1))
      + 16 * bitsOf (w 0) 27 1 + 32 * max (bitsOf (w 0) 29 1) (max (bitsOf (w 1) 29 1) (bitsOf (w 2) 29 1))
      + 64 * bitsOf (w 0) 24 2
    capPost a 0x11 (leBytes 2 (w 0) ++ leBytes 2 (w 1) ++ leBytes 2 (w 2) ++ leBytes 2 (bitsOf x.vbus.toNat 0 14)
      ++ leBytes 1 tags ++ leBytes 1 ((s.pwm.get a).perIdx % 32 + 32 * hl.toNat) ++ leBytes 2 q.1 ++ leBytes 4 0) q.2

/-- The SLOW record of axis `a` (Table DET-6), written in the boundary cycle. -/
def capSlow (a : Fin 4) (s : State) : State :=
  if !s.flag (F.LPE_CAP_CTRL_EN a) || !s.axisRuns a then s
  else
    let v := (s.det.get a).slow
    let ntc (n : Nat) : Nat := v.getD n 0 + 0x8000 * s.fld (F.SNS_NTC_OPEN a n) + 0x4000 * s.fld (F.SNS_NTC_SHORT a n)
    let c := v.getD 2 0
    let q := capSeq a s
    capPost a 0x12 (leBytes 2 (ntc 0) ++ leBytes 2 (ntc 1) ++ leBytes 2 c
      ++ leBytes 1 (bitsOf c 31 1 + 2 * bitsOf c 30 1 + 4 * bitsOf c 29 1) ++ leBytes 1 (v.getD 3 0) ++ leBytes 2 (v.getD 4 0)
      ++ leBytes 2 q.1 ++ leBytes 4 0) q.2

/-! ## Replay -/

/-- Sets VSTEP of axis `a`. -/
def setVstep (a : Fin 4) (v : Nat) (s : State) : State :=
  (s.setFld (F.LPE_RPL_VSTEP_LO_VSTEP a) v).setFld (F.LPE_RPL_VSTEP_HI_VSTEP a) (v / 2 ^ 32)

/-- VSTEP0 of axis `a`. -/
def State.vstep0 (s : State) (a : Fin 4) : Nat := s.tag48 (F.LPE_RPL_VSTEP0_LO_VSTEP0 a) (F.LPE_RPL_VSTEP0_HI_VSTEP0 a)

/-- Puts an axis whose replay has ended back into the tenant reset it was held in, with its injection accumulator as the
live steps have it. -/
def replayLeave (a : Fin 4) (s : State) : State :=
  let d := s.det.get a
  let s := s.modHead a (fun h => { h with acc := h.acc - d.accOfs })
  let s := driveOff a (s.setFlag (F.QUE_TEN_CTRL_IN_RESET a) true)
  (s.modDet a (fun d => { d with accOfs := 0, seq := none, selH := false }))

/-- A replay ends with FAILED and reason `why` (R242). -/
def replayFail (a : Fin 4) (why : Nat) (s : State) : State :=
  replayLeave a ((s.setFld (F.LPE_RPL_STAT_STATE a) 4).setFld (F.LPE_RPL_STAT_WHY a) why)

/-- GO on axis `a` (R240): refused unless the axis is held in tenant reset, the image's hash is the recorded one (`same`),
and in Twin mode the axis takes no input from the twin.  A GO while a replay waits, runs or holds has no effect. -/
def replayGo (a : Fin 4) (same : Bool) (s : State) : State :=
  let st := s.fld (F.LPE_RPL_STAT_STATE a)
  if st = 1 ∨ st = 2 ∨ st = 3 then s
  else
    let why := if !(s.axisConf a && s.inReset a && s.flag (F.QUE_TEN_CTRL_RST a)) then 1
      else if !same then 2
      else if s.twin && s.flag (F.TRL_SHARE_EN a) && s.flag (F.TRL_SHARE_FOLLOWER a) then 3
      else 0
    let s := s.setFld (F.LPE_RPL_STAT_WHY a) why
    if why = 0 then (s.setFld (F.LPE_RPL_STAT_STATE a) 1).modDet a (fun d => { d with seq := none }) else s

/-- A waiting replay starts at the first frame boundary with STEP mod K = VSTEP0 mod K: the axis leaves reset as at an
axis start, with VSTEP = VSTEP0 in the places STEP has ("Replay on the Zauri"). -/
def replayStart (a : Fin 4) (s : State) : State :=
  if s.fld (F.LPE_RPL_STAT_STATE a) = 1 ∧ s.atFrame ∧ s.stepN % s.K = s.vstep0 a % s.K then
    let v := s.vstep0 a
    let s := setVstep a v (s.setFld (F.LPE_RPL_STAT_STATE a) 2)
    let s := axisStart a v (s.setFlag (F.QUE_TEN_CTRL_IN_RESET a) false)
    let acc := BitVec.ofNat 32 (v * s.perPerStep a) * s.reg (R.HDL_INJ_INC a)
    let ofs := acc - (s.head.get a).acc
    (s.modHead a (fun h => { h with acc := acc })).modDet a (fun d => { d with accOfs := ofs })
  else s

/-- The head of the replay queue of axis `a`, none where it is empty. -/
def replayHead (a : Fin 4) (s : State) : Option (List Byte) × State :=
  let q := s.fld (F.LPE_RPL_CTRL_QUEUE a)
  if idxSub (s.queBell q) (s.queCons q) = 0 then (none, s)
  else
    let r := queFetch q (s.queCons q) s
    (some r.1, queConsume q r.2.2)

/-- Takes the next record of type `typ` with axis period index `per` (none in a SLOW record): its payload, or the
failure of R242. -/
def replayTake (a : Fin 4) (typ : Nat) (per : Option Nat) (s : State) : Option (List Byte) × State :=
  let r := replayHead a s
  match r.1 with
  | none => (none, replayFail a 6 r.2)
  | some d =>
    let p := (d.drop 12).take 18
    let seq := leAt p 10 2
    if (s.det.get a).seq.any (fun e => e != seq) then (none, replayFail a 4 r.2)
    else if leAt d 2 1 ≠ typ ∨ leAt d 6 6 ≠ s.vstep a ∨ per.any (fun k => leAt p 9 1 % 32 != k) then (none, replayFail a 5 r.2)
    else (some p, r.2.modDet a (fun x => { x with seq := some ((seq + 1) % 65536) }))

/-- The slow inputs of the schedule period that begins: live, or of the next SLOW record in a replay (R241). -/
def slowTake (a : Fin 4) (s : State) : State :=
  if s.replayRuns a then
    let r := replayTake a 0x12 none s
    match r.1 with
    | none => r.2
    | some p =>
      let f := leAt p 6 1
      let cmd := leAt p 4 2 + 2 ^ 31 * bitsOf f 0 1 + 2 ^ 30 * bitsOf f 1 1 + 2 ^ 29 * bitsOf f 2 1
      r.2.modDet a (fun d => { d with
        slow := [leAt p 0 2 % 0x4000, leAt p 2 2 % 0x4000, cmd, leAt p 7 1, leAt p 8 2] })
  else if s.fld (F.LPE_RPL_STAT_STATE a) = 3 then s
  else s.modDet a (fun d => { d with slow := s.slowLive a })

/-- The sample latch of a replaying axis: the next FAST record is delivered in place of the conversion (R241, R242).  The
Boolean tells that a set was delivered. -/
def replaySample (a : Fin 4) (s : State) : State × Bool :=
  let r := replayTake a 0x11 (some ((s.pwm.get a).perIdx % 32)) s
  match r.1 with
  | none => (r.2, false)
  | some p =>
    let t := leAt p 8 1
    let sat := t.testBit 5
    let leg (l : Nat) : Word := sampleWord false (t.testBit l) sat (t.testBit 3 && t.testBit l) (t.testBit 4) (t / 64) (signedOf 16 (leAt p (2 * l) 2))
    let sum := signedOf 16 (leAt p 0 2) + signedOf 16 (leAt p 2 2) + signedOf 16 (leAt p 4 2)
    let tag := word (s.vstep a % 2 ^ 24 * 256 + leAt p 9 1 % 32)
    let s := r.2.modDet a (fun d => { d with selH := (leAt p 9 1).testBit 5 })
    let n := s.sense.get a
    let s := deliverSet a ⟨[leg 0, leg 1, leg 2], word (leAt p 6 2 % 0x4000), tag, n.mA, n.mB⟩ s
    (kclCheck a (t % 8 == 0 && !sat) (t.testBit 4) sum s, true)

/-- The estimator selection of a commit of axis `a`: Headland's set while the axis drives on Headland, and in a replay
as the record has it (R166, R241). -/
def State.commitHl (s : State) (a : Fin 4) : Bool :=
  if s.replayRuns a then (s.det.get a).selH else s.onHeadland a && s.ret a != .ready

/-- In the commit cycle of its stop period a replay captures the committed pass and is DONE (R243). -/
def replayStop (a : Fin 4) (s : State) : State :=
  if s.replayRuns a
      && s.vstep a == s.tag48 (F.LPE_RPL_STOP_LO_STEP a) (F.LPE_RPL_STOP_HI_STEP a)
      && (s.pwm.get a).perIdx == s.fld (F.LPE_RPL_STOP_HI_PERIOD a) then
    loopCapture a (s.setFld (F.LPE_RPL_STAT_STATE a) 3)
  else s

/-- ABORT on axis `a`: the replay ends, and the axis is in tenant reset again (R243). -/
def replayAbort (a : Fin 4) (s : State) : State :=
  let st := s.fld (F.LPE_RPL_STAT_STATE a)
  let s := s.setFld (F.LPE_RPL_STAT_STATE a) 0
  if st = 2 ∨ st = 3 then replayLeave a s else s

/-- VSTEP advances with STEP while a replay runs. -/
def replayStep (a : Fin 4) (s : State) : State :=
  if s.replayRuns a then setVstep a ((s.vstep a + 1) % 2 ^ 48) s else s

end Sys2Proof.Machine
end

