-- ==== Sys2Proof/Machine/HostRegs.lean ====
section
/-! DEFINITION. One register word written or read by the host (chapters 16 and 19): what a write does beside its access codes,
and the reads that change state (R390). -/

namespace Sys2Proof.Machine

/-! ## Guarded writes -/

/-- The word a plain write leaves, by the access codes alone (R7, R10). -/
def State.plainWord (s : State) (k : Nat) (v : Word) : Word :=
  match regDefAt k with
  | some d => d.write (s.flag F.PCR_IMG_STATUS_SEALED) v (s.reg k)
  | none => s.reg k

/-- A plain write. -/
def plainWrite (k : Nat) (v : Word) (s : State) : State := s.setReg k (s.plainWord k v)

/-- A host write of a compare or trigger shadow of axis `a`: refused with HOSTCOLL where it is not host source (R123). -/
def shadowWrite (a : Fin 4) (k : Nat) (v : Word) (s : State) : State :=
  let o := k - axisBase a
  let own := if o < 0x4080 then s.bit (F.PWM_CTRL_HOST_SRC a) ((o - 0x4040) / 8) else s.bit (F.PWM_CTRL_TRIG_HOST a) ((o - 0x4080) / 4)
  if own then plainWrite k v s else s.setFlag (F.PWM_STAT_HOSTCOLL a) true

/-- A host write of a coefficient bank of axis `a`: the active bank, and the idle one while it is locked, stay as they are, and
COLL is set (R167). -/
def bankWrite (a : Fin 4) (k : Nat) (v : Word) (s : State) : State :=
  let b := decide (0x9400 ≤ k - axisBase a)
  if s.flag (F.LPE_BANK_CTRL_ACTIVE a) == b || s.flag (F.LPE_BANK_CTRL_LOCK a) then s.setFlag (F.LPE_BANK_CTRL_COLL a) true
  else plainWrite k v s

/-! ## Tenant reset -/

/-- What asks tenant `t` to be in reset: its RST, or for an axis HOLD_AXES before the first link-up (R305, R344). -/
def State.resetAsked (s : State) (t : Nat) : Bool := s.flag (F.QUE_TEN_CTRL_RST t) || (decide (t < 4) && s.linkHold)

/-- PENDING: what is asked of tenant `t` awaits its boundary. -/
def tenPending (t : Nat) (s : State) : State :=
  s.setFlag (F.QUE_TEN_CTRL_PENDING t) (s.resetAsked t != s.inReset t)

/-- A keyed write of RST = 1 (R305): the axis's outputs are low from now on, its sequencer is OFF, its dynamic requests and
grants end, and a replay ends. -/
def tenantReset (t : Nat) (s : State) : State :=
  let s := s.setFlag (F.QUE_TEN_CTRL_RST t) true
  let s :=
    if h : t < 4 then
      let a : Fin 4 := ⟨t, h⟩
      let s := if s.replayRuns a || s.fld (F.LPE_RPL_STAT_STATE a) = 3 then replayAbort a s else s
      let whos := ((s.trn.queue ++ s.trn.grants).filter (fun r => r.tenant == t)).map (fun r => r.who)
      trnShow (s.each whos (fun s w => trnEnd w s) |> driveOff a)
    else s
  tenPending t (auxKillNow s)

/-- A keyed write of RST = 0 (R306); a replay of the axis ends. -/
def tenantRelease (t : Nat) (s : State) : State :=
  let s :=
    if h : t < 4 then
      if s.fld (F.LPE_RPL_STAT_STATE t) = 0 then s else replayAbort ⟨t, h⟩ s
    else s
  tenPending t (s.setFlag (F.QUE_TEN_CTRL_RST t) false)

/-- A write of QUE_TEN_CTRL[t]; without its key it is ignored. -/
def tenCtrl (t : Nat) (v : Word) (s : State) : State :=
  if fieldGet v 24 8 ≠ 0x6B then s else if v.getLsbD 8 then tenantReset t s else tenantRelease t s

/-! ## Writes by block -/

/-- A write of PCR_DET_STAT: in Swift mode SWIFT and ANY stay as they are (R238). -/
def detStatWrite (v : Word) (s : State) : State :=
  plainWrite R.PCR_DET_STAT (if s.exact then v else v &&& ~~~0x41#32) s

/-- The common PCR_ registers. -/
def pcrWrite (p : Fin 2) (k : Nat) (v : Word) (s : State) : State :=
  if k = R.PCR_RST_CTRL then rstCtrl v s
  else if k = R.PCR_WAKE_HOST then s.when (v.getLsbD 0) (wakeCause 3 0 false)
  else if k = R.PCR_SLEEP then (plainWrite k v s).when (v.getLsbD 0) sleepRequest
  else if k = R.PCR_FLD_CTRL then (plainWrite k v s).when (v.getLsbD 30) pd3Ack
  else if k = R.PCR_IMG_CTRL then imgCtrl p v s
  else if k = R.PCR_IMG_FIFO then fifoWord p v s
  else if k = R.PCR_DET_STAT then detStatWrite v s
  else if k = R.PCR_DET_LIVE_STEP_LO then s.modPort p (fun x => { x with detLo := v })
  else if k = R.PCR_DET_LIVE_STEP_HI then s.modPort p (fun x => { x with detHi := v &&& 0xFFFF#32 })
  else plainWrite k v s

/-- The FLD_ registers. -/
def fldWrite (k : Nat) (v : Word) (s : State) : State :=
  if k = R.FLD_REPAIR then fldRepair v s
  else if R.FLD_CSET_CTRL 0 ≤ k ∧ k < R.FLD_CSET_CTRL 32 ∧ k % 16 = 0 then
    (plainWrite k v s).when (v.getLsbD 0) (cutSwapReq ((k - R.FLD_CSET_CTRL 0) / 16) false)
  else plainWrite k v s

/-- The HRW_ and CHK_ registers. -/
def hrwWrite (k : Nat) (v : Word) (s : State) : State :=
  if R.CHK_CFG 0 ≤ k ∧ k < R.CHK_CFG 8 then
    let n := (k - R.CHK_CFG 0) / 0x40
    if k = R.CHK_CTRL n then s.when (v.getLsbD 0) (chkHostInit n)
    else if k = R.CHK_DIN n then chkHostFeed n (leBytes 4 v.toNat) s
    else if k = R.CHK_DIN1 n then chkHostFeed n (leBytes 1 v.toNat) s
    else if k = R.CHK_STAT n then plainWrite k v s
    else if k ≤ R.CHK_REC n then chkConfig n k (s.plainWord k v) s
    else plainWrite k v s
  else if R.HRW_CH_CFG 0 ≤ k ∧ k < R.HRW_CH_CFG 4 then
    let c := (k - R.HRW_CH_CFG 0) / 0x20
    if k = R.HRW_CH_CTRL c then
      let s := s.when (v.getLsbD 1 && s.chBusy c) (scanEndWhy c 6)
      s.when (v.getLsbD 0) (scanGo c)
    else plainWrite k v s
  else plainWrite k v s

/-- The SAF_ and ROT_ registers. -/
def safWrite (p : Fin 2) (k : Nat) (v : Word) (s : State) : State :=
  if k = R.SAF_ACK then
    let s := doubtAck (fieldGet v 0 5) s
    let s := axstopAck (fieldGet v 8 4) s
    s.when (v.getLsbD 16) stoAck
  else if k = R.SAF_DEMAND then demandWrite v s
  else if k = R.SAF_REL then relWrite p v s
  else match allAxes.find? (fun (a : Fin 4) => R.SAF_HCAUSE a == k) with
    | some a => axstopEnd a (plainWrite k v s)
    | none => plainWrite k v s

/-- The QUE_ and SQR_ registers, and the status REFUSED where a queue index is not allowed (R312, R313). -/
def queWrite (k : Nat) (v : Word) (s : State) : Nat × State :=
  if k < R.QUE_CFG 64 then
    let n := (k - R.QUE_CFG 0) / 0x20
    let refused : Nat × State := (0xD, s.setFlag (F.QUE_STAT_REFUSED n) true)
    if k = R.QUE_CONS n then (if s.consOk n (fieldGet v 0 16) then (0, setCons n (fieldGet v 0 16) s) else refused)
    else if k = R.QUE_DB n then
      if !s.queRole n false then (0xB, s)
      else if s.inReset (s.queTenant n) then (0xC, s)
      else if s.bellOk n (fieldGet v 0 16) then (0, bellWrite n (fieldGet v 0 16) s)
      else refused
    else (0, plainWrite k v s)
  else if R.QUE_TEN_CTRL 0 ≤ k ∧ k < R.QUE_TEN_CTRL 5 then
    let t := (k - R.QUE_TEN_CTRL 0) / 0x10
    if k = R.QUE_TEN_CTRL t then (0, tenCtrl t v s)
    else
      let s := plainWrite k v s
      (0, if s.fld (F.QUE_TFSTICKY_CAUSE t) = 0 then s.setFld (F.QUE_TFAULT_FIRST t) 0 else s)
  else if k = R.SQR_SWTRIG then (0, raise (Ev.sw (fieldGet v 16 4)) (fieldGet v 0 16) s)
  else (0, plainWrite k v s)

/-- The TRL_ registers. -/
def trlWrite (k : Nat) (v : Word) (s : State) : State :=
  if k = R.TRL_CTRL then
    let s := plainWrite k v s
    let s := s.when (fieldGet v 24 8 == 0x7E && v.getLsbD 8) trlAck
    s.when (v.getLsbD 1) psClr
  else if k = R.TRL_TILE_CMD then tileCmd (fieldGet v 30 2) (fieldGet v 0 16) s
  else match (List.range 8).find? (fun i => R.TRL_BULK_CTRL i == k) with
    | some i => s.when (v.getLsbD 0) (bulkGo i)
    | none => plainWrite k v s

/-- The AUX_ registers of an axis window. -/
def auxWrite (k : Nat) (v : Word) (s : State) : State :=
  if k = R.AUX_SET then auxSet (fieldGet v 0 8) s
  else if k = R.AUX_CLR then auxClr (fieldGet v 0 8) s
  else plainWrite k v s

/-- A write of LPE_CAP_CTRL: setting EN restarts SEQ. -/
def capWrite (a : Fin 4) (k : Nat) (v : Word) (s : State) : State :=
  let was := s.flag (F.LPE_CAP_CTRL_EN a)
  let s := plainWrite k v s
  if !was && s.flag (F.LPE_CAP_CTRL_EN a) then s.setFld (F.LPE_CAP_CTRL_SEQ a) 0 else s

/-- GO and ABORT of a replay; whether the recorded image is the running one is free (DESIGN CHOICE, log entry 20). -/
def rplWrite (a : Fin 4) (k : Nat) (v : Word) (s : State) : State :=
  let s := (plainWrite k v s).when (v.getLsbD 1) (replayAbort a)
  if v.getLsbD 0 then
    let x := s.fresh
    replayGo a (Config.replaySame x.1) x.2
  else s

/-- The registers of axis window `a`. -/
def axisWrite (a : Fin 4) (k : Nat) (v : Word) (s : State) : State :=
  let o := k - axisBase a
  if o = 0x2C then (plainWrite k v s).when (v.getLsbD 0) (calRequest a)
  else if o = 0xBC then (plainWrite k v s).when (v.getLsbD 0) (losAck a)
  else if o = 0x4008 then (plainWrite k v s).when (v.getLsbD 0) (armGroup (s.fld (F.PWM_CTRL_GROUP a)))
  else if 0x4040 ≤ o ∧ o < 0x4090 then shadowWrite a k v s
  else if o = 0x40E0 then outputsMoved a (s.gates a) (plainWrite k v s)
  else if o = 0x4108 then s.when (v.getLsbD 0) (tripClear a)
  else if o = 0x8010 then (plainWrite k v s).when (v.getLsbD 0) (bankSwapReq a)
  else if o = 0x8400 then (plainWrite k v s).when (v.getLsbD 1) (drvAck a)
  else if o = 0x8800 then capWrite a k v s
  else if o = 0x8804 then rplWrite a k v s
  else if 0x9000 ≤ o ∧ o < 0x9800 then bankWrite a k v s
  else if 0x14000 ≤ o then auxWrite k v s
  else plainWrite k v s

/-- The effect of a write of `v` at register `k`, by `p`, and its status.  The access is allowed. -/
def regEffect (p : Fin 2) (k : Nat) (v : Word) (s : State) : Nat × State :=
  if k = R.SCW_FIRED then (0, firedWrite v s)
  else if k < 0x20000 then (0, plainWrite k v s)
  else if k < 0x30000 then (0, pcrWrite p k v s)
  else if h : 0x100000 ≤ k ∧ k < 0x200000 then (0, axisWrite ⟨(k - 0x100000) / 0x40000, by omega⟩ k v s)
  else if k < 0x300000 then (0, fldWrite k v s)
  else if k < 0x340000 then (0, hrwWrite k v s)
  else if k < 0x380000 then (0, safWrite p k v s)
  else if k < 0x3C0000 then queWrite k v s
  else if k < 0x3E0000 then (0, trlWrite k v s)
  else (0, plainWrite k v s)

/-- A window whose registers read as 0 and ignore writes: of an axis not present, or not configured by the image, or of a
plot that is not enabled (R4, R387). -/
def State.deadWord (s : State) (k : Nat) : Bool :=
  if 0x100000 ≤ k ∧ k < 0x200000 then
    let a := (k - 0x100000) / 0x40000
    !s.axisPresent a || (s.applied && !s.ldr.axes.testBit a && !auxShared k)
  else if 0x201000 ≤ k ∧ k < 0x211000 then decide (s.physPlots.length ≤ k / 0x1000 - 0x201)
  else false

/-- A host write of one word (R384, R7, R43): `port` is none for a queue command, which writes as `p`. -/
def regWrite (port : Option (Fin 2)) (p : Fin 2) (k : Nat) (v : Word) (s : State) : Nat × State :=
  let h := homeKey k
  if s.deadWord k || (regDefAt h).isNone then (0, s)
  else
    let r := regEffect p h v s
    (r.1, liveWrite port k v r.2)

/-- A host read of one word by port `p`: the word shown, and what the three reads of R390 change. -/
def regRead (p : Fin 2) (k : Nat) (s : State) : Word × State :=
  let port := s.ports.get p
  if s.deadWord k then (0, s)
  else if k = R.PCR_STEP_LO then (s.shown k, s.modPort p (fun x => { x with stepHi := s.stepN / 2 ^ 32 }))
  else if k = R.PCR_STEP_HI then (word port.stepHi, s)
  else if k = R.PCR_DET_LIVE_STEP_LO then (port.detLo, s)
  else if k = R.PCR_DET_LIVE_STEP_HI then (port.detHi, s)
  else if k = R.SCW_LOG_TIME then (s.shown k, logTake s)
  else if 0x386000 ≤ k ∧ k < 0x386600 then
    let i := (k - 0x386000) / 8
    if k % 8 = 0 then (s.shown k, s.modPort p (fun x => { x with audB := SMap.put 0 x.audB i (s.shown (k + 4)) }))
    else (SMap.get 0 port.audB i, s)
  else (s.shown k, s)

end Sys2Proof.Machine
end

