-- ==== Sys2Proof/Machine/Ports.lean ====
section
/-! DEFINITION. The host ports (chapter 16): what a frame may touch (R304, R331, R383 to R388), its effect, and the answer
(Tables QUE-8 to QUE-10). -/

namespace Sys2Proof.Machine

/-! ## Access checks -/

/-- The registers R331 leaves reachable while PD2 is off. -/
def alwaysOn (k : Nat) : Bool :=
  decide (k < 0x20100) || (decide (0x20400 ≤ k) && decide (k < 0x20500)) || (decide (0x340000 ≤ k) && decide (k < 0x340100))

/-- The power domain of a register by Tables MAP-1 and MAP-3. -/
def regDomain (k : Nat) : Nat :=
  if alwaysOn k then 0
  else if 0x100000 ≤ k ∧ k < 0x200000 ∧ (k - 0x100000) % 0x40000 < 0x4000 then 1
  else if 0x201000 ≤ k ∧ k < 0x211000 then 3
  else if (0x300000 ≤ k ∧ k < 0x340000) ∨ 0x3E0000 ≤ k then 5
  else if 0x3C0000 ≤ k then 4
  else 2

/-- A register's access ends with PD_OFF (R331, R388). -/
def State.regOff (s : State) (k : Nat) : Bool := !alwaysOn k && (!s.pd 2 || !s.pd (regDomain k))

/-- The status of an access to register words, 0 where it is allowed: every word is checked before any is touched. -/
def State.regCheck (s : State) (ks : List Nat) : Nat :=
  if ks.any (fun k => k % 4 != 0 || !mapped k) then 3 else if ks.any (fun k => s.regOff k) then 5 else 0

/-- Port `p` is bound to tenant `t` (R304). -/
def State.bound (s : State) (p : Fin 2) (t : Nat) : Bool :=
  !s.applied || (decide (t < 5) && s.bit (F.QUE_TEN_CTRL_PORTS t) p.val)

/-- A register whose writes need no binding (R304, R48). -/
def freeReg (k : Nat) : Bool := k == R.SAF_DEMAND || k == R.SAF_REL || (decide (0x20200 ≤ k) && decide (k < 0x20300))

/-- Port `p` may write `v` at `k`. -/
def State.mayWrite (s : State) (p : Fin 2) (k : Nat) (v : Word) : Bool :=
  freeReg k || (s.writeTenants k v).all (fun t => s.bound p t)

/-! ## Answers -/

/-- A word's bytes on the wire, most significant first. -/
def wireWord (w : Word) : List Byte := (leBytes 4 w.toNat).reverse

/-- The port answers with status `code` and `rdata` (Table QUE-8). -/
def answer (p : Fin 2) (code : Nat) (rdata : List Word) (s : State) : State :=
  let attn := s.flag (F.PCR_HP_STAT_WIN_ERR p) || s.flag (F.PCR_HP_STAT_PORT_ERR p)
  let st := 0x80 + 0x40 * attn.toNat + code
  s.modPort p (fun x => { x with resp := some ⟨st, rdata, crc16 (leBytes 1 st ++ rdata.flatMap wireWord)⟩ })

/-- The request ends with NOT_BOUND. -/
def notBound (p : Fin 2) (s : State) : State := answer p 4 [] (s.bump (F.PCR_HP_CNT_NOT_BOUND p) 1)

/-- A frame reaches port `p`: nothing while the port ignores traffic (R328), CRC_ERR where its CRC or length is wrong (R326). -/
def frame (p : Fin 2) (ok : Bool) (f : State → State) (s : State) : State :=
  if (s.ports.get p).deaf then s
  else if ok then f s
  else answer p 1 [] (s.bump (F.PCR_HP_CNT_CRC p) 1)

/-! ## Register frames -/

/-- Consecutive words from an address. -/
def wordAddrs (addr n : Nat) : List Nat := (List.range n).map (fun i => addr + 4 * i)

/-- Writes words in ascending order (R385): the first status that is not OK, and the state.  A reset ends the frame. -/
def writeWords (p : Fin 2) : List (Nat × Word) → State → Nat × State
  | [], s => (0, s)
  | (k, v) :: l, s =>
    let r := regWrite (some p) p k v s
    if k = R.PCR_RST_CTRL ∧ r.2.pwr = 1 ∧ s.pwr ≠ 1 then (0, r.2)
    else
      let q := writeWords p l r.2
      (if r.1 = 0 then q.1 else r.1, q.2)

/-- WRITE of consecutive words. -/
def writeFrame (p : Fin 2) (addr : Nat) (vs : List Word) (s : State) : State :=
  let ws := (wordAddrs addr vs.length).zip vs
  let c := s.regCheck (ws.map (fun x => x.1))
  if c ≠ 0 then answer p c [] s
  else if !ws.all (fun x => s.mayWrite p x.1 x.2) then notBound p s
  else
    let r := writeWords p ws s
    answer p r.1 [] r.2

/-- Reads words in ascending order. -/
def readWords (p : Fin 2) : List Nat → State → List Word × State
  | [], s => ([], s)
  | k :: l, s =>
    let r := regRead p k s
    let q := readWords p l r.2
    (r.1 :: q.1, q.2)

/-- READ of `n` consecutive words. -/
def readFrame (p : Fin 2) (addr n : Nat) (s : State) : State :=
  let ks := wordAddrs addr n
  let c := s.regCheck ks
  if c ≠ 0 then answer p c [] s
  else
    let r := readWords p ks s
    answer p 0 r.1 r.2

/-- STAT: PCR_HP_STAT of the port. -/
def statFrame (p : Fin 2) (s : State) : State :=
  if s.regOff (R.PCR_HP_STAT p) then answer p 5 [] s else answer p 0 [s.shown (R.PCR_HP_STAT p)] s

/-- A host write of one register word, as a WRITE frame of one word makes it. -/
def hostWrite (p : Fin 2) (k : Nat) (v : Word) (s : State) : State := frame p true (writeFrame p k [v]) s

/-- A host read of one register word, as a READ frame of one word makes it. -/
def hostRead (p : Fin 2) (k : Nat) (s : State) : State := frame p true (readFrame p k 1) s

/-! ## Window frames -/

/-- The status of a window request for `n` words at `addr`, with its target. -/
def State.winCheck (s : State) (addr n : Nat) : Nat × Option WinTarget :=
  if addr % 4 ≠ 0 then (3, none)
  else if !s.pd 2 then (5, none)
  else match s.winTarget addr (4 * n) with
    | none => (3, none)
    | some w => (0, some w)

/-- WWRITE: the write is posted (R330). -/
def wwriteFrame (p : Fin 2) (addr : Nat) (vs : List Word) (s : State) : State :=
  match s.winCheck addr vs.length with
  | (_, some w) =>
    if !s.bound p 4 then notBound p s
    else if (s.ports.get p).wr.isSome then answer p 7 [] s
    else
      let bs := vs.flatMap (fun v => leBytes 4 v.toNat)
      winAsk p true w (answer p 0 [] (s.modPort p (fun x => { x with wr := some (addr, bs) })))
  | (c, none) => answer p c [] s

/-- WREQ: `n` words into the port's read buffer (R330). -/
def wreqFrame (p : Fin 2) (addr n : Nat) (s : State) : State :=
  match s.winCheck addr n with
  | (_, some w) =>
    if (s.winPend p).isSome then answer p 7 [] s
    else winAsk p false w (answer p 0 [] (s.modPort p (fun x => { x with rd := some ⟨addr, 4 * n, none, false⟩ })))
  | (c, none) => answer p c [] s

/-- WFETCH: PENDING, the requested words, or ACCESS_ERR (R330). -/
def wfetchFrame (p : Fin 2) (addr : Nat) (s : State) : State :=
  if addr % 4 ≠ 0 ∨ addr < 0x1000000 then answer p 3 [] s
  else if !s.pd 2 then answer p 5 [] s
  else match (s.ports.get p).rd with
    | none => answer p 8 [] s
    | some r =>
      if r.bad then answer p 6 [] s
      else match r.data with
        | none => answer p 8 [] s
        | some bs => answer p 0 (wordsOf bs) s

/-! ## Queue frames -/

/-- The status of a queue request of port `p` on queue `n`, 0 where it goes on: the number, the domain, the binding and the
role; `z2h` is the role it needs. -/
def State.queCheck (s : State) (p : Fin 2) (n : Nat) (z2h : Bool) : Nat :=
  if 64 ≤ n then 3
  else if !s.pd 2 then 5
  else if !s.bound p (s.queTenant n) then 4
  else if !s.queRole n z2h || s.que.stopped.contains n then 0xB
  else if !z2h && s.inReset (s.queTenant n) then 0xC
  else if !z2h && decide (s.queDepth n ≤ s.queOcc n) then 9
  else if z2h && s.queOcc n == 0 then 0xA
  else 0

/-- A queue request that ends with status `c`. -/
def queRefuse (p : Fin 2) (c : Nat) (s : State) : State := if c = 4 then notBound p s else answer p c [] s

/-- ENQ of one descriptor (R311). -/
def enqFrame (p : Fin 2) (n : Nat) (ws : List Word) (s : State) : State :=
  let c := if ws.length = 8 then s.queCheck p n false else 3
  if c = 0 then answer p 0 [] (enqDesc n (ws.flatMap (fun w => leBytes 4 w.toNat)) s) else queRefuse p c s

/-- DEQ and PEEK (R313). -/
def deqFrame (p : Fin 2) (n len : Nat) (consume : Bool) (s : State) : State :=
  let c := if len = 7 then s.queCheck p n true else 3
  if c = 0 then
    let r := queHead n s
    let s := if consume then setCons n ((s.queCons n + 1) % 65536) r.2 else r.2
    answer p 0 (wordsOf r.1) s
  else queRefuse p c s

/-! ## Frames that fail -/

/-- CSN rises before the last CRC bit (R326). -/
def frameShort (p : Fin 2) (s : State) : State :=
  if (s.ports.get p).deaf then s else s.bump (F.PCR_HP_CNT_SHORT p) 1

/-- CSN stays low for 256 ticks (R328). -/
def frameTimeout (p : Fin 2) (s : State) : State :=
  if (s.ports.get p).deaf then s
  else
    let s := (s.setFlag (F.PCR_HP_STAT_PORT_ERR p) true).bump (F.PCR_HP_CNT_TMO p) 1
    (s.setBit (F.PCR_HP_IRQ_SRC p) 4 true).modPort p (fun x => { x with deaf := true })

/-- CSN has been high for four ticks (R328). -/
def csnHigh (p : Fin 2) (s : State) : State := s.modPort p (fun x => { x with deaf := false })

/-! ## Interrupt outputs -/

/-- HPn_IRQN is asserted ("Interrupts"; Table PWR-4 step 13). -/
def State.irqAsserted (s : State) (p : Fin 2) : Bool :=
  !s.applied || !s.flag F.PCR_PWR_STATE_READY || s.flag F.SAF_STAT_SAFE
  || (List.range 32).any (fun r => s.bit F.SCW_FIRED_FIRED r && s.bit (F.SCW_RULE_A_ACTION r) (1 + p.val))
  || fieldGet (s.shown (R.PCR_HP_IRQ p)) 0 8 &&& s.fld (F.PCR_HP_IRQ_EN p) != 0

end Sys2Proof.Machine
end

