-- ==== Sys2Proof/Machine/AuxRows.lean ====
section
/-! DEFINITION. The meanings of the aux outputs' and Hall inputs' commands (chapter 18). -/

namespace Sys2Proof.Machine

/-- AUX_SET (R373, R374). -/
def execAuxSet (p : Fin 2) (v : BitVec 8) (s : State) : Res := .next (hostWrite p R.AUX_SET (word v.toNat) s)

/-- AUX_CLR (R374). -/
def execAuxClr (p : Fin 2) (v : BitVec 8) (s : State) : Res := .next (hostWrite p R.AUX_CLR (word v.toNat) s)

/-- AUX_DECISION (R365 to R371). -/
def execAuxDecision (s : State) : Res := .next (auxDecision s)

/-- OFF_DELAY_END (R369). -/
def execOffDelayEnd (k : Fin 4) (s : State) : Res := .next (offDelayEnd k s)

/-- HALL (R378). -/
def execHall (a : Fin 4) (code : BitVec 3) (s : State) : Res := .next (hallChange a code s)

end Sys2Proof.Machine
end

