-- ==== Sys2Proof/Machine/Boundary.lean ====
section
/-! DEFINITION. The load point (R119), the commit window (R21, R165), and the schedule-period boundary with its zero step, its
frame boundary and its command visit (R17, R18, R20, R314). -/

namespace Sys2Proof.Machine

/-! ## The return to the observers -/

/-- No axis returns while PD3 is lost or off ("Headland takeover and return"). -/
def State.mayReturn (s : State) : Bool := !s.flag F.PCR_FLD_CTRL_LOST && s.pd 3

/-- The estimator selection of a commit of axis `a`: the record's in a replay, Headland's set while the axis drives on Headland
and does not return with this commit (R165, R246, R247, R241). -/
def State.commitSel (s : State) (a : Fin 4) : Bool :=
  if s.replayRuns a then s.commitHl a else s.onHeadland a && !(s.ret a == .ready && s.mayReturn)

/-- Tenant `t` is no longer in doubt (R245, R247). -/
def doubtEnd (t : Nat) (s : State) : State :=
  let s := (setRet t .idle (s.setBit F.SAF_STAT_DOUBT t false)).setReg (R.SAF_DCAUSE t) 0
  linkDoubt (s.modSaf (fun f => { f with startHl := f.startHl &&& ~~~BitVec.ofNat 4 (2 ^ t) }))

/-- The load point after the commit that took the observers' set completes the return (R247). -/
def returnLoad (a : Fin 4) (s : State) : State :=
  if s.ret a = .committed then (if s.mayReturn then doubtEnd a s else setRet a .ready s) else s

/-- The closing frame passed for tenant `t`: its commits are all counted and its test plot passed (R247, R254, R250). -/
def State.frameClean (s : State) (t : Nat) : Bool :=
  s.fld (F.SAF_CKPT_CNT_CNT t) == s.fld (F.SAF_CKPT_EXP_EXP t)
  && (s.saf.tpPass.getLsbD t || !s.field.sched.any (fun e => e.op == 2 && min e.tenant 4 == t))

/-- A frame boundary in the return of tenant `t`: the qualifying frame begins, or has ended (R247, R248). -/
def returnFrame (t : Nat) (s : State) : State :=
  match s.ret t with
  | .waitFrame => if s.inReset t then s else setRet t .inFrame s
  | .inFrame =>
    if !s.frameClean t then s
    else if t < 4 then setRet t .ready s
    else if s.mayReturn then doubtEnd t s
    else s
  | _ => s

/-! ## The load point -/

/-- Axis `a` has a timebase that runs: the schedule runs, and the axis is configured and not halted (R15, R134). -/
def State.timed (s : State) (a : Fin 4) : Bool := s.pow.running && s.axisConf a && !s.halted a

/-- A load point of axis `a` that begins its period `idx`, with the levels of its trip inputs in that cycle (R119, R129, R144,
R148, R247). -/
def loadPoint (a : Fin 4) (idx : Nat) (nflt : Bool) (oc : BitVec 3) (s : State) : State :=
  let s := s.modPwm a (fun p => { p with nflt := nflt, oc := oc })
  returnLoad a (headLoad a (loopLoad a (pwmLoad a idx (obsLoad a s))))

/-- A load point of axis `a` within a schedule period. -/
def axisLoad (a : Fin 4) (nflt : Bool) (oc : BitVec 3) (s : State) : State :=
  let i := (s.pwm.get a).perIdx + 1
  if !s.timed a || decide (s.perPerStep a ≤ i) then s
  else raiseAx a Ev.pstart 0 (loadPoint a i nflt oc s)

/-! ## The commit window -/

/-- The commit cycle of axis `a` of an armed or unarmed group: the committed stage, the state handover, the FAST record, the
release of an early sample, and the end of a replay (R119, R165, R239, R102, R243). -/
def axisCommit (armed : Bool) (s : State) (a : Fin 4) : State :=
  let hl := s.commitSel a
  let s := s.setFld (F.PWM_CNT_CNT a) (s.per a - 60)
  let words := if armed then (s.takenSet a hl).words else []
  let s := pwmCommit a hl armed s
  let s := if armed then loopCommit a hl s else s
  let s := if armed && !hl && s.ret a == .ready && s.mayReturn && !s.replayRuns a then setRet a .committed s else s
  let s := capFast a (hl && armed) s
  let r := earlyRelease a words s
  let s := if r.2 then headCompute a r.1 else r.1
  replayStop a (if armed then sectorEvent a s else s)

/-- A load group's events of the commit cycle: its request is served (R119, R322). -/
def loadAllServe (g : Nat) (s : State) : State :=
  let t := s.task (0x40 + g)
  let s := { s with armed := s.armed &&& ~~~BitVec.ofNat 4 (2 ^ g) }
  if t.pend = 0 then s else s.setTask (0x40 + g) { t with pend := 0, srv := (t.srv + 1) % 65536 }

/-- The first cycle of the commit window of load group `g` (R21, R121). -/
def commitWindow (g : Fin 4) (s : State) : State :=
  let l := allAxes.filter (fun a => s.timed a && s.inGroup g a)
  if l.isEmpty then s
  else
    let armed := s.armed.getLsbD g
    let s := s.each l (axisCommit armed)
    if armed then raiseAll (l.map (fun a => (0x20 * a.val + Ev.commit, 0))) false (loadAllServe g s) else s

/-! ## The command visit -/

/-- The port as which a queue command of tenant `t` writes: the lowest bound to it. -/
def State.cmdPort (s : State) (t : Nat) : Fin 2 := if s.bit (F.QUE_TEN_CTRL_PORTS t) 0 then 0 else 1

/-- One word of a command is written (R314); the Boolean tells that a LIVE field refused it (R43). -/
def cmdWord (p : Fin 2) (r : Bool × State) (x : Nat × Word) : Bool × State :=
  let s := r.2
  let no := (s.ldr.live.filter (fun d => homeKey d.addr == homeKey x.1)).any (fun d => !s.liveTakes d x.2)
  (r.1 || no, (regWrite none p x.1 x.2 s).2)

/-- The words a CMD_BLOCK writes: its staged data, or those of the granary. -/
def State.cmdData (s : State) (d : List Byte) (block : Option (List Byte)) : List (Nat × Word) :=
  let bs := block.getD (memRead s.gran (leAt d 12 4) (leAt d 4 2))
  (List.range (leAt d 4 2 / 4)).map (fun i => (leAt d 16 4 + 4 * i, word (leAt bs (4 * i) 4)))

/-- A command of queue `n` is applied ("Commands"). -/
def cmdApply (n : Nat) (d : List Byte) (block : Option (List Byte)) (s : State) : Bool × State :=
  let t := s.queTenant n
  let a := leAt d 12 4
  let m := word (leAt d 20 4)
  let ws := if leAt d 2 1 = 1 then [(a, (s.shown a &&& ~~~m) ||| (word (leAt d 16 4) &&& m))] else s.cmdData d block
  let s := if leAt d 2 1 = 1 then s else (granRead none a (leAt d 4 2) s).2
  let r := ws.foldl (cmdWord (s.cmdPort t)) (false, s)
  (r.1, inlog 1 t (if leAt d 2 1 = 1 then a else leAt d 16 4)
    (if leAt d 2 1 = 1 then word (leAt d 16 4) else (ws.head?.map (fun x => x.2)).getD 0) r.2)

/-- Queue `n` feeds a replay, and its head is a record that the replay takes. -/
def State.replayRecord (s : State) (n : Nat) (d : List Byte) : Bool :=
  allAxes.any (fun a => s.fld (F.LPE_RPL_CTRL_QUEUE a) == n && s.axisConf a) && (leAt d 2 1 == 0x11 || leAt d 2 1 == 0x12)

/-- The visit of queue `n` with `k` commands applied so far, at most `fuel` descriptors long (R314, R315, R316). -/
def queVisit (n : Nat) : Nat → Nat → State → State
  | 0, _, s => s
  | fuel + 1, k, s =>
    if s.que.stopped.contains n || decide (8 ≤ k) || idxSub (s.queBell n) (s.queCons n) == 0 then s
    else
      let i := s.queCons n
      let f := queFetch n i s
      let d := f.1
      let s := f.2.2
      if s.replayRecord n d then s
      else
        let v := s.descVerdict n d
        if v ≠ 0 then queVisit n fuel k (returnDesc n i d v (queConsume n (aliveRef n d s)))
        else if !s.descDue n d then s
        else
          let r := cmdApply n d f.2.1 (queConsume n (aliveRef n d s))
          let s := if r.1 then returnDesc n i d 7 r.2
            else if (leAt d 30 1).testBit 2 then returnDesc n i d 0 r.2 else r.2
          queVisit n fuel (k + 1) s

/-- The command engine visits the H2Z queues in ascending number (R314); a tenant in reset has none to visit. -/
def commandVisit (s : State) : State :=
  s.each (List.range 64) (fun s n =>
    if s.queRole n false && !s.inReset (s.queTenant n) then queVisit n (idxSub (s.queBell n) (s.queCons n)) 0 s else s)

/-! ## Tenants at their boundary -/

/-- Tenant `t` enters reset (R305): its schedule entries, passes and Harrow channels end, and its command queues are emptied; of
the estate also the standing checks and the Turnstile's audit error. -/
def tenantEnter (t : Nat) (s : State) : State :=
  let s := s.setFlag (F.QUE_TEN_CTRL_IN_RESET t) true
  let s := runsDrop (fun e => min e.tenant 4 == t) s
  let s := s.each ((s.queuesOf t).filter (fun n => s.queRole n false)) (fun s n => queFlush n s)
  let s := setRet t .idle (scansTenant t s)
  if h : t < 4 then
    let a : Fin 4 := ⟨t, h⟩
    driveOff a (s.modLoop a (fun l => { l with passO := none, passH := none }))
  else
    let s := s.modField (fun f => { f with
      spillRuns := [], planned := f.planned.filter (fun p => p.1 == bistIdx || decide (p.2.1 < 4)) })
    let s := s.setFlag F.SIL_STAT_BUSY s.field.siloAcc.isSome
    (s.setFlag F.TRN_STATUS_AUDIT_ERR false).modTrn (fun x => { x with barred := false })

/-- Axis `a` starts on Headland at this boundary: where it is a frame boundary, the frame that begins is the first complete one
(R62, R306). -/
def startHere (a : Fin 4) (s : State) : State :=
  let s := startOnHeadland a s
  if s.atFrame && !s.inReset a then setRet a .inFrame s else s

/-- Tenant `t` leaves reset (R306): an axis starts on Headland with bank A, and every queue of the tenant restarts. -/
def tenantLeave (t : Nat) (s : State) : State :=
  let s := s.setFlag (F.QUE_TEN_CTRL_IN_RESET t) false
  let s := s.each (s.queuesOf t) (fun s n => queRestart n s)
  if h : t < 4 then
    let a : Fin 4 := ⟨t, h⟩
    if s.axisConf a then startHere a (axisStart a s.stepN (s.setFlag (F.LPE_BANK_CTRL_ACTIVE a) false)) else s
  else if s.bit F.SAF_STAT_DOUBT 4 && s.fld (F.SAF_DCAUSE_CAUSE 4) == 0 then setRet 4 .inFrame s
  else s

/-- The tenants that enter reset at this boundary: axes at any, the estate at a frame boundary; an axis under replay is out of
its reset until the replay ends. -/
def State.entering (s : State) : List Nat :=
  (List.range 5).filter (fun t => s.resetAsked t && !s.inReset t && (decide (t < 4) || s.atFrame)
    && !(decide (t < 4) && (s.fld (F.LPE_RPL_STAT_STATE t) == 2 || s.fld (F.LPE_RPL_STAT_STATE t) == 3)))

/-- The tenants that leave reset at this boundary. -/
def State.leaving (s : State) : List Nat :=
  (List.range 5).filter (fun t => !s.resetAsked t && s.inReset t && (decide (t < 4) || s.atFrame)
    && !(decide (t < 4) && s.bit F.PCR_IMG_STATUS_TEN_NOIMG t) && !s.loadTargets t)

/-! ## The boundary -/

/-- The zero step begins (R17, R230, R245, R212, R142): STEP is 0, no axis is in doubt, every axis out of reset starts on
Headland, and the window, PCR_DET_STAT, Rotation's turns and the PD3 grant begin afresh. -/
def zeroStep (s : State) : State :=
  let s := { s with step := 0, rot := { s.rot with turns := 0 } }
  let s := s.modPow (fun p => { p with running := true, zeroPend := false })
  let s := if s.pow.waking then s.setFld F.PCR_WAKE_TIME_TICKS (s.fld F.SCW_TICK_TICK + 2 ^ 32 - s.pow.wakeTick) else s
  let s := (s.modPow (fun p => { p with waking := false })).setFld F.PCR_EPOCH_EPOCH (s.fld F.PCR_EPOCH_EPOCH + 1)
  let s := s.setReg R.PCR_DET_STAT 0
  let s := if s.exact then s else detFlag F.PCR_DET_STAT_SWIFT s
  let s := s.each (allAxes.filter (fun a => s.timed a)) (fun s a => zeroCommit a s)
  windowStart (trnEnd .pd3 (s.each (List.range 5) (fun s t => doubtEnd t s)))

/-- The axes start with the zero step, after its load point. -/
def zeroAxes (s : State) : State :=
  s.each allAxes (fun s a =>
    let s := s.modHead a (fun h => { h with acc := 0 })
    if s.axisConf a then startHere a (axisStart a 0 s) else s)

/-- What closes a frame before STEP advances: the returns, Rotation's turn, and the counts of the frame. -/
def frameEnd (s : State) : State :=
  rotClose (scrubFrame (s.each (List.range 5) (fun s t => returnFrame t s)))

/-- What opens a frame: the test plot's runs, the counts shown for the frame, and the reduction start afresh. -/
def frameOpen (s : State) : State :=
  let s := s.modSaf (fun f => { f with tp := [], tpPass := 0 })
  let s := reductionFrame (s.modField (fun f => { f with seqNext := [] }))
  s.each allAxes (fun s a => (s.setFld (F.HDL_STAT_REFUSE a) 0).setReg (R.SNS_WINCNT a) 0)

/-- A coefficient bank swap of axis `a`, with its input-log descriptor. -/
def bankSwapLog (a : Fin 4) (s : State) : State :=
  let t := bankSwap a s
  if s.flag (F.LPE_BANK_CTRL_ACTIVE a) == t.flag (F.LPE_BANK_CTRL_ACTIVE a) then t
  else inlog 3 a (Config.inlogField 3 a 0 s.stepN).toNat (Config.inlogField 3 a 1 s.stepN) t

/-- A cutting swap of set `c`, with its input-log descriptor and, where a message of the twin asked for it, its answer. -/
def cutSwapLog (c : Nat) (s : State) : State :=
  let n := s.fld (F.FLD_CSET_CTRL_TENANT c)
  let t := cutSwap c s
  let t := if s.flag (F.FLD_CSET_CTRL_ALT c) == t.flag (F.FLD_CSET_CTRL_ALT c) then t
    else inlog 4 n c (Config.inlogField 4 n 1 s.stepN) t
  cutReport s c t

/-- Steps 3 and 4 of Table PER-5: new periods, load-all, bank swaps, then cuttings, LIVE writes and commands (R20, R234). -/
def boundaryInputs (zero : Bool) (nflt : BitVec 4) (oc : BitVec 12) (s : State) : State :=
  let s := livePeriods s
  let s := s.each (allAxes.filter (fun a => s.timed a))
    (fun s a => loadPoint a 0 (nflt.getLsbD a) (oc.extractLsb' (3 * a.val) 3) s)
  let s := s.each (s.entering) (fun s t => tenantEnter t s)
  let s := if zero then zeroAxes s else s
  let s := s.each allAxes (fun s a => bankSwapLog a s)
  let s := s.each (List.range 32) (fun s c => cutSwapLog c s)
  commandVisit (liveBoundary s)

/-- Steps 5 and 6: the fallow plot and Rotation advance, the signals of the closed period are captured (R173, R222), and at a
frame boundary the prognostic window closes. -/
def boundaryClose (zero : Bool) (s : State) : State :=
  let s := if s.atFrame then rotOpen (fallowAdvance s) else s
  let s := s.each allAxes (fun s a =>
    if zero || !s.axisRuns a || s.replayDone a then s else loopCapture a s)
  if zero then s
  else
    let s := s.each s.confAxes (fun s a => decTake a s)
    if s.atFrame then frameClose s else s

/-- The rest of the boundary cycle: tenants that leave reset, replays that start, the command and slow inputs of the new period,
idle counts, expected commits, the link, and the events. -/
def boundaryRest (before : List Nat) (s : State) : State :=
  let s := s.each s.leaving (fun s t => tenantLeave t s)
  let s := s.each allAxes (fun s a => if s.axisConf a then capSlow a (slowTake a (cmdDeliver a (replayStart a s))) else s)
  let s := s.each (List.range 64) (fun s n => if s.flag (F.QUE_CFG_EN n) then queIdle n s else s)
  let s := s.each (List.range 5) (fun s t => tenPending t s)
  let s := if s.atFrame then ckptFrame s else ckptFollow before s
  let s := sharePrune (linkBoundary s)
  let evs := ((allAxes.filter (fun a => s.timed a)).map (fun a => (0x20 * a.val + Ev.pstart, 0)))
    ++ (if s.atFrame then [(Ev.frame, 0)] else []) ++ [(Ev.period, 0)]
  let s := snapTake (raiseAll evs false s)
  if s.atFrame then stdDue s else s

/-- The schedule-period boundary cycle (R15, R17, R18, R20), with the levels of the trip inputs in that cycle.  Without a
running schedule there is no boundary, but for the one that begins the zero step. -/
def periodBoundary (nflt : BitVec 4) (oc : BitVec 12) (s : State) : State :=
  let zero := s.pow.zeroPend
  if !s.pow.running && !zero then s
  else
    let last := !zero && (s.stepN + 1) % 2 ^ 48 % s.K == 0
    let s := if last then frameEnd s else s
    let s := if zero then zeroStep s
      else { s with step := s.step + 1 }.each allAxes (fun s a => replayStep a s)
    let s := s.setFld F.PCR_FRAME_POS_LCLK_IN_PERIOD 0
    let s := if s.atFrame then frameOpen s else s
    let before := (List.range 5).map (fun t => s.ckptRest t s.perInFrame)
    boundaryRest before (boundaryClose zero (boundaryInputs zero nflt oc s))

end Sys2Proof.Machine
end

