-- ==== Sys2Proof/Machine/CycleRows.lean ====
section
/-! DEFINITION. The meanings of the schedule's cycles: the period boundary, the checkpoint, load points and commits. -/

namespace Sys2Proof.Machine

/-- SCHEDULE_PERIOD_BOUNDARY (R17, R18, R20). -/
def execSchedulePeriodBoundary (nflt : BitVec 4) (oc : BitVec 12) (s : State) : Res := .next (periodBoundary nflt oc s)

/-- END_OF_FRAME_CHECKPOINT (R254, R255). -/
def execEndOfFrameCheckpoint (s : State) : Res := .next (checkpoint s)

/-- LOAD_POINT (R119). -/
def execLoadPoint (a : Fin 4) (nflt : Bool) (oc : BitVec 3) (s : State) : Res := .next (axisLoad a nflt oc s)

/-- COMMIT_WINDOW (R21). -/
def execCommitWindow (g : Fin 4) (s : State) : Res := .next (commitWindow g s)

end Sys2Proof.Machine
end

