-- ==== Sys2Proof/Machine/FieldRows.lean ====
section
/-! DEFINITION. The meanings of the Field's, the granary's and the silo's commands (chapters 09 to 11 and 13). -/

namespace Sys2Proof.Machine

/-- SCHEDULE_ENTRY_START (R177, R72). -/
def execScheduleEntryStart (i : Nat) (s : State) : Res := .next (entryStart i s)

/-- LAYER_END (R175, R200). -/
def execLayerEnd (i : Nat) (ups : List Upset) (s : State) : Res :=
  whenWf (.layerEnd i ups) "LAYER_END" (layerEnd i ups s)

/-- NETWORK_COMMIT (R213); in Twin mode a lane of PRG sends its partials (R358). -/
def execNetworkCommit (i : Nat) (s : State) : Res := .next (partSend i (networkCommit i s))

/-- SPILL_START (R192). -/
def execSpillStart (i : Nat) (s : State) : Res := .next (spillStart i s)

/-- SILO_BLOCK_END (R192). -/
def execSiloBlockEnd (i : Nat) (bytes : List Byte) (s : State) : Res := .next (siloBlock i bytes s)

/-- DQS_TIMEOUT (R381). -/
def execDqsTimeout (i : Nat) (s : State) : Res := .next (dqsTimeout i s)

/-- FALLOW_BIST_START (R181). -/
def execFallowBistStart (s : State) : Res := .next (bistStart s)

/-- FALLOW_BIST_END (R181). -/
def execFallowBistEnd (fail : Bool) (s : State) : Res := .next (bistEnd fail s)

/-- WINDOW_ACCESS_SERVED (R186, R183). -/
def execWindowAccessServed (p : Fin 2) (wr : Bool) (ups : List Upset) (s : State) : Res :=
  whenWf (.windowAccessServed p wr ups) "WINDOW_ACCESS_SERVED" (winServe p wr (applyUpsets ups s))

/-- WINDOW_ACCESS_TIMEOUT (R186). -/
def execWindowAccessTimeout (p : Fin 2) (wr : Bool) (s : State) : Res := .next (winTimeout p wr s)

/-- FLD_REPAIR (R196). -/
def execFldRepair (p : Fin 2) (v : Word) (s : State) : Res := .next (hostWrite p R.FLD_REPAIR v s)

/-- UNPLANNED_SILO_ACCESS (R193). -/
def execUnplannedSiloAccess (n : Nat) (s : State) : Res :=
  whenWf (.unplannedSiloAccess n) "UNPLANNED_SILO_ACCESS" (siloStart n s)

/-- CUTTING_SWAP_REQUEST (R204). -/
def execCuttingSwapRequest (p : Fin 2) (c : Fin 32) (v : Word) (s : State) : Res :=
  .next (hostWrite p (R.FLD_CSET_CTRL c) (v ||| 1#32) s)

/-- CUTTING_SWAP_CHECK_END (R204, R205); a set that came from the twin answers it (R207). -/
def execCuttingSwapCheckEnd (c : Fin 32) (s : State) : Res := .next (cutReport s c (cutCheckEnd c s))

/-- VERDICT_POST (R225). -/
def execVerdictPost (s : State) : Res := .next (prgVerdicts s)

/-- TEST_PLOT_COMPARE (R250); a leader's records are sent or retracted (R355). -/
def execTestPlotCompare (n : Nat) (s : State) : Res :=
  .next (match s.tpJudge n with
    | some (t, r) => shareJudge t (r == some false) (tpCompare n s)
    | none => s)

end Sys2Proof.Machine
end

