-- ==== Sys2Proof/Machine/HarrowRows.lean ====
section
/-! DEFINITION. The meanings of Harrow's and the check units' commands (chapter 15). -/

namespace Sys2Proof.Machine

/-- HRW_GO (R287, R288). -/
def execHrwGo (p : Fin 2) (c : Fin 4) (s : State) : Res := .next (hostWrite p (R.HRW_CH_CTRL c) 1#32 s)

/-- HRW_ABORT (R289). -/
def execHrwAbort (p : Fin 2) (c : Fin 4) (s : State) : Res := .next (hostWrite p (R.HRW_CH_CTRL c) 2#32 s)

/-- SCAN_END (R287, R292). -/
def execScanEnd (c : Fin 4) (ups : List Upset) (s : State) : Res :=
  whenWf (.scanEnd c ups) "SCAN_END" (scanDone c (applyUpsets ups s))

/-- STARVED (R289). -/
def execStarved (c : Fin 4) (n : Nat) (s : State) : Res := .next (scanStarved c n s)

/-- SCRUB_ACCESS (R294). -/
def execScrubAccess (m : Fin 32) (ups : List Upset) (s : State) : Res :=
  whenWf (.scrubAccess m ups) "SCRUB_ACCESS" (scrubAccess m (applyUpsets ups s))

/-- SCRUB_WRITE_BACK (R294). -/
def execScrubWriteBack (m : Fin 32) (s : State) : Res := .next (scrubWriteBack m s)

/-- CHK_INIT (R296). -/
def execChkInit (p : Fin 2) (n : Fin 8) (s : State) : Res := .next (hostWrite p (R.CHK_CTRL n) 1#32 s)

/-- CHK_DIN (R296, R298). -/
def execChkDin (p : Fin 2) (n : Fin 8) (v : Word) (s : State) : Res := .next (hostWrite p (R.CHK_DIN n) v s)

/-- CHK_DIN1 (R296, R298). -/
def execChkDin1 (p : Fin 2) (n : Fin 8) (v : Byte) (s : State) : Res := .next (hostWrite p (R.CHK_DIN1 n) (word v.toNat) s)

/-- STANDING_CHECK_END (R300). -/
def execStandingCheckEnd (ups : List Upset) (s : State) : Res :=
  whenWf (.standingCheckEnd ups) "STANDING_CHECK_END" (stdEnd (applyUpsets ups s))

end Sys2Proof.Machine
end

