-- ==== Sys2Proof/Machine/HostRows.lean ====
section
/-! DEFINITION. The meanings of the host ports' frames (chapters 16 and 19). -/

namespace Sys2Proof.Machine

/-- WRITE (R304, R384, R385). -/
def execWrite (p : Fin 2) (ok : Bool) (addr : Nat) (vs : List Word) (s : State) : Res :=
  whenWf (.write p ok addr vs) "WRITE" (frame p ok (writeFrame p addr vs) s)

/-- READ (R383). -/
def execRead (p : Fin 2) (ok : Bool) (addr n : Nat) (s : State) : Res :=
  whenWf (.read p ok addr n) "READ" (frame p ok (readFrame p addr n) s)

/-- STAT (R327). -/
def execStat (p : Fin 2) (ok : Bool) (s : State) : Res := .next (frame p ok (statFrame p) s)

/-- WWRITE (R330). -/
def execWwrite (p : Fin 2) (ok : Bool) (addr : Nat) (vs : List Word) (s : State) : Res :=
  whenWf (.wwrite p ok addr vs) "WWRITE" (frame p ok (wwriteFrame p addr vs) s)

/-- WREQ (R330). -/
def execWreq (p : Fin 2) (ok : Bool) (addr n : Nat) (s : State) : Res :=
  whenWf (.wreq p ok addr n) "WREQ" (frame p ok (wreqFrame p addr n) s)

/-- WFETCH (R330). -/
def execWfetch (p : Fin 2) (ok : Bool) (addr : Nat) (s : State) : Res :=
  whenWf (.wfetch p ok addr) "WFETCH" (frame p ok (wfetchFrame p addr) s)

/-- FRAME_DISCARDED (R326). -/
def execFrameDiscarded (p : Fin 2) (s : State) : Res := .next (frameShort p s)

/-- FRAME_TIMEOUT (R328). -/
def execFrameTimeout (p : Fin 2) (s : State) : Res := .next (frameTimeout p s)

/-- CSN_HIGH_FOUR_TICKS (R328). -/
def execCsnHighFourTicks (p : Fin 2) (s : State) : Res := .next (csnHigh p s)

/-- REGISTER_WRITE (R7). -/
def execRegisterWrite (p : Fin 2) (addr : Nat) (v : Word) (s : State) : Res :=
  whenWf (.registerWrite p addr v) "REGISTER_WRITE" (hostWrite p addr v s)

/-- STEP_LO_READ (R390). -/
def execStepLoRead (p : Fin 2) (s : State) : Res := .next (hostRead p R.PCR_STEP_LO s)

/-- SQR_AUD_A_READ (R390). -/
def execSqrAudARead (p : Fin 2) (k : Fin 192) (s : State) : Res := .next (hostRead p (R.SQR_AUD_A k) s)

end Sys2Proof.Machine
end

