-- ==== Sys2Proof/Machine/LinkRows.lean ====
section
/-! DEFINITION. The meanings of Tramline's commands (chapter 17). -/

namespace Sys2Proof.Machine

/-- TRAINING_ADVANCE (R343, R345, R346). -/
def execTrainingAdvance (t : TrainStep) (s : State) : Res :=
  whenWf (.trainingAdvance t) "TRAINING_ADVANCE" (trainAdvance t s)

/-- TRAIN_TMO (R343). -/
def execTrainTmo (s : State) : Res := .next (trainTmo s)

/-- LANE_LOSS_OF_SIGNAL (R343, R351). -/
def execLaneLossOfSignal (s : State) : Res := .next (laneLoss s)

/-- SLOT_START (R340, R338). -/
def execSlotStart (slot : Fin 16) (y0 y1 y2 y3 : Nat) (s : State) : Res := .next (slotStart slot [y0, y1, y2, y3] s)

/-- BURST_RECEIVED (R341, R350). -/
def execBurstReceived (slot : Fin 16) (lclk : Nat) (ui : Int) (fs : List LinkFrame) (s : State) : Res :=
  whenWf (.burstReceived slot lclk ui fs) "BURST_RECEIVED" (burstReceived slot lclk ui fs s)

/-- RETRAIN_END (R342, R347). -/
def execRetrainEnd (dly : BitVec 12) (apart : Bool) (s : State) : Res := .next (retrainEnd dly.toNat apart s)

/-- SLOT_0_WITHOUT_HEARTBEAT (R350). -/
def execSlot0WithoutHeartbeat (s : State) : Res := .next (noHeartbeat s)

/-- TRAINING_SETS_WHILE_UP (R351). -/
def execTrainingSetsWhileUp (s : State) : Res := .next (if s.linkLive then linkOff 9 s else s)

/-- NULL (R338): it returns credits only. -/
def execNull (s : State) : Res := .next (linkHandle 0 (fun _ s => s) s)

/-- HEARTBEAT (R339, R348, R363). -/
def execHeartbeat (s : State) : Res := .next (linkHandle 1 heartbeatIn s)

/-- DOUBT (R354). -/
def execDoubt (s : State) : Res := .next (linkHandle 2 doubtIn s)

/-- RETRACT (R355). -/
def execRetract (s : State) : Res := .next (linkHandle 3 retractIn s)

/-- SAFE (R354). -/
def execSafe (s : State) : Res := .next (linkHandle 4 (fun _ s => safeDemand 8 s) s)

/-- SHARE (R356, R235). -/
def execShare (s : State) : Res := .next (linkHandle 0x10 shareIn s)

/-- PARTIAL (R358, R236). -/
def execPartialFrame (s : State) : Res := .next (linkHandle 0x20 partialIn s)

/-- REDUCTION_SUM (R236, R358). -/
def execReductionSum (s : State) : Res := .next (reductionSum s)

/-- CUT_BEGIN (R207, R359). -/
def execCutBegin (s : State) : Res := .next (linkHandle 0x30 cutBegin s)

/-- CUT_DATA (R207). -/
def execCutData (s : State) : Res := .next (linkHandle 0x31 cutData s)

/-- CUT_STAT (R359). -/
def execCutStat (s : State) : Res := .next (linkHandle 0x33 cutStat s)

/-- RTF_REQ (R361). -/
def execRtfReq (s : State) : Res := .next (linkHandle 0x34 rtfReq s)

/-- TILE_DATA (R362). -/
def execTileData (s : State) : Res := .next (linkHandle 0x35 tileData s)

/-- EVN (R362). -/
def execEvn (s : State) : Res := .next (linkHandle 0x36 evnIn s)

/-- EVN_ACK (R361). -/
def execEvnAck (s : State) : Res := .next (linkHandle 0x37 evnAck s)

/-- TILE_ABSENT (R361). -/
def execTileAbsent (s : State) : Res := .next (linkHandle 0x38 tileAbsent s)

/-- EVICTION_SILO_WRITE_END (R361). -/
def execEvictionSiloWriteEnd (s : State) : Res := .next (evictWritten s)

/-- TILE_CMD (R361). -/
def execTileCmd (p : Fin 2) (v : Word) (s : State) : Res := .next (hostWrite p R.TRL_TILE_CMD v s)

/-- LINK_OFF_NOTICE: the chip that receives it enters LINK_OFF itself ("Error counters and link states", R351); in training
that ends the training. -/
def execLinkOffNotice (s : State) : Res := .next (linkOff 9 s)

/-- OFF_READY (R352). -/
def execOffReady (s : State) : Res := .next (offReady s)

/-- TRL_ACK (R352). -/
def execTrlAck (p : Fin 2) (v : Word) (s : State) : Res :=
  .next (hostWrite p R.TRL_CTRL (v &&& 0x00FFFFFF#32 ||| 0x7E000100#32) s)

/-- PS_CLR (R353). -/
def execPsClr (p : Fin 2) (v : Word) (s : State) : Res := .next (hostWrite p R.TRL_CTRL (v &&& 0x00FFFFFF#32 ||| 2#32) s)

/-- BULK_GO (R359, R360). -/
def execBulkGo (p : Fin 2) (i : Fin 8) (v : Word) (s : State) : Res := .next (hostWrite p (R.TRL_BULK_CTRL i) (v ||| 1#32) s)

/-- BULK_TIMEOUT (R360). -/
def execBulkTimeout (i : Fin 8) (s : State) : Res := .next (bulkTimeout i s)

end Sys2Proof.Machine
end

