-- ==== Sys2Proof/Machine/LoaderRows.lean ====
section
/-! DEFINITION. The meanings of the loader's commands (chapter 02). -/

namespace Sys2Proof.Machine

/-- START (R48, R47). -/
def execStart (p : Fin 2) (v : Word) (s : State) : Res := .next (hostWrite p R.PCR_IMG_CTRL (v ||| 1#32) s)

/-- IMG_FIFO_WORD (R49). -/
def execImgFifoWord (p : Fin 2) (v : Word) (s : State) : Res := .next (hostWrite p R.PCR_IMG_FIFO v s)

/-- STALL (R49). -/
def execStall (s : State) : Res := .next (loadStall s)

/-- ABORT (R33). -/
def execAbort (p : Fin 2) (v : Word) (s : State) : Res :=
  .next (hostWrite p R.PCR_IMG_CTRL (v &&& 0xFFFFFFFE#32 ||| 2#32) s)

/-- SEAL (R42). -/
def execSeal (p : Fin 2) (v : Word) (s : State) : Res :=
  .next (hostWrite p R.PCR_IMG_CTRL (v &&& 0xFFFFFFFC#32 ||| 4#32) s)

/-- LIVE_WRITE (R43, R44). -/
def execLiveWrite (p : Fin 2) (addr : Nat) (v : Word) (s : State) : Res :=
  whenWf (.liveWrite p addr v) "LIVE_WRITE" (hostWrite p addr v s)

/-- IMAGE_APPLY (R34). -/
def execImageApply (s : State) : Res := .next (imageApply s)

/-- PLOT_STORE_FILL_END (R61). -/
def execPlotStoreFillEnd (s : State) : Res := .next (plotFillEnd s)

/-- SILO_LOAD_END (R36). -/
def execSiloLoadEnd (bytes : List Byte) (s : State) : Res := .next (siloLoadEnd bytes s)

end Sys2Proof.Machine
end

