-- ==== Sys2Proof/Machine/LoopRows.lean ====
section
/-! DEFINITION. The meanings of the Loop Engine's and the replay's commands (chapters 07, 08 and 12). -/

namespace Sys2Proof.Machine

/-- DRV_MASK (R148). -/
def execDrvMask (a : Fin 4) (s : State) : Res := .next (drvMask a s)

/-- DRV_ACK (R148). -/
def execDrvAck (p : Fin 2) (a : Fin 4) (v : Word) (s : State) : Res := .next (hostWrite p (R.LPE_DRV_CTRL a) (v ||| 2#32) s)

/-- PASS_O (R161), with the crossing before it: a follower substitutes its leader's words, a leader shares its own (R356). -/
def execPassO (a : Fin 4) (ce : Nat) (ue : Option Nat) (s : State) : Res :=
  .next (runPass a true ce ue (shareForm a (shareCross a s)))

/-- PASS_H (R161). -/
def execPassH (a : Fin 4) (ce : Nat) (ue : Option Nat) (s : State) : Res := .next (runPass a false ce ue s)

/-- BANK_SWAP_REQUEST (R168). -/
def execBankSwapRequest (p : Fin 2) (a : Fin 4) (v : Word) (s : State) : Res :=
  .next (hostWrite p (R.LPE_BANK_CTRL a) (v ||| 1#32) s)

/-- BANK_GUARD_CHECK_END (R168, R169). -/
def execBankGuardCheckEnd (a : Fin 4) (s : State) : Res := .next (guardEnd a s)

/-- REPLAY_GO (R240). -/
def execReplayGo (p : Fin 2) (a : Fin 4) (v : Word) (s : State) : Res :=
  .next (hostWrite p (R.LPE_RPL_CTRL a) (v &&& 0xFFFFFFFD#32 ||| 1#32) s)

/-- REPLAY_ABORT (R243). -/
def execReplayAbort (p : Fin 2) (a : Fin 4) (v : Word) (s : State) : Res :=
  .next (hostWrite p (R.LPE_RPL_CTRL a) (v &&& 0xFFFFFFFE#32 ||| 2#32) s)

end Sys2Proof.Machine
end

