-- ==== Sys2Proof/Machine/PowerRows.lean ====
section
/-! DEFINITION. The meanings of the commands of power, reset, start, sleep and wake, and of the Turnstile (chapter 03). -/

namespace Sys2Proof.Machine

/-! ## The Turnstile -/

/-- The work of a request begins with its grant. -/
def trnGo (r : TrnReq) (s : State) : State :=
  match r.who with
  | .scan c => scanRun c s
  | .silo _ => siloShow s
  | .bulk i => bulkStart i s
  | .pd3 => pd3Granted s

/-- A request is refused (R74). -/
def trnNo (r : TrnReq) (s : State) : State :=
  match r.who with
  | .scan c => scanRefused c s
  | .silo n => siloRefused n s
  | .bulk i => bulkRefused i s
  | .pd3 => pd3Fail s

/-- The tenant and cost of a request of `w`, none while that unit waits for no tokens (Table PWR-6). -/
def State.trnNeeds (s : State) (w : TrnWho) : Option (Nat × Nat) :=
  let silo (k n : Nat) : Bool := match s.winTarget k n with
    | some (.silo ..) => true
    | _ => false
  let win (n : Nat) : Bool :=
    if n < 2 then (s.winPend (if n = 0 then 0 else 1)).any (fun r => silo r.addr r.len)
    else (s.ports.get (if n = 2 then 0 else 1)).wr.any (fun r => silo r.1 r.2.length)
  match w with
  | .scan c => if s.fld (F.HRW_CH_STAT_STATE c) = 1 then some (s.fld (F.HRW_CH_CFG_TENANT c), s.fld F.TRN_COST_HARROW) else none
  | .silo n => if n < 4 && win n then some (4, s.fld F.TRN_COST_SILO) else none
  | .bulk i => if s.fld (F.TRL_BULK_STAT_STATE i) = 1 then some (4, s.fld F.TRN_COST_TL_BULK) else none
  | .pd3 => if s.pd3Wanted && s.applied && s.pd 2 && !s.pow.pd3Wait then some (4, s.fld F.TRN_COST_PD3_WAKE) else none

/-- A unit that waits for tokens and is not in the books joins its tenant's queue (R73). -/
def trnAsk (w : TrnWho) (s : State) : State :=
  match s.trnNeeds w with
  | some (t, cost) => if s.trnHas w || s.inReset t then s else trnShow (trnRequest w t cost s)
  | none => s

/-- TURNSTILE_REQUEST (R73). -/
def execTurnstileRequest (w : TrnWho) (s : State) : Res := whenWf (.turnstileRequest w) "TURNSTILE_REQUEST" (trnAsk w s)

/-- TURNSTILE_EDGE (R71, R73, R75): the SCLK tick that SCW_TICK counts. -/
def execTurnstileEdge (s : State) : Res := .next (trnEdge trnGo trnNo (s.setFld F.SCW_TICK_TICK (s.fld F.SCW_TICK_TICK + 1)))

/-- TURNSTILE_TIMEOUT (R74). -/
def execTurnstileTimeout (w : TrnWho) (s : State) : Res :=
  whenWf (.turnstileTimeout w) "TURNSTILE_TIMEOUT" (trnTimeout trnNo w s)

/-! ## Resets and supplies -/

/-- POWER_ON_RESET (R51). -/
def execPowerOnReset (s : State) : Res := .next (powerOnReset s)

/-- PIN_RESET (R51). -/
def execPinReset (s : State) : Res := .next (pinReset s)

/-- NRESET_RELEASE (R60). -/
def execNresetRelease (boot : Fin 4) (s : State) : Res := .next (nresetRelease boot s)

/-- HOST_RESET (R51). -/
def execHostReset (p : Fin 2) (s : State) : Res := .next (hostWrite p R.PCR_RST_CTRL 0xA5000001#32 s)

/-- SUPPLY_MONITOR_TRIP (R59, R393). -/
def execSupplyMonitorTrip (rails : BitVec 4) (s : State) : Res := .next (supplyTrip rails.toNat s)

/-- BOR_RESET (R59). -/
def execBorReset (s : State) : Res := .next (borReset s)

/-- VDD_TL_MONITOR_TRIP (R393). -/
def execVddTlMonitorTrip (s : State) : Res := .next (tlSupplyTrip s)

/-- CLOCK_FAULT (R58, R57). -/
def execClockFault (kind : Fin 3) (s : State) : Res := .next (clockFault kind s)

/-! ## The start sequence -/

/-- REFERENCE_DETECTION (R57). -/
def execReferenceDetection (r : Option Bool) (s : State) : Res := .next (refDetect r s)

/-- PLL_LOCK (R58). -/
def execPllLock (s : State) : Res := .next (pllLock s)

/-- DIVIDER_ALIGNMENT (R13). -/
def execDividerAlignment (s : State) : Res := .next (dividersAligned s)

/-- READY (R61). -/
def execReady (s : State) : Res := .next (readyStep s)

/-- PD3_POWER_GOOD (R63). -/
def execPd3PowerGood (s : State) : Res := .next (pd3Good s)

/-- PGOOD_TIMEOUT (R63). -/
def execPgoodTimeout (s : State) : Res := .next (pgoodTimeout s)

/-- PD3_POWER_GOOD_LOST (R64). -/
def execPd3PowerGoodLost (s : State) : Res := .next (pd3Lost s)

/-- PD3_ACK (R64). -/
def execPd3Ack (p : Fin 2) (v : Word) (s : State) : Res := .next (hostWrite p R.PCR_FLD_CTRL (v ||| 0x40000000#32) s)

/-! ## Sleep and wake -/

/-- SLEEP_REQUEST (R66). -/
def execSleepRequest (p : Fin 2) (v : Word) (s : State) : Res := .next (hostWrite p R.PCR_SLEEP (v ||| 1#32) s)

/-- SLEEP_ENTRY (R67). -/
def execSleepEntry (s : State) : Res := .next (sleepEntry trnNo s)

/-- WAKE (R69). -/
def execWake (s : State) : Res := .next (wakeCause 2 0 false s)

/-- WAKE_HOST (R69). -/
def execWakeHost (p : Fin 2) (s : State) : Res := .next (hostWrite p R.PCR_WAKE_HOST 1#32 s)

/-- RESTORE_END (R70). -/
def execRestoreEnd (good : Bool) (s : State) : Res := .next (restoreEnd good s)

/-- WAKE_COMPLETE (R68). -/
def execWakeComplete (s : State) : Res := .next (wakeComplete s)

end Sys2Proof.Machine
end

