-- ==== Sys2Proof/Machine/PwmRows.lean ====
section
/-! DEFINITION. The meanings of the PWM unit's commands (chapter 06). -/

namespace Sys2Proof.Machine

/-- The trip inputs of axis `a` have these levels now. -/
def pinLevels (a : Fin 4) (nflt : Bool) (oc : BitVec 3) (s : State) : State :=
  s.modPwm a (fun p => { p with nflt := nflt, oc := oc })

/-- TRIG (R133, R94). -/
def execTrig (a n : Fin 4) (early : Bool) (s : State) : Res := .next (trigger a n early s)

/-- OVERCURRENT_TRIP (R105): the comparators' levels change, and an active one trips. -/
def execOvercurrentTrip (a : Fin 4) (oc : BitVec 3) (s : State) : Res := .next (tripLevels a (s.pwm.get a).nflt oc s)

/-- NFLT_TRIP (R128). -/
def execNfltTrip (a : Fin 4) (s : State) : Res := .next (tripLevels a true (s.pwm.get a).oc s)

/-- BLANK_WINDOW_CLOSE (R132). -/
def execBlankWindowClose (a c : Fin 4) (nflt : Bool) (oc : BitVec 3) (s : State) : Res :=
  .next (blankClose a c (pinLevels a nflt oc s))

/-- TCH_EVENT (Table PWM-7). -/
def execTchEvent (a c : Fin 4) (s : State) : Res := .next (timerChannel a c s)

/-- LOAD_REQ (R119). -/
def execLoadReq (p : Fin 2) (a : Fin 4) (v : Word) (s : State) : Res := .next (hostWrite p (R.PWM_LOAD a) (v ||| 1#32) s)

/-- TRIP_CLR (R131). -/
def execTripClr (p : Fin 2) (a : Fin 4) (nflt : Bool) (oc : BitVec 3) (s : State) : Res :=
  .next (hostWrite p (R.PWM_TRIP_CLR a) 1#32 (pinLevels a nflt oc s))

/-- DEBUG_HALT (R134, R382). -/
def execDebugHalt (m : BitVec 4) (s : State) : Res := .next (debugHalt m s)

/-- OUTPUT_EDGE (R114, R115, R132). -/
def execOutputEdge (a : Fin 4) (u : Fin 8) (t : Nat) (s : State) : Res := .next (outputEdge a u t s)

end Sys2Proof.Machine
end

