-- ==== Sys2Proof/Machine/QueueRows.lean ====
section
/-! DEFINITION. The meanings of the commands of queues, tenants and the Square (chapter 16). -/

namespace Sys2Proof.Machine

/-- ENQ (R311). -/
def execEnq (p : Fin 2) (ok : Bool) (n : Nat) (ws : List Word) (s : State) : Res :=
  whenWf (.enq p ok n ws) "ENQ" (frame p ok (enqFrame p n ws) s)

/-- DEQ (R313). -/
def execDeq (p : Fin 2) (ok : Bool) (n len : Nat) (s : State) : Res :=
  whenWf (.deq p ok n len) "DEQ" (frame p ok (deqFrame p n len true) s)

/-- PEEK (R313). -/
def execPeek (p : Fin 2) (ok : Bool) (n len : Nat) (s : State) : Res :=
  whenWf (.peek p ok n len) "PEEK" (frame p ok (deqFrame p n len false) s)

/-- QUE_DB (R312). -/
def execQueDb (p : Fin 2) (n : Fin 64) (v : Word) (s : State) : Res := .next (hostWrite p (R.QUE_DB n) v s)

/-- DOORBELL_REGISTERED (R312). -/
def execDoorbellRegistered (n : Fin 64) (s : State) : Res := .next (bellRegister n s)

/-- QUE_CONS (R313). -/
def execQueCons (p : Fin 2) (n : Fin 64) (v : Word) (s : State) : Res := .next (hostWrite p (R.QUE_CONS n) v s)

/-- QUEUE_TIMEOUT (R319). -/
def execQueueTimeout (n : Fin 64) (s : State) : Res := .next (queTimeout n s)

/-- TENANT_RESET (R305). -/
def execTenantReset (p : Fin 2) (t : Fin 5) (s : State) : Res := .next (hostWrite p (R.QUE_TEN_CTRL t) 0x6B000100#32 s)

/-- TENANT_RELEASE (R306). -/
def execTenantRelease (p : Fin 2) (t : Fin 5) (s : State) : Res := .next (hostWrite p (R.QUE_TEN_CTRL t) 0x6B000000#32 s)

/-- SQR_SWTRIG (R320). -/
def execSqrSwtrig (p : Fin 2) (v : Word) (s : State) : Res := .next (hostWrite p R.SQR_SWTRIG v s)

/-- PAYLOAD_OVERFLOW_SERVICE (R321): the PAYLOAD task inputs are MASK_SEL of the axes. -/
def execPayloadOverflowService (a : Fin 4) (s : State) : Res := .next (ovfServe (0x10 * a.val + 4) s)

/-- QUEUE_EVENT_POST (R321). -/
def execQueueEventPost (n : Fin 64) (s : State) : Res := .next (eventPost n s)

end Sys2Proof.Machine
end

