-- ==== Sys2Proof/Machine/SafetyRows.lean ====
section
/-! DEFINITION. The meanings of the safety block's commands (chapter 13). -/

namespace Sys2Proof.Machine

/-- DOUBT_ACK (R247). -/
def execDoubtAck (p : Fin 2) (m : BitVec 5) (s : State) : Res := .next (hostWrite p R.SAF_ACK (word m.toNat) s)

/-- AXSTOP_ACK (R258). -/
def execAxstopAck (p : Fin 2) (m : BitVec 4) (s : State) : Res := .next (hostWrite p R.SAF_ACK (word (256 * m.toNat)) s)

/-- STO_ACK (R270). -/
def execStoAck (p : Fin 2) (s : State) : Res := .next (hostWrite p R.SAF_ACK 0x00010000#32 s)

/-- SAF_DEMAND (R259). -/
def execSafDemand (p : Fin 2) (s : State) : Res := .next (hostWrite p R.SAF_DEMAND 0xD5000001#32 s)

/-- SAFE_STATE_POWER_OFF (R259, R58). -/
def execSafeStatePowerOff (s : State) : Res := .next (safePowerOff s)

/-- SAF_REL (R264, R265). -/
def execSafRel (p : Fin 2) (s : State) : Res := .next (hostWrite p R.SAF_REL 0x3C000001#32 s)

/-- SECOND_PORT_TIMEOUT (R265). -/
def execSecondPortTimeout (s : State) : Res := .next (relTimeout s)

/-- STO_STOP_DEMAND (R266). -/
def execStoStopDemand (aLow bLow : Bool) (s : State) : Res := .next (stoStop aLow bLow s)

/-- STO_TICK (R268, R269, R270). -/
def execStoTick (a b : Bool) (s : State) : Res := .next (stoTick a b s)

/-- GDEN_READBACK_MISMATCH (R262). -/
def execGdenReadbackMismatch (s : State) : Res := .next (gdenMismatch s)

/-- SAFE_N_MISMATCH (R89). -/
def execSafeNMismatch (pin : Bool) (s : State) : Res := .next (safeNRead pin s)

/-- PAIR_SAFE_I (R354). -/
def execPairSafeI (level : Bool) (s : State) : Res := .next (pairIn level s)

/-- ROTATION_SLICE_START (R271). -/
def execRotationSliceStart (w : Fin 4) (quiet : Bool) (gap : Nat) (s : State) : Res := .next (sliceStart w quiet gap s)

/-- ROTATION_SLICE_END (R272). -/
def execRotationSliceEnd (flagged : Bool) (s : State) : Res := .next (sliceEnd flagged s)

end Sys2Proof.Machine
end

