-- ==== Sys2Proof/Machine/ScarecrowRows.lean ====
section
/-! DEFINITION. The meanings of Scarecrow's commands (chapter 04). -/

namespace Sys2Proof.Machine

/-- SLOT_END (R77 to R85). -/
def execSlotEnd (code : BitVec 10) (s : State) : Res := .next (slotEnd code.toNat s)

/-- SPIN_TRANSITION (R87). -/
def execSpinTransition (a : Fin 4) (old new : BitVec 3) (ticks : Nat) (s : State) : Res :=
  .next (spinChange a old.toNat new.toNat ticks s)

/-- STILL_TIMEOUT (R87). -/
def execStillTimeout (a : Fin 4) (s : State) : Res := .next (spinStill a s)

/-- TRACKER_RESTART (R88). -/
def execTrackerRestart (a : Fin 4) (s : State) : Res := .next (spinRestart a s)

/-- LOG_TIME_READ (R90). -/
def execLogTimeRead (p : Fin 2) (s : State) : Res := .next (hostRead p R.SCW_LOG_TIME s)

/-- FIRED_WRITE (R84). -/
def execFiredWrite (p : Fin 2) (v : Word) (s : State) : Res := .next (hostWrite p R.SCW_FIRED v s)

end Sys2Proof.Machine
end

