-- ==== Sys2Proof/Machine/SenseRows.lean ====
section
/-! DEFINITION. The meanings of the Sense front end's commands (chapter 05). -/

namespace Sys2Proof.Machine

/-- The end of conversions of axis `a`: the front end's set, or in a replay the next FAST record in its place; Headland
computes on the set delivered (R93, R101, R145, R241, R242). -/
def convEnd (a : Fin 4) (u v w : Option LegSample) (vb : Option (BitVec 14)) (s : State) : State :=
  if s.replayRuns a || s.replayDone a then
    let shunt := (s.sense.get a).conv &&& 0b0111#4 != 0 && (u.isSome || v.isSome || w.isSome)
    let s := s.modSense a (fun n => { n with conv := 0, early := false })
    if shunt && s.replayRuns a then
      let r := replaySample a s
      if r.2 then headCompute a r.1 else r.1
    else s
  else
    let r := convLatch a u v w vb s
    if r.2 then headCompute a r.1 else r.1

/-- CONVERSION_END (R101). -/
def execConversionEnd (a : Fin 4) (u v w : Option LegSample) (vb : Option (BitVec 14)) (s : State) : Res :=
  .next (convEnd a u v w vb s)

/-- SLOW_ITEM_LATCH (R95). -/
def execSlowItemLatch (a : Fin 4) (code : BitVec 14) (s : State) : Res := .next (slowLatch a code s)

/-- OFFSET_CALIBRATION_REQUEST (R103). -/
def execOffsetCalibrationRequest (p : Fin 2) (a : Fin 4) (v : Word) (s : State) : Res :=
  .next (hostWrite p (R.SNS_CAL a) (v ||| 1#32) s)

/-- OFFSET_CALIBRATION_END (R103); a start sequence that waited for it goes on (Table PWR-4). -/
def execOffsetCalibrationEnd (a : Fin 4) (codes : List (List (BitVec 14))) (s : State) : Res :=
  whenWf (.offsetCalibrationEnd a codes) "OFFSET_CALIBRATION_END" (startNext (calEnd a codes s))

/-- SWITCH_NODE_EDGE (R106, R125). -/
def execSwitchNodeEdge (a : Fin 4) (l : Fin 3) (lh : Bool) (d : Nat) (s : State) : Res := .next (swnEdge a l lh d s)

/-- SWITCH_NODE_MISS (R106). -/
def execSwitchNodeMiss (a : Fin 4) (l : Fin 3) (lh : Bool) (s : State) : Res := .next (swnMiss a l lh s)

/-- COMMAND_MEASUREMENT (R110, R111). -/
def execCommandMeasurement (a : Fin 4) (m : CmdMeas) (s : State) : Res := .next (cmdMeasure a m s)

/-- LOS (R108, R109). -/
def execLos (a : Fin 4) (s : State) : Res := .next (losSet a s)

end Sys2Proof.Machine
end

