-- ==== Sys2Proof/Machine/Dispatch.lean ====
section
/-! DEFINITION. Which meaning each command has. -/

namespace Sys2Proof.Machine

/-- The effect of a command on everything but the queue. -/
def exec (i : Instr) (s : State) : Host.Outcome State Fault Refusal :=
  match i with
  | .schedulePeriodBoundary nflt oc => Sys2Proof.Machine.execSchedulePeriodBoundary nflt oc s
  | .endOfFrameCheckpoint => Sys2Proof.Machine.execEndOfFrameCheckpoint s
  | .loadPoint a nflt oc => Sys2Proof.Machine.execLoadPoint a nflt oc s
  | .commitWindow g => Sys2Proof.Machine.execCommitWindow g s
  | .trig a n early => Sys2Proof.Machine.execTrig a n early s
  | .conversionEnd a u v w vbus => Sys2Proof.Machine.execConversionEnd a u v w vbus s
  | .slowItemLatch a code => Sys2Proof.Machine.execSlowItemLatch a code s
  | .offsetCalibrationRequest p a v => Sys2Proof.Machine.execOffsetCalibrationRequest p a v s
  | .offsetCalibrationEnd a codes => Sys2Proof.Machine.execOffsetCalibrationEnd a codes s
  | .overcurrentTrip a oc => Sys2Proof.Machine.execOvercurrentTrip a oc s
  | .nfltTrip a => Sys2Proof.Machine.execNfltTrip a s
  | .blankWindowClose a c nflt oc => Sys2Proof.Machine.execBlankWindowClose a c nflt oc s
  | .tchEvent a c => Sys2Proof.Machine.execTchEvent a c s
  | .switchNodeEdge a l lh d => Sys2Proof.Machine.execSwitchNodeEdge a l lh d s
  | .switchNodeMiss a l lh => Sys2Proof.Machine.execSwitchNodeMiss a l lh s
  | .commandMeasurement a m => Sys2Proof.Machine.execCommandMeasurement a m s
  | .los a => Sys2Proof.Machine.execLos a s
  | .loadReq p a v => Sys2Proof.Machine.execLoadReq p a v s
  | .tripClr p a nflt oc => Sys2Proof.Machine.execTripClr p a nflt oc s
  | .debugHalt m => Sys2Proof.Machine.execDebugHalt m s
  | .drvMask a => Sys2Proof.Machine.execDrvMask a s
  | .drvAck p a v => Sys2Proof.Machine.execDrvAck p a v s
  | .passO a ce ue => Sys2Proof.Machine.execPassO a ce ue s
  | .passH a ce ue => Sys2Proof.Machine.execPassH a ce ue s
  | .bankSwapRequest p a v => Sys2Proof.Machine.execBankSwapRequest p a v s
  | .bankGuardCheckEnd a => Sys2Proof.Machine.execBankGuardCheckEnd a s
  | .scheduleEntryStart n => Sys2Proof.Machine.execScheduleEntryStart n s
  | .layerEnd n ups => Sys2Proof.Machine.execLayerEnd n ups s
  | .networkCommit n => Sys2Proof.Machine.execNetworkCommit n s
  | .spillStart n => Sys2Proof.Machine.execSpillStart n s
  | .siloBlockEnd n bytes => Sys2Proof.Machine.execSiloBlockEnd n bytes s
  | .dqsTimeout n => Sys2Proof.Machine.execDqsTimeout n s
  | .fallowBistStart => Sys2Proof.Machine.execFallowBistStart s
  | .fallowBistEnd fail => Sys2Proof.Machine.execFallowBistEnd fail s
  | .windowAccessServed p wr ups => Sys2Proof.Machine.execWindowAccessServed p wr ups s
  | .windowAccessTimeout p wr => Sys2Proof.Machine.execWindowAccessTimeout p wr s
  | .fldRepair p v => Sys2Proof.Machine.execFldRepair p v s
  | .unplannedSiloAccess n => Sys2Proof.Machine.execUnplannedSiloAccess n s
  | .cuttingSwapRequest p c v => Sys2Proof.Machine.execCuttingSwapRequest p c v s
  | .cuttingSwapCheckEnd c => Sys2Proof.Machine.execCuttingSwapCheckEnd c s
  | .pd3PowerGood => Sys2Proof.Machine.execPd3PowerGood s
  | .pgoodTimeout => Sys2Proof.Machine.execPgoodTimeout s
  | .pd3PowerGoodLost => Sys2Proof.Machine.execPd3PowerGoodLost s
  | .pd3Ack p v => Sys2Proof.Machine.execPd3Ack p v s
  | .verdictPost => Sys2Proof.Machine.execVerdictPost s
  | .testPlotCompare n => Sys2Proof.Machine.execTestPlotCompare n s
  | .doubtAck p m => Sys2Proof.Machine.execDoubtAck p m s
  | .axstopAck p m => Sys2Proof.Machine.execAxstopAck p m s
  | .stoAck p => Sys2Proof.Machine.execStoAck p s
  | .safDemand p => Sys2Proof.Machine.execSafDemand p s
  | .safeStatePowerOff => Sys2Proof.Machine.execSafeStatePowerOff s
  | .safRel p => Sys2Proof.Machine.execSafRel p s
  | .secondPortTimeout => Sys2Proof.Machine.execSecondPortTimeout s
  | .stoStopDemand aLow bLow => Sys2Proof.Machine.execStoStopDemand aLow bLow s
  | .stoTick a b => Sys2Proof.Machine.execStoTick a b s
  | .gdenReadbackMismatch => Sys2Proof.Machine.execGdenReadbackMismatch s
  | .safeNMismatch pin => Sys2Proof.Machine.execSafeNMismatch pin s
  | .pairSafeI level => Sys2Proof.Machine.execPairSafeI level s
  | .rotationSliceStart w quiet gap => Sys2Proof.Machine.execRotationSliceStart w quiet gap s
  | .rotationSliceEnd flagged => Sys2Proof.Machine.execRotationSliceEnd flagged s
  | .powerOnReset => Sys2Proof.Machine.execPowerOnReset s
  | .pinReset => Sys2Proof.Machine.execPinReset s
  | .nresetRelease boot => Sys2Proof.Machine.execNresetRelease boot s
  | .hostReset p => Sys2Proof.Machine.execHostReset p s
  | .supplyMonitorTrip rails => Sys2Proof.Machine.execSupplyMonitorTrip rails s
  | .borReset => Sys2Proof.Machine.execBorReset s
  | .clockFault kind => Sys2Proof.Machine.execClockFault kind s
  | .referenceDetection r => Sys2Proof.Machine.execReferenceDetection r s
  | .pllLock => Sys2Proof.Machine.execPllLock s
  | .dividerAlignment => Sys2Proof.Machine.execDividerAlignment s
  | .imageApply => Sys2Proof.Machine.execImageApply s
  | .plotStoreFillEnd => Sys2Proof.Machine.execPlotStoreFillEnd s
  | .ready => Sys2Proof.Machine.execReady s
  | .sleepRequest p v => Sys2Proof.Machine.execSleepRequest p v s
  | .sleepEntry => Sys2Proof.Machine.execSleepEntry s
  | .wake => Sys2Proof.Machine.execWake s
  | .wakeHost p => Sys2Proof.Machine.execWakeHost p s
  | .restoreEnd good => Sys2Proof.Machine.execRestoreEnd good s
  | .wakeComplete => Sys2Proof.Machine.execWakeComplete s
  | .turnstileRequest who => Sys2Proof.Machine.execTurnstileRequest who s
  | .turnstileEdge => Sys2Proof.Machine.execTurnstileEdge s
  | .turnstileTimeout who => Sys2Proof.Machine.execTurnstileTimeout who s
  | .start p v => Sys2Proof.Machine.execStart p v s
  | .imgFifoWord p v => Sys2Proof.Machine.execImgFifoWord p v s
  | .stall => Sys2Proof.Machine.execStall s
  | .abort p v => Sys2Proof.Machine.execAbort p v s
  | .seal p v => Sys2Proof.Machine.execSeal p v s
  | .liveWrite p addr v => Sys2Proof.Machine.execLiveWrite p addr v s
  | .slotEnd code => Sys2Proof.Machine.execSlotEnd code s
  | .spinTransition a old new ticks => Sys2Proof.Machine.execSpinTransition a old new ticks s
  | .stillTimeout a => Sys2Proof.Machine.execStillTimeout a s
  | .trackerRestart a => Sys2Proof.Machine.execTrackerRestart a s
  | .logTimeRead p => Sys2Proof.Machine.execLogTimeRead p s
  | .firedWrite p v => Sys2Proof.Machine.execFiredWrite p v s
  | .write p ok addr vs => Sys2Proof.Machine.execWrite p ok addr vs s
  | .read p ok addr n => Sys2Proof.Machine.execRead p ok addr n s
  | .stat p ok => Sys2Proof.Machine.execStat p ok s
  | .wwrite p ok addr vs => Sys2Proof.Machine.execWwrite p ok addr vs s
  | .wreq p ok addr n => Sys2Proof.Machine.execWreq p ok addr n s
  | .wfetch p ok addr => Sys2Proof.Machine.execWfetch p ok addr s
  | .enq p ok n ws => Sys2Proof.Machine.execEnq p ok n ws s
  | .deq p ok n len => Sys2Proof.Machine.execDeq p ok n len s
  | .peek p ok n len => Sys2Proof.Machine.execPeek p ok n len s
  | .frameDiscarded p => Sys2Proof.Machine.execFrameDiscarded p s
  | .frameTimeout p => Sys2Proof.Machine.execFrameTimeout p s
  | .queDb p n v => Sys2Proof.Machine.execQueDb p n v s
  | .doorbellRegistered n => Sys2Proof.Machine.execDoorbellRegistered n s
  | .queCons p n v => Sys2Proof.Machine.execQueCons p n v s
  | .queueTimeout n => Sys2Proof.Machine.execQueueTimeout n s
  | .tenantReset p t => Sys2Proof.Machine.execTenantReset p t s
  | .tenantRelease p t => Sys2Proof.Machine.execTenantRelease p t s
  | .sqrSwtrig p v => Sys2Proof.Machine.execSqrSwtrig p v s
  | .payloadOverflowService a => Sys2Proof.Machine.execPayloadOverflowService a s
  | .queueEventPost n => Sys2Proof.Machine.execQueueEventPost n s
  | .sqrAudARead p k => Sys2Proof.Machine.execSqrAudARead p k s
  | .stepLoRead p => Sys2Proof.Machine.execStepLoRead p s
  | .hrwGo p c => Sys2Proof.Machine.execHrwGo p c s
  | .hrwAbort p c => Sys2Proof.Machine.execHrwAbort p c s
  | .scanEnd c ups => Sys2Proof.Machine.execScanEnd c ups s
  | .starved c n => Sys2Proof.Machine.execStarved c n s
  | .scrubAccess m ups => Sys2Proof.Machine.execScrubAccess m ups s
  | .scrubWriteBack m => Sys2Proof.Machine.execScrubWriteBack m s
  | .chkInit p n => Sys2Proof.Machine.execChkInit p n s
  | .chkDin p n v => Sys2Proof.Machine.execChkDin p n v s
  | .chkDin1 p n v => Sys2Proof.Machine.execChkDin1 p n v s
  | .standingCheckEnd ups => Sys2Proof.Machine.execStandingCheckEnd ups s
  | .replayGo p a v => Sys2Proof.Machine.execReplayGo p a v s
  | .replayAbort p a v => Sys2Proof.Machine.execReplayAbort p a v s
  | .trainingAdvance t => Sys2Proof.Machine.execTrainingAdvance t s
  | .trainTmo => Sys2Proof.Machine.execTrainTmo s
  | .laneLossOfSignal => Sys2Proof.Machine.execLaneLossOfSignal s
  | .slotStart slot y0 y1 y2 y3 => Sys2Proof.Machine.execSlotStart slot y0 y1 y2 y3 s
  | .burstReceived slot lclk ui fs => Sys2Proof.Machine.execBurstReceived slot lclk ui fs s
  | .retrainEnd dly apart => Sys2Proof.Machine.execRetrainEnd dly apart s
  | .null => Sys2Proof.Machine.execNull s
  | .heartbeat => Sys2Proof.Machine.execHeartbeat s
  | .doubt => Sys2Proof.Machine.execDoubt s
  | .retract => Sys2Proof.Machine.execRetract s
  | .safe => Sys2Proof.Machine.execSafe s
  | .share => Sys2Proof.Machine.execShare s
  | .partialFrame => Sys2Proof.Machine.execPartialFrame s
  | .reductionSum => Sys2Proof.Machine.execReductionSum s
  | .cutBegin => Sys2Proof.Machine.execCutBegin s
  | .cutData => Sys2Proof.Machine.execCutData s
  | .cutStat => Sys2Proof.Machine.execCutStat s
  | .rtfReq => Sys2Proof.Machine.execRtfReq s
  | .tileData => Sys2Proof.Machine.execTileData s
  | .evn => Sys2Proof.Machine.execEvn s
  | .evnAck => Sys2Proof.Machine.execEvnAck s
  | .tileAbsent => Sys2Proof.Machine.execTileAbsent s
  | .evictionSiloWriteEnd => Sys2Proof.Machine.execEvictionSiloWriteEnd s
  | .tileCmd p v => Sys2Proof.Machine.execTileCmd p v s
  | .linkOffNotice => Sys2Proof.Machine.execLinkOffNotice s
  | .offReady => Sys2Proof.Machine.execOffReady s
  | .trlAck p v => Sys2Proof.Machine.execTrlAck p v s
  | .psClr p v => Sys2Proof.Machine.execPsClr p v s
  | .bulkGo p n v => Sys2Proof.Machine.execBulkGo p n v s
  | .bulkTimeout n => Sys2Proof.Machine.execBulkTimeout n s
  | .auxSet p v => Sys2Proof.Machine.execAuxSet p v s
  | .auxClr p v => Sys2Proof.Machine.execAuxClr p v s
  | .auxDecision => Sys2Proof.Machine.execAuxDecision s
  | .offDelayEnd k => Sys2Proof.Machine.execOffDelayEnd k s
  | .hall a code => Sys2Proof.Machine.execHall a code s
  | .registerWrite p addr v => Sys2Proof.Machine.execRegisterWrite p addr v s
  | .siloLoadEnd bytes => Sys2Proof.Machine.execSiloLoadEnd bytes s
  | .vddTlMonitorTrip => Sys2Proof.Machine.execVddTlMonitorTrip s
  | .csnHighFourTicks p => Sys2Proof.Machine.execCsnHighFourTicks p s
  | .slot0WithoutHeartbeat => Sys2Proof.Machine.execSlot0WithoutHeartbeat s
  | .trainingSetsWhileUp => Sys2Proof.Machine.execTrainingSetsWhileUp s
  | .outputEdge a u t => Sys2Proof.Machine.execOutputEdge a u t s

end Sys2Proof.Machine
end

