-- ==== Sys2Proof/Safety.lean ====
section
/-! DEFINITION. The terms in which statements are written: what a well-kept state is, that a command completes with a next state,
and when a host port takes a register access (chapters 16 and 19). -/

namespace Sys2Proof.Machine

/-- The sparse parts of the state stand in their canonical form: keys strictly rising, and no entry equal to what an
unlisted key reads as. -/
def State.kept (s : State) : Bool :=
  SMap.wf resetWord s.regs && SMap.wf (fun _ => ({} : Task)) s.tasks && SMap.wf (fun _ => 0#8) s.gran
    && SMap.wf (fun _ => 0#8) s.plots && SMap.wf (fun _ => 0#8) s.silo

/-- The counts of a task input balance, and what waits is what its kind keeps waiting: the pending events of a COUNTING input,
the event in the overflow slot of a PAYLOAD input, at most one event of a ONE_SHOT input (R321, R322). -/
def taskBooked (c : Nat) (t : Task) : Bool :=
  t.rcv == (t.srv + t.mrg + t.pend) % 65536 && match taskKind c with
    | 2 => t.pend == t.evs.length && t.ovf.isNone
    | 1 => t.pend == t.ovf.isSome.toNat && t.evs.isEmpty
    | _ => decide (t.pend ≤ 1) && t.ovf.isNone && t.evs.isEmpty

/-- The books of the Square balance for every task input. -/
def State.booked (s : State) : Bool := s.tasks.all (fun e => taskBooked e.1 e.2)

/-- The command answers a next state, and that state meets `P`. -/
def Completes (i : Instr) (s : State) (P : State → Prop) : Prop := ∃ t, exec i s = .next t ∧ P t

/-- Port `p` hears a frame: it is not ignoring traffic after a frame timeout (R328). -/
def State.hears (s : State) (p : Fin 2) : Bool := !(s.ports.get p).deaf

/-- An access of port `p` to the register at `k` meets no refusal: the port hears it, the address is that of a register in a
domain that is on (R331, R383, R388), and its window is that of an axis or plot that exists (R4, R387). -/
def State.reaches (s : State) (p : Fin 2) (k : Nat) : Bool :=
  s.hears p && s.regCheck [k] == 0 && !s.deadWord k && (regDefAt (homeKey k)).isSome

/-- A write of `v` by port `p` at the register `k` is taken: the access reaches it, the port is bound as the register asks
(R304), and no LIVE declaration of the image covers it, whose fields act at a boundary instead (R43, R44). -/
def State.takes (s : State) (p : Fin 2) (k : Nat) (v : Word) : Bool :=
  s.reaches p k && s.mayWrite p k v && s.ldr.live.all (fun d => homeKey d.addr != homeKey k)

/-- The last answer of port `p` has the status code `c` (Table QUE-10). -/
def State.answered (s : State) (p : Fin 2) (c : Nat) : Prop := ∃ r, (s.ports.get p).resp = some r ∧ r.status % 64 = c

/-- Nothing but the answer of port `p` differs. -/
def State.sameBut (s t : State) (p : Fin 2) : Prop :=
  t = s.modPort p (fun x => { x with resp := (t.ports.get p).resp })

/-- The parts of the state: its components, but for the queue of waiting commands. -/
inductive Part where
  | regs | step | armed | pwm | sense | head | loop | obs | routes | tasks | que | ports | saf | scw
  | fuses | pow | trn | field | ldr | hrw | rot | det | aux | link | gran | plots | silo | freeIdx
  deriving DecidableEq, Repr

/-- A part is the same in two states. -/
def Part.agrees (s t : State) : Part → Prop
  | .regs => t.regs = s.regs
  | .step => t.step = s.step
  | .armed => t.armed = s.armed
  | .pwm => t.pwm = s.pwm
  | .sense => t.sense = s.sense
  | .head => t.head = s.head
  | .loop => t.loop = s.loop
  | .obs => t.obs = s.obs
  | .routes => t.routes = s.routes
  | .tasks => t.tasks = s.tasks
  | .que => t.que = s.que
  | .ports => t.ports = s.ports
  | .saf => t.saf = s.saf
  | .scw => t.scw = s.scw
  | .fuses => t.fuses = s.fuses
  | .pow => t.pow = s.pow
  | .trn => t.trn = s.trn
  | .field => t.field = s.field
  | .ldr => t.ldr = s.ldr
  | .hrw => t.hrw = s.hrw
  | .rot => t.rot = s.rot
  | .det => t.det = s.det
  | .aux => t.aux = s.aux
  | .link => t.link = s.link
  | .gran => t.gran = s.gran
  | .plots => t.plots = s.plots
  | .silo => t.silo = s.silo
  | .freeIdx => t.freeIdx = s.freeIdx

/-- Each tenant has its place on the way back to the observers. -/
def State.placed (s : State) : Bool := s.saf.ret.length == 5

/-- Every part. -/
def allParts : List Part :=
  [.regs, .step, .armed, .pwm, .sense, .head, .loop, .obs, .routes, .tasks, .que, .ports, .saf, .scw,
   .fuses, .pow, .trn, .field, .ldr, .hrw, .rot, .det, .aux, .link, .gran, .plots, .silo, .freeIdx]

/-- What the events a command raises may change: the counts of the task inputs and what their services act on (R320). -/
def eventParts : List Part := [.regs, .armed, .pwm, .sense, .loop, .tasks, .trn, .field]

/-- The parts of the state that a command may change; a host's register write may reach every part. -/
def touches : Instr → List Part
  | .switchNodeMiss .. | .pllLock | .frameDiscarded .. | .offReady | .offDelayEnd .. => [.regs]
  | .csnHighFourTicks .. => [.ports]
  | .rotationSliceStart .. => [.rot]
  | .slotStart .. | .null | .doubt | .partialFrame => [.link]
  | .switchNodeEdge .. | .outputEdge .. => [.regs, .pwm]
  | .slowItemLatch .. | .commandMeasurement .. => [.regs, .sense]
  | .bankGuardCheckEnd .. => [.regs, .loop]
  | .stat .. | .wfetch .. | .frameTimeout .. => [.regs, .ports]
  | .secondPortTimeout => [.regs, .saf]
  | .spinTransition .. | .stillTimeout .. | .trackerRestart .. => [.regs, .scw]
  | .ready | .wakeComplete => [.regs, .pow]
  | .turnstileRequest .. => [.regs, .trn]
  | .unplannedSiloAccess .. => [.regs, .field]
  | .auxDecision => [.regs, .aux]
  | .offsetCalibrationEnd .. | .share | .cutBegin | .evn => [.regs, .link]
  | .logTimeRead .. | .read .. | .sqrAudARead .. | .stepLoRead .. => [.regs, .ports, .scw]
  | .wake => [.regs, .pow, .trn]
  | .nresetRelease .. => [.regs, .pow, .ldr]
  | .scrubAccess .. | .scrubWriteBack .. => [.regs, .field, .hrw]
  | .debugHalt .. => [.regs, .pwm, .aux]
  | .cuttingSwapCheckEnd .. | .reductionSum => [.regs, .field, .link]
  | .windowAccessTimeout .. | .wwrite .. | .wreq .. => [.regs, .ports, .trn, .field]
  | .stoStopDemand .. | .stoTick .. => [.regs, .loop, .saf, .aux]
  | .pd3PowerGood | .pgoodTimeout => [.regs, .pow, .trn, .link]
  | .dividerAlignment => [.regs, .pow, .ldr, .link]
  | .restoreEnd .. => [.regs, .pow, .field, .hrw, .gran]
  | .gdenReadbackMismatch | .pairSafeI .. | .supplyMonitorTrip .. | .safe => [.regs, .loop, .saf, .pow, .aux, .link]
  | .plotStoreFillEnd => [.regs, .pow, .field, .hrw, .link, .gran, .plots]
  | .trig .. | .overcurrentTrip .. | .nfltTrip .. | .blankWindowClose .. | .tchEvent .. | .los .. | .drvMask ..
    | .queueTimeout .. | .payloadOverflowService .. | .hall .. => eventParts
  | .doorbellRegistered .. => eventParts ++ [.que]
  | .trainingAdvance .. | .trainTmo | .laneLossOfSignal | .burstReceived .. | .retrainEnd .. | .heartbeat | .retract
    | .cutStat | .evnAck | .tileAbsent | .linkOffNotice | .bulkTimeout .. | .vddTlMonitorTrip | .slot0WithoutHeartbeat
    | .trainingSetsWhileUp => eventParts ++ [.link]
  | .endOfFrameCheckpoint | .spillStart .. | .dqsTimeout .. | .fallowBistStart | .testPlotCompare ..
    | .safeNMismatch .. | .rtfReq => eventParts ++ [.saf, .link]
  | .evictionSiloWriteEnd => eventParts ++ [.link, .silo]
  | .networkCommit .. => eventParts ++ [.obs, .saf, .link]
  | .scanEnd .. | .starved .. | .standingCheckEnd .. => eventParts ++ [.saf, .hrw, .link]
  | .queueEventPost .. => eventParts ++ [.que, .hrw, .gran]
  | .tileData => eventParts ++ [.hrw, .link, .gran]
  | .loadPoint .. => eventParts ++ [.head, .obs, .saf, .link]
  | .deq .. | .peek .. => eventParts ++ [.que, .ports, .saf, .link]
  | .turnstileTimeout .. => eventParts ++ [.ports, .pow, .hrw, .link]
  | .verdictPost => eventParts ++ [.obs, .que, .hrw, .gran]
  | .enq .. => eventParts ++ [.que, .ports, .hrw, .gran]
  | .siloBlockEnd .. => eventParts ++ [.saf, .hrw, .link, .gran]
  | .layerEnd .. | .fallowBistEnd .. => eventParts ++ [.saf, .hrw, .link, .plots]
  | .turnstileEdge => eventParts ++ [.ports, .saf, .pow, .hrw, .link]
  | .passH .. => eventParts ++ [.obs, .saf, .pow, .aux, .link]
  | .slotEnd .. => eventParts ++ [.saf, .scw, .pow, .aux, .link]
  | .rotationSliceEnd .. => eventParts ++ [.saf, .pow, .rot, .aux, .link]
  | .cutData => eventParts ++ [.saf, .hrw, .link, .gran, .plots]
  | .scheduleEntryStart .. => eventParts ++ [.saf, .hrw, .link, .plots, .freeIdx]
  | .pd3PowerGoodLost => eventParts ++ [.saf, .pow, .hrw, .link, .gran, .plots]
  | .stall => eventParts ++ [.routes, .scw, .pow, .ldr, .rot, .aux, .link]
  | .conversionEnd .. => eventParts ++ [.head, .que, .saf, .pow, .det, .aux, .link]
  | .windowAccessServed .. => eventParts ++ [.ports, .saf, .hrw, .link, .gran, .plots, .silo]
  | .passO .. => eventParts ++ [.obs, .que, .saf, .pow, .hrw, .aux, .link, .gran]
  | .sleepEntry => eventParts ++ [.ports, .pow, .hrw, .rot, .aux, .link, .gran, .plots]
  | .siloLoadEnd .. => eventParts ++ [.routes, .scw, .pow, .ldr, .rot, .aux, .link, .silo]
  | .commitWindow .. => eventParts ++ [.head, .que, .saf, .pow, .hrw, .det, .aux, .link, .gran]
  | .imageApply => eventParts ++ [.routes, .que, .scw, .pow, .ldr, .hrw, .rot, .aux, .link, .gran, .plots, .silo]
  | .schedulePeriodBoundary .. | .offsetCalibrationRequest .. | .loadReq .. | .tripClr .. | .drvAck ..
    | .bankSwapRequest .. | .fldRepair .. | .cuttingSwapRequest .. | .pd3Ack .. | .doubtAck .. | .axstopAck ..
    | .stoAck .. | .safDemand .. | .safeStatePowerOff | .safRel .. | .powerOnReset | .pinReset | .hostReset ..
    | .borReset | .clockFault .. | .referenceDetection .. | .sleepRequest .. | .wakeHost .. | .start ..
    | .imgFifoWord .. | .abort .. | .seal .. | .liveWrite .. | .firedWrite .. | .write .. | .queDb .. | .queCons ..
    | .tenantReset .. | .tenantRelease .. | .sqrSwtrig .. | .hrwGo .. | .hrwAbort .. | .chkInit .. | .chkDin ..
    | .chkDin1 .. | .replayGo .. | .replayAbort .. | .tileCmd .. | .trlAck .. | .psClr .. | .bulkGo .. | .auxSet ..
    | .auxClr .. | .registerWrite .. => allParts

/-- The register write that a command stands for: port, address and word (R7). -/
def asWrite : Instr → Option (Fin 2 × Nat × Word)
  | .offsetCalibrationRequest p a v => some (p, R.SNS_CAL a, v ||| 1#32)
  | .loadReq p a v => some (p, R.PWM_LOAD a, v ||| 1#32)
  | .tripClr p a _ _ => some (p, R.PWM_TRIP_CLR a, 1#32)
  | .drvAck p a v => some (p, R.LPE_DRV_CTRL a, v ||| 2#32)
  | .bankSwapRequest p a v => some (p, R.LPE_BANK_CTRL a, v ||| 1#32)
  | .fldRepair p v => some (p, R.FLD_REPAIR, v)
  | .cuttingSwapRequest p c v => some (p, R.FLD_CSET_CTRL c, v ||| 1#32)
  | .pd3Ack p v => some (p, R.PCR_FLD_CTRL, v ||| 0x40000000#32)
  | .doubtAck p m => some (p, R.SAF_ACK, word m.toNat)
  | .axstopAck p m => some (p, R.SAF_ACK, word (256 * m.toNat))
  | .stoAck p => some (p, R.SAF_ACK, 0x00010000#32)
  | .safDemand p => some (p, R.SAF_DEMAND, 0xD5000001#32)
  | .safRel p => some (p, R.SAF_REL, 0x3C000001#32)
  | .hostReset p => some (p, R.PCR_RST_CTRL, 0xA5000001#32)
  | .sleepRequest p v => some (p, R.PCR_SLEEP, v ||| 1#32)
  | .wakeHost p => some (p, R.PCR_WAKE_HOST, 1#32)
  | .start p v => some (p, R.PCR_IMG_CTRL, v ||| 1#32)
  | .imgFifoWord p v => some (p, R.PCR_IMG_FIFO, v)
  | .abort p v => some (p, R.PCR_IMG_CTRL, v &&& 0xFFFFFFFE#32 ||| 2#32)
  | .seal p v => some (p, R.PCR_IMG_CTRL, v &&& 0xFFFFFFFC#32 ||| 4#32)
  | .firedWrite p v => some (p, R.SCW_FIRED, v)
  | .queDb p n v => some (p, R.QUE_DB n, v)
  | .queCons p n v => some (p, R.QUE_CONS n, v)
  | .tenantReset p t => some (p, R.QUE_TEN_CTRL t, 0x6B000100#32)
  | .tenantRelease p t => some (p, R.QUE_TEN_CTRL t, 0x6B000000#32)
  | .sqrSwtrig p v => some (p, R.SQR_SWTRIG, v)
  | .hrwGo p c => some (p, R.HRW_CH_CTRL c, 1#32)
  | .hrwAbort p c => some (p, R.HRW_CH_CTRL c, 2#32)
  | .chkInit p n => some (p, R.CHK_CTRL n, 1#32)
  | .chkDin p n v => some (p, R.CHK_DIN n, v)
  | .chkDin1 p n v => some (p, R.CHK_DIN1 n, word v.toNat)
  | .replayGo p a v => some (p, R.LPE_RPL_CTRL a, v &&& 0xFFFFFFFD#32 ||| 1#32)
  | .replayAbort p a v => some (p, R.LPE_RPL_CTRL a, v &&& 0xFFFFFFFE#32 ||| 2#32)
  | .tileCmd p v => some (p, R.TRL_TILE_CMD, v)
  | .trlAck p v => some (p, R.TRL_CTRL, v &&& 0x00FFFFFF#32 ||| 0x7E000100#32)
  | .psClr p v => some (p, R.TRL_CTRL, v &&& 0x00FFFFFF#32 ||| 2#32)
  | .bulkGo p i v => some (p, R.TRL_BULK_CTRL i, v ||| 1#32)
  | .auxSet p v => some (p, R.AUX_SET, word v.toNat)
  | .auxClr p v => some (p, R.AUX_CLR, word v.toNat)
  | _ => none

/-- The parts that a register write of the host may change where it is taken: those its register acts on, and the port's answer. -/
def takenParts : Instr → List Part
  | .offsetCalibrationRequest .. => [.regs, .ports]
  | .fldRepair .. => [.ports, .fuses]
  | .auxClr .. => [.ports, .aux]
  | .loadReq .. => [.regs, .armed, .ports]
  | .tripClr .. => [.regs, .pwm, .ports]
  | .drvAck .. | .bankSwapRequest .. => [.regs, .loop, .ports]
  | .queDb .. | .queCons .. => [.regs, .que, .ports]
  | .doubtAck .. | .axstopAck .. | .stoAck .. => [.regs, .ports, .saf]
  | .firedWrite .. => [.regs, .ports, .scw]
  | .sleepRequest .. => [.regs, .ports, .pow]
  | .hrwGo .. | .bulkGo .. => [.regs, .ports, .trn]
  | .cuttingSwapRequest .. => [.regs, .ports, .field]
  | .chkInit .. | .chkDin .. | .chkDin1 .. => [.regs, .ports, .hrw]
  | .auxSet .. => [.regs, .ports, .aux]
  | .trlAck .. | .psClr .. => [.regs, .ports, .link]
  | .pd3Ack .. | .wakeHost .. => [.regs, .ports, .pow, .trn]
  | .hrwAbort .. => [.regs, .ports, .trn, .hrw]
  | .safRel .. => [.regs, .ports, .saf, .pow, .trn]
  | .tenantRelease .. => [.regs, .head, .loop, .ports, .det]
  | .replayGo .. | .replayAbort .. => [.regs, .head, .loop, .ports, .det, .freeIdx]
  | .tenantReset .. => [.regs, .head, .loop, .ports, .trn, .det, .aux]
  | .safDemand .. => [.regs, .loop, .ports, .saf, .pow, .aux, .link]
  | .sqrSwtrig .. => eventParts ++ [.ports]
  | .tileCmd .. => eventParts ++ [.ports, .saf, .hrw, .link, .gran]
  | _ => allParts

/-- The registers that the service of an event may change: BUSY, a mask selection and what follows it at the pins, a swap
request, a scan's or a bulk transfer's start, and the Square's status (Table QUE-6). -/
def eventRegs : List Nat :=
  (List.range 4).flatMap (fun a => [R.SNS_STAT a, R.PWM_MASK_CTRL a, R.PWM_STAT a, R.SCW_SPIN a, R.LPE_BANK_CTRL a])
    ++ (List.range 32).map (fun c => R.FLD_CSET_CTRL c) ++ (List.range 4).flatMap (fun c => [R.HRW_CH_STAT c, R.HRW_CH_DONE c])
    ++ (List.range 8).flatMap (fun n => [R.CHK_STAT n, R.TRL_BULK_STAT n]) ++ [R.SQR_STAT]

/-- No register but those listed differs. -/
def State.regsBut (s t : State) (l : List Nat) : Prop := ∀ k, k ∉ l → t.reg k = s.reg k

/-- How many routes lead from source `src` to task input `c` (R320). -/
def State.routeCount (s : State) (src c : Nat) : Nat := (s.routes.filter (fun r => r.en && r.src == src && r.dst == c)).length

/-- Every task input has received one more event for each route from `src`; an axis held in tenant reset raises none (R320, R322). -/
def State.heard (s t : State) (src : Nat) : Prop :=
  ∀ c, (t.task c).rcv % 65536
    = ((s.task c).rcv + if 0x80 ≤ src ∨ s.inReset (src / 0x20) = false then s.routeCount src c else 0) % 65536

end Sys2Proof.Machine
end

