-- ==== Sys2Proof/Certificates/Slice0/Obligations.lean ====
section
/-! DEFINITION. The statements about the block, for the provers.  A docstring names the rules of spec/ that its statement
rests on; the entry of OBLIGATIONS.json says which of them it states whole. -/

namespace Sys2Proof.Machine

/-! ## The words of the statements -/

/-- The registers that a trip of axis `a` may write: the trip's own, and, where it latches off, the sequencer's state and the
tenant's fault record. -/
def tripRegs (a : Fin 4) : List Nat :=
  [R.PWM_TRIP_STAT a, R.PWM_TRIP_TOTAL a, R.LPE_DRV_STAT a, R.QUE_TFAULT a, R.QUE_TFSTICKY a] ++ eventRegs

/-- The registers that a safety demand may write: those of the safe state, the sequencers it turns off, the aux outputs and the
pair line. -/
def safeRegs : List Nat :=
  [R.SAF_STAT, R.SAF_CAUSE, R.SAF_REL_STAT, R.AUX_REQ, R.AUX_STAT, R.AUX_FLAG, R.TRL_STAT,
   R.LPE_DRV_STAT 0, R.LPE_DRV_STAT 1, R.LPE_DRV_STAT 2, R.LPE_DRV_STAT 3]

/-- The registers that a doubt of tenant `t` may write. -/
def doubtRegs (t : Nat) : List Nat :=
  [R.SAF_STAT, R.SAF_DCAUSE t, R.QUE_TFAULT t, R.QUE_TFSTICKY t, R.PCR_HP_IRQ 0, R.PCR_HP_IRQ 1, R.LPE_RPL_STAT t] ++ eventRegs

/-- The registers that Headland's computation for axis `a` may write. -/
def headRegs (a : Fin 4) : List Nat :=
  [R.HDL_EST a, R.HDL_STAT a, R.HDL_RES a, R.SAF_HCAUSE a, R.QUE_TFAULT a, R.QUE_TFSTICKY a] ++ safeRegs

/-- The entries of a pass of axis `a` run from the state `s`: the state and the pass that they leave. -/
def passRun (a : Fin 4) (o : Bool) (ce : Nat) (ue : Option Nat) (s : State) : State × Pass :=
  let s := s.bump (F.LPE_ECC_CE a) ce
  (List.range (s.fld (F.LPE_CTRL_N_BLK a))).foldl (passEntry a ue) (s, ⟨o, s.passSigs a o, (s.loop.get a).start, none, false⟩)

/-- The registers that a pass of axis `a` may write. -/
def passRegs (a : Fin 4) : List Nat :=
  [R.LPE_ECC a, R.LPE_STAT a, R.LPE_NAN_LOC a, R.LPE_SAT_LOC a, R.OBS_STAT a, R.SAF_CKPT_CNT a,
   R.PWM_RISE a 0, R.PWM_RISE a 2, R.PWM_RISE a 4, R.PWM_FALL a 0, R.PWM_FALL a 2, R.PWM_FALL a 4]
  ++ (List.range 8).map (fun j => R.OBS_HITS a j) ++ doubtRegs a ++ headRegs a

/-- The registers that a doubt of any tenant may write. -/
def doubtAll : List Nat := (List.range 5).flatMap doubtRegs

/-- The registers that the reads of a network's operands may write: the ECC counts of the memories, and those of a doubt. -/
def readRegs (p : Nat) : List Nat :=
  [R.FLD_P_ECC p, R.FLD_P_STAT p, R.FLD_X_STAT p, R.FLD_STAT, R.FLD_GRN_ECC, R.FLD_GRN_ERR, R.PCR_DET_STAT] ++ doubtAll

/-- The registers that descriptors posted to queues may write. -/
def postRegs : List Nat :=
  (List.range 64).flatMap (fun n => [R.QUE_ALV n, R.QUE_PROD n, R.QUE_STAT n])
    ++ (List.range 8).flatMap (fun t => [R.QUE_TFAULT t, R.QUE_TFSTICKY t]) ++ eventRegs

/-- The bytes of a memory outside `[k, k + n)` are the same. -/
def sameOutside (m m' : SMap Byte) (k n : Nat) : Prop := ∀ j, (j < k ∨ k + n ≤ j) → memGet m' j = memGet m j

/-- The registers of a planned silo transfer of tenant `t`. -/
def siloRegs (t : Nat) : List Nat :=
  [R.FLD_STAT, R.SIL_STAT, R.SIL_CRC_CNT, R.SIL_ERR_ADDR, R.SIL_XFER, R.PCR_DET_STAT, R.SAF_CKPT_CNT 4] ++ doubtRegs t

/-- The memory that a window access reaches, and its address in it. -/
def winMem (s : State) : WinTarget → SMap Byte × Nat
  | .gran o => (s.gran, o)
  | .plot l o => (s.plots, plotBase l + o)
  | .silo _ o => (s.silo, o)

/-- A window access of `n` bytes meets nothing that stops it: its domain is on, no word that it must read is uncorrectable, a
write touches no cutting in use, and one to the silo goes to a PSRAM. -/
def winClear (s : State) (wr : Bool) (n : Nat) (w : WinTarget) : Bool :=
  (s.winOff n w).isNone && !(wr && !(s.cutHit n w).isEmpty) && match w with
    | .gran o => (if wr then partWords s.field.grnUE o n else wordsIn s.field.grnUE o n).isEmpty
    | .plot l o => (if wr then partWords s.field.plotUE (plotBase l + o) n else wordsIn s.field.plotUE (plotBase l + o) n).isEmpty
    | .silo cs _ => !wr || s.flag (F.FLD_SILO_CFG_PSRAM cs)

/-- What a safety demand of source `c` leaves, from `s` to `t` (R259): the safe state, with every output that no debug halt holds
low, the sequencers off and the aux outputs off; the source is recorded, alone where the safe state begins. -/
def demanded (c : Nat) (s t : State) : Prop :=
  t.flag F.SAF_STAT_SAFE = true
  ∧ (if s.flag F.SAF_STAT_SAFE = true then t.fld F.SAF_CAUSE_CAUSE = s.fld F.SAF_CAUSE_CAUSE ||| 2 ^ c
    else t.fld F.SAF_CAUSE_CAUSE = 2 ^ c ∧ (∀ a : Fin 4, t.fld (F.LPE_DRV_STAT_STATE a) = 0 ∧ (t.seqNow a).state = 0)
      ∧ (s.anyHalted = false → ∀ j : Fin 8, t.bit F.AUX_STAT_LSD_ON j = false ∧ t.bit F.AUX_REQ_REQ j = false))
  ∧ ∀ a : Fin 4, s.halted a = false → t.gates a = 0

/-- The registers that switching the domains off in state `s` may write. -/
def offRegs (s : State) : List Nat :=
  [R.AUX_REQ, R.AUX_STAT, R.PCR_CLK_STATUS, R.PCR_PWR_STATE, R.PCR_HP_IRQ 0, R.PCR_HP_IRQ 1, R.PCR_HP_STAT 0, R.PCR_HP_STAT 1,
   R.SAF_STD_STAT 0, R.SAF_STD_STAT 1, R.SAF_STD_STAT 2, R.SAF_STD_STAT 3, R.SIL_STAT, R.TRL_STAT, R.TRL_TILE_AUD,
   R.SNS_CAL 0, R.SNS_CAL 1, R.SNS_CAL 2, R.SNS_CAL 3]
  ++ (List.range 8).flatMap (fun n => [R.CHK_ALV n, R.CHK_BYTES n, R.CHK_STAT n, R.TRL_BULK_STAT n, R.SAF_STD_STAT n])
  ++ (List.range 16).map (fun l => R.FLD_P_STAT l) ++ (List.range s.link.tiles.length).map (fun i => R.TRL_TILE_ST i)
  ++ s.link.evict.toList.map (fun e => R.TRL_TILE_ST e.idx) ++ s.hrw.std.map (fun i => R.SAF_STD_STAT i)
  ++ s.field.runs.map (fun r => R.FLD_P_STAT r.plot) ++ eventRegs

/-- What a reset of Table PWR-3 with cause `f` leaves, from `s` to `t`, in power state `n`: the registers as after power-on but for
PCR_RST_CAUSE, which keeps the earlier causes, SCW_TICK, and the levels at the STO pins; no memory of the chip keeps a byte, and
every output is low. The fuses and the silo devices are outside the reset. -/
def resetTo (f : Fld) (n : Nat) (s t : State) : Prop :=
  t.flag f = true ∧ t.reg R.PCR_RST_CAUSE &&& s.reg R.PCR_RST_CAUSE = s.reg R.PCR_RST_CAUSE ∧ t.reg R.SCW_TICK = s.reg R.SCW_TICK
  ∧ (∀ k, k ∉ [R.PCR_RST_CAUSE, R.SCW_TICK, R.SAF_STAT, R.PCR_PWR_STATE] → t.reg k = State.reset.reg k)
  ∧ t.flag F.SAF_STAT_STO_STOP = !(s.saf.stoA && s.saf.stoB) ∧ t.flag F.SAF_STAT_SAFE = false ∧ t.fld F.SAF_STAT_DOUBT = 0
  ∧ t.pwr = n ∧ t.applied = false ∧ t.pow.running = false ∧ t.gran = [] ∧ t.plots = [] ∧ t.silo = s.silo ∧ t.fuses = s.fuses
  ∧ t.pending = s.pending ∧ ∀ a : Fin 4, t.gates a = 0

/-- The registers that a start step which ends may write: where it was the last one in Twin mode, training starts. -/
def stepRegs : List Nat := [R.PCR_PWR_STATE, R.PCR_CLK_STATUS, R.TRL_STAT, R.TRL_ERR]

/-- What a wake cause with code `src` does, from `s` to `t` (R69): during sleep entry it abandons the entry with REJ = 3; in sleep it
starts the wake with PD2 and PD5; at any other time nothing. -/
def woken (src : Nat) (s t : State) : Prop :=
  if s.pwr = 8 ∧ s.pow.sleepReq = true then
    t.fld F.PCR_SLEEP_REJ = 3 ∧ t.pwr = 7 ∧ t.pow.sleepReq = false ∧ s.regsBut t [R.PCR_SLEEP, R.PCR_PWR_STATE]
  else if s.pwr = 9 ∨ s.pwr = 10 then
    t.fld F.PCR_WAKE_SRC = src ∧ t.pwr = 11 ∧ t.pd 2 = true ∧ t.pd 5 = true ∧ t.pow.waking = true ∧ s.regsBut t [R.PCR_WAKE, R.PCR_PWR_STATE]
  else t.pow = s.pow ∧ t.regs = s.regs

/-- The tokens of the Turnstile's books: FREE, RETURNING, the grants, and what ends before the next edge (R71). -/
def tokens (s : State) : Nat := s.fld F.TRN_AUDIT_FREE + s.fld F.TRN_AUDIT_RETURNING + s.trnGranted + s.trn.ended

/-- The registers of a load. -/
def loadRegs : List Nat := [R.PCR_IMG_CTRL, R.PCR_IMG_STATUS, R.PCR_IMG_ERRLOC, R.PCR_PWR_STATE]

/-- A load has ended in FAILED with code `c` (R33). -/
def failedWith (c : Nat) (t : State) : Prop :=
  t.fld F.PCR_IMG_STATUS_STATE = 4 ∧ t.fld F.PCR_IMG_STATUS_ERR = c % 256 ∧ t.ldr.loading = false ∧ t.ldr.ready = false ∧ t.ldr.bytes = []

/-- Filter unit `i` takes a value in the tick that updates channel `c` (R77). -/
def filtDue (s : State) (c : Nat) : Nat → Bool
  | 0 => s.flag (F.SCW_FILT_EN 0) && s.fld (F.SCW_FILT_CHAN 0) == c
  | i + 1 => s.flag (F.SCW_FILT_EN (i + 1))
      && if s.flag (F.SCW_FILT_CHAIN (i + 1)) then filtDue s c i else s.fld (F.SCW_FILT_CHAN (i + 1)) == c

/-- The slot that ends converts its channel: an earlier slot of the scan names another one (R78). -/
def slotConverts (s : State) : Bool :=
  (List.range s.scw.slot).all (fun k => s.fld (F.SCW_SLOT_CHAN k) != s.fld (F.SCW_SLOT_CHAN s.scw.slot))
    && decide (s.fld (F.SCW_SLOT_CHAN s.scw.slot) < 24)

/-- The rule source `src` has a new value when the slot ends. -/
def sourceDue (s : State) (src : Nat) : Bool :=
  slotConverts s && (src == s.fld (F.SCW_SLOT_CHAN s.scw.slot)
      || decide (0x18 ≤ src) && decide (src < 0x1C) && filtDue s (s.fld (F.SCW_SLOT_CHAN s.scw.slot)) (src - 0x18))
    || decide (s.nSlot ≤ s.scw.slot + 1) && decide (0x1C ≤ src) && decide (src < 0x24)

/-- Rule `r` fires from `s` to `t`. -/
def fires (s t : State) (r : Nat) : Bool := (t.rule r).fired && !(s.rule r).fired

/-- The registers that the end of a slot may write. -/
def slotRegs (s : State) : List Nat :=
  [R.SCW_VAL (s.fld (F.SCW_SLOT_CHAN s.scw.slot)), R.SCW_FVAL 0, R.SCW_FVAL 1, R.SCW_FVAL 2, R.SCW_FVAL 3, R.SCW_FIRED, R.SCW_LOG_STAT,
   R.PCR_WAKE, R.PCR_SLEEP, R.PCR_PWR_STATE] ++ safeRegs ++ eventRegs

/-- A frame of port `p` with the opcode of one of the nine requests, its CRC and length right or not (`ok`). -/
def frameOf (p : Fin 2) (ok : Bool) (i : Instr) : Prop :=
  (∃ k vs, i = .write p ok k vs) ∨ (∃ k n, i = .read p ok k n) ∨ i = .stat p ok ∨ (∃ k vs, i = .wwrite p ok k vs)
  ∨ (∃ k n, i = .wreq p ok k n) ∨ (∃ k, i = .wfetch p ok k) ∨ (∃ n ws, i = .enq p ok n ws)
  ∨ (∃ n len, i = .deq p ok n len) ∨ (∃ n len, i = .peek p ok n len)

/-- A write of the register at `k` does nothing but store: no command bit, no address-shaped effect, no LIVE field. -/
def storesOnly (s : State) (p : Fin 2) (k : Nat) : Prop :=
  (∀ u v, regEffect p (homeKey k) v u = (0, plainWrite (homeKey k) v u)) ∧ ∀ d ∈ s.ldr.live, homeKey d.addr ≠ homeKey k

/-- What port `p` reads at `k`, where the read itself changes nothing: 0 in the window of an axis or plot that does not exist, the port's
own copy of a latched word, else what the register shows. -/
def readsAs (s : State) (p : Fin 2) (k : Nat) : Word :=
  if s.deadWord k then 0
  else if k = R.PCR_STEP_HI then word (s.ports.get p).stepHi
  else if k = R.PCR_DET_LIVE_STEP_LO then (s.ports.get p).detLo
  else if k = R.PCR_DET_LIVE_STEP_HI then (s.ports.get p).detHi
  else if 0x386000 ≤ k ∧ k < 0x386600 then SMap.get 0 (s.ports.get p).audB ((k - 0x386000) / 8)
  else s.shown k

/-- The words that the last answer of port `p` carries. -/
def answerWords (t : State) (p : Fin 2) : Option (List Word) := (t.ports.get p).resp.map (fun r => r.rdata)

/-- A queue request of port `p` on queue `n` meets nothing that refuses it: PD2 is on, the port is bound to the queue's tenant, the queue is
enabled and of the role (`z2h`), not stopped, not above its depth, and an H2Z queue's tenant is not in reset. -/
def queOpen (s : State) (p : Fin 2) (n : Nat) (z2h : Bool) : Prop :=
  n < 64 ∧ s.pd 2 = true ∧ s.bound p (s.queTenant n) = true ∧ s.queRole n z2h = true ∧ n ∉ s.que.stopped
    ∧ (z2h = false → s.inReset (s.queTenant n) = false) ∧ s.queOcc n ≤ s.queDepth n

/-- The bytes that a scan described by `d`, with the register snapshot `f`, streams from state `s`: its elements in ascending index,
each in ascending address (R287, R291). -/
def streamOf (s : State) (f : Option Face) (d : ScanDesc) (n : Nat) : List Byte :=
  (List.range n).flatMap (fun i =>
    let k := d.start + i * d.stride
    match d.space with
    | 0 => memRead s.gran k d.e
    | 1 => memRead s.plots (0x40000 * d.plot + k) d.e
    | 2 => (List.range (d.e / 4)).flatMap (fun j => leBytes 4 (s.snapWord f d (k + 4 * j)).toNat)
    | _ => memRead s.silo k d.e)

/-- The registers of the check units and standing checks that the end of a scan or standing check may write. -/
def unitRegs (s : State) : List Nat :=
  (List.range 8).flatMap (fun n => [R.CHK_ALV n, R.CHK_BYTES n, R.CHK_STAT n, R.CHK_RES_LO n, R.CHK_RES_HI n, R.SAF_STD_STAT n])
    ++ s.hrw.std.map (fun i => R.SAF_STD_STAT i)

/-- The registers in which a scan's reads are counted. -/
def scanRegs (d : ScanDesc) : List Nat := [R.FLD_GRN_ECC, R.FLD_GRN_ERR, R.FLD_STAT, R.FLD_P_ECC d.plot]

/-- No event can start bulk descriptor `i` by a route (Table QUE-6, BULK_GO). -/
def noRouteTo (s : State) (i : Nat) : Prop := ∀ r ∈ s.routes, r.dst ≠ 0x70 + i

/-- The link goes off from `s` to `t` with a cause, 0 where CAUSE is not named (R351): nothing waits to be sent or handled, a queued DOUBT
or SAFE frame asserts PAIR_SAFE_O, the bulk descriptors under way end, borrowed copies are stale, and an eviction awaits no
acknowledgement. -/
def wentOff (cause : Nat) (s t : State) : Prop :=
  t.fld F.TRL_STAT_STATE = 10 ∧ (cause ≠ 0 → t.fld F.TRL_STAT_CAUSE = cause)
  ∧ (∀ v : Fin 4, t.link.txq.get v = []) ∧ t.link.rx = [] ∧ t.link.cut = none ∧ t.link.recs = [] ∧ t.link.hold = []
  ∧ (s.twin = true → (∃ f ∈ s.link.txq.get 0, f.typ = 2 ∨ f.typ = 4) → t.flag F.TRL_STAT_PS_O = true)
  ∧ (∀ i < 8, (s.fld (F.TRL_BULK_STAT_STATE i) = 1 ∨ s.fld (F.TRL_BULK_STAT_STATE i) = 2) →
      t.fld (F.TRL_BULK_STAT_STATE i) = 4 ∧ (noRouteTo s i → t.fld (F.TRL_BULK_STAT_RESULT i) = 7))
  ∧ (∀ k < s.link.tiles.length, s.tileState k = 8 → (∀ e, s.link.evict = some e → e.idx ≠ k) → t.tileState k = 9)
  ∧ (∀ e, s.link.evict = some e → if e.wrote then t.link.evict = none ∧ t.tileState e.idx = 3 else t.link.evict = some { e with acked := true })
  ∧ ((∀ i < 8, s.fld (F.TRL_BULK_STAT_STATE i) ≠ 1 ∧ s.fld (F.TRL_BULK_STAT_STATE i) ≠ 2) → s.link.evict = none → s.heard t (Ev.link 2))

/-- The registers that the link's state machine may write in `s`. -/
def linkRegs (s : State) : List Nat :=
  [R.TRL_STAT, R.TRL_ERR, R.TRL_TIME, R.TRL_TILE_AUD] ++ (List.range 8).map (fun i => R.TRL_BULK_STAT i)
    ++ (List.range s.link.tiles.length).map (fun k => R.TRL_TILE_ST k) ++ (s.link.evict.toList.map (fun e => R.TRL_TILE_ST e.idx)) ++ eventRegs

/-- The state that training leaves on a step (Table TRL-6). -/
def trainLeaves : TrainStep → Nat
  | .signal => 1
  | .lock => 2
  | .deskew .. => 3
  | .cap .. => 4
  | .elect .. => 5
  | .align .. => 6

/-- Where the error counters `m` of a live link put it, from `s` to `t` (Table TRL-7). -/
def judged (m : Nat) (s t : State) : Prop :=
  if 192 ≤ m then wentOff 7 s t
  else if s.fld F.TRL_STAT_STATE = 7 ∧ 96 ≤ m then t.fld F.TRL_STAT_STATE = 8 ∧ s.heard t (Ev.link 1)
  else if s.fld F.TRL_STAT_STATE = 8 ∧ m < 96 then t.fld F.TRL_STAT_STATE = 7 ∧ t.link.txq.get 2 = [] ∧ s.heard t (Ev.link 0)
  else t.fld F.TRL_STAT_STATE = s.fld F.TRL_STAT_STATE

/-- The frame that a handling command of TYPE `typ` finds: the oldest accepted one of its channel, where it is of that TYPE. A NULL frame
is the oldest of the NULL frames. -/
def frontFrame (s : State) (typ : Nat) (b : List Byte) : Prop :=
  s.link.rx.find? (fun x => if typ = 0 then frType x == 0 else frType x != 0 && frameVc (frType x) == frameVc typ) = some b ∧ frType b = typ

/-- A frame `b` of TYPE `typ` has been handled: it waits no more, its returned credits are held, and its buffer is free with a credit
owed (R338). -/
def frameDone (typ : Nat) (b : List Byte) (s t : State) : Prop :=
  t.link.rx = s.link.rx.erase b
  ∧ ∀ v : Fin 4, (t.link.vcs.get v).txc = (s.link.vcs.get v).txc + bitsOf (leAt b 10 2) (4 * v.val) 4
    ∧ (t.link.vcs.get v).acct = (s.link.vcs.get v).acct
    ∧ if typ ≠ 0 ∧ frameVc typ = some v then
        (t.link.vcs.get v).occ = (s.link.vcs.get v).occ - 1 ∧ (t.link.vcs.get v).owed = (s.link.vcs.get v).owed + 1
      else (t.link.vcs.get v).occ = (s.link.vcs.get v).occ ∧ (t.link.vcs.get v).owed = (s.link.vcs.get v).owed

/-- A frame of channel `v` queued for the twin while the link carries traffic. -/
def queuedFrame (s : State) (typ : Nat) (first last : Bool) (pay : List Byte) : List TxFrame :=
  if s.linkLive then [⟨typ, first, last, s.stepN, (pay ++ List.replicate 48 0#8).take 48⟩] else []

/-- The commands that handle a received frame, by TYPE. -/
def frameCommands : List (Instr × Nat) :=
  [(.null, 0), (.heartbeat, 1), (.doubt, 2), (.retract, 3), (.safe, 4), (.share, 0x10), (.partialFrame, 0x20), (.cutBegin, 0x30), (.cutData, 0x31),
   (.cutStat, 0x33), (.rtfReq, 0x34), (.tileData, 0x35), (.evn, 0x36), (.evnAck, 0x37), (.tileAbsent, 0x38)]

/-- The record that the 24 bytes from `k` of a SHARE frame carry, none where they are empty. -/
def recordAt (s : State) (b : List Byte) (k : Nat) : Option ShareRec :=
  if leAt b k 1 = 0xFF then none
  else some ⟨leAt b k 1, s.localStep (leAt b 4 6), leAt b (k + 1) 1, (List.range 8).map (fun j => leAt b (k + 4 + 2 * j) 2), false⟩

end Sys2Proof.Machine

open Sys2Proof Sys2Proof.Machine

/-! ## The statements -/

/-- A step takes the command at the front of the queue and has its effect on the state with the rest of the queue. -/
def Obligations.StepRunsTheFrontCommand : Prop :=
  ∀ (c : Instr) (l : List Instr) (s : State), step { s with pending := c :: l } = exec c { s with pending := l }

/-- With no command waiting the block idles; the model's choice, log entry 5. Commands leave the queue first in, first out, and
no command adds one: a step that answers a next state has taken exactly the front command away. -/
def Obligations.CommandsLeaveTheQueueInOrder : Prop :=
  (∀ s : State, s.pending = [] → step s = .next s)
  ∧ (∀ s t : State, step s = .next t → t.pending = s.pending.tail)

/-- A command whose operands are well formed always answers a next state; one whose operands are not faults; none is refused. -/
def Obligations.WellFormedCommandsComplete : Prop :=
  ∀ (i : Instr) (s : State), (i.wf = true → ∃ t, exec i s = .next t) ∧ (i.wf = false → ∃ row, exec i s = .fault (.illFormed row))

/-- Right after reset the sparse parts are in canonical form, the Square's books balance, every tenant has its place on the way
back, the start sequence has not brought an image, no axis drives, and no command waits. -/
def Obligations.ResetState : Prop :=
  State.reset.kept = true ∧ State.reset.booked = true ∧ State.reset.placed = true ∧ State.reset.pending = []
    ∧ State.reset.reg R.PCR_PWR_STATE = 0x00010000#32 ∧ State.reset.reg R.PCR_RST_CAUSE = 0x00000002#32
    ∧ State.reset.reg R.PCR_SLEEP = 0x00000004#32 ∧ State.reset.reg R.HRW_CTRL = 0x80000010#32
    ∧ State.reset.applied = false ∧ State.reset.pow.running = false ∧ (∀ a : Fin 4, State.reset.gates a = 0)

/-- Every step keeps the canonical form of the registers, the task inputs' counts, the granary, the plot stores and the silo. -/
def Obligations.StepKeepsCanonicalForm : Prop :=
  ∀ s t : State, s.kept = true → step s = .next t → t.kept = true

/-- R322: in every state whose books balance, every step leaves them balanced, so for every task input the events received equal
those served, merged and pending, modulo 65536. -/
def Obligations.StepKeepsTheSquaresBooks : Prop :=
  ∀ s t : State, s.booked = true → step s = .next t →
    t.booked = true ∧ ∀ c, (t.task c).rcv = ((t.task c).srv + (t.task c).mrg + (t.task c).pend) % 65536

/-- Every step keeps each tenant's place on the way back to the observers. The part is what it is: no step changes a fuse but
those that retire a plot (R3, R196), and no number of a free value comes back. -/
def Obligations.StepKeepsThePlacesAndThePart : Prop :=
  (∀ s t : State, s.placed = true → step s = .next t → t.placed = true)
  ∧ (∀ s t : State, step s = .next t → t.fuses = { s.fuses with retired := t.fuses.retired } ∧ s.freeIdx ≤ t.freeIdx)

/-- R17: STEP changes at schedule-period boundaries only. After any other command that leaves the schedule running, the schedule
ran before and STEP is the same. R17: a boundary sets STEP to 0 where the zero step begins and to the next number otherwise, 0
following 2^48 - 1, unless a command that the boundary applies stops the schedule; without a running schedule and without a zero
step to begin there is no boundary. -/
def Obligations.StepNumberMovesAtBoundaries : Prop :=
  (∀ (i : Instr) (s t : State), (∀ nflt oc, i ≠ .schedulePeriodBoundary nflt oc) → exec i s = .next t → t.pow.running = true →
    s.pow.running = true ∧ t.step = s.step)
  ∧ (∀ (nflt : BitVec 4) (oc : BitVec 12) (s : State),
    (s.pow.running = false → s.pow.zeroPend = false → exec (.schedulePeriodBoundary nflt oc) s = .next s)
    ∧ ((s.pow.running || s.pow.zeroPend) = true →
      Completes (.schedulePeriodBoundary nflt oc) s fun t => t.pow.running = true → t.step = if s.pow.zeroPend then 0 else s.step + 1))

/-- Each command changes only the parts of the state that `touches` lists for it: among others, which commands may change a byte
of the granary, of the plot stores or of the silo, and which may change no register. A register write that is taken changes only
the parts that its register acts on, and the answer of its port. -/
def Obligations.CommandsTouchOnlyTheirParts : Prop :=
  (∀ (i : Instr) (s t : State) (x : Part), exec i s = .next t → x ∉ touches i → x.agrees s t)
  ∧ (∀ (i : Instr) (s t : State) (p : Fin 2) (k : Nat) (v : Word) (x : Part), asWrite i = some (p, k, v) → s.takes p k v = true →
    exec i s = .next t → x ∉ takenParts i → x.agrees s t)

/-- R117: outside a debug halt the two outputs of a phase pair are never both high, whatever the compares and the mask ask for.
R136, R35, R51: outside a debug halt an axis that is not configured, has no image, or is held in tenant reset drives all eight
outputs low. -/
def Obligations.PairsAreNeverBothHigh : Prop :=
  (∀ (s : State) (a : Fin 4) (k : Nat), k < 3 → s.halted a = false →
    ¬ ((s.gates a).getLsbD (2 * k) = true ∧ (s.gates a).getLsbD (2 * k + 1) = true))
  ∧ (∀ (s : State) (a : Fin 4), s.halted a = false → (s.applied = false ∨ s.axisConf a = false ∨ s.inReset a = true) → s.gates a = 0)

/-- R128, R105, R132: with a trip input active, enabled and unblanked the six phase outputs are low after OVERCURRENT_TRIP,
NFLT_TRIP and BLANK_WINDOW_CLOSE, with X_TRIP all eight, in a debug halt too; outside one the trip latch is set. Only the trip's
registers and those of its events may change. R132: where no trip input is active, a BLANK window closes and nothing else
happens. R131: TRIP_CLR is accepted only while no trip input of the axis is active: COUNT and CLEAN become 0 and a latch-off is
released at the next load point; otherwise CLR_REJ is set and COUNT, CLEAN and the latch-off stay. No other register changes. -/
def Obligations.TripsDriveTheOutputsLow : Prop :=
  (∀ (s : State) (a c : Fin 4) (nflt : Bool) (oc : BitVec 3) (i : Instr) (u : State),
    (i = .overcurrentTrip a oc ∧ u = s.modPwm a (fun p => { p with oc := oc })
      ∨ i = .nfltTrip a ∧ u = s.modPwm a (fun p => { p with nflt := true })
      ∨ i = .blankWindowClose a c nflt oc ∧ s.halted a = false
        ∧ u = s.modPwm a (fun p => { p with nflt := nflt, oc := oc, blank := p.blank &&& ~~~BitVec.ofNat 4 (2 ^ c.val) })) →
    (u.nfltTrips a || u.ocTrips a) = true →
    ((s.pwm.get a).tripPer = true → s.flag (F.PWM_TRIP_STAT_TRIPPED a) = true) →
    Completes i s fun t =>
      t.gates a &&& 0x3F#8 = 0 ∧ (s.flag (F.PWM_TRIP_CFG_X_TRIP a) = true → t.gates a = 0)
      ∧ (s.halted a = false → t.flag (F.PWM_TRIP_STAT_TRIPPED a) = true) ∧ s.regsBut t (tripRegs a))
  ∧ (∀ (s : State) (a c : Fin 4), s.halted a = false →
    exec (.blankWindowClose a c false 0) s
      = .next (s.modPwm a (fun p => { p with nflt := false, oc := 0, blank := p.blank &&& ~~~BitVec.ofNat 4 (2 ^ c.val) })))
  ∧ (∀ (s : State) (p : Fin 2) (a : Fin 4) (nflt : Bool) (oc : BitVec 3), s.takes p (R.PWM_TRIP_CLR a) 1#32 = true →
    Completes (.tripClr p a nflt oc) s fun t =>
      if (nflt && s.flag (F.PWM_TRIP_CFG_NFLT_EN a)) || oc != 0 then
        t.flag (F.PWM_STAT_CLR_REJ a) = true ∧ (t.pwm.get a).clrPend = (s.pwm.get a).clrPend ∧ s.regsBut t [R.PWM_STAT a]
      else
        t.fld (F.PWM_TRIP_STAT_COUNT a) = 0 ∧ t.fld (F.PWM_TRIP_STAT_CLEAN a) = 0
        ∧ t.flag (F.PWM_TRIP_STAT_LATCHED a) = s.flag (F.PWM_TRIP_STAT_LATCHED a)
        ∧ (t.pwm.get a).clrPend = s.flag (F.PWM_TRIP_STAT_LATCHED a) ∧ s.regsBut t [R.PWM_TRIP_STAT a])

/-- R133: a trigger of the active set with PRE = 0 fires in the cycle the counter equals POS, one with PRE = 1 from the shadow in
cycle PWM_PER - POS of the period before, and where the shadow then holds no enabled PRE trigger EARLY_MISS is set; a trigger
that fires is received by every task input on a route from TRIG[n]. Table PWM-7: the start of a WINDOW channel and the expiry of
a TIMER channel reach the task inputs on routes from TCH[c]; the command raises nothing for a BLANK channel or one that is off.
-/
def Obligations.TriggersAndTimersRaiseTheirEvents : Prop :=
  (∀ (s : State) (a n : Fin 4), s.halted a = false → s.axisConf a = true →
    (∀ w, (s.pwm.get a).active.trig.getD n 0 = w → w.getLsbD 31 = true → w.getLsbD 30 = false →
      Completes (.trig a n false) s fun t =>
        t.fld (F.PWM_CNT_CNT a) = fieldGet w 0 24 ∧ s.heard t (0x20 * a.val + Ev.trig n)
        ∧ s.regsBut t (R.PWM_CNT a :: eventRegs))
    ∧ (∀ w, s.reg (R.PWM_TRIG a n) = w →
      if w.getLsbD 31 = true ∧ w.getLsbD 30 = true then
        Completes (.trig a n true) s fun t =>
          t.fld (F.PWM_CNT_CNT a) = (s.per a - fieldGet w 0 24) % 2 ^ 24 ∧ s.heard t (0x20 * a.val + Ev.trig n)
          ∧ s.regsBut t (R.PWM_CNT a :: eventRegs)
      else Completes (.trig a n true) s fun t => t.flag (F.PWM_STAT_EARLY_MISS a) = true ∧ s.regsBut t [R.PWM_STAT a]))
  ∧ (∀ (s : State) (a c : Fin 4), s.halted a = false → s.axisConf a = true →
    if s.fld (F.PWM_TCH_A_MODE a c) = 2 ∨ s.fld (F.PWM_TCH_A_MODE a c) = 3 then
      Completes (.tchEvent a c) s fun t => s.heard t (0x20 * a.val + Ev.tch c) ∧ s.regsBut t eventRegs
    else exec (.tchEvent a c) s = .next s)

/-- R134, R382: in a debug halt the halted PWM units keep their outputs at their levels, and the gate-supply enables and SAFE_N
hold; an axis that is not halted keeps its own. No register but PWM_STAT changes. -/
def Obligations.DebugHaltHoldsTheOutputs : Prop :=
  ∀ (s : State) (m : BitVec 4), s.fuses.jtagLock = false →
    Completes (.debugHalt m) s fun t =>
      (∀ a : Fin 4, t.gates a = s.gates a ∧ (m.getLsbD a = true → s.axisPresent a = true → t.halted a = true))
      ∧ t.enables = s.enables ∧ s.regsBut t [R.PWM_STAT 0, R.PWM_STAT 1, R.PWM_STAT 2, R.PWM_STAT 3]

/-- R114, R115: at an edge the output takes the level that the active set, the set before it and the dead times ask for at that
instant, and no other output of the axis moves in the timebase. -/
def Obligations.EdgesPlaceTheAskedLevel : Prop :=
  ∀ (s : State) (a : Fin 4) (u : Fin 8) (at' : Nat), s.halted a = false → s.axisConf a = true →
    Completes (.outputEdge a u at') s fun t =>
      (∀ v : Fin 8, (t.pwm.get a).out.getLsbD v =
        if v = u then
          askedAt (s.pwm.get a).active (s.pwm.get a).before (s.fld (F.PWM_CTRL_PAIR_IND a)) (s.fld (F.PWM_MINPW_MINPW a)) u at'
        else (s.pwm.get a).out.getLsbD v)
      ∧ s.regsBut t [R.PWM_STAT a, R.SCW_SPIN a]

/-- R119: a load request arms the load group of its axis, and no other. R119, R121, R122: in the commit cycle of an armed group
every axis of it commits the set that the shadow and, on Headland, the Headland set buffer hold, dithered; a group that is not
armed commits nothing. The active sets and the shadows stay. R119: at a load point within a schedule period the committed set
becomes active, or without one the active set stays, the next axis period begins at count 0, and the results of the passes of the
period are taken. -/
def Obligations.LoadGroupsCommitAndLoad : Prop :=
  (∀ (s : State) (p : Fin 2) (a g : Fin 4) (v : Word), s.takes p (R.PWM_LOAD a) (v ||| 1#32) = true →
    Completes (.loadReq p a v) s fun t =>
      t.armed.getLsbD g = (s.armed.getLsbD g || s.fld (F.PWM_CTRL_GROUP a) == g.val) ∧ s.regsBut t [R.PWM_LOAD a])
  ∧ (∀ (s : State) (g : Fin 4),
    Completes (.commitWindow g) s fun t =>
      (∀ a : Fin 4, s.timed a = true → s.inGroup g a = true →
        t.fld (F.PWM_CNT_CNT a) = (s.per a - 60) % 2 ^ 24
        ∧ if s.armed.getLsbD g = true then
            t.flag (F.PWM_LOAD_COMMITTED a) = true
            ∧ ∃ hl, (t.pwm.get a).committed
                = some (dithered (s.takenSet a hl) (s.fld (F.PWM_DITHER_DBITS a)) (genOut (genNext (s.det.get a).gen)))
          else t.flag (F.PWM_LOAD_COMMITTED a) = s.flag (F.PWM_LOAD_COMMITTED a) ∧ (t.pwm.get a).committed = (s.pwm.get a).committed)
      ∧ (∀ a : Fin 4, (t.pwm.get a).active = (s.pwm.get a).active
        ∧ (∀ u : Fin 8, t.reg (R.PWM_RISE a u) = s.reg (R.PWM_RISE a u) ∧ t.reg (R.PWM_FALL a u) = s.reg (R.PWM_FALL a u))
        ∧ (∀ n : Fin 4, t.reg (R.PWM_TRIG a n) = s.reg (R.PWM_TRIG a n))))
  ∧ (∀ (s : State) (a : Fin 4) (nflt : Bool) (oc : BitVec 3), s.timed a = true → (s.pwm.get a).perIdx + 1 < s.perPerStep a →
    Completes (.loadPoint a nflt oc) s fun t =>
      (t.pwm.get a).active = (s.pwm.get a).committed.getD (s.pwm.get a).active ∧ (t.pwm.get a).before = (s.pwm.get a).active
      ∧ (t.pwm.get a).committed = none ∧ (t.pwm.get a).perIdx = (s.pwm.get a).perIdx + 1
      ∧ t.fld (F.PWM_CNT_CNT a) = 0 ∧ t.flag (F.PWM_LOAD_COMMITTED a) = false
      ∧ (∀ b : Fin 4, b ≠ a → (t.pwm.get b).active = (s.pwm.get b).active)
      ∧ (∀ k ∈ [R.PWM_PER a, R.PWM_CTRL a, R.PWM_TRIP_CFG a, R.PWM_DT_CFG a, R.PWM_DT_CFG2 a], t.reg k = s.reg k)
      ∧ (∀ u : Fin 8, t.reg (R.PWM_RISE a u) = s.reg (R.PWM_RISE a u) ∧ t.reg (R.PWM_FALL a u) = s.reg (R.PWM_FALL a u)))

/-- R254, R255: at the last cycle of a frame, MISS and doubt by the checkpoint for each tenant whose commits differ from the
expected count, an axis that is not configured or is held in tenant reset left out; the other tenants' doubt is as before. -/
def Obligations.CheckpointDoubtsTheTenantsThatMissed : Prop :=
  ∀ s : State, s.pow.running = true →
    Completes .endOfFrameCheckpoint s fun t =>
      t.fld F.SAF_CKPT_LAST_STEP = s.stepN % 65536
      ∧ (∀ k : Fin 5,
        if (k.val = 4 ∨ s.axisConf k.val = true ∧ s.inReset k.val = false) ∧ s.fld (F.SAF_CKPT_CNT_CNT k) ≠ s.fld (F.SAF_CKPT_EXP_EXP k) then
          t.bit F.SAF_CKPT_LAST_MISS k = true ∧ t.bit F.SAF_STAT_DOUBT k = true ∧ t.bit (F.SAF_DCAUSE_CAUSE k) 1 = true
        else
          t.bit F.SAF_CKPT_LAST_MISS k = false ∧ t.bit F.SAF_STAT_DOUBT k = s.bit F.SAF_STAT_DOUBT k
          ∧ t.reg (R.SAF_DCAUSE k) = s.reg (R.SAF_DCAUSE k))
      ∧ s.regsBut t (R.SAF_CKPT_LAST :: (List.range 5).flatMap doubtRegs)

/-- R99, R101: the three shunt results of a start make one sample set, delivered with the tags of the period. A leg without its
window takes the negative sum of the two others (REC); two or more keep the last codes (HOLD). A set of an early trigger that
waits for its commit is withheld (R102). R95, Table SNS-3: a slow item's code is latched as the NTC code of its turn with OPEN
and SHORT by the limits, or as a conversion of the command pin; the turn passes on. With no slow item converting nothing is
latched. R103: a calibration request is taken while the six phase outputs are low and is otherwise ignored with REJ. At the end
of the calibration each offset is the mean of its 64 codes, or, if a check fails, REJ is set and the offsets stay. -/
def Obligations.ConversionsMakeSampleSets : Prop :=
  (∀ (s : State) (a : Fin 4) (x : Fin 3 → LegSample) (vb : Option (BitVec 14)) (n : SenseAx) (code : Fin 3 → Int) (lost : Nat),
    s.replayRuns a = false → s.replayDone a = false → n = s.sense.get a → n.conv &&& 7#4 = 7#4 →
    (∀ l, code l = -(x l).raw.toInt - s.ofs a l n.gain) →
    lost = (!(x 0).clean).toNat + (!(x 1).clean).toNat + (!(x 2).clean).toNat →
    Completes (.conversionEnd a (some (x 0)) (some (x 1)) (some (x 2)) vb) s fun t =>
      (∀ l : Fin 3, t.reg (R.SNS_I a l) =
        sampleWord (n.early && n.earlyOk != some true) (!(x l).clean) ((x l).raw == 0x2000#14 || (x l).raw == 0x1FFF#14)
          (lost == 1 && !(x l).clean) (decide (2 ≤ lost)) n.gain
          (if 2 ≤ lost then codeOf (n.deliv.i.getD l 0) else if (x l).clean then code l else -(code (l + 1) + code (l + 2))))
      ∧ (n.early = false → t.reg (R.SNS_TAG a) = s.sampleTag a false ∧ (t.sense.get a).deliv.tag = s.sampleTag a false)
      ∧ (n.early = true → n.earlyOk = none → (t.sense.get a).deliv = n.deliv ∧ (t.sense.get a).withheld.isSome = true)
      ∧ t.fld (F.SNS_WINCNT_REC a) = min 255 (s.fld (F.SNS_WINCNT_REC a) + (lost == 1).toNat)
      ∧ t.fld (F.SNS_WINCNT_HOLD a) = min 255 (s.fld (F.SNS_WINCNT_HOLD a) + (decide (2 ≤ lost)).toNat)
      ∧ s.regsBut t ([R.SNS_I a 0, R.SNS_I a 1, R.SNS_I a 2, R.SNS_TAG a, R.SNS_VBUS a, R.SNS_STAT a, R.SNS_WINCNT a] ++ headRegs a))
  ∧ (∀ (s : State) (a : Fin 4) (c : BitVec 14) (k : Nat), (s.sense.get a).slowNow = k →
    if (s.sense.get a).slow = false then exec (.slowItemLatch a c) s = .next s
    else Completes (.slowItemLatch a c) s fun t =>
      (t.sense.get a).slow = false ∧ (t.sense.get a).slowNext = (k + 1) % 3
      ∧ (if k < 2 then
          t.fld (F.SNS_NTC_CODE a k) = c.toNat
          ∧ t.flag (F.SNS_NTC_OPEN a k) = decide (s.fld (F.SNS_NTC_LIM_NTC_OPEN a) < c.toNat)
          ∧ t.flag (F.SNS_NTC_SHORT a k) = decide (c.toNat < s.fld (F.SNS_NTC_LIM_NTC_SHORT a))
          ∧ s.regsBut t [R.SNS_NTC a k]
        else
          (s.fld (F.SNS_CMD_CFG_FORM a) = 0 → (s.sense.get a).cmd.getLsbD 30 = false →
            (s.flag (F.SNS_CMD_CFG_LIVEZERO a) = true →
              s.fld (F.SNS_CMD_RANGE_LO a) ≤ 4 * c.toNat ∧ 4 * c.toNat ≤ s.fld (F.SNS_CMD_RANGE_HI a)) →
            (t.sense.get a).cmd = word (2 ^ 31 + 4 * c.toNat))
          ∧ s.regsBut t []))
  ∧ (∀ (s : State) (a : Fin 4),
    (∀ (p : Fin 2) (v : Word), s.takes p (R.SNS_CAL a) (v ||| 1#32) = true →
      Completes (.offsetCalibrationRequest p a v) s fun t =>
        (if s.gates a &&& 0x3F#8 = 0 then t.flag (F.SNS_CAL_BUSY a) = true
         else t.flag (F.SNS_CAL_REJ a) = true ∧ t.flag (F.SNS_CAL_BUSY a) = s.flag (F.SNS_CAL_BUSY a))
        ∧ s.regsBut t [R.SNS_CAL a])
    ∧ (∀ codes : List (List (BitVec 14)), (Instr.offsetCalibrationEnd a codes).wf = true → s.flag (F.SNS_CAL_BUSY a) = true →
      Completes (.offsetCalibrationEnd a codes) s fun t =>
        t.flag (F.SNS_CAL_BUSY a) = false
        ∧ (if codes.all calOk = true then
            ∀ (l : Fin 3) (g : Fin 4), t.ofs a l g = calMean (codes.getD (3 * g + l) [])
          else t.flag (F.SNS_CAL_REJ a) = true ∧ ∀ l : Fin 3, t.reg (R.SNS_OFS a l) = s.reg (R.SNS_OFS a l))
        ∧ s.regsBut t [R.SNS_CAL a, R.SNS_OFS a 0, R.SNS_OFS a 1, R.SNS_OFS a 2, R.PCR_PWR_STATE, R.PCR_CLK_STATUS, R.TRL_STAT, R.TRL_ERR]))

/-- R106: an edge within DLY_WIN cycles, that of the last cycle included, delivers its delay; a later one, and an edge that does
not come, sets MISS and delivers no value. -/
def Obligations.SwitchNodeEdgesWithinTheWindowAreMeasured : Prop :=
  ∀ (s : State) (a : Fin 4) (l : Fin 3) (lh : Bool) (miss dly : Fld) (q : State → List (List Nat)),
    (miss, dly) = (if lh then (F.SNS_SWN_DLY_MISS_LH a l, F.SNS_SWN_DLY_DLY_LH a l) else (F.SNS_SWN_DLY_MISS_HL a l, F.SNS_SWN_DLY_DLY_HL a l)) →
    (∀ s, q s = if lh then (s.pwm.get a).dlyLH else (s.pwm.get a).dlyHL) →
    (∀ d, d ≤ s.fld (F.SNS_SWN_CFG_DLY_WIN a) →
      Completes (.switchNodeEdge a l lh d) s fun t =>
        t.flag miss = false ∧ t.fld dly = d ∧ q t = (q s).set l ((d :: (q s).getD l []).take 8) ∧ s.regsBut t [R.SNS_SWN_DLY a l])
    ∧ (∀ i, (i = .switchNodeMiss a l lh ∨ ∃ d, s.fld (F.SNS_SWN_CFG_DLY_WIN a) < d ∧ i = .switchNodeEdge a l lh d) →
      Completes i s fun t =>
        t.flag miss = true ∧ t.fld dly = s.fld dly ∧ t.pwm = s.pwm ∧ s.regsBut t [R.SNS_SWN_DLY a l])

/-- R110, R111: in the duty form a measurement within its range gives VALUE, with VALID at once where no loss of signal stands;
in the duty and frequency forms one outside sets RANGE and leaves VALUE, VALID and LOS. A measurement of another form does
nothing. R108, R109: loss of signal sets LOS with VALID cleared, keeps the last VALUE, and reaches the task inputs on routes from
SNS_LOS; the analogue form loses its signal only with LIVEZERO, and a disabled pin has none. -/
def Obligations.CommandPinsMeasureAndLoseTheirSignal : Prop :=
  (∀ (s : State) (a : Fin 4) (m : CmdMeas) (n : SenseAx), n = s.sense.get a →
    (∀ high period, m = .duty high period → s.fld (F.SNS_CMD_CFG_FORM a) = 1 → period < 2 ^ 32 → 0 < period →
      s.fld (F.SNS_CMD_PMIN_PMIN a) ≤ period → period ≤ s.fld (F.SNS_CMD_PMAX_PMAX a) →
      Completes (.commandMeasurement a m) s fun t =>
        bitsOf (t.sense.get a).cmd.toNat 0 16 = min 65535 (65536 * high / period)
        ∧ (n.cmd.getLsbD 30 = false → (t.sense.get a).cmd.getLsbD 31 = true ∧ (t.sense.get a).cmd.getLsbD 30 = false)
        ∧ s.regsBut t [])
    ∧ ((∃ high period, m = .duty high period ∧ s.fld (F.SNS_CMD_CFG_FORM a) = 1 ∧
          (period < s.fld (F.SNS_CMD_PMIN_PMIN a) ∨ s.fld (F.SNS_CMD_PMAX_PMAX a) < period))
        ∨ (∃ period at', m = .edge period at' ∧ s.fld (F.SNS_CMD_CFG_FORM a) = 2 ∧ period < s.fld (F.SNS_CMD_PMIN_PMIN a)) →
      Completes (.commandMeasurement a m) s fun t =>
        t.flag (F.SNS_CMD_STAT_RANGE a) = true ∧ (t.sense.get a).cmd = n.cmd ||| 0x20000000#32
        ∧ s.regsBut t [R.SNS_CMD_STAT a])
    ∧ (s.fld (F.SNS_CMD_CFG_FORM a) = 3 → exec (.commandMeasurement a m) s = .next s))
  ∧ (∀ (s : State) (a : Fin 4),
    if s.fld (F.SNS_CMD_CFG_FORM a) = 3 ∨ s.fld (F.SNS_CMD_CFG_FORM a) = 0 ∧ s.flag (F.SNS_CMD_CFG_LIVEZERO a) = false then
      exec (.los a) s = .next s
    else
      Completes (.los a) s fun t =>
        t.flag (F.SNS_CMD_STAT_LOS a) = true ∧ (t.sense.get a).cmd.getLsbD 30 = true ∧ (t.sense.get a).cmd.getLsbD 31 = false
        ∧ bitsOf (t.sense.get a).cmd.toNat 0 16 = bitsOf (s.sense.get a).cmd.toNat 0 16
        ∧ s.heard t (0x20 * a.val + Ev.los) ∧ s.regsBut t (R.SNS_CMD_STAT a :: eventRegs))

/-- R148: in cycle PWM_PER - 2 a pattern that changes is raised as DRV_MASK; without a change, and without loss of signal,
nothing is raised. An axis that is halted, not configured or in tenant reset does nothing. R148, Table COM-1: an acknowledge
counts only in FAULT; nothing but the control register and the acknowledge changes. -/
def Obligations.SequencerPatternsAndAcknowledges : Prop :=
  (∀ (s : State) (a : Fin 4),
    if s.halted a = true ∨ s.axisRuns a = false then exec (.drvMask a) s = .next s
    else (s.sense.get a).cmd.getLsbD 30 = false →
      Completes (.drvMask a) s fun t =>
        t.fld (F.PWM_CNT_CNT a) = (s.per a - 2) % 2 ^ 24
        ∧ match (s.loop.get a).patPend with
          | none => t.loop = s.loop ∧ t.tasks = s.tasks ∧ s.regsBut t [R.PWM_CNT a]
          | some p => (t.loop.get a).patLast = some p ∧ (t.loop.get a).patPend = none ∧ s.heard t (0x20 * a.val + Ev.drvMask)
            ∧ s.regsBut t (R.PWM_CNT a :: eventRegs))
  ∧ (∀ (s : State) (p : Fin 2) (a : Fin 4) (v : Word), s.takes p (R.LPE_DRV_CTRL a) (v ||| 2#32) = true →
    Completes (.drvAck p a v) s fun t =>
      (t.loop.get a).ack = ((s.loop.get a).ack || (s.seqNow a).state == 10) ∧ t.seqNow a = s.seqNow a
      ∧ s.regsBut t [R.LPE_DRV_CTRL a])

/-- R161, R159, R160: a pass that runs to its end leaves its state set and signals, counts one commit, and writes its set: pass O
the phase compares of the shadow that are not the host's, pass H the Headland set buffer. A NaN or an uncorrectable word ends a
pass: it writes no set and counts no commit, NAN is set, and pass O raises doubt, pass H Headland doubt. -/
def Obligations.PassesWriteTheirSetsOrDoubt : Prop :=
  ∀ (s : State) (a : Fin 4) (o : Bool) (ce : Nat) (ue : Option Nat) (i : Instr) (u : State) (r : State × Pass),
    (i, u) = (if o then (.passO a ce ue, shareForm a (shareCross a s)) else (.passH a ce ue, s)) → r = passRun a o ce ue u →
    if u.halted a = true ∨ u.axisRuns a = false ∨ u.flag (F.LPE_CTRL_EN a) = false then exec i s = .next u
    else Completes i s fun t =>
      (if r.2.ended = true then
        t.flag (F.LPE_STAT_NAN a) = true ∧ t.fld (F.SAF_CKPT_CNT_CNT a) = u.fld (F.SAF_CKPT_CNT_CNT a)
        ∧ (t.loop.get a).passO.isSome = (u.loop.get a).passO.isSome ∧ (t.loop.get a).passH.isSome = (u.loop.get a).passH.isSome
        ∧ (if o then t.bit F.SAF_STAT_DOUBT a = true else t.bit F.SAF_STAT_HDOUBT a = true)
        ∧ (∀ w : Fin 8, t.reg (R.PWM_RISE a w) = u.reg (R.PWM_RISE a w) ∧ t.reg (R.PWM_FALL a w) = u.reg (R.PWM_FALL a w))
      else
        t.fld (F.SAF_CKPT_CNT_CNT a) = (u.fld (F.SAF_CKPT_CNT_CNT a) + 1) % 2 ^ 24
        ∧ (if o then (t.loop.get a).passO else (t.loop.get a).passH) = some ⟨r.2.st, r.2.sigs, true⟩
        ∧ (∀ d, r.2.set = some d →
          if o then ∀ k : Fin 3, (u.fld (F.PWM_CTRL_HOST_SRC a)).testBit (2 * k) = false →
            t.reg (R.PWM_RISE a (2 * k)) = d.rise.getD k 0 ∧ t.reg (R.PWM_FALL a (2 * k)) = d.fall.getD k 0
          else (∀ k : Fin 3, (t.pwm.get a).hset.rise.getD (2 * k) 0 = d.rise.getD k 0 ∧ (t.pwm.get a).hset.fall.getD (2 * k) 0 = d.fall.getD k 0)
            ∧ ∀ w : Fin 8, t.reg (R.PWM_RISE a w) = u.reg (R.PWM_RISE a w)))
      ∧ u.regsBut t (passRegs a)

/-- R168, R169: a swap request locks the idle bank and starts the guard check, unless one is locked or pending. The check refuses
the swap with the first word outside its limits, or in Exact mode with LATE_TAG, and releases the lock; otherwise the swap pends.
R240, R243: GO starts a wait for the replay's first frame only for a configured axis held in tenant reset, with the recorded
image, and in Twin mode without input from the twin; otherwise WHY says which fails (whether the image is the recorded one is
free, log entry 20). ABORT ends a replay and puts a replaying axis back into its reset, its sequencer off. -/
def Obligations.BankSwapsAndReplaysAreChecked : Prop :=
  (∀ (s : State) (a : Fin 4) (slot why : Nat),
    (∀ (p : Fin 2) (v : Word), s.takes p (R.LPE_BANK_CTRL a) (v ||| 1#32) = true →
      Completes (.bankSwapRequest p a v) s fun t =>
        (if s.flag (F.LPE_BANK_CTRL_LOCK a) = false ∧ s.flag (F.LPE_BANK_CTRL_PENDING a) = false then
          t.flag (F.LPE_BANK_CTRL_LOCK a) = true ∧ (t.loop.get a).check = true
         else t.flag (F.LPE_BANK_CTRL_LOCK a) = s.flag (F.LPE_BANK_CTRL_LOCK a) ∧ t.loop = s.loop)
        ∧ t.flag (F.LPE_BANK_CTRL_ACTIVE a) = s.flag (F.LPE_BANK_CTRL_ACTIVE a) ∧ s.regsBut t [R.LPE_BANK_CTRL a])
    ∧ ((s.loop.get a).check = false → exec (.bankGuardCheckEnd a) s = .next s)
    ∧ ((s.loop.get a).check = true →
      (s.guardFail a = some (slot, why) ∨ s.guardFail a = none ∧ s.exact = true ∧ s.tagLate a (s.bankTag a) = true ∧ (slot, why) = (0, 3)) →
      slot < 256 → why < 8 →
      Completes (.bankGuardCheckEnd a) s fun t =>
        t.fld (F.LPE_BANK_REJ_SLOT a) = slot ∧ t.fld (F.LPE_BANK_REJ_WHY a) = why ∧ t.flag (F.LPE_BANK_CTRL_REJ a) = true
        ∧ t.flag (F.LPE_BANK_CTRL_LOCK a) = false ∧ t.flag (F.LPE_BANK_CTRL_PENDING a) = false ∧ (t.loop.get a).check = false
        ∧ t.flag (F.LPE_BANK_CTRL_ACTIVE a) = s.flag (F.LPE_BANK_CTRL_ACTIVE a)
        ∧ s.regsBut t [R.LPE_BANK_CTRL a, R.LPE_BANK_REJ a])
    ∧ ((s.loop.get a).check = true → s.guardFail a = none → (s.exact && s.tagLate a (s.bankTag a)) = false →
      Completes (.bankGuardCheckEnd a) s fun t =>
        t.flag (F.LPE_BANK_CTRL_PENDING a) = true ∧ t.flag (F.LPE_BANK_CTRL_LOCK a) = s.flag (F.LPE_BANK_CTRL_LOCK a)
        ∧ t.flag (F.LPE_BANK_CTRL_ACTIVE a) = s.flag (F.LPE_BANK_CTRL_ACTIVE a) ∧ s.regsBut t [R.LPE_BANK_CTRL a]))
  ∧ (∀ (s : State) (p : Fin 2) (a : Fin 4) (v : Word) (st : Nat), st = s.fld (F.LPE_RPL_STAT_STATE a) →
    (s.takes p (R.LPE_RPL_CTRL a) (v &&& 0xFFFFFFFD#32 ||| 1#32) = true →
      Completes (.replayGo p a v) s fun t =>
        (if st = 1 ∨ st = 2 ∨ st = 3 then t.reg (R.LPE_RPL_STAT a) = s.reg (R.LPE_RPL_STAT a)
         else if (s.axisConf a && s.inReset a && s.flag (F.QUE_TEN_CTRL_RST a)) = false then
          t.fld (F.LPE_RPL_STAT_WHY a) = 1 ∧ t.fld (F.LPE_RPL_STAT_STATE a) = st
         else if Config.replaySame s.freeIdx = false then t.fld (F.LPE_RPL_STAT_WHY a) = 2 ∧ t.fld (F.LPE_RPL_STAT_STATE a) = st
         else if s.twin = true ∧ s.flag (F.TRL_SHARE_EN a) = true ∧ s.flag (F.TRL_SHARE_FOLLOWER a) = true then
          t.fld (F.LPE_RPL_STAT_WHY a) = 3 ∧ t.fld (F.LPE_RPL_STAT_STATE a) = st
         else t.fld (F.LPE_RPL_STAT_WHY a) = 0 ∧ t.fld (F.LPE_RPL_STAT_STATE a) = 1)
        ∧ s.regsBut t [R.LPE_RPL_CTRL a, R.LPE_RPL_STAT a])
    ∧ (s.takes p (R.LPE_RPL_CTRL a) (v &&& 0xFFFFFFFE#32 ||| 2#32) = true →
      Completes (.replayAbort p a v) s fun t =>
        t.fld (F.LPE_RPL_STAT_STATE a) = 0
        ∧ (if st = 2 ∨ st = 3 then t.inReset a = true ∧ t.fld (F.LPE_DRV_STAT_STATE a) = 0 ∧ (t.seqNow a).state = 0
            ∧ s.regsBut t [R.LPE_RPL_CTRL a, R.LPE_RPL_STAT a, R.LPE_DRV_STAT a, R.QUE_TEN_CTRL a]
          else s.regsBut t [R.LPE_RPL_CTRL a, R.LPE_RPL_STAT a])))

/-- R177, R200: the end of a layer advances its run by one layer and stores nothing but that layer's outputs, where the layer's
table entry puts them; a layer that gives partials stores none. R213: the last cycle of a run whose layers have all ended commits
it: the run is over, its plot no longer busy, one commit of its tenant is counted, and an observer's raw words are its output
channels. No byte of a memory changes. -/
def Obligations.NetworksRunAndCommit : Prop :=
  (∀ (s : State) (i : Nat) (ups : List Upset) (run : NetRun) (e : SchedEntry) (l : Layer),
    (Instr.layerEnd i ups).wf = true → s.field.runs.find? (fun r => r.entry == i) = some run → s.field.sched[i]? = some e →
    (s.netLayers e.net)[run.layer]? = some l →
    Completes (.layerEnd i ups) s fun t =>
      (∃ r, t.field.runs.find? (fun r => r.entry == i) = some r ∧ r.layer = run.layer + 1 ∧ r.plot = run.plot ∧ r.csets = run.csets)
      ∧ sameOutside s.plots t.plots (plotBase run.plot + (actBase + 16 * l.xout))
          (if s.partialLayer e.tenant run.layer l.net then 0 else l.batch * (16 * l.groups * l.elem))
      ∧ t.gran = s.gran ∧ s.regsBut t (readRegs run.plot))
  ∧ (∀ (s : State) (i : Nat) (run : NetRun) (e : SchedEntry) (l : Layer),
    s.field.runs.find? (fun r => r.entry == i) = some run → s.field.sched[i]? = some e → (s.netLayers e.net).getLast? = some l →
    (s.netLayers e.net).length ≤ run.layer →
    Completes (.networkCommit i) s fun t =>
      (∀ r ∈ t.field.runs, r.entry ≠ i) ∧ t.flag (F.FLD_P_STAT_BUSY run.plot) = false
      ∧ t.fld (F.SAF_CKPT_CNT_CNT (min e.tenant 4)) = (s.fld (F.SAF_CKPT_CNT_CNT (min e.tenant 4)) + 1) % 2 ^ 24
      ∧ (e.op ≠ 2 → e.tenant < 4 → ∀ j : Fin 8,
          t.reg (R.OBS_RAW e.tenant j) = word (wrapBits 16 (rawWord ((runOutputs e run l s).1.take 16) j)))
      ∧ t.plots = s.plots ∧ t.gran = s.gran
      ∧ s.regsBut t (readRegs run.plot ++ s.field.runs.map (fun r => R.FLD_P_STAT r.plot)
          ++ [R.SAF_CKPT_CNT (min e.tenant 4)] ++ (List.range 8).map (fun j => R.OBS_RAW e.tenant j)))

/-- R177, R211, R249, R231: a RUN or TPLOT entry that acts starts the run of its network on its plot, busy, with no layer ended
and the generators of its lane, and stores its input vectors where the first layer reads; any other entry does nothing. -/
def Obligations.ScheduleEntriesStartTheirNetworks : Prop :=
  ∀ (s : State) (i : Nat) (e : SchedEntry), s.field.sched[i]? = some e →
    ((s.pow.running = false ∨ s.pd 3 = false ∨ (e.op ≠ 1 ∧ e.op ≠ 2) ∨ s.entryLive e = false) → exec (.scheduleEntryStart i) s = .next s)
    ∧ (∀ (p : Nat) (l : Layer) (ls : List Layer), s.pow.running = true → s.pd 3 = true → (e.op = 1 ∨ e.op = 2) → s.entryLive e = true →
      s.entryPlot e = some p → s.netLayers e.net = l :: ls →
      Completes (.scheduleEntryStart i) s fun t =>
        t.flag (F.FLD_P_STAT_BUSY p) = true
        ∧ (∃ r, t.field.runs = s.field.runs.filter (fun q => q.plot != p) ++ [r] ∧ r.entry = i ∧ r.plot = p ∧ r.layer = 0
          ∧ (e.plot < 0x80 → r.gens = List.replicate 16 0#64)
          ∧ (0x80 ≤ e.plot → e.op = 2 → r.gens = (List.range 16).map s.tpSeed)
          ∧ (0x80 ≤ e.plot → e.op = 1 → s.exact = true → r.gens = (List.range 16).map (s.roundSeed (s.physOf p))))
        ∧ sameOutside s.plots t.plots (plotBase p + (actBase + 16 * l.xin))
            ((if e.prg then max 1 (s.fld F.FLD_PRG_CFG_W) else 1) * vecBytes l.inW l.elem)
        ∧ s.regsBut t (readRegs p ++ [R.TRN_STATUS, R.OBS_STAT 0, R.OBS_STAT 1, R.OBS_STAT 2, R.OBS_STAT 3]))

/-- R192, R238, R381: a planned transfer starts with no block done. Each block lands in the granary where its entry says; one
whose CRC-32C is wrong sets CRC with its address and raises silo doubt, and so does every block left when no data strobe comes.
The last block, or the missing strobe, ends the transfer, which is counted. -/
def Obligations.PlannedTransfersMoveTheirBlocks : Prop :=
  ∀ (s : State) (i : Nat) (e : SchedEntry) (x : SpillEntry), s.field.sched[i]? = some e → s.spillOf e = some x →
    (s.pow.running = true → s.pd 5 = true → e.op = 3 → s.entryLive e = true →
      Completes (.spillStart i) s fun t =>
        t.flag F.SIL_STAT_BUSY = true ∧ t.field.spillRuns = s.field.spillRuns.filter (fun r => r.entry != i) ++ [⟨i, 0⟩]
        ∧ s.regsBut t ([R.SIL_STAT, R.TRN_STATUS] ++ doubtRegs e.tenant))
    ∧ (∀ (run : SpillRun) (bytes : List Byte) (n k : Nat), s.field.spillRuns.find? (fun r => r.entry == i) = some run →
      n = x.blkBytes → k = x.dest + run.done * n →
      Completes (.siloBlockEnd i bytes) s fun t =>
        (∀ j, j < min n bytes.length → memGet t.gran (k + j) = bytes.getD j 0)
        ∧ sameOutside s.gran t.gran k (min n bytes.length)
        ∧ (if bytes.length = n + 4 ∧ leAt bytes n 4 = crc32c (bytes.take n) then
            t.flag F.SIL_STAT_CRC = s.flag F.SIL_STAT_CRC ∧ s.regsBut t [R.SIL_STAT, R.SIL_XFER, R.SAF_CKPT_CNT 4]
          else
            t.flag F.SIL_STAT_CRC = true ∧ t.fld F.SIL_ERR_ADDR_ADDR = (x.silo + run.done * (n + 4)) % 2 ^ 28
            ∧ (e.tenant < 5 → t.bit F.SAF_STAT_DOUBT e.tenant = true ∧ t.bit (F.SAF_DCAUSE_CAUSE e.tenant) 9 = true)
            ∧ s.regsBut t (siloRegs e.tenant))
        ∧ (if x.blocks ≤ run.done + 1 then
            (∀ r ∈ t.field.spillRuns, r.entry ≠ i) ∧ t.fld F.SIL_XFER_COUNT = (s.fld F.SIL_XFER_COUNT + 1) % 2 ^ 32
            ∧ t.fld (F.SAF_CKPT_CNT_CNT 4) = (s.fld (F.SAF_CKPT_CNT_CNT 4) + 1) % 2 ^ 24
          else t.field.spillRuns.find? (fun r => r.entry == i) = some { run with done := run.done + 1 }))
    ∧ (∀ run : SpillRun, s.field.spillRuns.find? (fun r => r.entry == i) = some run → run.done < x.blocks →
      Completes (.dqsTimeout i) s fun t =>
        (∀ r ∈ t.field.spillRuns, r.entry ≠ i) ∧ t.flag F.SIL_STAT_CRC = true
        ∧ t.fld F.SIL_ERR_ADDR_ADDR = (x.silo + (x.blocks - 1) * (x.blkBytes + 4)) % 2 ^ 28
        ∧ t.fld F.SIL_XFER_COUNT = (s.fld F.SIL_XFER_COUNT + 1) % 2 ^ 32
        ∧ (e.tenant < 5 → t.bit (F.SAF_DCAUSE_CAUSE e.tenant) 9 = true) ∧ t.gran = s.gran
        ∧ s.regsBut t (siloRegs e.tenant))

/-- R181: the fallow plot's BIST runs as planned work; at its end the segment under test holds zeros and no other byte of a plot
store has changed, FLD_BIST records it, and a failure is doubt of the estate. R204, R205, R196: a cutting swap request locks the
set for its check, unless the set is locked or pending; the check refuses the swap with SIZE, CRC or, in Exact mode, LATE_TAG,
and releases the lock, or leaves it pending; the copy in use stays. A keyed write of FLD_REPAIR in state WAIT_IMAGE marks its
plot as retired in the fuses, and any other does nothing. -/
def Obligations.FallowBistCuttingSwapsAndRepairs : Prop :=
  (∀ s : State,
    ((s.pow.running && s.pd 3 && s.fallowPlot.isSome) = false → exec .fallowBistStart s = .next s)
    ∧ ((s.pow.running && s.pd 3 && s.fallowPlot.isSome) = true →
      Completes .fallowBistStart s fun t =>
        t.field.planned.any (fun x => x.1 == bistIdx) = true ∧ s.regsBut t (R.TRN_STATUS :: doubtRegs 4))
    ∧ (∀ (fail : Bool) (p seg : Nat), s.fallowPlot = some p → p < 16 → s.field.planned.any (fun x => x.1 == bistIdx) = true →
      seg = s.frameNo / max 1 s.nList % 16 →
      Completes (.fallowBistEnd fail) s fun t =>
        (∀ j, j < 0x4000 → memGet t.plots (plotBase p + 0x4000 * seg + j) = 0) ∧ sameOutside s.plots t.plots (plotBase p + 0x4000 * seg) 0x4000
        ∧ t.flag F.FLD_BIST_DONE = true ∧ t.flag F.FLD_BIST_FAIL = fail ∧ t.fld F.FLD_BIST_SEG = seg
        ∧ t.fld (F.SAF_CKPT_CNT_CNT 4) = (s.fld (F.SAF_CKPT_CNT_CNT 4) + 1) % 2 ^ 24
        ∧ (if fail then
            t.flag F.FLD_STAT_BIST_FAIL = true ∧ t.bit F.SAF_STAT_DOUBT 4 = true ∧ t.bit (F.SAF_DCAUSE_CAUSE 4) 11 = true
            ∧ s.regsBut t ([R.FLD_BIST, R.FLD_STAT, R.SAF_CKPT_CNT 4] ++ doubtRegs 4)
          else s.regsBut t [R.FLD_BIST, R.SAF_CKPT_CNT 4])))
  ∧ (∀ (s : State) (p : Fin 2) (c : Fin 32) (v : Word),
    (s.takes p (R.FLD_CSET_CTRL c) (v ||| 1#32) = true →
      Completes (.cuttingSwapRequest p c v) s fun t =>
        (if s.flag (F.FLD_CSET_CTRL_LOCK c) = false ∧ s.flag (F.FLD_CSET_CTRL_PENDING c) = false then
          t.flag (F.FLD_CSET_CTRL_LOCK c) = true ∧ t.flag (F.FLD_CSET_CTRL_TWIN c) = false ∧ t.field.csetChk = s.field.csetChk ++ [c.val]
         else t.flag (F.FLD_CSET_CTRL_LOCK c) = s.flag (F.FLD_CSET_CTRL_LOCK c) ∧ t.field = s.field)
        ∧ t.flag (F.FLD_CSET_CTRL_ALT c) = s.flag (F.FLD_CSET_CTRL_ALT c) ∧ s.regsBut t [R.FLD_CSET_CTRL c])
    ∧ (s.field.csetChk.contains c.val = false → exec (.cuttingSwapCheckEnd c) s = .next s)
    ∧ (∀ (alt : Bool) (es : List CutEntry), s.field.csetChk.contains c.val = true → alt = !s.flag (F.FLD_CSET_CTRL_ALT c) →
      es = s.csetEntries c →
      Completes (.cuttingSwapCheckEnd c) s fun t =>
        (if es.all (fun e => (s.cutLayer e).any (fun l => cutSizeOk l e (s.cutBytes e alt))) = false then
          t.flag (F.FLD_CSET_CTRL_REJ c) = true ∧ t.fld (F.FLD_CSET_CTRL_WHY c) = 1 ∧ t.flag (F.FLD_CSET_CTRL_LOCK c) = false
            ∧ t.flag (F.FLD_CSET_CTRL_PENDING c) = false
         else if crc32c (es.flatMap (fun e => s.cutBytes e alt)) ≠ s.fld (F.FLD_CSET_CRC_CRC c) then
          t.flag (F.FLD_CSET_CTRL_REJ c) = true ∧ t.fld (F.FLD_CSET_CTRL_WHY c) = 2 ∧ t.flag (F.FLD_CSET_CTRL_LOCK c) = false
            ∧ t.flag (F.FLD_CSET_CTRL_PENDING c) = false
         else if s.exact = true ∧ s.tagLate (s.fld (F.FLD_CSET_CTRL_TENANT c)) (s.cutTag c) = true then
          t.flag (F.FLD_CSET_CTRL_REJ c) = true ∧ t.fld (F.FLD_CSET_CTRL_WHY c) = 3 ∧ t.flag (F.FLD_CSET_CTRL_LOCK c) = false
            ∧ t.flag (F.FLD_CSET_CTRL_PENDING c) = false
         else t.flag (F.FLD_CSET_CTRL_PENDING c) = true ∧ t.flag (F.FLD_CSET_CTRL_LOCK c) = s.flag (F.FLD_CSET_CTRL_LOCK c))
        ∧ t.field.csetChk.contains c.val = false ∧ t.flag (F.FLD_CSET_CTRL_ALT c) = s.flag (F.FLD_CSET_CTRL_ALT c)
        ∧ s.regsBut t [R.FLD_CSET_CTRL c])
    ∧ (s.takes p R.FLD_REPAIR v = true →
      Completes (.fldRepair p v) s fun t =>
        t.fuses = (if fieldGet v 24 8 = 0x5C ∧ s.pwr = 3 then
          { s.fuses with retired := s.fuses.retired ||| BitVec.ofNat 16 (2 ^ fieldGet v F.FLD_REPAIR_PHYS.lo F.FLD_REPAIR_PHYS.width) }
          else s.fuses)
        ∧ s.regsBut t []))

/-- R185, R186, R188, R193, R194, R330: a window write that is served stores its bytes at its target and nothing else, a read
takes the bytes there; one that is not served in time ends with error 2. An unplanned silo burst starts only without a planned
transfer and without another burst. -/
def Obligations.WindowAccessesReachTheirTarget : Prop :=
  ∀ (s : State) (p : Fin 2),
    (∀ (ups : List Upset) (u : State) (k : Nat) (bs : List Byte) (w : WinTarget),
      (Instr.windowAccessServed p true ups).wf = true → u = applyUpsets ups s → (s.ports.get p).wr = some (k, bs) →
      s.winTarget k bs.length = some w → winClear u true bs.length w = true → u.winMayServe p true w = true →
      Completes (.windowAccessServed p true ups) s fun t =>
        (t.ports.get p).wr = none
        ∧ (∀ j, j < bs.length → memGet (winMem t w).1 ((winMem t w).2 + j) = bs.getD j 0)
        ∧ sameOutside (winMem s w).1 (winMem t w).1 (winMem s w).2 bs.length
        ∧ (∀ v, (match w, v with
            | .gran _, .gran _ => False
            | .plot .., .plot .. => False
            | .silo .., .silo .. => False
            | _, _ => True) → (winMem t v).1 = (winMem s v).1)
        ∧ s.regsBut t ([R.FLD_GRN_ECC, R.SIL_STAT] ++ (List.range 16).map (fun l => R.FLD_P_ECC l)))
    ∧ (∀ (ups : List Upset) (u : State) (r : WinRead) (w : WinTarget),
      (Instr.windowAccessServed p false ups).wf = true → u = applyUpsets ups s → s.winPend p = some r →
      s.winTarget r.addr r.len = some w → winClear u false r.len w = true → u.winMayServe p false w = true →
      Completes (.windowAccessServed p false ups) s fun t =>
        (t.ports.get p).rd = some { r with data := some (memRead (winMem s w).1 (winMem s w).2 r.len) }
        ∧ t.gran = s.gran ∧ t.plots = s.plots ∧ t.silo = s.silo
        ∧ s.regsBut t ([R.FLD_GRN_ECC, R.SIL_STAT] ++ (List.range 16).map (fun l => R.FLD_P_ECC l)))
    ∧ (∀ wr : Bool, (if wr then (s.ports.get p).wr.isSome else (s.winPend p).isSome) = true →
      Completes (.windowAccessTimeout p wr) s fun t =>
        t.flag F.FLD_STAT_WIN_TMO = true
        ∧ (if wr then (t.ports.get p).wr = none ∧ t.flag (F.PCR_HP_STAT_WIN_ERR p) = true ∧ t.fld (F.PCR_HP_STAT_WIN_WHY p) = 2
          else (t.ports.get p).rd = (s.ports.get p).rd.map (fun r => { r with bad := true }))
        ∧ s.regsBut t [R.FLD_STAT, R.SIL_STAT, R.PCR_HP_STAT p, R.PCR_HP_IRQ p])
    ∧ (∀ n, n < 8 →
      if (s.siloReady n && s.field.spillRuns.isEmpty && s.field.siloAcc.isNone && s.pd 5) = true then
        Completes (.unplannedSiloAccess n) s fun t =>
          t.field.siloAcc = some n ∧ t.flag F.SIL_STAT_BUSY = true ∧ s.regsBut t [R.SIL_STAT]
      else exec (.unplannedSiloAccess n) s = .next s)

/-- R250, R252, R225: after a network's last test-plot entry of the frame its signature is compared: a mismatch fails its tenant
with doubt by the test plot, a match is the tenant's pass, and a frame in which the signature changed is skipped. When PRG's
result is complete each configured axis shows its verdict record. -/
def Obligations.TestPlotsAndVerdictsAreJudged : Prop :=
  ∀ s : State,
    (∀ n, s.tpJudge n = none → exec (.testPlotCompare n) s = .next s)
    ∧ (∀ n t, s.tpJudge n = some (t, none) →
      Completes (.testPlotCompare n) s fun u =>
        u.fld F.SAF_TP_STAT_SKIP = min 65535 (s.fld F.SAF_TP_STAT_SKIP + 1) ∧ u.saf = s.saf ∧ s.regsBut u [R.SAF_TP_STAT])
    ∧ (∀ n t, s.tpJudge n = some (t, some true) → t < 5 →
      Completes (.testPlotCompare n) s fun u => u.saf.tpPass.getLsbD t = true ∧ s.regsBut u [])
    ∧ (∀ n t, s.tpJudge n = some (t, some false) → t < 5 →
      Completes (.testPlotCompare n) s fun u =>
        u.bit F.SAF_TP_STAT_FAIL t = true ∧ u.bit F.SAF_STAT_DOUBT t = true ∧ u.bit (F.SAF_DCAUSE_CAUSE t) 0 = true
        ∧ s.regsBut u (R.SAF_TP_STAT :: doubtRegs t))
    ∧ (∀ (out : List Int) (solo : Bool), (if s.twin then s.field.prgRes = some (solo, out) else s.prgOutputs = some out ∧ solo = false) →
      Completes .verdictPost s fun u =>
        (∀ (a : Fin 4) (k : Nat), s.confAxes[k]? = some a → ∀ w : Fin 4,
          u.reg (R.OBS_VERD a w) = word (leAt (s.verdict a k solo out) (4 * w) 4))
        ∧ u.field.prgOut = [] ∧ u.field.prgRes = none
        ∧ s.regsBut u ((List.range 4).flatMap (fun a => (List.range 4).map (fun w => R.OBS_VERD a w)) ++ postRegs))
    ∧ ((if s.twin then s.field.prgRes = none else s.prgOutputs = none) → exec .verdictPost s = .next s)

/-- R247, R258, R270: DOUBT_ACK clears the causes of the named tenants in doubt and starts their wait for a clean frame; it ends
no doubt. AXSTOP_ACK ends the axis safety stop of a named axis where no failure is active, and is remembered where one is.
STO_ACK clears STO_DISC_FAULT after both channels have read stop and then run; an earlier one is refused with STO_ACK_REJ. -/
def Obligations.AcknowledgesEndOnlyWhatTheyMay : Prop :=
  ∀ (s : State) (p : Fin 2), s.placed = true →
    (∀ m : BitVec 5, s.takes p R.SAF_ACK (word m.toNat) = true →
      Completes (.doubtAck p m) s fun t =>
        (∀ k : Fin 5, t.bit F.SAF_STAT_DOUBT k = s.bit F.SAF_STAT_DOUBT k
          ∧ if m.getLsbD k = true ∧ s.bit F.SAF_STAT_DOUBT k = true then t.reg (R.SAF_DCAUSE k) = 0 ∧ t.ret k = .waitFrame
            else t.reg (R.SAF_DCAUSE k) = s.reg (R.SAF_DCAUSE k))
        ∧ s.regsBut t (R.SAF_STAT :: (List.range 5).map (fun k => R.SAF_DCAUSE k)))
    ∧ (∀ m : BitVec 4, s.takes p R.SAF_ACK (word (256 * m.toNat)) = true →
      Completes (.axstopAck p m) s fun t =>
        (∀ a : Fin 4, m.getLsbD a = true → s.saf.hstop.getLsbD a = true →
          if s.fld (F.SAF_HCAUSE_CAUSE a) = 0 then
            t.saf.hstop.getLsbD a = false ∧ t.bit F.SAF_STAT_HDOUBT a = false ∧ t.saf.startHl.getLsbD a = true ∧ t.ret a = .waitFrame
          else t.saf.hstop.getLsbD a = true ∧ t.saf.axAck.getLsbD a = true ∧ t.bit F.SAF_STAT_HDOUBT a = s.bit F.SAF_STAT_HDOUBT a)
        ∧ s.regsBut t [R.SAF_STAT])
    ∧ (s.takes p R.SAF_ACK 0x00010000#32 = true →
      Completes (.stoAck p) s fun t =>
        (if s.flag F.SAF_STAT_STO_DISC_FAULT = false then
          t.flag F.SAF_STAT_STO_DISC_FAULT = false ∧ t.flag F.SAF_STAT_STO_ACK_REJ = s.flag F.SAF_STAT_STO_ACK_REJ
         else if s.saf.stoSeq = 2 then t.flag F.SAF_STAT_STO_DISC_FAULT = false ∧ t.saf.stoSeq = 0
         else t.flag F.SAF_STAT_STO_DISC_FAULT = true ∧ t.flag F.SAF_STAT_STO_ACK_REJ = true)
        ∧ t.flag F.SAF_STAT_STO_STOP = s.flag F.SAF_STAT_STO_STOP ∧ s.regsBut t [R.SAF_STAT])

/-- R259, R262, R354, R58, R59: the host's demand, a GDEN mismatch, PAIR_SAFE_I in Twin mode, a supply monitor and a clock fault
of a running PLL each put the Zauri in the safe state with their cause recorded. In Standalone mode PAIR_SAFE_I is ignored; a
lost reference without a PLL in the start sequence or a wake is a CLK reset. -/
def Obligations.SafetyDemandsEnterTheSafeState : Prop :=
  ∀ s : State,
    (∀ p : Fin 2, s.takes p R.SAF_DEMAND 0xD5000001#32 = true →
      Completes (.safDemand p) s fun t => demanded 3 s t ∧ s.regsBut t safeRegs)
    ∧ Completes .gdenReadbackMismatch s (fun t => demanded 6 s t ∧ s.regsBut t safeRegs)
    ∧ (s.twin = true → Completes (.pairSafeI true) s fun t => demanded 4 s t ∧ t.saf.pairI = true ∧ s.regsBut t safeRegs)
    ∧ (s.twin = true → Completes (.pairSafeI false) s fun t => t.saf.pairI = false ∧ t.regs = s.regs)
    ∧ (∀ level, s.twin = false → exec (.pairSafeI level) s = .next s)
    ∧ (∀ rails : BitVec 4, if rails = 0 then exec (.supplyMonitorTrip rails) s = .next s
      else Completes (.supplyMonitorTrip rails) s fun t =>
        demanded 2 s t ∧ t.saf.resetOnly = true ∧ t.fld F.PCR_SUPPLY_LOW = s.fld F.PCR_SUPPLY_LOW ||| rails.toNat
        ∧ (rails.getLsbD 0 = true → t.pow.borReset = true) ∧ s.regsBut t (R.PCR_SUPPLY :: safeRegs))
    ∧ (∀ kind : Fin 3,
      if s.flag F.PCR_CLK_STATUS_PLL_LOCK = true then
        Completes (.clockFault kind) s fun t =>
          demanded 1 s t ∧ t.saf.resetOnly = true ∧ t.pow.clkReset = true ∧ (kind = 0 → t.flag F.PCR_CLK_STATUS_PLL_LOCK = false)
          ∧ s.regsBut t (R.PCR_CLK_STATUS :: safeRegs)
      else if kind = 1 ∧ (s.pwr = 2 ∨ s.pwr = 11) then
        Completes (.clockFault kind) s fun t =>
          t.flag F.PCR_RST_CAUSE_CLK = true ∧ t.pwr = 1 ∧ t.applied = false ∧ ∀ a : Fin 4, t.gates a = 0
      else exec (.clockFault kind) s = .next s)

/-- R264, R265, R259, R58: a release is refused with WHY while a condition for it is not met; otherwise it ends the safe state
and starts the wake with SRC = 4, with DUAL_REL on the second port's write only. The other port's write in time or the timeout
with WHY 5 ends the wait. 50 µs after the demand the domains PD1 to PD5 are off, and after a clock fault a CLK reset follows. -/
def Obligations.TheSafeStateEndsByItsRelease : Prop :=
  ∀ s : State,
    (∀ p : Fin 2, s.takes p R.SAF_REL 0x3C000001#32 = true →
      Completes (.safRel p) s fun t =>
        (if s.flag F.SAF_STAT_SAFE = false then t.regs = s.regs
         else if s.relWhy ≠ 0 then
          t.fld F.SAF_REL_STAT_WHY = s.relWhy ∧ t.flag F.SAF_REL_STAT_HALF = false ∧ t.flag F.SAF_STAT_SAFE = true
            ∧ s.regsBut t [R.SAF_REL_STAT]
         else if s.flag F.SAF_CFG_DUAL_REL = false ∨ ∃ q, s.saf.relPort = some q ∧ q ≠ p then
          t.flag F.SAF_STAT_SAFE = false ∧ t.fld F.SAF_REL_STAT_WHY = 0 ∧ t.fld F.PCR_WAKE_SRC = 4 ∧ t.pwr = 11
            ∧ s.regsBut t [R.SAF_STAT, R.SAF_REL_STAT, R.TRL_STAT, R.PCR_WAKE, R.PCR_PWR_STATE]
         else t.flag F.SAF_STAT_SAFE = true ∧ t.saf.relPort = some p ∧ s.regsBut t [R.SAF_REL_STAT]))
    ∧ (if s.saf.relPort.isSome = true then
        Completes .secondPortTimeout s fun t =>
          t.fld F.SAF_REL_STAT_WHY = 5 ∧ t.flag F.SAF_REL_STAT_HALF = false ∧ t.saf.relPort = none ∧ s.regsBut t [R.SAF_REL_STAT]
      else exec .secondPortTimeout s = .next s)
    ∧ (if s.flag F.SAF_STAT_SAFE = false ∨ s.pwr = 12 then exec .safeStatePowerOff s = .next s
      else if s.pow.clkReset = false then
        Completes .safeStatePowerOff s fun t =>
          t.pwr = 12 ∧ (∀ n, 1 ≤ n → n ≤ 5 → t.pd n = false) ∧ t.pow.running = false ∧ t.flag F.PCR_PWR_STATE_READY = false
          ∧ t.flag F.PCR_CLK_STATUS_PLL_LOCK = false ∧ t.plots = [] ∧ sameOutside s.gran t.gran 0x200000 0x600000 ∧ t.silo = s.silo
          ∧ s.regsBut t (offRegs s)
      else
        Completes .safeStatePowerOff s fun t =>
          t.flag F.PCR_RST_CAUSE_CLK = true ∧ t.pwr = 1 ∧ t.applied = false ∧ t.silo = s.silo ∧ ∀ a : Fin 4, t.gates a = 0)

/-- R266, R268, R269, R270: a stop demand stops every configured axis, its outputs low outside a debug halt. At each tick COUNT
follows the disagreement and latches STO_DISC_FAULT at D; the stop ends when both channels read run without the fault. -/
def Obligations.StoStopsEveryConfiguredAxis : Prop :=
  ∀ s : State,
    exec (.stoStopDemand false false) s = .next s
    ∧ (∀ aLow bLow : Bool, (aLow || bLow) = true →
      Completes (.stoStopDemand aLow bLow) s fun t =>
        t.flag F.SAF_STAT_STO_STOP = true
        ∧ (∀ a : Fin 4, s.axisConf a = true → t.bit F.SAF_STAT_AXSTOP a = true ∧ t.fld (F.LPE_DRV_STAT_STATE a) = 0)
        ∧ (∀ a : Fin 4, s.halted a = false → t.gates a = 0)
        ∧ s.regsBut t [R.SAF_STAT, R.AUX_REQ, R.AUX_STAT, R.AUX_FLAG, R.LPE_DRV_STAT 0, R.LPE_DRV_STAT 1, R.LPE_DRV_STAT 2, R.LPE_DRV_STAT 3])
    ∧ (∀ (a b : Bool) (d n : Nat), d = s.fld F.SAF_CFG_STO_D →
      n = (if a = b then 0 else if s.saf.stoCount = true then min 255 (s.fld F.SAF_STO_COUNT + 1) else 0) →
      Completes (.stoTick a b) s fun t =>
        t.flag F.SAF_STO_A = a ∧ t.flag F.SAF_STO_B = b ∧ t.fld F.SAF_STO_COUNT = n
        ∧ t.flag F.SAF_STAT_STO_DISC_FAULT = (s.flag F.SAF_STAT_STO_DISC_FAULT || (a != b && decide (0 < d) && decide (d ≤ n)))
        ∧ t.flag F.SAF_STAT_STO_STOP = (if a && b then s.flag F.SAF_STAT_STO_STOP && s.flag F.SAF_STAT_STO_DISC_FAULT else true)
        ∧ (s.flag F.SAF_STAT_STO_DISC_FAULT = true → t.saf.stoSeq =
            if !a && !b && s.saf.stoSeq == 0 then 1 else if a && b && s.saf.stoSeq == 1 then 2 else s.saf.stoSeq)
        ∧ (s.flag F.SAF_STAT_STO_STOP = true → t.flag F.SAF_STAT_STO_STOP = false → ∀ x : Fin 4, (t.loop.get x).needAbsent = true)
        ∧ s.regsBut t [R.SAF_STAT, R.SAF_STO, R.AUX_REQ, R.AUX_STAT, R.AUX_FLAG, R.LPE_DRV_STAT 0, R.LPE_DRV_STAT 1, R.LPE_DRV_STAT 2,
            R.LPE_DRV_STAT 3])

/-- R89, R271, R272, R255: a SAFE_N pin off its level is doubt of the estate. A window starts the slice of the frame's checker
only while it is quiescent with LEN + 32 cycles of gap; a checker that flags the injected fault passes with its skip run at 0;
one that does not sets its FAIL bit with the consequence of its class, axes held in reset left out. -/
def Obligations.CheckersThatFailHaveTheirConsequence : Prop :=
  ∀ s : State,
    (∀ pin : Bool,
      Completes (.safeNMismatch pin) s fun t =>
        if pin = s.enables.getLsbD 6 then s.regsBut t []
        else t.flag F.SCW_SAFE_N_MISMATCH = true ∧ t.bit F.SAF_STAT_DOUBT 4 = true ∧ t.bit (F.SAF_DCAUSE_CAUSE 4) 13 = true
          ∧ s.regsBut t (R.SCW_SAFE_N :: doubtRegs 4))
    ∧ (∀ (w : Fin 4) (quiet : Bool) (gap : Nat) (x : Slice), s.sliceOf s.rotChk = some x →
      if s.flag F.ROT_CTRL_EN = true ∧ s.rot.done = false ∧ s.rot.active = none ∧ s.pow.running = true ∧ quiet = true
          ∧ s.rotUnitFree = true ∧ x.len + 32 ≤ gap ∧ x.wins.getD w 0xFFFFFFFF ≠ 0xFFFFFFFF then
        Completes (.rotationSliceStart w quiet gap) s fun t => t.rot.active = some s.rotChk ∧ t.regs = s.regs
      else exec (.rotationSliceStart w quiet gap) s = .next s)
    ∧ (∀ flagged, s.rot.active = none → exec (.rotationSliceEnd flagged) s = .next s)
    ∧ (∀ c, s.rot.active = some c → c < 24 →
      Completes (.rotationSliceEnd true) s (fun t =>
        t.fld F.ROT_CUR_RESULT = 1 ∧ t.fld (F.ROT_SKIP_CONSEC c) = 0 ∧ t.fld (F.ROT_LAST_STEP c) = s.stepN % 2 ^ 32
        ∧ t.rot.active = none ∧ t.rot.done = true ∧ s.regsBut t [R.ROT_CUR, R.ROT_SKIP c, R.ROT_LAST c])
      ∧ Completes (.rotationSliceEnd false) s (fun t =>
        t.bit F.ROT_FAIL_FAIL c = true ∧ t.fld F.ROT_CUR_RESULT = 2 ∧ t.fld (F.ROT_SKIP_CONSEC c) = 0
        ∧ (if chkClass c = 2 then demanded 7 s t
          else if chkClass c = 1 then t.bit F.SAF_STAT_DOUBT 4 = true ∧ t.bit (F.SAF_DCAUSE_CAUSE 4) 15 = true
          else ∀ a : Fin 4, s.axisRuns a = true → t.bit F.SAF_STAT_DOUBT a = true ∧ t.bit (F.SAF_DCAUSE_CAUSE a) 15 = true)
        ∧ t.rot.active = none ∧ t.rot.done = true
        ∧ s.regsBut t ([R.ROT_CUR, R.ROT_SKIP c, R.ROT_FAIL] ++ safeRegs ++ doubtAll)))

/-- R51, Table PWR-3: what each reset keeps. A power-on reset keeps no register; a PIN, HOST and BOR reset record their cause
beside the earlier ones, and all but PIN go on from the fuse-read step. A BOR reset comes only after a brown-out. -/
def Obligations.ResetsKeepTheirCauses : Prop :=
  ∀ s : State,
    Completes .powerOnReset s (fun t =>
      (∀ k, k ≠ R.SAF_STAT → t.reg k = State.reset.reg k) ∧ t.gran = [] ∧ t.plots = [] ∧ t.silo = s.silo ∧ t.fuses = s.fuses
      ∧ t.pending = s.pending ∧ t.applied = false ∧ ∀ a : Fin 4, t.gates a = 0)
    ∧ Completes .pinReset s (resetTo F.PCR_RST_CAUSE_PIN 0 s)
    ∧ (∀ p : Fin 2, s.takes p R.PCR_RST_CTRL 0xA5000001#32 = true → Completes (.hostReset p) s (resetTo F.PCR_RST_CAUSE_HOST 1 s))
    ∧ (if s.pow.borReset = true then Completes .borReset s (resetTo F.PCR_RST_CAUSE_BOR 1 s) else exec .borReset s = .next s)

/-- Table PWR-4, R57, R60, R61, R13: the steps of the start sequence happen in their order only: BOOTSEL is sampled and the fuse
maps are read once; reference detection selects CLKIN or the crystal or ends in a CLK reset; the PLL locks; with the dividers
aligned the chip waits for an image or boots from the silo, or a wake goes on; READY needs every step that the image requires.
R63, R64: power-good brings PD3 up; without it by PGOOD_TMO, or when it is lost, LOST is set and PD3 stays off until ACK. A loss
while the schedule runs takes the plot stores and granary banks 4 to 15 with it and is doubt of every configured axis. ACK asks
the Turnstile for the wake charge again where the image names plots. -/
def Obligations.TheStartSequenceRunsInOrder : Prop :=
  (∀ s : State,
    (∀ boot : Fin 4, if s.pow.nreset = true then exec (.nresetRelease boot) s = .next s
      else Completes (.nresetRelease boot) s fun t =>
        t.fld F.PCR_BOOT_BOOTSEL = boot ∧ t.pwr = 1 ∧ t.pow.nreset = true ∧ t.pow.mapRead = s.fuses.fused ∧ t.pow.retRead = s.fuses.retired
        ∧ t.ldr.bootPort = (if boot = 1 then some 0 else if boot = 2 then some 1 else none) ∧ s.regsBut t [R.PCR_BOOT, R.PCR_PWR_STATE])
    ∧ (∀ r : Option Bool, if s.pwr ≠ 1 ∨ s.pow.nreset = false then exec (.referenceDetection r) s = .next s
      else match r with
        | none => Completes (.referenceDetection none) s (resetTo F.PCR_RST_CAUSE_CLK 1 s)
        | some clkin => Completes (.referenceDetection (some clkin)) s fun t =>
            t.flag F.PCR_CLK_STATUS_REF_SRC = clkin ∧ t.pwr = 2 ∧ t.pd 2 = true ∧ t.pd 5 = true ∧ s.regsBut t [R.PCR_CLK_STATUS, R.PCR_PWR_STATE])
    ∧ (if (s.pwr = 2 ∧ s.pow.refDone = true) ∨ (s.pwr = 11 ∧ s.pow.waking = true) then
        Completes .pllLock s fun t => t.flag F.PCR_CLK_STATUS_PLL_LOCK = true ∧ s.regsBut t [R.PCR_CLK_STATUS]
      else exec .pllLock s = .next s)
    ∧ (if s.flag F.PCR_CLK_STATUS_PLL_LOCK = false ∨ s.flag F.PCR_CLK_STATUS_ALIGNED = true then exec .dividerAlignment s = .next s
      else Completes .dividerAlignment s fun t =>
        t.flag F.PCR_CLK_STATUS_ALIGNED = true
        ∧ if s.pow.waking = true ∧ s.applied = true then
            t.pd 1 = true ∧ t.pwr = s.pwr ∧ (∀ a : Fin 4, s.axisConf a = true → t.flag (F.SNS_CAL_BUSY a) = true)
            ∧ (s.fld F.PCR_RESTORE_BYTES_BYTES = 0 → t.pow.restDone = true)
            ∧ (s.fld F.PCR_RESTORE_BYTES_BYTES ≠ 0 → s.pow.fromSilo = false → t.flag F.PCR_WAKE_NEED_IMAGE = true
              ∧ ∀ a : Fin 4, s.axisConf a = true → t.inReset a = true)
            ∧ s.regsBut t ([R.PCR_CLK_STATUS, R.PCR_PWR_STATE, R.PCR_WAKE, R.TRL_STAT, R.TRL_ERR]
              ++ (List.range 4).flatMap (fun a => [R.SNS_CAL a, R.QUE_TEN_CTRL a]))
          else
            t.pwr = (if s.fld F.PCR_BOOT_BOOTSEL = 0 then 4 else 3) ∧ (s.fld F.PCR_BOOT_BOOTSEL = 0 → t.ldr.siloBoot = true)
            ∧ s.regsBut t [R.PCR_CLK_STATUS, R.PCR_PWR_STATE, R.PCR_IMG_STATUS])
    ∧ (if s.startDone = true then
        Completes .ready s fun t =>
          t.flag F.PCR_PWR_STATE_READY = true ∧ t.pwr = 7 ∧ t.pow.zeroPend = true ∧ s.regsBut t [R.PCR_PWR_STATE]
      else exec .ready s = .next s))
  ∧ (∀ s : State,
    (if s.pow.pd3Wait = true then
        Completes .pd3PowerGood s (fun t => t.pd 3 = true ∧ t.pow.pd3Wait = false ∧ t.pow.pd3Done = true ∧ s.regsBut t stepRegs)
        ∧ Completes .pgoodTimeout s (fun t =>
          t.flag F.PCR_FLD_CTRL_LOST = true ∧ t.pd 3 = s.pd 3 ∧ t.pow.pd3Wait = false ∧ t.pow.needAck = true
          ∧ s.regsBut t (R.PCR_FLD_CTRL :: stepRegs))
        ∧ exec .pd3PowerGoodLost s = exec .pgoodTimeout s
      else exec .pd3PowerGood s = .next s ∧ exec .pgoodTimeout s = .next s)
    ∧ (s.pow.pd3Wait = false → s.pd 3 = false → exec .pd3PowerGoodLost s = .next s)
    ∧ (s.pow.pd3Wait = false → s.pd 3 = true →
      Completes .pd3PowerGoodLost s fun t =>
        t.pd 3 = false ∧ t.flag F.PCR_FLD_CTRL_LOST = true ∧ t.pow.needAck = true ∧ t.plots = [] ∧ sameOutside s.gran t.gran 0x200000 0x600000
        ∧ (s.pow.running = true → ∀ a : Fin 4, s.axisConf a = true → t.bit F.SAF_STAT_DOUBT a = true ∧ t.bit (F.SAF_DCAUSE_CAUSE a) 4 = true)
        ∧ s.regsBut t ([R.PCR_FLD_CTRL, R.PCR_DET_STAT] ++ stepRegs ++ offRegs s ++ doubtAll))
    ∧ (∀ (p : Fin 2) (v : Word), s.takes p R.PCR_FLD_CTRL (v ||| 0x40000000#32) = true →
      Completes (.pd3Ack p v) s fun t =>
        t.pow.needAck = false
        ∧ (s.pow.needAck = true → s.applied = true → s.pd 2 = true → s.namesPlots = true → s.pd 3 = false → s.trnHas .pd3 = false →
          t.trn.queue = s.trn.queue ++ [⟨.pd3, 4, s.fld F.TRN_COST_PD3_WAKE, 0⟩])
        ∧ (s.pow.needAck = false → t.trn = s.trn)
        ∧ s.regsBut t [R.PCR_FLD_CTRL]))

/-- R66, R67: a sleep request is refused with its reason unless the image is applied, every configured axis is stopped with its
outputs low, and no grant is held. The frame boundary of an accepted one switches PD1 to PD5 off and enters watch or deep sleep
by MODE; with RET the retention region, granary banks 0 to 3, keeps its bytes, without it the granary does not. R68, R69, R70:
the WAKE pin and the host wake the chip from either sleep; a restore with a wrong section CRC needs an image, and every
configured axis is held in tenant reset; with calibration and restore ended the zero step is due. -/
def Obligations.SleepAndWake : Prop :=
  (∀ s : State,
    (∀ (p : Fin 2) (v : Word), s.takes p R.PCR_SLEEP (v ||| 1#32) = true →
      Completes (.sleepRequest p v) s fun t =>
        if s.pwr = 8 then t.pow = s.pow ∧ s.regsBut t [R.PCR_SLEEP]
        else if s.sleepWhy = 0 then t.fld F.PCR_SLEEP_REJ = 0 ∧ t.pwr = 8 ∧ t.pow.sleepReq = true ∧ s.regsBut t [R.PCR_SLEEP, R.PCR_PWR_STATE]
        else t.fld F.PCR_SLEEP_REJ = s.sleepWhy ∧ t.pow = s.pow ∧ s.regsBut t [R.PCR_SLEEP])
    ∧ (if s.pwr ≠ 8 ∨ s.pow.sleepReq = false then exec .sleepEntry s = .next s
      else Completes .sleepEntry s fun t =>
        t.pwr = (if s.flag F.PCR_SLEEP_MODE = true then 10 else 9) ∧ (∀ n, 1 ≤ n → n ≤ 5 → t.pd n = false)
        ∧ t.pow.running = false ∧ t.pow.sleepReq = false ∧ t.flag F.PCR_PWR_STATE_READY = false ∧ t.plots = []
        ∧ (if s.flag F.PCR_SLEEP_RET = true then sameOutside s.gran t.gran 0x200000 0x600000 else t.gran = [])
        ∧ s.regsBut t (offRegs s ++ [R.PCR_FLD_CTRL, R.TRL_ERR] ++ (List.range 5).map (fun k => R.TRN_DYN k)
          ++ s.trn.queue.map (fun r => R.TRN_DYN r.tenant))))
  ∧ (∀ s : State,
    Completes .wake s (woken 2 s)
    ∧ (∀ p : Fin 2, s.takes p R.PCR_WAKE_HOST 1#32 = true → Completes (.wakeHost p) s (woken 3 s))
    ∧ (∀ good : Bool,
      if s.pwr = 11 ∧ s.pow.waking = true ∧ s.pow.restDone = false ∧ s.pow.fromSilo = true ∧ s.flag F.PCR_CLK_STATUS_ALIGNED = true
          ∧ s.flag F.PCR_WAKE_NEED_IMAGE = false then
        Completes (.restoreEnd good) s fun t =>
          if good then t.pow.restDone = true ∧ t.regs = s.regs ∧ t.gran = (restoreGran (parseImg s.ldr.image) s).gran
          else t.flag F.PCR_WAKE_NEED_IMAGE = true ∧ t.gran = s.gran
            ∧ (∀ a : Fin 4, s.axisConf a = true → t.inReset a = true ∧ t.flag (F.QUE_TEN_CTRL_RST a) = true)
            ∧ s.regsBut t (R.PCR_WAKE :: (List.range 4).map (fun a => R.QUE_TEN_CTRL a))
      else exec (.restoreEnd good) s = .next s)
    ∧ (if s.pwr = 11 ∧ s.pow.waking = true ∧ s.flag F.PCR_CLK_STATUS_ALIGNED = true ∧ s.pow.restDone = true ∧ s.calRuns = false
          ∧ s.flag F.PCR_WAKE_NEED_IMAGE = false then
        Completes .wakeComplete s fun t =>
          t.flag F.PCR_PWR_STATE_READY = true ∧ t.pwr = 7 ∧ t.pow.zeroPend = true ∧ s.regsBut t [R.PCR_PWR_STATE]
      else exec .wakeComplete s = .next s))

/-- R71, R75: where the tokens add up to POOL before an SCLK edge they do after it, whatever is granted, refused or ended in it,
and AUDIT_ERR stays as it is. -/
def Obligations.TurnstileEdgesConserveTheTokens : Prop :=
  ∀ s t : State, tokens s = s.fld F.TRN_POOL_POOL → exec .turnstileEdge s = .next t →
    tokens t = t.fld F.TRN_POOL_POOL ∧ t.fld F.TRN_POOL_POOL = s.fld F.TRN_POOL_POOL
    ∧ t.flag F.TRN_STATUS_AUDIT_ERR = s.flag F.TRN_STATUS_AUDIT_ERR

/-- R71, R73, R74, R75: a unit that waits for tokens joins the queue once. An edge with nothing waiting moves RETURNING to FREE
and the ended work's tokens to RETURNING; where the books do not add up to POOL it latches AUDIT_ERR, bars the books and raises
doubt of the estate. A request that has waited too long is refused and counted for its tenant. -/
def Obligations.TurnstileBooksEveryRequest : Prop :=
  ∀ s : State,
    (∀ w : TrnWho, w.wf = true →
      match s.trnNeeds w with
      | none => exec (.turnstileRequest w) s = .next s
      | some (k, cost) =>
        if (s.trnHas w || s.inReset k) = true then exec (.turnstileRequest w) s = .next s
        else Completes (.turnstileRequest w) s fun t =>
          t.trn.queue = s.trn.queue ++ [⟨w, k, cost, 0⟩] ∧ t.trn.grants = s.trn.grants
          ∧ (k < 5 → t.flag (F.TRN_DYN_WAITING k) = true) ∧ s.regsBut t ((List.range 5).map (fun k => R.TRN_DYN k)))
    ∧ (s.trn.queue = [] →
      Completes .turnstileEdge s fun t =>
        t.fld F.SCW_TICK_TICK = (s.fld F.SCW_TICK_TICK + 1) % 2 ^ 32
        ∧ t.fld F.TRN_AUDIT_FREE = (s.fld F.TRN_AUDIT_FREE + s.fld F.TRN_AUDIT_RETURNING) % 512
        ∧ t.fld F.TRN_AUDIT_RETURNING = s.trn.ended % 512
        ∧ (if t.fld F.TRN_AUDIT_FREE + s.trnGranted + t.fld F.TRN_AUDIT_RETURNING = s.fld F.TRN_POOL_POOL then
            t.trn.barred = s.trn.barred ∧ s.regsBut t ([R.SCW_TICK, R.TRN_AUDIT] ++ (List.range 5).map (fun k => R.TRN_DYN k))
          else t.flag F.TRN_STATUS_AUDIT_ERR = true ∧ t.trn.barred = true ∧ t.bit F.SAF_STAT_DOUBT 4 = true
            ∧ t.bit (F.SAF_DCAUSE_CAUSE 4) 12 = true
            ∧ s.regsBut t ([R.SCW_TICK, R.TRN_AUDIT, R.TRN_STATUS] ++ (List.range 8).map (fun k => R.TRN_DYN k) ++ doubtRegs 4 ++ offRegs s)))
    ∧ (∀ w : TrnWho, w.wf = true →
      match s.trn.queue.find? (fun r => r.who = w) with
      | none => exec (.turnstileTimeout w) s = .next s
      | some r => Completes (.turnstileTimeout w) s fun t =>
          (r.tenant < 8 → t.fld (F.TRN_DYN_TIMEOUTS r.tenant) = min 255 (s.fld (F.TRN_DYN_TIMEOUTS r.tenant) + 1))
          ∧ (∀ q ∈ t.trn.queue, q.who = w → q.waited = 0)
          ∧ s.regsBut t (offRegs s ++ [R.PCR_FLD_CTRL, R.TRL_ERR, R.TRN_DYN r.tenant] ++ (List.range 5).map (fun k => R.TRN_DYN k)))

/-- R48, R47, R49, R42, R33: the port that writes START owns the loader until the load ends; the other port's writes do nothing
then. ABORT and a stall end a load in FAILED with their codes. SEAL seals the applied image, or is held during a load. -/
def Obligations.LoadsBelongToTheirOwner : Prop :=
  ∀ s : State,
    (∀ (p : Fin 2) (v : Word) (n : Nat), s.takes p R.PCR_IMG_CTRL (v ||| 1#32) = true → v.getLsbD 1 = false → v.getLsbD 2 = false →
      n = fieldGet v 4 3 →
      Completes (.start p v) s fun t =>
        if s.mayStart p n = true then
          t.ldr.loading = true ∧ t.ldr.bytes = [] ∧ t.ldr.fromSilo = v.getLsbD 8 ∧ t.fld F.PCR_IMG_STATUS_STATE = 1
          ∧ t.fld F.PCR_IMG_STATUS_OWNER = p.val ∧ t.fld F.PCR_IMG_STATUS_TARGET = n ∧ t.fld F.PCR_IMG_STATUS_ERR = 0 ∧ s.regsBut t loadRegs
        else t.ldr = s.ldr ∧ t.reg R.PCR_IMG_STATUS = s.reg R.PCR_IMG_STATUS ∧ s.regsBut t [R.PCR_IMG_CTRL])
    ∧ (∀ (p : Fin 2) (v : Word), s.takes p R.PCR_IMG_CTRL (v &&& 0xFFFFFFFE#32 ||| 2#32) = true →
      (s.ldr.loading = true → s.ldr.siloBoot = false → s.fld F.PCR_IMG_STATUS_OWNER = p.val →
        Completes (.abort p v) s (failedWith 0x50))
      ∧ (s.ldr.loading = true → (s.ldr.siloBoot = true ∨ s.fld F.PCR_IMG_STATUS_OWNER ≠ p.val) →
        Completes (.abort p v) s fun t => t.regs = s.regs ∧ t.ldr = s.ldr))
    ∧ (∀ (p : Fin 2) (v : Word), s.takes p R.PCR_IMG_CTRL (v &&& 0xFFFFFFFC#32 ||| 4#32) = true →
      Completes (.seal p v) s fun t =>
        (if s.ldr.loading = true then
          t.ldr.sealHeld = (s.ldr.sealHeld || (!s.ldr.siloBoot && s.fld F.PCR_IMG_STATUS_OWNER == p.val))
            ∧ t.reg R.PCR_IMG_STATUS = s.reg R.PCR_IMG_STATUS
         else t.ldr = s.ldr ∧ t.flag F.PCR_IMG_STATUS_SEALED = (s.flag F.PCR_IMG_STATUS_SEALED || s.applied))
        ∧ s.regsBut t [R.PCR_IMG_CTRL, R.PCR_IMG_STATUS])
    ∧ (if (s.ldr.loading && !s.ldr.fromSilo && !s.ldr.ready && !s.ldr.bytes.isEmpty) = true then Completes .stall s (failedWith 0x51)
      else exec .stall s = .next s)

/-- R48, R33, R35, R36: a word at the FIFO is the loader's only from the owner of a host load; the whole image is judged once its
IMG_SIZE bytes are in, its header as soon as its 256 bytes are: the load becomes ready, or it fails with the first failing
condition's code, section and offset. A silo load is judged alike, on what the devices hold. -/
def Obligations.LoadsAreJudgedWhenTheirBytesAreIn : Prop :=
  ∀ (s : State) (pass : State → Prop) (fails : Finding → State → Prop),
    (∀ t, pass t ↔ t.fld F.PCR_IMG_STATUS_STATE = 2 ∧ t.ldr.ready = true) →
    (∀ f t, fails f t ↔ failedWith f.code t ∧ ∀ sect off, f.item = some (sect, off) →
      t.flag F.PCR_IMG_STATUS_ERR_HDR = sect.isNone ∧ t.fld F.PCR_IMG_STATUS_ERR_SECT = sect.getD 0 % 256 ∧ t.reg R.PCR_IMG_ERRLOC = word off) →
    (∀ (p : Fin 2) (v : Word) (bs : List Byte) (u : State), s.takes p R.PCR_IMG_FIFO v = true → bs = s.ldr.bytes ++ leBytes 4 v.toNat →
      u = s.modLdr (fun l => { l with bytes := bs }) →
      ((s.ldr.loading && !s.ldr.fromSilo && !s.ldr.ready && s.fld F.PCR_IMG_STATUS_OWNER == p.val) = false →
        Completes (.imgFifoWord p v) s fun t => t.ldr = s.ldr ∧ t.regs = s.regs)
      ∧ ((s.ldr.loading && !s.ldr.fromSilo && !s.ldr.ready && s.fld F.PCR_IMG_STATUS_OWNER == p.val) = true →
        (bs.length < 256 ∨ 256 < bs.length ∧ bs.length ≠ imgSize bs → Completes (.imgFifoWord p v) s fun t => t.ldr = u.ldr ∧ t.regs = s.regs)
        ∧ (∀ f, bs.length = 256 → firstFinding (stage1 s.fuses.partno none bs) = some f → Completes (.imgFifoWord p v) s (fails f))
        ∧ (∀ f, 256 < bs.length → bs.length = imgSize bs → u.judge (s.fld F.PCR_IMG_STATUS_TARGET) bs = .fail f →
          Completes (.imgFifoWord p v) s (fails f))
        ∧ (∀ sg, 256 < bs.length → bs.length = imgSize bs → u.judge (s.fld F.PCR_IMG_STATUS_TARGET) bs = .pass sg →
          Completes (.imgFifoWord p v) s fun t => pass t ∧ t.ldr.signed = sg ∧ s.regsBut t [R.PCR_IMG_STATUS])))
    ∧ ((s.ldr.loading && s.ldr.fromSilo && !s.ldr.ready) = false → ∀ bytes, exec (.siloLoadEnd bytes) s = .next s)
    ∧ ((s.ldr.loading && s.ldr.fromSilo && !s.ldr.ready) = true →
      ∀ (bytes hd bs : List Byte) (src room : Nat) (silo : SMap Byte) (u : State), src = s.loadSrc → room = 0x10000000 - src →
      silo = memWrite s.silo src (bytes.take room) → hd = memRead silo src (min 256 room) ++ List.replicate (256 - room) 0 →
      bs = memRead silo src (imgSize hd) → u = ({ s with silo := silo }).modLdr (fun l => { l with bytes := bs }) →
      (∀ f, firstFinding (stage1 s.fuses.partno (some room) hd) = some f →
        Completes (.siloLoadEnd bytes) s fun t => fails f t ∧ t.silo = silo)
      ∧ (firstFinding (stage1 s.fuses.partno (some room) hd) = none → 256 < imgSize hd →
        (∀ f, u.judge (s.fld F.PCR_IMG_STATUS_TARGET) bs = .fail f → Completes (.siloLoadEnd bytes) s fun t => fails f t ∧ t.silo = silo)
        ∧ (∀ sg, u.judge (s.fld F.PCR_IMG_STATUS_TARGET) bs = .pass sg →
          Completes (.siloLoadEnd bytes) s fun t => pass t ∧ t.ldr.signed = sg ∧ t.silo = silo ∧ s.regsBut t [R.PCR_IMG_STATUS])))

/-- R34, R46, R47, R61, R51: only an image whose stages have passed is applied. A full one stops the schedule, leaves every
output low and the chip not ready; a tenant's ends its mark in TEN_NOIMG and leaves the schedule running. The plot stores count
as filled once their fill has ended. -/
def Obligations.OnlyPassedImagesAreApplied : Prop :=
  ∀ s : State,
    (s.ldr.ready = false → exec .imageApply s = .next s)
    ∧ (s.ldr.ready = true → 4 ≤ s.fld F.PCR_IMG_STATUS_TARGET →
      Completes .imageApply s fun t =>
        t.applied = true ∧ t.fld F.PCR_IMG_STATUS_STATE = 3 ∧ t.fld F.PCR_IMG_STATUS_TEN_NOIMG = 0 ∧ t.ldr.loading = false ∧ t.ldr.ready = false
        ∧ t.pow.running = false ∧ t.flag F.PCR_PWR_STATE_READY = false ∧ t.flag F.PCR_WAKE_NEED_IMAGE = false
        ∧ (∀ a : Fin 4, t.halted a = false → t.gates a = 0))
    ∧ (∀ a : Fin 4, s.ldr.ready = true → s.fld F.PCR_IMG_STATUS_TARGET = a.val →
      Completes .imageApply s fun t =>
        t.bit F.PCR_IMG_STATUS_TEN_NOIMG a = false ∧ t.fld F.PCR_IMG_STATUS_STATE = 3 ∧ t.ldr.loading = false ∧ t.ldr.ready = false
        ∧ t.pow = s.pow ∧ t.step = s.step)
    ∧ (if (s.applied && s.pd 3 && !s.pow.fillDone && (s.pwr == 5 || s.pwr == 11)) = true then
        Completes .plotStoreFillEnd s fun t => t.pow.fillDone = true ∧ s.regsBut t stepRegs
      else exec .plotStoreFillEnd s = .next s)

/-- R43, R44: a write to a field that one LIVE record declares is accepted if its value lies in the range and meets the field's
own rules: at once for a rule's THRESH, else pending for the next boundary, in Exact mode for the boundary that its tag names.
Otherwise the field is unchanged, LIVE_REJ is set and PCR_LIVE_REJ counts. Either way the access has no error response of its
own. -/
def Obligations.LiveWritesWaitForTheirBoundary : Prop :=
  ∀ (s u : State) (p : Fin 2) (k : Nat) (v : Word) (d : LiveDecl), (Instr.liveWrite p k v).wf = true →
    s.reaches p k = true → s.mayWrite p k v = true → s.ldr.live.filter (fun d => homeKey d.addr == homeKey k) = [d] →
    regEffect p (homeKey k) v s = (0, u) → u.ldr = s.ldr →
    Completes (.liveWrite p k v) s fun t =>
      t.answered p 0
      ∧ if u.liveTakes d v = false ∨ (¬(R.SCW_RULE_B 0 ≤ d.addr ∧ d.addr ≤ R.SCW_RULE_B 31) ∧ s.exact = true
            ∧ (u.tagLate d.tenant (u.liveTag p) = true ∨ 16 ≤ (s.ldr.pend.filter (fun x => x.port == p)).length)) then
          t.flag F.PCR_IMG_STATUS_LIVE_REJ = true ∧ t.fld F.PCR_LIVE_REJ_COUNT = min (2 ^ 32 - 1) (u.fld F.PCR_LIVE_REJ_COUNT + 1)
          ∧ t.ldr.pend = s.ldr.pend ∧ u.regsBut t [R.PCR_IMG_STATUS, R.PCR_LIVE_REJ]
        else if R.SCW_RULE_B 0 ≤ d.addr ∧ d.addr ≤ R.SCW_RULE_B 31 then
          t.reg (homeKey d.addr) = (u.reg (homeKey d.addr) &&& ~~~(word d.mask)) ||| (v &&& word d.mask)
          ∧ t.ldr.pend = s.ldr.pend ∧ u.regsBut t (homeKey d.addr :: postRegs)
        else t.regs = u.regs ∧ t.ldr.pend = s.ldr.pend ++ [⟨d.addr, d.mask, v &&& word d.mask, if s.exact then some (u.liveTag p) else none, p⟩]

/-- R76, R77, R78, R91: Scarecrow rests without an image and in deep sleep. Elsewhere a slot's end moves the scan on, and a
channel that no earlier slot names takes its conversion, 0 on an axis that the part lacks; then the filters that it feeds take
theirs in order, the chained ones from the unit before. R79, R80, R81, R78: a LEVEL rule with a new value beyond its threshold
counts it and fires where the count reaches PERSIST, taken as at least 1; any other value clears the count. An ABSENT rule counts
the values without a crossing likewise, and a crossing restarts its count and rearms it. A rule that has fired, is off, is not
armed in the present state or has no new value does not fire. -/
def Obligations.SlotsFilterAndRulesFire : Prop :=
  (∀ (s : State) (code : BitVec 10) (c : Nat), c = s.fld (F.SCW_SLOT_CHAN s.scw.slot) →
    if s.applied = true ∧ s.pwr ≠ 10 then
      Completes (.slotEnd code) s fun t =>
        t.scw.slot = (if s.nSlot ≤ s.scw.slot + 1 then 0 else s.scw.slot + 1)
        ∧ (∀ k < 24, t.fld (F.SCW_VAL_VALUE k) =
            if slotConverts s = true ∧ k = c then (if s.axisPresent (chanAxis c) then code.toNat * 64 else 0) else s.fld (F.SCW_VAL_VALUE k))
        ∧ (∀ i < 4, ∀ taps, taps = (s.scw.filt.getD i {}).taps →
          if (slotConverts s && filtDue s c i) = false then t.fld (F.SCW_FVAL_VALUE i) = s.fld (F.SCW_FVAL_VALUE i)
          else ∀ x : Nat, x = t.fld (if 0 < i ∧ s.flag (F.SCW_FILT_CHAIN i) = true then F.SCW_FVAL_VALUE (i - 1) else F.SCW_VAL_VALUE c) →
            t.fld (F.SCW_FVAL_VALUE i) =
              if s.flag (F.SCW_FILT_TYPE i) = true then
                (match taps with
                 | [] => x
                 | _ => wrapBits 16 (((x : Int) :: taps.take 7).foldl (· + ·) 0 / 8))
              else match taps with
                | [] => x
                | y :: _ => wrapBits 16 (y + (x - y) / 2 ^ s.fld (F.SCW_FILT_SHIFT i)))
        ∧ s.regsBut t (slotRegs s)
    else exec (.slotEnd code) s = .next s)
  ∧ (∀ (s : State) (code : BitVec 10), s.applied = true → s.pwr ≠ 10 →
    Completes (.slotEnd code) s fun t =>
      ∀ (r src v th p : Nat) (q : RuleSt), r < 32 → src = s.fld (F.SCW_RULE_A_SRC r) →
        v = (if src < 0x18 then t.fld (F.SCW_VAL_VALUE src) else if src < 0x1C then t.fld (F.SCW_FVAL_VALUE (src - 0x18))
          else if src < 0x20 then s.spinVel (src - 0x1C) else s.spinDir (src - 0x20)) →
        th = s.fld (F.SCW_RULE_B_THRESH r) → p = max 1 (s.fld (F.SCW_RULE_A_PERSIST r)) → q = s.rule r →
        ((sourceDue s src = false ∨ s.flag (F.SCW_RULE_A_EN r) = false ∨ s.fld (F.SCW_RULE_A_KIND r) = 3) → t.rule r = q)
        ∧ (sourceDue s src = true → s.flag (F.SCW_RULE_A_EN r) = true → s.fld (F.SCW_RULE_A_KIND r) ≠ 3 →
          if (s.fld (F.SCW_RULE_A_ARM r)).testBit s.armBit = false then t.rule r = { fired := q.fired, back := q.back }
          else if s.fld (F.SCW_RULE_A_KIND r) = 2 then
            (q.side = some (!decide (th < v)) → t.rule r = { side := some (decide (th < v)) })
            ∧ (q.side ≠ some (!decide (th < v)) → (t.rule r).side = some (decide (th < v))
              ∧ (t.rule r).fired = (q.fired || decide (p ≤ q.cnt + 1))
              ∧ (q.fired = false → (t.rule r).cnt = if p ≤ q.cnt + 1 then 0 else q.cnt + 1))
          else
            (q.fired = false →
              if (if s.fld (F.SCW_RULE_A_KIND r) = 0 then th < v else v < th) then
                (t.rule r).fired = decide (p ≤ q.cnt + 1) ∧ (q.cnt + 1 < p → (t.rule r).cnt = q.cnt + 1)
              else (t.rule r).fired = false ∧ (t.rule r).cnt = 0)
            ∧ (q.fired = true → (t.rule r).fired = false → s.fld (F.SCW_RULE_B_REARM r) ≠ 0 ∧ s.fld (F.SCW_RULE_B_REARM r) ≤ q.back + 1)))

/-- R83, R84, R85, R90: in the tick in which rules fire their FIRED bits are set and each rule with the LOG action leaves an
entry, ascending, or is counted in DROPS where the log is full. A SAFE action is a safety demand, and then nothing wakes; else a
WAKE action wakes watch sleep by the lowest rule that has it, or turns a sleep entry back. R90, R84 and Table SCW-9: a read of
SCW_LOG_TIME answers the tick of the oldest entry and takes that entry off the log. Ones written to SCW_FIRED clear the bits of
those rules, rearm them and clear their counters. -/
def Obligations.RulesThatFireActAtOnce : Prop :=
  (∀ (s : State) (code : BitVec 10), s.applied = true → s.pwr ≠ 10 →
    Completes (.slotEnd code) s fun t =>
      ∀ (l logged : List Nat), l = (List.range 32).filter (fires s t) →
        logged = l.filter (fun r => (s.fld (F.SCW_RULE_A_ACTION r)).testBit 4) →
        (∀ r < 32, t.bit F.SCW_FIRED_FIRED r = (s.bit F.SCW_FIRED_FIRED r || fires s t r))
        ∧ (t.scw.log.take s.scw.log.length = s.scw.log
          ∧ (t.scw.log.drop s.scw.log.length).map (fun e => e.rule) = logged.take (16 - s.scw.log.length)
          ∧ (∀ e ∈ t.scw.log.drop s.scw.log.length, e.tick = s.reg R.SCW_TICK)
          ∧ t.fld F.SCW_LOG_STAT_DROPS = min 0xFF (s.fld F.SCW_LOG_STAT_DROPS + (logged.length - (16 - s.scw.log.length))))
        ∧ (if l.any (fun r => (s.fld (F.SCW_RULE_A_ACTION r)).testBit 3) = true then demanded 0 s t ∧ t.pwr = s.pwr
          else t.flag F.SAF_STAT_SAFE = s.flag F.SAF_STAT_SAFE
            ∧ match l.find? (fun r => (s.fld (F.SCW_RULE_A_ACTION r)).testBit 0) with
              | none => t.pwr = s.pwr
              | some r =>
                if s.pwr = 9 then t.pwr = 11 ∧ t.fld F.PCR_WAKE_SRC = 1 ∧ t.fld F.PCR_WAKE_RULE = r
                else if s.pwr = 8 ∧ s.pow.sleepReq = true then t.pwr = 7 ∧ t.fld F.PCR_SLEEP_REJ = 3
                else t.pwr = s.pwr))
  ∧ (∀ (s : State) (p : Fin 2),
    (s.reaches p R.SCW_LOG_TIME = true →
      Completes (.logTimeRead p) s fun t =>
        t.answered p 0 ∧ (t.ports.get p).resp.map (fun r => r.rdata) = some [(s.scw.log.head?).elim 0 (fun e => e.tick)]
        ∧ t.scw = { s.scw with log := s.scw.log.tail } ∧ t.regs = s.regs)
    ∧ (∀ v : Word, s.takes p R.SCW_FIRED v = true →
      Completes (.firedWrite p v) s fun t =>
        t.reg R.SCW_FIRED = s.reg R.SCW_FIRED &&& ~~~v
        ∧ (∀ r < 32, t.rule r = if v.getLsbD r = true then {} else s.rule r)
        ∧ t.scw.log = s.scw.log ∧ s.regsBut t [R.SCW_FIRED]))

/-- R87, R88: a transition to the neighbouring sector keeps or turns the run of its direction: after three the direction stands,
a turn makes it UNKNOWN, and SPD follows from six intervals; any other change of code is a glitch. No transition for STILL x 256
ticks is standstill. A held tracker changes only by its restart, with all six gate outputs low, from UNKNOWN. -/
def Obligations.SpinTrackersFollowTheSectors : Prop :=
  ∀ (s : State) (a : Fin 4),
    (∀ (old new : BitVec 3) (ticks x y d run : Nat) (q : SpinSt) (against : Bool), q = s.scw.spin.get a →
      x = (if s.flag (F.SCW_SPIN_CFG_SWAP_VW a) then swapVw old.toNat else old.toNat) →
      y = (if s.flag (F.SCW_SPIN_CFG_SWAP_VW a) then swapVw new.toNat else new.toNat) →
      d = (if (x, y) ∈ [(1, 3), (3, 2), (2, 6), (6, 4), (4, 5), (5, 1)] then 1
        else if (y, x) ∈ [(1, 3), (3, 2), (2, 6), (6, 4), (4, 5), (5, 1)] then 2 else 0) →
      against = (q.run != 0 && q.dir != d) → run = (if against then 1 else q.run + 1) →
      if s.spinOn a = false then exec (.spinTransition a old new ticks) s = .next s
      else Completes (.spinTransition a old new ticks) s fun t =>
        (if d = 0 then
          t.fld (F.SCW_SPIN_GLITCH a) = min 0xFF (s.fld (F.SCW_SPIN_GLITCH a) + 1) ∧ t.fld (F.SCW_SPIN_SPD a) = 0
          ∧ t.fld (F.SCW_SPIN_DIR a) = s.fld (F.SCW_SPIN_DIR a) ∧ (t.scw.spin.get a).run = 0
         else
          t.fld (F.SCW_SPIN_GLITCH a) = s.fld (F.SCW_SPIN_GLITCH a) ∧ (t.scw.spin.get a).run = run ∧ (t.scw.spin.get a).dir = d
          ∧ t.fld (F.SCW_SPIN_DIR a) = (if against then 3 else if 3 ≤ run then d else s.fld (F.SCW_SPIN_DIR a))
          ∧ (against = true → t.fld (F.SCW_SPIN_SPD a) = 0)
          ∧ (against = false → q.timed = true → 5 ≤ q.ivals.length →
            t.fld (F.SCW_SPIN_SPD a) = min 0xFFFF (40000000 / max 1 (ticks + (q.ivals.take 5).sum))))
        ∧ (∀ b : Fin 4, b ≠ a → t.scw.spin.get b = s.scw.spin.get b) ∧ s.regsBut t [R.SCW_SPIN a])
    ∧ (if s.spinOn a = true ∧ s.fld (F.SCW_SPIN_CFG_STILL a) ≠ 0 then
        Completes (.stillTimeout a) s fun t =>
          t.fld (F.SCW_SPIN_DIR a) = 0 ∧ t.fld (F.SCW_SPIN_SPD a) = 0 ∧ s.regsBut t [R.SCW_SPIN a]
      else exec (.stillTimeout a) s = .next s)
    ∧ (if s.flag (F.SCW_SPIN_HOLD a) = true ∧ s.gates a &&& 0x3F#8 = 0 then
        Completes (.trackerRestart a) s fun t =>
          t.flag (F.SCW_SPIN_HOLD a) = false ∧ t.fld (F.SCW_SPIN_DIR a) = 3 ∧ t.fld (F.SCW_SPIN_SPD a) = 0
          ∧ (t.scw.spin.get a).run = 0 ∧ s.regsBut t [R.SCW_SPIN a]
      else exec (.trackerRestart a) s = .next s)

/-- R326, R328: a frame with a wrong CRC or length answers CRC_ERR and does nothing but count; a discarded one counts SHORT. A
frame timeout sets PORT_ERR, counts and makes the port ignore all traffic until CSN has been high for four ticks. R304, R383,
R384, R388: a register frame with an address outside the mapped register space or not a multiple of 4 answers BAD_ADDR, one with
a register of a domain that is off PD_OFF, a WRITE to a resource of a tenant not bound to the port NOT_BOUND: no word of it is
read or written. -/
def Obligations.FramesThatCannotBeServedDoNothing : Prop :=
  (∀ (s : State) (p : Fin 2),
    (∀ i, i.wf = true → frameOf p false i → s.hears p = true →
      Completes i s fun t => t.answered p 1 ∧ t.fld (F.PCR_HP_CNT_CRC p) = min 0xFF (s.fld (F.PCR_HP_CNT_CRC p) + 1)
        ∧ s.regsBut t [R.PCR_HP_CNT p] ∧ State.sameBut { s with regs := t.regs } t p)
    ∧ (∀ i ok, i.wf = true → frameOf p ok i → s.hears p = false → exec i s = .next s)
    ∧ (s.hears p = false → exec (.frameDiscarded p) s = .next s ∧ exec (.frameTimeout p) s = .next s)
    ∧ (s.hears p = true →
      Completes (.frameDiscarded p) s (fun t => t.fld (F.PCR_HP_CNT_SHORT p) = min 0xFF (s.fld (F.PCR_HP_CNT_SHORT p) + 1)
        ∧ s.regsBut t [R.PCR_HP_CNT p] ∧ t = { s with regs := t.regs })
      ∧ Completes (.frameTimeout p) s (fun t => t.flag (F.PCR_HP_STAT_PORT_ERR p) = true
        ∧ t.fld (F.PCR_HP_CNT_TMO p) = min 0xFF (s.fld (F.PCR_HP_CNT_TMO p) + 1) ∧ t.hears p = false
        ∧ s.regsBut t [R.PCR_HP_STAT p, R.PCR_HP_CNT p, R.PCR_HP_IRQ p]))
    ∧ Completes (.csnHighFourTicks p) s (fun t => t.hears p = true ∧ (t.ports.get p).resp = (s.ports.get p).resp))
  ∧ (∀ (s : State) (p : Fin 2) (i : Instr) (ks : List Nat), i.wf = true → s.hears p = true →
    ((∃ k vs, i = .write p true k vs ∧ ks = wordAddrs k vs.length) ∨ (∃ k n, i = .read p true k n ∧ ks = wordAddrs k n)) →
    ((∃ k ∈ ks, k % 4 ≠ 0 ∨ mapped k = false) → Completes i s fun t => t.answered p 3 ∧ s.sameBut t p)
    ∧ ((∀ k ∈ ks, k % 4 = 0 ∧ mapped k = true) → (∃ k ∈ ks, s.regOff k = true) → Completes i s fun t => t.answered p 5 ∧ s.sameBut t p)
    ∧ (∀ k vs, i = .write p true k vs → s.regCheck ks = 0 → (∃ x ∈ ks.zip vs, s.mayWrite p x.1 x.2 = false) →
      Completes i s fun t => t.answered p 4 ∧ t.fld (F.PCR_HP_CNT_NOT_BOUND p) = min 0xFF (s.fld (F.PCR_HP_CNT_NOT_BOUND p) + 1)
        ∧ s.regsBut t [R.PCR_HP_CNT p] ∧ State.sameBut { s with regs := t.regs } t p))

/-- R7, R385, R384: the words of a WRITE act on consecutive registers; a register whose write only stores takes each bit as its
access code and SEALED say, and no other register changes. An offset with no register ignores the write with status OK. A
REGISTER_WRITE is a WRITE of one word. R390, R385: a READ answers the words of its registers in order. Only PCR_STEP_LO,
SQR_AUD_A[k] and SCW_LOG_TIME change state when read, the first two by latching the second word for the reading port;
PCR_DET_LIVE_STEP is each port's own. No read changes a register. -/
def Obligations.RegisterFramesReadAndWriteWords : Prop :=
  (∀ (s : State) (p : Fin 2),
    (∀ (k : Nat) (vs : List Word), (Instr.write p true k vs).wf = true → s.regCheck (wordAddrs k vs.length) = 0 → s.hears p = true →
      (∀ x ∈ (wordAddrs k vs.length).zip vs, s.mayWrite p x.1 x.2 = true ∧ s.deadWord x.1 = false ∧ (regDefAt (homeKey x.1)).isSome = true
        ∧ storesOnly s p x.1) →
      Completes (.write p true k vs) s fun t =>
        t.answered p 0 ∧ (∀ x ∈ (wordAddrs k vs.length).zip vs, t.reg (homeKey x.1) = s.plainWord (homeKey x.1) x.2)
        ∧ s.regsBut t ((wordAddrs k vs.length).map homeKey) ∧ State.sameBut { s with regs := t.regs } t p)
    ∧ (∀ (k : Nat) (v : Word), (Instr.registerWrite p k v).wf = true → s.regCheck [k] = 0 → s.hears p = true → s.mayWrite p k v = true →
      ((s.deadWord k = true ∨ (regDefAt (homeKey k)).isNone = true) →
        Completes (.registerWrite p k v) s fun t => t.answered p 0 ∧ s.sameBut t p)
      ∧ (s.deadWord k = false → (regDefAt (homeKey k)).isSome = true → storesOnly s p k →
        Completes (.registerWrite p k v) s fun t =>
          t.answered p 0 ∧ t.reg (homeKey k) = s.plainWord (homeKey k) v ∧ s.regsBut t [homeKey k]
          ∧ State.sameBut { s with regs := t.regs } t p)))
  ∧ (∀ (s : State) (p : Fin 2), s.hears p = true →
    (∀ addr n, (Instr.read p true addr n).wf = true → s.regCheck (wordAddrs addr n) = 0 →
      Completes (.read p true addr n) s fun t => t.answered p 0 ∧ t.regs = s.regs
        ∧ ((∀ k ∈ wordAddrs addr n, k ≠ R.PCR_STEP_LO ∧ k ≠ R.SCW_LOG_TIME ∧ ¬(0x386000 ≤ k ∧ k < 0x386600 ∧ k % 8 = 0)) →
          answerWords t p = some ((wordAddrs addr n).map (readsAs s p)) ∧ s.sameBut t p))
    ∧ (s.reaches p R.PCR_STEP_LO = true →
      Completes (.stepLoRead p) s fun t => t.answered p 0 ∧ answerWords t p = some [word s.stepN]
        ∧ (t.ports.get p).stepHi = s.stepN / 2 ^ 32 ∧ (s.modPort p (fun x => { x with stepHi := s.stepN / 2 ^ 32 })).sameBut t p)
    ∧ (∀ k : Fin 192, s.reaches p (R.SQR_AUD_A k) = true →
      Completes (.sqrAudARead p k) s fun t => t.answered p 0 ∧ answerWords t p = some [s.shown (R.SQR_AUD_A k)]
        ∧ SMap.get 0 (t.ports.get p).audB k = s.shown (R.SQR_AUD_A k + 4) ∧ t.regs = s.regs ∧ t.tasks = s.tasks)
    ∧ (s.regOff (R.PCR_HP_STAT p) = false →
      Completes (.stat p true) s fun t => t.answered p 0 ∧ answerWords t p = some [s.shown (R.PCR_HP_STAT p)] ∧ s.sameBut t p)
    ∧ (∀ v : Word, s.takes p R.PCR_DET_LIVE_STEP_LO v = true →
      Completes (.registerWrite p R.PCR_DET_LIVE_STEP_LO v) s fun t => (t.ports.get p).detLo = v ∧ t.regs = s.regs
        ∧ ∀ q : Fin 2, q ≠ p → t.ports.get q = s.ports.get q))

/-- R330, R386, R304, R194: a window frame answers BAD_ADDR outside the windows, NOT_BOUND for a write by a port that is not
bound to the estate, BUSY while one of its kind is outstanding. An accepted one is outstanding, and one to the silo asks for its
tokens; a write to a NOR device fails with WIN_WHY 5. WFETCH answers PENDING, the words, or ACCESS_ERR. -/
def Obligations.WindowFramesAreOutstandingUntilServed : Prop :=
  ∀ (s : State) (p : Fin 2), s.hears p = true →
    (∀ (k : Nat) (vs : List Word), (Instr.wwrite p true k vs).wf = true →
      (∀ c, s.winCheck k vs.length = (c, none) → Completes (.wwrite p true k vs) s fun t => t.answered p c ∧ s.sameBut t p)
      ∧ (∀ c w, s.winCheck k vs.length = (c, some w) →
        (s.bound p 4 = false → Completes (.wwrite p true k vs) s fun t => t.answered p 4 ∧ s.regsBut t [R.PCR_HP_CNT p])
        ∧ (s.bound p 4 = true → (s.ports.get p).wr.isSome = true →
          Completes (.wwrite p true k vs) s fun t => t.answered p 7 ∧ s.sameBut t p)
        ∧ (s.bound p 4 = true → (s.ports.get p).wr = none →
          Completes (.wwrite p true k vs) s fun t => t.answered p 0
            ∧ match w with
              | .silo cs _ =>
                if s.flag (F.FLD_SILO_CFG_PSRAM cs) = false then
                  t.fld (F.PCR_HP_STAT_WIN_WHY p) = 5 ∧ t.flag (F.PCR_HP_STAT_WIN_ERR p) = true ∧ (t.ports.get p).wr = none
                  ∧ s.regsBut t [R.PCR_HP_STAT p, R.PCR_HP_IRQ p, R.SIL_STAT]
                else (t.ports.get p).wr = some (k, vs.flatMap (fun v => leBytes 4 v.toNat)) ∧ t.regs = s.regs
                  ∧ t.trn.queue = s.trn.queue ++ [⟨.silo (winNum p true), 4, s.fld F.TRN_COST_SILO, 0⟩]
              | _ => (t.ports.get p).wr = some (k, vs.flatMap (fun v => leBytes 4 v.toNat)) ∧ t.regs = s.regs ∧ t.trn = s.trn)))
    ∧ (∀ k n, (Instr.wreq p true k n).wf = true →
      (∀ c, s.winCheck k n = (c, none) → Completes (.wreq p true k n) s fun t => t.answered p c ∧ s.sameBut t p)
      ∧ (∀ c w, s.winCheck k n = (c, some w) →
        ((s.winPend p).isSome = true → Completes (.wreq p true k n) s fun t => t.answered p 7 ∧ s.sameBut t p)
        ∧ (s.winPend p = none →
          Completes (.wreq p true k n) s fun t => t.answered p 0 ∧ (t.ports.get p).rd = some ⟨k, 4 * n, none, false⟩ ∧ t.regs = s.regs
            ∧ t.trn.queue = match w with
              | .silo _ _ => s.trn.queue ++ [⟨.silo (winNum p false), 4, s.fld F.TRN_COST_SILO, 0⟩]
              | _ => s.trn.queue)))
    ∧ (∀ k, (Instr.wfetch p true k).wf = true → k % 4 = 0 → 0x1000000 ≤ k → s.pd 2 = true →
      Completes (.wfetch p true k) s fun t => s.sameBut t p
        ∧ match (s.ports.get p).rd with
          | none => t.answered p 8
          | some r => if r.bad then t.answered p 6 else match r.data with
            | none => t.answered p 8
            | some bs => t.answered p 0 ∧ answerWords t p = some (wordsOf bs))

/-- R311, R313, R304, R310: ENQ to a queue that is not full stores its descriptor at slot PROD, advances PROD and registers the
doorbell in the same cycle; DEQ and PEEK answer the head, and DEQ advances CONS. A request that cannot be taken does nothing but
answer its status. R312, R313: a write of P to QUE_DB[n] is accepted where (P - PROD) mod 65536 <= depth - occupancy, and its
doorbell waits until the engine has fetched what it announces, which it does as far as its staging buffer has room; one of C to
QUE_CONS[n] where the queue is Z2H and (C - CONS) mod 65536 <= occupancy. Others end with REFUSED and leave the indices. R310:
the commands of the queues keep the occupancy of every queue within its depth. -/
def Obligations.QueueFramesMoveTheRings : Prop :=
  (∀ (s : State) (p : Fin 2) (n : Nat), s.hears p = true → n < 2 ^ 32 →
    (∀ ws : List Word, ws.length = 8 → queOpen s p n false → s.queOcc n < s.queDepth n →
      Completes (.enq p true n ws) s fun t =>
        t.answered p 0 ∧ t.queProd n = (s.queProd n + 1) % 65536
        ∧ memRead t.gran (s.queSlot n (s.queProd n)) 32 = ws.flatMap (fun w => leBytes 4 w.toNat)
        ∧ sameOutside s.gran t.gran (s.queSlot n (s.queProd n)) 32
        ∧ ((∀ w ∈ s.que.waiting, w.1 ≠ n) → t.queBell n = (s.queProd n + 1) % 65536)
        ∧ s.heard t (Ev.quePut n) ∧ s.regsBut t (R.QUE_PROD n :: eventRegs))
    ∧ (queOpen s p n true → s.queOcc n ≠ 0 →
      ∀ ws ks, ws = wordsOf (zeroWords (wordsIn s.field.grnUE (s.queSlot n (s.queCons n)) 32) (s.queSlot n (s.queCons n))
          (memRead s.gran (s.queSlot n (s.queCons n)) 32)) → ks = [R.FLD_GRN_ECC, R.FLD_GRN_ERR, R.FLD_STAT] →
      Completes (.deq p true n 7) s (fun t => t.answered p 0 ∧ answerWords t p = some ws ∧ t.queCons n = (s.queCons n + 1) % 65536
        ∧ t.gran = s.gran ∧ s.regsBut t (R.QUE_CONS n :: ks))
      ∧ Completes (.peek p true n 7) s (fun t => t.answered p 0 ∧ answerWords t p = some ws ∧ s.regsBut t ks ∧ t.gran = s.gran))
    ∧ (∀ c, c ≠ 0 → c ≠ 4 →
      (∀ ws : List Word, (Instr.enq p true n ws).wf = true → (if ws.length = 8 then s.queCheck p n false else 3) = c →
        Completes (.enq p true n ws) s fun t => t.answered p c ∧ s.sameBut t p)
      ∧ (∀ len < 64, (if len = 7 then s.queCheck p n true else 3) = c →
        Completes (.deq p true n len) s (fun t => t.answered p c ∧ s.sameBut t p)
        ∧ Completes (.peek p true n len) s (fun t => t.answered p c ∧ s.sameBut t p))))
  ∧ (∀ (s : State) (p : Fin 2) (n : Fin 64) (v : Word) (x : Nat), x = fieldGet v 0 16 → s.queOcc n ≤ s.queDepth n →
    (s.takes p (R.QUE_DB n) v = true →
      Completes (.queDb p n v) s fun t =>
        if s.queRole n false = false then t.answered p 0xB ∧ s.sameBut t p
        else if s.inReset (s.queTenant n) = true then t.answered p 0xC ∧ s.sameBut t p
        else if (x + 65536 - s.queProd n) % 65536 ≤ s.queDepth n - s.queOcc n then
          t.answered p 0 ∧ t.queProd n = x ∧ t.que = { s.que with waiting := s.que.waiting ++ [(n.val, x)] } ∧ s.regsBut t [R.QUE_PROD n]
        else t.answered p 0xD ∧ t.flag (F.QUE_STAT_REFUSED n) = true ∧ t.que = s.que ∧ s.regsBut t [R.QUE_STAT n])
    ∧ (s.takes p (R.QUE_CONS n) v = true →
      Completes (.queCons p n v) s fun t =>
        if s.queRole n true = true ∧ (x + 65536 - s.queCons n) % 65536 ≤ s.queOcc n then
          t.answered p 0 ∧ t.queCons n = x ∧ s.regsBut t [R.QUE_CONS n]
        else t.answered p 0xD ∧ t.flag (F.QUE_STAT_REFUSED n) = true ∧ s.regsBut t [R.QUE_STAT n])
    ∧ (match s.que.waiting.find? (fun w => w.1 == n.val) with
      | none => exec (.doorbellRegistered n) s = .next s
      | some (_, q) => ∀ new, new = stageCopy n (s.queBell n) ((q + 65536 - s.queBell n % 65536) % 65536) s →
          if s.que.staging ≠ [] ∧ 4096 < s.staged + (new.map (fun e => e.desc.length + e.block.length)).sum then
            exec (.doorbellRegistered n) s = .next s
          else Completes (.doorbellRegistered n) s fun t =>
            t.queBell n = q ∧ t.que.waiting = s.que.waiting.erase (n.val, q) ∧ t.que.staging = s.que.staging ++ new
            ∧ s.heard t (Ev.quePut n) ∧ s.regsBut t eventRegs))
  ∧ (∀ (s t : State) (i : Instr) (n : Fin 64),
    ((∃ p ok m ws, i = .enq p ok m ws) ∨ (∃ p ok m len, i = .deq p ok m len ∨ i = .peek p ok m len)
      ∨ (∃ p m v, i = .queDb p m v ∨ i = .queCons p m v) ∨ (∃ m, i = .doorbellRegistered m ∨ i = .queueTimeout m ∨ i = .queueEventPost m)) →
    s.queOcc n ≤ s.queDepth n → exec i s = .next t → t.queOcc n ≤ t.queDepth n)

/-- R319, R307, R318, R321: where the idle count reaches TMO the queue sets TMO, raises QUE_TMO and its tenant's fault; the
oldest pending event of QUE_DB[n] leaves as one EVENT descriptor at slot PROD with the next alive counter. A full queue does not
take it: OVF, the overflow event and the fault. R320, R321, R323, R322: SW[i] reaches the task inputs of its routes; a COUNTING
input keeps each event with the route's constant or the trigger's payload in table order, one of a tenant in reset only merges
it. The event in the overflow slot of a MASK_SEL input is served by selecting its pattern. -/
def Obligations.QueuesAndTheSquarePostEvents : Prop :=
  (∀ (s : State) (n : Fin 64) (k : Nat), k = s.queTenant n →
    (if s.fld (F.QUE_TMO_TMO n) = 0 ∨ s.fld (F.QUE_TMO_IDLE n) < s.fld (F.QUE_TMO_TMO n) then exec (.queueTimeout n) s = .next s
     else Completes (.queueTimeout n) s fun t =>
        t.flag (F.QUE_STAT_TMO n) = true ∧ t.bit (F.QUE_TFSTICKY_CAUSE k) 5 = true
        ∧ (s.fld (F.QUE_TFAULT_FIRST k) = 0 → t.fld (F.QUE_TFAULT_FIRST k) = 6 ∧ t.fld (F.QUE_TFAULT_STEP k) = s.stepN % 65536)
        ∧ (∀ p : Fin 2, t.bit (F.PCR_HP_IRQ_SRC p) 1 = true) ∧ s.heard t Ev.queTmo
        ∧ s.regsBut t ([R.QUE_STAT n, R.QUE_TFAULT k, R.QUE_TFSTICKY k, R.PCR_HP_IRQ 0, R.PCR_HP_IRQ 1] ++ eventRegs))
    ∧ ((s.task (0x80 + n.val)).evs = [] → exec (.queueEventPost n) s = .next s)
    ∧ (∀ src pay r slot alive, (s.task (0x80 + n.val)).evs = (src, pay) :: r → slot = s.queSlot n (s.queProd n) →
      alive = (if n.val ∈ s.que.wrote then (s.fld (F.QUE_ALV_OUT_LAST n) + 1) % 16 else 0) →
      Completes (.queueEventPost n) s fun t =>
        (t.task (0x80 + n.val)).srv = ((s.task (0x80 + n.val)).srv + 1) % 65536
        ∧ (if s.queTakes n = false then
            (t.task (0x80 + n.val)).evs = r ∧ (t.task (0x80 + n.val)).pend = (s.task (0x80 + n.val)).pend - 1 ∧ t.gran = s.gran ∧ t.regs = s.regs
          else if s.queDepth n ≤ s.queOcc n then
            t.flag (F.QUE_STAT_OVF n) = true ∧ t.bit (F.QUE_TFSTICKY_CAUSE k) 6 = true ∧ s.heard t Ev.queOvf ∧ t.gran = s.gran
            ∧ s.regsBut t ([R.QUE_STAT n, R.QUE_TFAULT k, R.QUE_TFSTICKY k] ++ eventRegs)
          else
            memRead t.gran slot 32 = descBytes 0x20 k 4 s.stepN
              (leBytes 1 src ++ leBytes 1 (s.task (0x80 + n.val)).lost ++ leBytes 2 pay) alive 0 0
            ∧ sameOutside s.gran t.gran slot 32 ∧ t.queProd n = (s.queProd n + 1) % 65536 ∧ t.fld (F.QUE_ALV_OUT_LAST n) = alive
            ∧ s.heard t (Ev.quePut n) ∧ s.regsBut t ([R.QUE_ALV n, R.QUE_PROD n] ++ eventRegs))))
  ∧ (∀ s : State,
    (∀ (p : Fin 2) (v : Word) (src : Nat), s.takes p R.SQR_SWTRIG v = true → src = Ev.sw (fieldGet v 16 4) →
      Completes (.sqrSwtrig p v) s fun t =>
        s.heard t src ∧ s.regsBut t eventRegs
        ∧ ∀ c, 0x80 ≤ c → c < 0xC0 →
          if s.inReset (s.fld (F.QUE_CFG_TENANT (c - 0x80))) = true then
            (t.task c).mrg % 65536 = ((s.task c).mrg + s.routeCount src c) % 65536 ∧ (t.task c).evs = (s.task c).evs
            ∧ (0 < s.routeCount src c → t.flag F.SQR_STAT_DISC = true)
          else (s.task c).pend + s.routeCount src c ≤ 15 →
            (t.task c).evs = (s.task c).evs
              ++ (s.routes.filter (fun r => r.en && r.src == src && r.dst == c)).map (fun r => (src, r.cst.getD (fieldGet v 0 16)))
            ∧ (t.task c).pend = (s.task c).pend + s.routeCount src c)
    ∧ (∀ (a : Fin 4) (c : Nat), c = 0x10 * a.val + 4 →
      match (s.task c).ovf with
      | none => exec (.payloadOverflowService a) s = .next s
      | some x => Completes (.payloadOverflowService a) s fun t =>
          (t.task c).ovf = none ∧ (t.task c).srv = ((s.task c).srv + 1) % 65536 ∧ (t.task c).pend = (s.task c).pend - 1
          ∧ t.fld (F.PWM_MASK_CTRL_SEL a) = (if s.flag (F.PWM_MASK_CTRL_FORCE a) = true then s.fld (F.PWM_MASK_CTRL_SEL a) else x % 8)
          ∧ s.regsBut t [R.PWM_MASK_CTRL a, R.PWM_STAT a, R.SCW_SPIN a]))

/-- R305, R306: a keyed reset of a tenant is pending until its boundary; an axis's outputs are low from now on, its sequencer is
off, and it holds and awaits no tokens. A release is pending until the tenant leaves reset. No other axis's output and no other
tenant's control changes. -/
def Obligations.TenantResetsAreAskedForByKey : Prop :=
  ∀ (s : State) (p : Fin 2) (k : Fin 5),
    (s.takes p (R.QUE_TEN_CTRL k) 0x6B000100#32 = true →
      Completes (.tenantReset p k) s fun t =>
        t.flag (F.QUE_TEN_CTRL_RST k) = true ∧ t.flag (F.QUE_TEN_CTRL_PENDING k) = !t.inReset k
        ∧ (∀ a : Fin 4, a.val = k.val → (s.halted a = false → t.gates a = 0) ∧ t.fld (F.LPE_DRV_STAT_STATE a) = 0
          ∧ ((s.fld (F.LPE_RPL_STAT_STATE a) = 2 ∨ s.fld (F.LPE_RPL_STAT_STATE a) = 3) → t.fld (F.LPE_RPL_STAT_STATE a) = 0)
          ∧ ∀ r ∈ t.trn.queue ++ t.trn.grants, r.tenant ≠ k.val)
        ∧ (∀ a : Fin 4, a.val ≠ k.val → t.gates a = s.gates a)
        ∧ s.regsBut t ([R.QUE_TEN_CTRL k, R.LPE_DRV_STAT k, R.LPE_RPL_STAT k, R.AUX_REQ, R.AUX_STAT, R.AUX_FLAG]
            ++ (List.range 5).map (fun j => R.TRN_DYN j)))
    ∧ (s.takes p (R.QUE_TEN_CTRL k) 0x6B000000#32 = true →
      Completes (.tenantRelease p k) s fun t =>
        t.flag (F.QUE_TEN_CTRL_RST k) = false ∧ (s.linkHold = false → t.flag (F.QUE_TEN_CTRL_PENDING k) = t.inReset k)
        ∧ (∀ a : Fin 4, (a.val = k.val → t.fld (F.LPE_RPL_STAT_STATE a) = 0) ∧ (a.val ≠ k.val → t.gates a = s.gates a))
        ∧ s.regsBut t [R.QUE_TEN_CTRL k, R.LPE_DRV_STAT k, R.LPE_RPL_STAT k])

/-- R296, R297, R298, R299: INIT loads a unit's initial value and clears its counts; bytes written to CHK_DIN and CHK_DIN1 run
through the procedure, and the result stands in CHK_RES with DONE. A configuration that R297 or R298 forbids is refused with
CFG_ERR and the unit keeps its own. A unit with an owner ignores all of them and sets COLL. -/
def Obligations.CheckUnitsComputeTheirResult : Prop :=
  ∀ (s : State) (p : Fin 2) (n : Fin 8) (q : CrcParams), q = s.chkParams n false →
    (s.takes p (R.CHK_CTRL n) 1#32 = true →
      Completes (.chkInit p n) s fun t =>
        if s.chkOwned n = true then t.flag (F.CHK_STAT_COLL n) = true ∧ t.hrw = s.hrw ∧ s.regsBut t [R.CHK_STAT n]
        else t.flag (F.CHK_STAT_DONE n) = false ∧ t.fld (F.CHK_BYTES_BYTES n) = 0 ∧ t.fld (F.CHK_ALV_FIRST n) = 0xFFFF
          ∧ t.fld (F.CHK_ALV_REPEAT n) = 0 ∧ t.fld (F.CHK_ALV_JUMP n) = 0 ∧ SMap.get 0 t.hrw.crc n = q.init
          ∧ s.regsBut t [R.CHK_STAT n, R.CHK_BYTES n, R.CHK_ALV n])
    ∧ (∀ (i : Instr) (k : Nat) (v : Word) (bs : List Byte) (c : Nat),
      (i = .chkDin p n v ∧ k = R.CHK_DIN n ∧ bs = leBytes 4 v.toNat
        ∨ ∃ b : Byte, i = .chkDin1 p n b ∧ k = R.CHK_DIN1 n ∧ v = word b.toNat ∧ bs = [b]) →
      s.takes p k v = true → c = crcFold q (SMap.get 0 s.hrw.crc n) bs →
      Completes i s fun t =>
        if s.chkOwned n = true then t.flag (F.CHK_STAT_COLL n) = true ∧ t.hrw = s.hrw ∧ s.regsBut t [R.CHK_STAT n]
        else t.reg (R.CHK_RES_LO n) = word (crcResult q c) ∧ t.reg (R.CHK_RES_HI n) = word (crcResult q c / 2 ^ 32)
          ∧ t.flag (F.CHK_STAT_DONE n) = true ∧ SMap.get 0 t.hrw.crc n = c
          ∧ t.fld (F.CHK_BYTES_BYTES n) = (s.fld (F.CHK_BYTES_BYTES n) + bs.length) % 2 ^ 32
          ∧ s.regsBut t ([R.CHK_RES_LO n, R.CHK_RES_HI n, R.CHK_STAT n, R.CHK_BYTES n]
              ++ if s.flag (F.CHK_CFG_ALV_EN n) then [R.CHK_ALV n] else []))
    ∧ (∀ (v w : Word) (k : Nat) (u : State), k ∈ [R.CHK_CFG n, R.CHK_POLY_LO n, R.CHK_POLY_HI n, R.CHK_INIT_LO n, R.CHK_INIT_HI n,
        R.CHK_XOR_LO n, R.CHK_XOR_HI n, R.CHK_REC n] → s.takes p k v = true → w = s.plainWord k v → u = s.setReg k w →
      Completes (.registerWrite p k v) s fun t =>
        if s.chkOwned n = true then t.flag (F.CHK_STAT_COLL n) = true ∧ s.regsBut t [R.CHK_STAT n]
        else if (u.flag (F.CHK_CFG_MODE n) = true ∧ (u.fld (F.CHK_CFG_WIDTH n) < 3 ∨ 64 < u.fld (F.CHK_CFG_WIDTH n)
              ∨ 2 ^ u.fld (F.CHK_CFG_WIDTH n) ≤ max (u.reg64 (R.CHK_POLY_LO n) (R.CHK_POLY_HI n))
                  (max (u.reg64 (R.CHK_INIT_LO n) (R.CHK_INIT_HI n)) (u.reg64 (R.CHK_XOR_LO n) (R.CHK_XOR_HI n)))))
            ∨ (k = R.CHK_REC n ∧ u.fld (F.CHK_REC_REC_LEN n) < u.fld (F.CHK_REC_ALV_OFF n) + 1) then
          t.flag (F.CHK_STAT_CFG_ERR n) = true ∧ s.regsBut t [R.CHK_STAT n]
        else t.reg k = w ∧ s.regsBut t [k])

/-- R288, R289: a GO is refused with RANGE, with the unit's owner's WHY or for the standing checks' channel; else the channel
waits for its tokens with its unit reserved. A GO on a channel that waits or runs does nothing. ABORT ends a busy channel with
WHY 6, gives its unit back and its tokens. R287, R289, R291, R292, R296: the end of a scan has streamed all its elements, in
order, into the units of its channel, whose results follow; one that is starved has streamed those it was served, and gives no
result. The memories stay as they are, no doubt is raised, and the tokens go back. -/
def Obligations.ScansAreCheckedAndStreamTheirElements : Prop :=
  (∀ (s : State) (p : Fin 2) (c : Fin 4) (u : Nat), u = s.fld (F.HRW_CH_CFG_UNIT c) →
    (s.takes p (R.HRW_CH_CTRL c) 1#32 = true →
      Completes (.hrwGo p c) s fun t =>
        if s.chBusy c = true then t.regs = s.regs ∧ t.trn = s.trn
        else if s.scanBad (s.fld (F.HRW_CH_CFG_SPACE c)) (s.fld (F.HRW_CH_CFG_ELEM c)) (s.fld (F.HRW_CH_CFG_PLOT c))
            (s.fld (F.HRW_CH_START_START c)) (s.fld (F.HRW_CH_COUNT_COUNT c)) (s.fld (F.HRW_CH_STRIDE_STRIDE c)) = true then
          t.fld (F.HRW_CH_STAT_STATE c) = 4 ∧ t.fld (F.HRW_CH_STAT_WHY c) = 5 ∧ t.trn = s.trn ∧ s.regsBut t [R.HRW_CH_STAT c]
        else if s.chkOwned u = true then
          t.fld (F.HRW_CH_STAT_STATE c) = 4 ∧ t.fld (F.HRW_CH_STAT_WHY c) = 4 ∧ t.trn = s.trn ∧ s.regsBut t [R.HRW_CH_STAT c]
        else if c = 3 ∧ (List.range 8).any (fun i => s.flag (F.SAF_STD_CFG_EN i)) = true then
          t.fld (F.HRW_CH_STAT_STATE c) = 4 ∧ t.fld (F.HRW_CH_STAT_WHY c) = 8 ∧ t.trn = s.trn ∧ s.regsBut t [R.HRW_CH_STAT c]
        else
          t.fld (F.HRW_CH_STAT_STATE c) = 1 ∧ t.fld (F.HRW_CH_STAT_WHY c) = 0 ∧ t.fld (F.HRW_CH_DONE_ELEMS c) = 0
          ∧ t.fld (F.CHK_STAT_OWNER u) = 2 ∧ t.fld (F.CHK_STAT_CH u) = c.val
          ∧ t.trn.queue = s.trn.queue ++ [⟨.scan c, s.fld (F.HRW_CH_CFG_TENANT c), s.fld F.TRN_COST_HARROW, 0⟩]
          ∧ s.regsBut t [R.HRW_CH_STAT c, R.HRW_CH_DONE c, R.CHK_STAT u])
    ∧ (s.takes p (R.HRW_CH_CTRL c) 2#32 = true →
      Completes (.hrwAbort p c) s fun t =>
        if s.chBusy c = true then
          t.fld (F.HRW_CH_STAT_STATE c) = 4 ∧ t.fld (F.HRW_CH_STAT_WHY c) = 6 ∧ t.trnHas (.scan c) = false
          ∧ t.chUnits c = [] ∧ s.regsBut t (R.HRW_CH_STAT c :: unitRegs s)
        else t.regs = s.regs ∧ t.trn = s.trn))
  ∧ (∀ (s : State) (c : Fin 4) (ups : List Upset) (d : ScanDesc), upsetsWf ups = true → d = s.chDesc c →
    (s.fld (F.HRW_CH_STAT_STATE c) ≠ 2 →
      Completes (.scanEnd c ups) s (fun t => t.regs = s.regs ∧ t.hrw = s.hrw) ∧ ∀ n, exec (.starved c n) s = .next s)
    ∧ (s.fld (F.HRW_CH_STAT_STATE c) = 2 →
      Completes (.scanEnd c ups) s (fun t =>
        t.fld (F.HRW_CH_STAT_STATE c) = 3 ∧ t.fld (F.HRW_CH_STAT_WHY c) = 0 ∧ t.fld (F.HRW_CH_DONE_ELEMS c) = d.count
        ∧ (∀ n : Fin 8, s.fld (F.CHK_STAT_OWNER n) = 2 → s.fld (F.CHK_STAT_CH n) = c.val →
          ∀ r, r = crcResult (s.chkParams n false)
              (crcFold (s.chkParams n false) (SMap.get 0 s.hrw.crc n) (streamOf s (s.heldSnap c) d d.count)) →
            t.reg (R.CHK_RES_LO n) = word r ∧ t.reg (R.CHK_RES_HI n) = word (r / 2 ^ 32))
        ∧ t.heldSnap c = none ∧ t.trnHas (.scan c) = false ∧ t.gran = s.gran ∧ t.plots = s.plots ∧ t.silo = s.silo
        ∧ s.regsBut t ([R.HRW_CH_STAT c, R.HRW_CH_DONE c, R.HRW_CH_UEADR c] ++ scanRegs d ++ unitRegs s))
      ∧ ∀ n, Completes (.starved c n) s (fun t =>
        t.fld (F.HRW_CH_STAT_STATE c) = 4 ∧ t.fld (F.HRW_CH_STAT_WHY c) = 2 ∧ t.fld (F.HRW_CH_DONE_ELEMS c) = min n d.count
        ∧ t.trnHas (.scan c) = false ∧ t.chUnits c = []
        ∧ s.regsBut t ([R.HRW_CH_STAT c, R.HRW_CH_DONE c, R.HRW_CH_UEADR c] ++ scanRegs d ++ unitRegs s))))

/-- R300, R296: a standing check that ends compares the CRC-32C of its stream with its expected value: on a difference MISMATCH
is set and CHK_MISMATCH raised, and neither is doubt. R294, R290: scrub reads the words of a memory that is on in turn, wrapping
with one more sweep; it counts an uncorrectable word and records it, and keeps a correctable one for its write-back, which counts
it and clears its error. No byte changes, and no uncorrectable word becomes good. -/
def Obligations.StandingChecksAndScrub : Prop :=
  (∀ (s : State) (ups : List Upset), upsetsWf ups = true →
    (s.stdRuns = none → Completes (.standingCheckEnd ups) s fun t => t.regs = s.regs ∧ t.hrw = s.hrw)
    ∧ (∀ (i u c : Nat) (d : ScanDesc), s.stdRuns = some i → i < 8 → u = s.fld (F.SAF_STD_CFG_UNIT i) → d = s.stdDesc i →
      c = crcResult (crcF 3) (crcFold (crcF 3) (SMap.get 0 s.hrw.crc u) (streamOf s (s.heldSnap 4) d d.count)) % 2 ^ 32 →
      Completes (.standingCheckEnd ups) s fun t =>
        (t.reg (R.CHK_RES_LO u)).toNat = c
        ∧ (if c = s.fld (F.SAF_STD_EXP_EXPECT i) then t.flag (F.SAF_STD_STAT_MISMATCH i) = s.flag (F.SAF_STD_STAT_MISMATCH i) ∧ t.tasks = s.tasks
          else t.flag (F.SAF_STD_STAT_MISMATCH i) = true ∧ s.heard t Ev.chkMismatch ∧ ∀ p : Fin 2, t.bit (F.PCR_HP_IRQ_SRC p) 7 = true)
        ∧ t.hrw.std = s.hrw.std.tail ∧ t.saf = s.saf
        ∧ s.regsBut t ([R.HRW_CH_STAT 3, R.HRW_CH_UEADR 3, R.PCR_HP_IRQ 0, R.PCR_HP_IRQ 1] ++ scanRegs d ++ unitRegs s ++ eventRegs)))
  ∧ (∀ (s : State) (m : Fin 32) (ups : List Upset) (u : State) (i w : Nat) (ue ce : List Nat), upsetsWf ups = true → u = applyUpsets ups s →
    i = SMap.get 0 s.hrw.ptr m → w = (if m.val < 16 then 65536 * m.val + i else 32768 * (m.val - 16) + i) →
    ue = (if m.val < 16 then u.field.grnUE else u.field.plotUE) → ce = (if m.val < 16 then u.field.grnCE else u.field.plotCE) →
    ((s.flag F.HRW_CTRL_SCRUB_EN = false ∨ s.scrubOn m = false) → exec (.scrubAccess m ups) s = .next u)
    ∧ (s.flag F.HRW_CTRL_SCRUB_EN = true → s.scrubOn m = true →
      Completes (.scrubAccess m ups) s fun t =>
        SMap.get 0 t.hrw.ptr m = (i + 1) % (if m.val < 16 then 65536 else 32768) ∧ m.val ∈ t.hrw.touched
        ∧ (SMap.get 0 t.hrw.ptr m = 0 → t.fld (F.HRW_IDLE_SWEEPS m) = (s.fld (F.HRW_IDLE_SWEEPS m) + 1) % 65536)
        ∧ (if w ∈ ue then t.fld F.HRW_SCRUB_CNT_UE = min 0xFFFF (s.fld F.HRW_SCRUB_CNT_UE + 1)
              ∧ t.flag F.HRW_SCRUB_UE_PSTORE = decide (16 ≤ m.val) ∧ t.hrw.wback = s.hrw.wback
          else t.reg R.HRW_SCRUB_CNT = s.reg R.HRW_SCRUB_CNT
            ∧ t.hrw.wback = if w ∈ ce then s.hrw.wback ++ [(m.val, w)] else s.hrw.wback)
        ∧ t.field = u.field ∧ s.regsBut t [R.HRW_IDLE m, R.HRW_SCRUB_CNT, R.HRW_SCRUB_UE])
    ∧ (match s.hrw.wback.find? (fun e => e.1 == m.val) with
      | none => exec (.scrubWriteBack m) s = .next s
      | some e => if s.scrubOn m = false then exec (.scrubWriteBack m) s = .next s
        else Completes (.scrubWriteBack m) s fun t =>
          t.fld F.HRW_SCRUB_CNT_CE = min 0xFFFF (s.fld F.HRW_SCRUB_CNT_CE + 1) ∧ t.hrw.wback = s.hrw.wback.erase e
          ∧ e.2 ∉ (if m.val < 16 then t.field.grnCE else t.field.plotCE)
          ∧ t.field.grnUE = s.field.grnUE ∧ t.field.plotUE = s.field.plotUE ∧ s.regsBut t [R.HRW_SCRUB_CNT]))

/-- R373, R374, R365: AUX_SET refuses an output with a kill cause with KILLED and one that is not in use with REFUSED; the other
requests, and the releases of AUX_CLR, wait for the tick. R365, R366, R367, R368, R369, R370, R371, R382, R376: at a tick each
pair takes the last write that names each load. In SHARE a second load is granted within the budget only, in FIRST while the
other is off only, in PRIORITY the even load drops the odd one. A killed output ends low. An LSD rises only after its HSD and
never stands without it. Outside READY all is low; in a debug halt nothing moves. R369, R378: the off-delay's end raises HSD[k].
A filtered Hall code that differs is shown and raises HALL of its axis; with EN = 0 the inputs are ignored. -/
def Obligations.AuxPairsSwitchByTheirPolicy : Prop :=
  (∀ (s : State) (p : Fin 2) (v : BitVec 8),
    (s.takes p R.AUX_SET (word v.toNat) = true →
      Completes (.auxSet p v) s fun t =>
        (∀ j : Fin 8,
          t.bit F.AUX_FLAG_KILLED j = (s.bit F.AUX_FLAG_KILLED j || v.getLsbD j && s.auxKilled j)
          ∧ t.bit F.AUX_FLAG_REFUSED j = (s.bit F.AUX_FLAG_REFUSED j || v.getLsbD j && !s.auxKilled j && !s.flag (F.AUX_LSD_EN j))
          ∧ t.bit F.AUX_FLAG_BUDGET j = s.bit F.AUX_FLAG_BUDGET j ∧ t.bit F.AUX_FLAG_DROPPED j = s.bit F.AUX_FLAG_DROPPED j)
        ∧ (∃ m, t.aux.waiting = s.aux.waiting ++ [(true, m)]
          ∧ ∀ j : Fin 8, m.testBit j = (v.getLsbD j && !s.auxKilled j && s.flag (F.AUX_LSD_EN j)))
        ∧ s.regsBut t [R.AUX_FLAG])
    ∧ (s.takes p R.AUX_CLR (word v.toNat) = true →
      Completes (.auxClr p v) s fun t => t.aux.waiting = s.aux.waiting ++ [(false, v.toNat)] ∧ t.regs = s.regs))
  ∧ (∀ s : State,
    (s.anyHalted = true → exec .auxDecision s = .next s)
    ∧ (s.anyHalted = false → s.flag F.PCR_PWR_STATE_READY = false →
      Completes .auxDecision s fun t =>
        t.reg R.AUX_STAT = 0 ∧ t.fld F.AUX_REQ_REQ = 0 ∧ t.aux.waiting = [] ∧ s.regsBut t [R.AUX_STAT, R.AUX_REQ])
    ∧ (s.anyHalted = false → s.flag F.PCR_PWR_STATE_READY = true →
      Completes .auxDecision s fun t =>
        t.aux.waiting = [] ∧ s.regsBut t [R.AUX_STAT, R.AUX_REQ, R.AUX_FLAG]
        ∧ (∀ j : Fin 8, s.auxKilled j = true → t.bit F.AUX_REQ_REQ j = false ∧ t.bit F.AUX_STAT_LSD_ON j = false)
        ∧ ∀ (k j i pol : Nat) (e o ne no fits : Bool), k < 4 → j = 2 * k → i = 2 * k + 1 → pol = s.fld (F.AUX_PAIR_POLICY k) →
          e = (s.bit F.AUX_REQ_REQ j && s.auxAsk j != some false) → o = (s.bit F.AUX_REQ_REQ i && s.auxAsk i != some false) →
          ne = (!e && s.auxAsk j == some true) → no = (!o && s.auxAsk i == some true) →
          fits = decide (s.fld (F.AUX_PAIR_ILOAD_EVEN k) + s.fld (F.AUX_PAIR_ILOAD_ODD k) ≤ s.fld (F.AUX_PAIR_BUDGET k)) →
          (t.bit F.AUX_STAT_LSD_ON j = true ∨ t.bit F.AUX_STAT_LSD_ON i = true → t.bit F.AUX_STAT_HSD_ON k = true)
          ∧ (∀ x, x = j ∨ x = i → t.bit F.AUX_STAT_LSD_ON x = true → t.bit F.AUX_REQ_REQ x = true
              ∧ (s.bit F.AUX_STAT_LSD_ON x = true ∨ s.bit F.AUX_STAT_HSD_ON k = true))
          ∧ (s.auxKilled j = false → s.auxKilled i = false →
            (if pol = 0 then
              t.bit F.AUX_REQ_REQ j = (e || ne && (!o || fits))
              ∧ t.bit F.AUX_REQ_REQ i = (o || no && (!(e || ne && (!o || fits)) || fits))
              ∧ t.bit F.AUX_FLAG_BUDGET j = (s.bit F.AUX_FLAG_BUDGET j || ne && !t.bit F.AUX_REQ_REQ j)
              ∧ t.bit F.AUX_FLAG_BUDGET i = (s.bit F.AUX_FLAG_BUDGET i || no && !t.bit F.AUX_REQ_REQ i)
            else if pol = 1 then
              t.bit F.AUX_REQ_REQ j = (e || ne && !o) ∧ t.bit F.AUX_REQ_REQ i = (o || no && !(e || ne && !o))
              ∧ t.bit F.AUX_FLAG_REFUSED j = (s.bit F.AUX_FLAG_REFUSED j || ne && !t.bit F.AUX_REQ_REQ j)
              ∧ t.bit F.AUX_FLAG_REFUSED i = (s.bit F.AUX_FLAG_REFUSED i || no && !t.bit F.AUX_REQ_REQ i)
            else
              t.bit F.AUX_REQ_REQ j = (e || ne)
              ∧ t.bit F.AUX_REQ_REQ i = (o && !ne || no && !(e || ne || s.bit F.AUX_STAT_DELAY k))
              ∧ t.bit F.AUX_FLAG_DROPPED i = (s.bit F.AUX_FLAG_DROPPED i || ne && o)
              ∧ t.bit F.AUX_FLAG_REFUSED i = (s.bit F.AUX_FLAG_REFUSED i || no && !t.bit F.AUX_REQ_REQ i)
              ∧ (ne = true → o = true → t.bit F.AUX_STAT_DELAY k = true ∧ t.bit F.AUX_STAT_LSD_ON j = false
                ∧ t.bit F.AUX_STAT_LSD_ON i = false)))))
  ∧ (∀ s : State,
    (∀ k : Fin 4, if s.anyHalted = true ∨ s.bit F.AUX_STAT_DELAY k = false then exec (.offDelayEnd k) s = .next s
      else Completes (.offDelayEnd k) s fun t =>
        t.bit F.AUX_STAT_DELAY k = false ∧ t.bit F.AUX_STAT_HSD_ON k = true
        ∧ (∀ j : Fin 8, t.bit F.AUX_STAT_LSD_ON j = s.bit F.AUX_STAT_LSD_ON j) ∧ s.regsBut t [R.AUX_STAT])
    ∧ (∀ (a : Fin 4) (code : BitVec 3),
      if s.flag (F.AUX_HALL_EN a) = true ∧ s.fld (F.AUX_HALL_CODE a) ≠ code.toNat then
        Completes (.hall a code) s fun t =>
          t.fld (F.AUX_HALL_CODE a) = code.toNat ∧ s.heard t (0x20 * a.val + Ev.hall) ∧ s.regsBut t (R.AUX_HALL a :: eventRegs)
      else exec (.hall a code) s = .next s))

/-- R343, R345, R346, R336, R347, R342: training runs its states in order, and a step that its state does not await does nothing.
It fails with CAP_HASH, CAP_STEP, ELECT, PHASE or TRAIN_TMO, and a lane without a transition holds it at LANE_DETECT or ends a
running link. R352: a keyed ACK starts it only in OFF_READY, and elsewhere sets ACK_REJ. Retraining measures again and ends in
UP, PASSIVE or LINK_OFF. -/
def Obligations.TrainingRunsItsStatesInOrder : Prop :=
  ∀ s : State,
    (∀ x : TrainStep, x.wf = true → s.fld F.TRL_STAT_STATE ≠ trainLeaves x → exec (.trainingAdvance x) s = .next s)
    ∧ (∀ x : TrainStep, x.wf = true → s.fld F.TRL_STAT_STATE = trainLeaves x →
      Completes (.trainingAdvance x) s fun t =>
        s.regsBut t (R.TRL_PEER_SIG :: linkRegs s)
        ∧ match x with
          | .signal => t.fld F.TRL_STAT_STATE = 2
          | .lock => t.fld F.TRL_STAT_STATE = 3
          | .deskew swap pol skew =>
            if 16 < skew then t = s
            else t.fld F.TRL_STAT_STATE = 4 ∧ t.flag F.TRL_STAT_LANE_SWAP = swap ∧ t.fld F.TRL_STAT_POL = pol.toNat
          | .cap stepping hash sig force run kept =>
            t.reg R.TRL_PEER_SIG = sig ∧ t.link.peerForce = force.toNat ∧ t.link.peerRun = run ∧ t.link.peerRole = kept.toNat
            ∧ (if hash ≠ s.imgHash then wentOff 3 s t else if stepping.toNat ≠ s.fuses.stepping then wentOff 4 s t
              else t.fld F.TRL_STAT_STATE = 5)
          | .elect draws =>
            (match s.elected draws with
              | none => wentOff 5 s t
              | some r => t.fld F.TRL_STAT_STATE = 6 ∧ t.fld F.TRL_STAT_ROLE = r % 4)
          | .align dly apart =>
            if 1000 < dly.toNat ∨ apart = true then wentOff 6 s t
            else t.fld F.TRL_STAT_STATE = 7 ∧ t.fld F.TRL_TIME_LINK_DLY = dly.toNat ∧ t.link.rxExp = dly.toNat ∧ t.link.wasUp = true
              ∧ (s.link.tiles = [] → s.heard t (Ev.link 0)))
    ∧ (if s.training = true then Completes .trainTmo s fun t => wentOff 1 s t ∧ s.regsBut t (linkRegs s) else exec .trainTmo s = .next s)
    ∧ (if s.training = true then Completes .laneLossOfSignal s fun t => t.fld F.TRL_STAT_STATE = 1 ∧ t.link = s.link ∧ s.regsBut t [R.TRL_STAT]
      else if s.linkLive = true then Completes .laneLossOfSignal s fun t => wentOff 2 s t ∧ s.regsBut t (linkRegs s)
      else exec .laneLossOfSignal s = .next s)
    ∧ (∀ (dly : BitVec 12) (apart : Bool), if s.fld F.TRL_STAT_STATE ≠ 9 then exec (.retrainEnd dly apart) s = .next s
      else Completes (.retrainEnd dly apart) s fun t => s.regsBut t (linkRegs s)
        ∧ if 1000 < dly.toNat ∨ apart = true then wentOff 6 s t
          else t.fld F.TRL_TIME_LINK_DLY = dly.toNat ∧ t.fld F.TRL_TIME_TX_DLY = 200
            ∧ t.fld F.TRL_STAT_STATE = if 192 ≤ max (s.fld F.TRL_ERR_TEC) (s.fld F.TRL_ERR_REC) then 10
              else if 96 ≤ max (s.fld F.TRL_ERR_TEC) (s.fld F.TRL_ERR_REC) then 8 else 7)
    ∧ (∀ (p : Fin 2) (v : Word), s.takes p R.TRL_CTRL (v &&& 0x00FFFFFF#32 ||| 0x7E000100#32) = true →
      Completes (.trlAck p v) s fun t =>
        (if s.fld F.TRL_STAT_STATE = 11 then t.fld F.TRL_STAT_STATE = 1 ∧ t.reg R.TRL_ERR = 0 ∧ t.flag F.TRL_STAT_ACK_REJ = s.flag F.TRL_STAT_ACK_REJ
            ∧ ∀ w : Fin 4, (t.link.vcs.get w).txc = vcInit w ∧ t.link.txq.get w = []
         else t.fld F.TRL_STAT_STATE = s.fld F.TRL_STAT_STATE ∧ t.flag F.TRL_STAT_ACK_REJ = true ∧ t.link = s.link)
        ∧ s.regsBut t [R.TRL_CTRL, R.TRL_STAT, R.TRL_ERR])

/-- R350, R351, R353, Table PWR-2: a slot 0 without a heartbeat is an error, and the larger counter gives the state: PASSIVE from
96, LINK_OFF from 192, UP again below 96. Training sets in a running link, the peer's notice and a VDD_TL trip put the link off.
OFF_READY follows LINK_OFF. PS_CLR releases PAIR_SAFE_O outside the safe state only. -/
def Obligations.LinkStatesFollowTheirCounters : Prop :=
  ∀ s : State,
    (if s.linkLive = true then
      Completes .slot0WithoutHeartbeat s fun t =>
        t.fld F.TRL_ERR_REC = min 0xFF (s.fld F.TRL_ERR_REC + 8) ∧ judged (max (s.fld F.TRL_ERR_TEC) (min 0xFF (s.fld F.TRL_ERR_REC + 8))) s t
        ∧ s.regsBut t (linkRegs s)
     else exec .slot0WithoutHeartbeat s = .next s)
    ∧ (if s.linkLive = true then Completes .trainingSetsWhileUp s fun t => wentOff 9 s t ∧ s.regsBut t (linkRegs s)
      else exec .trainingSetsWhileUp s = .next s)
    ∧ (if s.fld F.TRL_STAT_STATE = 0 ∨ 10 ≤ s.fld F.TRL_STAT_STATE then exec .linkOffNotice s = .next s
      else Completes .linkOffNotice s fun t => wentOff 9 s t ∧ s.regsBut t (linkRegs s))
    ∧ (if s.fld F.TRL_STAT_STATE = 10 then Completes .offReady s fun t => t.fld F.TRL_STAT_STATE = 11 ∧ s.regsBut t [R.TRL_STAT]
      else exec .offReady s = .next s)
    ∧ Completes .vddTlMonitorTrip s (fun t =>
        t.bit F.PCR_SUPPLY_LOW 4 = true ∧ s.regsBut t (R.PCR_SUPPLY :: linkRegs s)
        ∧ if s.twin = true ∧ (s.linkLive = true ∨ s.training = true) then wentOff 0 s t else t.reg R.TRL_STAT = s.reg R.TRL_STAT)
    ∧ (∀ (p : Fin 2) (v : Word), s.takes p R.TRL_CTRL (v &&& 0x00FFFFFF#32 ||| 2#32) = true →
      Completes (.psClr p v) s fun t =>
        t.flag F.TRL_STAT_PS_O = (s.flag F.SAF_STAT_SAFE && s.flag F.TRL_STAT_PS_O) ∧ t.fld F.TRL_STAT_STATE = s.fld F.TRL_STAT_STATE
        ∧ s.regsBut t [R.TRL_CTRL, R.TRL_STAT])

/-- R338, R340: a live link sends at each slot start a burst of 1 to N frames; the first of slot 0 is a HEARTBEAT where a credit
is held. Each channel's frames leave oldest first, each sequenced one for one credit and one SEQ; VC[2] and VC[3] send in UP
only, VC[3] in the slots of SLOT_MAP only. At most 15 owed credits of a channel return in one frame, and none is lost. R341,
R337: a received frame that is accepted takes its SEQ and a buffer; a late one is discarded with its credit owed but for VC[3]; a
rejected one counts. R337: frames found missing advance SEQ, and their credits are owed. Four late frames in a row start
retraining. -/
def Obligations.BurstsKeepTheirBooks : Prop :=
  ∀ s : State,
    (∀ (slot : Fin 16) (y0 y1 y2 y3 : Nat),
      if s.linkLive = false then exec (.slotStart slot y0 y1 y2 y3) s = .next s
      else Completes (.slotStart slot y0 y1 y2 y3) s fun t =>
        1 ≤ t.link.burst.length ∧ t.link.burst.length ≤ max 1 s.burstMax ∧ t.link.rx = s.link.rx
        ∧ (slot = 0 → (s.link.vcs.get 0).txc ≠ 0 → ∃ b l, t.link.burst = b :: l ∧ frType b = 1)
        ∧ ∀ v : Fin 4, ∃ n m : Nat,
          t.link.txq.get v = (s.link.txq.get v).drop n
          ∧ m = (((s.link.txq.get v).take n).filter (fun f => f.typ != 0)).length
            + (if v = 0 ∧ slot = 0 ∧ (s.link.vcs.get 0).txc ≠ 0 then 1 else 0)
          ∧ (t.link.vcs.get v).txc + m = (s.link.vcs.get v).txc
          ∧ (t.link.vcs.get v).txSeq % 65536 = ((s.link.vcs.get v).txSeq + m) % 65536
          ∧ (2 ≤ v.val → s.fld F.TRL_STAT_STATE ≠ 7 → n = 0)
          ∧ (v = 3 → (s.fld F.TRL_CFG_SLOT_MAP).testBit slot = false → n = 0)
          ∧ (t.link.vcs.get v).owed ≤ (s.link.vcs.get v).owed
          ∧ (s.link.vcs.get v).owed ≤ (t.link.vcs.get v).owed + 15 * t.link.burst.length
          ∧ ((t.link.vcs.get v).owed + (t.link.vcs.get v).retOut) % 65536 = ((s.link.vcs.get v).owed + (s.link.vcs.get v).retOut) % 65536)
    ∧ (∀ (slot : Fin 16) (lclk : Nat) (ui : Int) (fs : List LinkFrame), (Instr.burstReceived slot lclk ui fs).wf = true → s.linkLive = false →
      exec (.burstReceived slot lclk ui fs) s = .next s)
    ∧ (∀ (slot : Fin 16) (lclk : Nat) (ui : Int) (f : LinkFrame) (late : Bool) (d : Int), (Instr.burstReceived slot lclk ui [f]).wf = true →
      d = 25 * (lclk : Int) - (25 * (slot.val * (s.fld F.PCR_SCHED_TS_LCLK / 16) : Nat) + 2 * (s.link.rxExp : Int)) →
      late = !decide (-1250 ≤ d ∧ d ≤ 1250) → s.fld F.TRL_STAT_STATE = 7 → s.fld F.TRL_ERR_TEC < 96 →
      (frameOk f = false → s.fld F.TRL_ERR_REC + 8 < 96 →
        Completes (.burstReceived slot lclk ui [f]) s fun t =>
          t.fld F.TRL_CNT_CRC_ERR = min 0xFFFF (s.fld F.TRL_CNT_CRC_ERR + 1) ∧ t.fld F.TRL_ERR_REC = s.fld F.TRL_ERR_REC + 8
          ∧ t.link.rx = s.link.rx ∧ t.link.vcs = s.link.vcs
          ∧ (if late = true ∧ s.fld F.TRL_ERR_LATE_RUN = 3 then
              t.fld F.TRL_STAT_STATE = 9 ∧ t.flag F.TRL_STAT_DRIFT = true ∧ s.heard t (Ev.link 3)
            else t.fld F.TRL_STAT_STATE = 7)
          ∧ s.regsBut t ([R.TRL_CNT, R.TRL_ERR, R.TRL_OFS, R.TRL_STAT] ++ eventRegs))
      ∧ (∀ (v : Fin 4) (n : Nat) (a : VcSt), frameOk f = true → frType f.bytes ≠ 0 → frameVc (frType f.bytes) = some v →
        a = s.link.vcs.get v → n = (frSeq f.bytes + 65536 - a.acct % 65536) % 65536 → n < 32768 → s.fld F.TRL_ERR_REC + 8 * n < 96 →
        Completes (.burstReceived slot lclk ui [f]) s fun t => ∀ b, b = t.link.vcs.get v →
          b.acct % 65536 = (a.acct + n + 1) % 65536 ∧ b.txc = a.txc ∧ t.fld F.TRL_ERR_REC = s.fld F.TRL_ERR_REC + 8 * n - 1
          ∧ (if late = true ∧ v ≠ 3 then t.link.rx = s.link.rx ∧ b.owed = a.owed + n + 1 ∧ b.occ = a.occ
            else t.link.rx = s.link.rx ++ [f.bytes] ∧ b.owed = a.owed + n ∧ b.occ = a.occ + 1)
          ∧ (if late = true ∧ s.fld F.TRL_ERR_LATE_RUN = 3 then t.fld F.TRL_STAT_STATE = 9 else t.fld F.TRL_STAT_STATE = 7)
          ∧ s.regsBut t ([R.TRL_CNT, R.TRL_ERR, R.TRL_OFS, R.TRL_STAT] ++ eventRegs))
      ∧ (frameOk f = true → frType f.bytes = 0 → s.fld F.TRL_ERR_REC < 96 →
        Completes (.burstReceived slot lclk ui [f]) s fun t =>
          t.link.vcs = s.link.vcs ∧ t.link.rx = (if late then s.link.rx else s.link.rx ++ [f.bytes])
          ∧ t.fld F.TRL_ERR_REC = s.fld F.TRL_ERR_REC - 1 ∧ s.regsBut t ([R.TRL_CNT, R.TRL_ERR, R.TRL_OFS, R.TRL_STAT] ++ eventRegs)))

/-- R338, R339, R348, R350, R354, R355, R363: a command that handles a frame does nothing where none of its TYPE is the oldest of
its channel. NULL returns credits only; DOUBT gives the axes whose records stop; RETRACT discards the records of its range that
are not used, and raises TL_RETRACT; SAFE is a safety demand. A heartbeat that disagrees with STEP_OFS is rejected; one whose
books do not agree sets CRED_ERR and puts the link off with cause AUDIT; else the link goes where the counters put it. R356,
R235, R238, R358, R236: the records of a SHARE frame are kept, in Exact mode but for one whose act step has passed, which sets
TWIN_LATE. A PARTIAL is kept until the sum of its frame is formed. The sum adds, from +0.0 and in the mode's order, what the
state of the link allows, through the last layer's activation; where a lane of either chip is missing the verdict is SOLO. -/
def Obligations.ReceivedFramesAreHandledOnce : Prop :=
  (∀ s : State,
    (∀ x ∈ frameCommands, (¬ ∃ b, frontFrame s x.2 b) → exec x.1 s = .next s)
    ∧ (∀ b, frontFrame s 0 b → Completes .null s fun t => frameDone 0 b s t ∧ t.regs = s.regs)
    ∧ (∀ b, frontFrame s 2 b →
      Completes .doubt s fun t => frameDone 2 b s t ∧ t.link.peerDoubt = leAt b 12 1 ∧ t.link.recs = s.link.recs ∧ t.regs = s.regs)
    ∧ (∀ b, frontFrame s 3 b →
      Completes .retract s fun t =>
        frameDone 3 b s t ∧ s.heard t (Ev.link 4) ∧ s.regsBut t eventRegs
        ∧ t.link.recs = s.link.recs.filter (fun r => r.used || !((leAt b 24 1).testBit r.axis
            && decide (s.localStep (leAt b 12 6) ≤ r.step ∧ r.step ≤ s.localStep (leAt b 18 6)))))
    ∧ (∀ b, frontFrame s 4 b → Completes .safe s fun t => frameDone 4 b s t ∧ demanded 8 s t ∧ s.regsBut t safeRegs)
    ∧ (∀ (b : List Byte) (u : State), frontFrame s 1 b → linkPop 1 s = (some b, u) →
      Completes .heartbeat s fun t =>
        s.regsBut t ([R.TRL_CNT, R.TRL_STEP_OFS_LO, R.TRL_STEP_OFS_HI, R.TRL_OFS] ++ (List.range 4).map (fun v => R.TRL_CRED v) ++ linkRegs s)
        ∧ if s.link.ofsSet = true ∧ (frStep b + 2 ^ 48 - s.stepN) % 2 ^ 48 ≠ s.linkOfs then
            t.fld F.TRL_CNT_CRC_ERR = min 0xFFFF (s.fld F.TRL_CNT_CRC_ERR + 1) ∧ t.link.peerDoubt = s.link.peerDoubt
            ∧ (s.linkLive = true → judged (max (s.fld F.TRL_ERR_TEC) (min 0xFF (s.fld F.TRL_ERR_REC + 8))) u t)
          else
            t.link.ofsSet = true ∧ t.linkOfs = (frStep b + 2 ^ 48 - s.stepN) % 2 ^ 48 ∧ t.link.peerDoubt = leAt b 36 1
            ∧ t.fld F.TRL_ERR_TEC = min 255 (s.fld F.TRL_ERR_TEC + 8 * leAt b 32 1) - leAt b 34 2
            ∧ t.fld F.TRL_OFS_PEER = leAt b 38 2
            ∧ (s.tilesOwned.length + leAt b 48 2 ≠ s.link.tiles.length → t.flag F.TRL_STAT_TILE_ERR = true)
            ∧ if (∀ v : Fin 4, s.bookOk b v = true) then
                (s.linkLive = true → t.fld F.TRL_STAT_STATE =
                  if 192 ≤ max (t.fld F.TRL_ERR_TEC) (t.fld F.TRL_ERR_REC) then 10
                  else if s.fld F.TRL_STAT_STATE = 9 then 9
                  else if 96 ≤ max (t.fld F.TRL_ERR_TEC) (t.fld F.TRL_ERR_REC) then 8 else 7)
              else t.flag F.TRL_STAT_CRED_ERR = true ∧ (s.linkLive = true → t.fld F.TRL_STAT_STATE = 10 ∧ t.fld F.TRL_STAT_CAUSE = 8)))
  ∧ (∀ s : State,
    (∀ b, frontFrame s 0x10 b →
      Completes .share s fun t =>
        frameDone 0x10 b s t ∧ s.regsBut t [R.PCR_DET_STAT]
        ∧ ∀ x y late, x = recordAt s b 12 → y = recordAt s b 36 →
          late = (fun r : ShareRec => s.exact && decide (r.step + 2 * s.K < s.stepN)) →
          t.link.recs = (y.toList ++ x.toList).filter (fun r => !late r) ++ s.link.recs
          ∧ t.flag F.PCR_DET_STAT_TWIN_LATE = (s.flag F.PCR_DET_STAT_TWIN_LATE || (x.toList ++ y.toList).any late))
    ∧ (∀ b, frontFrame s 0x20 b →
      Completes .partialFrame s fun t =>
        frameDone 0x20 b s t ∧ t.regs = s.regs
        ∧ t.link.parts = if s.link.redDone then s.link.parts
          else s.link.parts ++ [⟨1 - s.roleBit, leAt b 12 1, leAt b 13 1,
            (List.range (min 11 (leAt b 14 2))).map (fun j => word (leAt b (16 + 4 * j) 4))⟩])
    ∧ ((s.link.redWait = false ∨ s.prgLast = none) → exec .reductionSum s = .next s)
    ∧ (∀ l, s.link.redWait = true → s.prgLast = some l →
      Completes .reductionSum s fun t =>
        (∃ solo out, t.field.prgRes = some (solo, out) ∧ out.length = l.outW
          ∧ (∀ c < l.outW, out[c]? = some (activate l (s.netLut l.net (l.act / 4 % 8))
              ((s.partsOrder.filterMap (fun p => p.at c)).foldl fpAdd 0) none))
          ∧ (solo = true ↔ ∃ c < l.outW, s.partsFull c = false)
          ∧ t.flag F.PCR_DET_STAT_SOLO_SUM = (s.flag F.PCR_DET_STAT_SOLO_SUM || solo))
        ∧ t.link.parts = [] ∧ t.link.redWait = false ∧ t.link.redDone = true ∧ s.regsBut t [R.PCR_DET_STAT]))

/-- R359, R360, R207: a GO on a bulk descriptor is refused with RANGE or LINK, else it waits for its tokens; it ends with TIMEOUT
where its time passes, and with the peer's answer to its cutting message. A cutting message for a set whose copy is locked or
pending is answered LOCKED and changes nothing; else its bytes are kept, and the last one asks for the swap. R361, R362, R363: an
eviction keeps its tile in EVICTING until its silo write has ended and EVN_ACK has arrived; a LOAD takes a tile back from the
silo with its generation counted. RTF_REQ is served from the granary, from the eviction buffer with FINAL, or with TILE_ABSENT. A
borrower installs non-FINAL data as VALID; FINAL data and TILE_ABSENT only end the request. EVN makes a copy STALE and is
acknowledged. -/
def Obligations.CuttingMessagesAndTiles : Prop :=
  (∀ s : State,
    (∀ (p : Fin 2) (i : Fin 8) (v : Word), s.takes p (R.TRL_BULK_CTRL i) (v ||| 1#32) = true →
      Completes (.bulkGo p i v) s fun t =>
        (if s.fld (F.TRL_BULK_STAT_STATE i) = 1 ∨ s.fld (F.TRL_BULK_STAT_STATE i) = 2 then t.regs = s.regs ∧ t.trn = s.trn
         else if s.bulkRange i = true then
          t.fld (F.TRL_BULK_STAT_STATE i) = 4 ∧ t.fld (F.TRL_BULK_STAT_RESULT i) = 11 ∧ t.trn = s.trn
         else if s.linkLive = false then
          t.fld (F.TRL_BULK_STAT_STATE i) = 4 ∧ t.fld (F.TRL_BULK_STAT_RESULT i) = 7 ∧ t.trn = s.trn
         else t.fld (F.TRL_BULK_STAT_STATE i) = 1 ∧ t.trn.queue = s.trn.queue ++ [⟨.bulk i, 4, s.fld F.TRN_COST_TL_BULK, 0⟩])
        ∧ s.regsBut t [R.TRL_BULK_STAT i])
    ∧ (∀ i : Fin 8, if s.fld (F.TRL_BULK_STAT_STATE i) ≠ 2 then exec (.bulkTimeout i) s = .next s
      else Completes (.bulkTimeout i) s fun t =>
        (noRouteTo s i → t.fld (F.TRL_BULK_STAT_STATE i) = 4 ∧ t.fld (F.TRL_BULK_STAT_RESULT i) = 6 ∧ t.trnHas (.bulk i) = false)
        ∧ (∀ f ∈ t.link.fetches, f.desc ≠ i.val) ∧ s.heard t (Ev.link 6) ∧ s.regsBut t (R.TRL_BULK_STAT i :: eventRegs))
    ∧ (∀ b, frontFrame s 0x33 b →
      Completes .cutStat s fun t => frameDone 0x33 b s t ∧
        match (List.range 8).find? (fun i => s.fld (F.TRL_BULK_STAT_STATE i) == 2 && s.fld (F.TRL_BULK_CFG_KIND i) == 0
            && s.fld (F.TRL_BULK_CFG_CSET i) == leAt b 12 1) with
        | none => t.regs = s.regs
        | some i => s.heard t (Ev.link 6) ∧ s.regsBut t (R.TRL_BULK_STAT i :: eventRegs)
          ∧ (noRouteTo s i → t.fld (F.TRL_BULK_STAT_RESULT i) = leAt b 13 1 % 16 ∧ t.trnHas (.bulk i) = false
            ∧ t.fld (F.TRL_BULK_STAT_STATE i) = if leAt b 13 1 % 16 = 1 then 3 else 4))
    ∧ (∀ b c, frontFrame s 0x30 b → c = leAt b 12 1 % 32 →
      Completes .cutBegin s fun t => frameDone 0x30 b s t ∧
        if s.cutClosed c = true then
          t.link.cut = s.link.cut ∧ t.link.txq.get 3 = s.link.txq.get 3 ++ queuedFrame s 0x33 true true [BitVec.ofNat 8 c, 2#8] ∧ t.regs = s.regs
        else
          t.link.cut = some ⟨c, leAt b 16 4, []⟩ ∧ t.fld (F.FLD_CSET_CRC_CRC c) = leAt b 20 4
          ∧ (∀ k < min 4 (leAt b 13 1), (∀ j < min 4 (leAt b 13 1), j ≠ k → leAt b (32 + 6 * j) 2 % 64 ≠ leAt b (32 + 6 * k) 2 % 64) →
              t.fld (F.SAF_TPSIG_STAGE_SIG (leAt b (32 + 6 * k) 2 % 64)) = leAt b (34 + 6 * k) 4)
          ∧ (s.exact = true → t.fld (F.FLD_CSET_STEP_LO_STEP_LO c) + 2 ^ 32 * t.fld (F.FLD_CSET_STEP_HI_STEP_HI c) = s.localStep (leAt b 24 6))
          ∧ s.regsBut t ([R.FLD_CSET_CRC c, R.FLD_CSET_STEP_LO c, R.FLD_CSET_STEP_HI c] ++ (List.range 64).map (fun n => R.SAF_TPSIG_STAGE n)))
    ∧ (∀ b, frontFrame s 0x31 b →
      Completes .cutData s fun t => frameDone 0x31 b s t ∧
        match s.link.cut with
        | none => t.regs = s.regs ∧ t.gran = s.gran ∧ t.plots = s.plots ∧ t.link.txq.get 3 = s.link.txq.get 3
        | some m =>
          if s.cutClosed m.cset = true then
            t.link.cut = none ∧ t.link.txq.get 3 = s.link.txq.get 3 ++ queuedFrame s 0x33 true true [BitVec.ofNat 8 m.cset, 2#8]
            ∧ t.regs = s.regs ∧ t.gran = s.gran ∧ t.plots = s.plots
          else ∀ bs, bs = ((b.drop 12).take 48).take (m.total - m.buf.length) →
            (frLast b = false → t.link.cut = some { m with buf := m.buf ++ bs } ∧ t.regs = s.regs)
            ∧ (frLast b = true → t.link.cut = none
              ∧ (m.cset < 32 → t.flag (F.FLD_CSET_CTRL_LOCK m.cset) = true ∧ t.flag (F.FLD_CSET_CTRL_TWIN m.cset) = true
                ∧ t.field.csetChk = s.field.csetChk ++ [m.cset])
              ∧ s.regsBut t [R.FLD_CSET_CTRL m.cset, R.FLD_GRN_ECC, R.FLD_GRN_ERR, R.FLD_STAT])
            ∧ (∀ (e : CutEntry) (l : Layer), s.csetEntries m.cset = [e] → s.cutLayer e = some l → s.cutExpands e = false →
              m.buf.length + bs.length ≤ e.bytes → ∀ k, k = e.copy (!s.flag (F.FLD_CSET_CTRL_ALT e.cset)) + m.buf.length →
              if l.granary then
                memRead t.gran k bs.length = bs ∧ sameOutside s.gran t.gran (e.copy (!s.flag (F.FLD_CSET_CTRL_ALT e.cset))) (m.buf.length + bs.length)
                ∧ t.plots = s.plots
              else ∀ j, j = 0x40000 * s.netPlot e.tenant e.net + k → memRead t.plots j bs.length = bs ∧ t.gran = s.gran)))
  ∧ (∀ s : State,
    (∀ (p : Fin 2) (v : Word) (op n : Nat), s.takes p R.TRL_TILE_CMD v = true → op = fieldGet v 30 2 → n = fieldGet v 0 16 →
      Completes (.tileCmd p v) s fun t =>
        match s.tileMine n with
        | none => t.regs = s.regs ∧ t.link = s.link ∧ t.gran = s.gran
        | some (k, e) =>
          if op = 1 ∧ s.tileState k = 1 ∧ s.link.evict = none then
            t.tileState k = 2 ∧ t.gran = s.gran
            ∧ t.link.evict = some ⟨k, false, !s.linkLive, zeroWords (wordsIn s.field.grnUE e.gran 4096) e.gran (memRead s.gran e.gran 4096)⟩
            ∧ t.link.txq.get 3 = s.link.txq.get 3
                ++ queuedFrame s 0x36 true true (leBytes 2 e.tile ++ leBytes 2 (s.fld (F.TRL_TILE_ST_GEN k)) ++ leBytes 1 0)
          else if op = 2 ∧ s.tileState k = 3 then
            t.tileState k = 1 ∧ t.fld (F.TRL_TILE_ST_GEN k) = (s.fld (F.TRL_TILE_ST_GEN k) + 1) % 65536
            ∧ memRead t.gran e.gran 4096 = memRead s.silo e.silo 4096 ∧ sameOutside s.gran t.gran e.gran 4096 ∧ t.silo = s.silo
          else t.regs = s.regs ∧ t.link = s.link ∧ t.gran = s.gran)
    ∧ (match s.link.evict with
      | none => exec .evictionSiloWriteEnd s = .next s
      | some v => ∀ k, k = ((s.link.tiles[v.idx]?).map (fun e => e.silo)).getD 0 →
        Completes .evictionSiloWriteEnd s fun t =>
          memRead t.silo k v.buf.length = v.buf ∧ sameOutside s.silo t.silo k v.buf.length
          ∧ if v.acked then t.link.evict = none ∧ t.tileState v.idx = 3 else t.link.evict = some { v with wrote := true } ∧ t.regs = s.regs)
    ∧ (∀ b, frontFrame s 0x37 b →
      Completes .evnAck s fun t => frameDone 0x37 b s t ∧
        match s.link.evict with
        | none => t.link.evict = none ∧ t.regs = s.regs
        | some v =>
          if (s.link.tiles[v.idx]?).any (fun e => e.tile == leAt b 12 2) = true then
            if v.wrote then t.link.evict = none ∧ t.tileState v.idx = 3 else t.link.evict = some { v with acked := true } ∧ t.regs = s.regs
          else v.wrote = false ∨ v.acked = false → t.link.evict = some v ∧ t.regs = s.regs)
    ∧ (∀ b, frontFrame s 0x34 b →
      Completes .rtfReq s fun t => frameDone 0x34 b s t ∧
        match s.tileMine (leAt b 12 2) with
        | none => t.link.txq.get 3 = s.link.txq.get 3 ∧ t.regs = s.regs
        | some (k, e) => ∃ new : List TxFrame, t.link.txq.get 3 = s.link.txq.get 3 ++ new ∧ s.regsBut t [R.FLD_GRN_ECC, R.FLD_GRN_ERR, R.FLD_STAT]
          ∧ t.gran = s.gran ∧ (s.linkLive = false → new = [])
          ∧ ∀ bs, bs = (if s.tileState k = 1 then zeroWords (wordsIn s.field.grnUE e.gran 4096) e.gran (memRead s.gran e.gran 4096)
              else (s.link.evict.map (fun v => v.buf)).getD []) →
            s.linkLive = true →
            if s.tileState k = 1 ∨ s.tileState k = 2 then
              new.length = (bs.length + 39) / 40
              ∧ ∀ j < new.length, ∃ f, new[j]? = some f ∧ f.typ = 0x35 ∧ f.last = decide (j + 1 = new.length)
                ∧ f.pay = ((leBytes 2 (leAt b 12 2) ++ leBytes 2 (s.fld (F.TRL_TILE_ST_GEN k)) ++ leBytes 2 (40 * j)
                    ++ [if s.tileState k = 2 then 1#8 else 0#8] ++ leBytes 1 (leAt b 14 1) ++ (bs.drop (40 * j)).take 40)
                    ++ List.replicate 48 0#8).take 48
            else new = queuedFrame s 0x38 true true
              (leBytes 2 (leAt b 12 2) ++ leBytes 2 (s.fld (F.TRL_TILE_ST_GEN k)) ++ leBytes 1 (leAt b 14 1)))
    ∧ (∀ b, frontFrame s 0x35 b →
      Completes .tileData s fun t => frameDone 0x35 b s t ∧
        match s.link.fetches.find? (fun f => f.id == leAt b 19 1 && f.tile == leAt b 12 2), s.tileOf (leAt b 12 2) with
        | some f, some (k, e) => ∀ off bs, off = leAt b 16 2 → bs = ((b.drop 20).take 40).take (4096 - off) →
            memRead t.gran (e.gran + off) bs.length = bs ∧ sameOutside s.gran t.gran (e.gran + off) bs.length
            ∧ (frLast b = false → t.regs = s.regs ∧ t.link.fetches = s.link.fetches)
            ∧ (frLast b = true → (∀ g ∈ t.link.fetches, g.desc ≠ f.desc) ∧ s.heard t (Ev.link 6)
              ∧ (f.desc < 8 → t.tileState k = (if (leAt b 18 1).testBit 0 then s.tileState k else 8)
                ∧ ((leAt b 18 1).testBit 0 = false → t.fld (F.TRL_TILE_ST_GEN k) = leAt b 14 2)
                ∧ (noRouteTo s f.desc → t.fld (F.TRL_BULK_STAT_STATE f.desc) = 3)))
        | _, _ => t.regs = s.regs ∧ t.gran = s.gran ∧ t.link.fetches = s.link.fetches)
    ∧ (∀ b, frontFrame s 0x36 b →
      Completes .evn s fun t => frameDone 0x36 b s t ∧
        match s.tileOf (leAt b 12 2) with
        | none => t.regs = s.regs ∧ t.link.txq.get 3 = s.link.txq.get 3
        | some (k, e) =>
          if e.owner = s.roleBit then t.regs = s.regs ∧ t.link.txq.get 3 = s.link.txq.get 3
          else t.tileState k = (if s.tileState k = 8 then 9 else s.tileState k) ∧ s.regsBut t [R.TRL_TILE_ST k]
            ∧ t.link.txq.get 3 = s.link.txq.get 3
                ++ queuedFrame s 0x37 true true (leBytes 2 (leAt b 12 2) ++ leBytes 2 (leAt b 14 2) ++ leBytes 1 0))
    ∧ (∀ b, frontFrame s 0x38 b →
      Completes .tileAbsent s fun t => frameDone 0x38 b s t ∧
        match s.link.fetches.find? (fun f => f.id == leAt b 16 1 && f.tile == leAt b 12 2) with
        | none => t.regs = s.regs ∧ t.link.fetches = s.link.fetches
        | some f => (∀ g ∈ t.link.fetches, g.desc ≠ f.desc) ∧ s.heard t (Ev.link 6)
          ∧ (f.desc < 8 → noRouteTo s f.desc → t.fld (F.TRL_BULK_STAT_STATE f.desc) = 4 ∧ t.fld (F.TRL_BULK_STAT_RESULT f.desc) = 9)))
end

