-- ==== Sys2Proof/Laws/Maps.lean ====
section
/-! SUPPORT. Laws of the sparse maps and of the byte memories: what a write leaves to read, and that every write keeps the
canonical form. -/

namespace Sys2Proof.Machine

variable {α : Type}

theorem SMap.drop_cons (e : Nat × α) (r : SMap α) (k : Nat) :
    SMap.drop (e :: r) k = if e.1 = k then SMap.drop r k else e :: SMap.drop r k := by
  by_cases h : e.1 = k <;> simp [SMap.drop, h]

theorem SMap.get_drop_same (d : α) (m : SMap α) (k : Nat) : SMap.get d (SMap.drop m k) k = d := by
  induction m with
  | nil => rfl
  | cons e r ih =>
    rw [SMap.drop_cons]
    split <;> simp_all [SMap.get]

theorem SMap.get_drop_other (d : α) (m : SMap α) {k j : Nat} (h : j ≠ k) :
    SMap.get d (SMap.drop m k) j = SMap.get d m j := by
  induction m with
  | nil => rfl
  | cons e r ih =>
    rw [SMap.drop_cons]
    split
    · rename_i hk; simp [SMap.get, ih, hk, Ne.symm h]
    · simp [SMap.get, ih]

theorem SMap.get_insert_other (d v : α) (m : SMap α) {k j : Nat} (h : j ≠ k) :
    SMap.get d (SMap.insert k v m) j = SMap.get d m j := by
  induction m with
  | nil => simp [SMap.insert, SMap.get, Ne.symm h]
  | cons e r ih =>
    unfold SMap.insert
    split
    · simp [SMap.get, Ne.symm h]
    · simp [SMap.get, ih]

theorem SMap.get_insert_drop (d v : α) (m : SMap α) (k : Nat) :
    SMap.get d (SMap.insert k v (SMap.drop m k)) k = v := by
  induction m with
  | nil => simp [SMap.drop, SMap.insert, SMap.get]
  | cons e r ih =>
    rw [SMap.drop_cons]
    split
    · exact ih
    · rename_i hk
      unfold SMap.insert
      split
      · simp [SMap.get]
      · simpa [SMap.get, hk] using ih

theorem SMap.mem_insert {k : Nat} {v : α} {m : SMap α} {e : Nat × α} (h : e ∈ SMap.insert k v m) : e = (k, v) ∨ e ∈ m := by
  induction m with
  | nil => simpa [SMap.insert] using h
  | cons x r ih =>
    unfold SMap.insert at h
    split at h
    · simpa using h
    · rcases List.mem_cons.1 h with h | h
      · exact .inr (by simp [h])
      · rcases ih h with h | h
        · exact .inl h
        · exact .inr (by simp [h])

theorem SMap.insert_rising {k : Nat} {v : α} {m : SMap α} (hm : m.Pairwise (fun a b => a.1 < b.1))
    (hk : ∀ e ∈ m, e.1 ≠ k) : (SMap.insert k v m).Pairwise (fun a b => a.1 < b.1) := by
  induction m with
  | nil => simp [SMap.insert]
  | cons x r ih =>
    have hx := List.pairwise_cons.1 hm
    unfold SMap.insert
    split
    · rename_i h
      refine List.pairwise_cons.2 ⟨fun e he => ?_, hm⟩
      rcases List.mem_cons.1 he with rfl | he
      · exact h
      · exact lt_trans h (hx.1 e he)
    · rename_i h
      refine List.pairwise_cons.2 ⟨fun e he => ?_, ih hx.2 (fun e he => hk e (by simp [he]))⟩
      rcases SMap.mem_insert he with rfl | he
      · exact lt_of_le_of_ne (not_lt.1 h) (hk x (by simp))
      · exact hx.1 e he

variable [DecidableEq α]

/-- Read after write. -/
theorem SMap.get_put (d v : α) (m : SMap α) (k j : Nat) :
    SMap.get d (SMap.put d m k v) j = if j = k then v else SMap.get d m j := by
  unfold SMap.put
  by_cases h : j = k
  · subst h
    by_cases hv : v = d
    · simp [hv, SMap.get_drop_same]
    · simp [hv, SMap.get_insert_drop]
  · by_cases hv : v = d
    · simp [hv, h, SMap.get_drop_other]
    · simp [hv, h, SMap.get_insert_other, SMap.get_drop_other]

/-- A read of another key than the one written, whatever each reads as by default. -/
theorem SMap.get_put_other (d d' v : α) (m : SMap α) {k j : Nat} (h : j ≠ k) :
    SMap.get d (SMap.put d' m k v) j = SMap.get d m j := by
  unfold SMap.put
  by_cases hv : v = d' <;> simp [hv, h, SMap.get_insert_other, SMap.get_drop_other]

/-- What a write leaves in the list: the entry written, and entries that were there. -/
theorem SMap.mem_put {d v : α} {m : SMap α} {k : Nat} {e : Nat × α} (h : e ∈ SMap.put d m k v) : e = (k, v) ∨ e ∈ m := by
  unfold SMap.put at h
  split at h
  · exact .inr (List.mem_filter.1 h).1
  · rcases SMap.mem_insert h with rfl | h
    · exact .inl rfl
    · exact .inr (List.mem_filter.1 h).1

/-! ## The canonical form -/

/-- The canonical form as a proposition. -/
def SMap.Canon (d : Nat → α) (m : SMap α) : Prop := m.Pairwise (fun a b => a.1 < b.1) ∧ ∀ e ∈ m, e.2 ≠ d e.1

theorem SMap.wf_iff (d : Nat → α) (m : SMap α) : SMap.wf d m = true ↔ SMap.Canon d m := by
  simp [SMap.wf, SMap.Canon, List.all_eq_true]

theorem SMap.wf_nil (d : Nat → α) : SMap.wf d [] = true := by simp [SMap.wf]

/-- Every write keeps the canonical form. -/
theorem SMap.wf_put {d : Nat → α} {m : SMap α} (h : SMap.wf d m = true) (k : Nat) (v : α) :
    SMap.wf d (SMap.put (d k) m k v) = true := by
  rw [SMap.wf_iff] at h ⊢
  have hd : SMap.Canon d (SMap.drop m k) :=
    ⟨h.1.filter _, fun e he => h.2 e (List.mem_filter.1 he).1⟩
  unfold SMap.put
  split
  · exact hd
  · rename_i hv
    refine ⟨SMap.insert_rising hd.1 (fun e he => by simpa using (List.mem_filter.1 he).2), fun e he => ?_⟩
    rcases SMap.mem_insert he with rfl | he
    · exact hv
    · exact hd.2 e he

/-! ## Byte memories -/

theorem memGet_memPut (m : SMap Byte) (k j : Nat) (b : Byte) :
    memGet (memPut m k b) j = if j = k then b else memGet m j := SMap.get_put 0#8 b m k j

/-- The canonical form of a byte memory: a byte nothing has written reads as 0. -/
theorem memWrite_wf {m : SMap Byte} (h : SMap.wf (fun _ => 0#8) m = true) (k : Nat) (bs : List Byte) :
    SMap.wf (fun _ => 0#8) (memWrite m k bs) = true := by
  induction bs generalizing m k with
  | nil => exact h
  | cons b r ih => exact ih (SMap.wf_put (d := fun _ => 0#8) h k b) (k + 1)

/-- Bytes outside those written read as before. -/
theorem memGet_memWrite_other (m : SMap Byte) (k : Nat) (bs : List Byte) {j : Nat} (h : j < k ∨ k + bs.length ≤ j) :
    memGet (memWrite m k bs) j = memGet m j := by
  induction bs generalizing m k with
  | nil => rfl
  | cons b r ih =>
    simp only [List.length_cons] at h
    have := ih (memPut m k b) (k + 1) (by omega)
    simp only [memWrite, this, memGet_memPut]
    rw [if_neg (by omega)]

/-- Byte `i` of those written reads back. -/
theorem memGet_memWrite_same (m : SMap Byte) (k : Nat) (bs : List Byte) {i : Nat} (h : i < bs.length) :
    memGet (memWrite m k bs) (k + i) = bs[i] := by
  induction bs generalizing m k i with
  | nil => simp at h
  | cons b r ih =>
    cases i with
    | zero => simp [memWrite, memGet_memWrite_other, memGet_memPut]
    | succ i =>
      have := ih (memPut m k b) (k + 1) (i := i) (by simpa using h)
      simpa [memWrite, Nat.add_assoc, Nat.add_comm 1 i] using this

end Sys2Proof.Machine
end

