-- ==== Sys2Proof/Laws/State.lean ====
section
/-! SUPPORT. One lemma per field and per update of the state: what each named update leaves as it was, and what it makes of
its own field. -/

namespace Sys2Proof.Machine

@[simp] theorem Quad.get_set {α : Type} (q : Quad α) (a b : Fin 4) (v : α) :
    (q.set a v).get b = if b = a then v else q.get b := by
  fin_cases a <;> fin_cases b <;> rfl

@[simp] theorem Pair.get_set {α : Type} (q : Pair α) (a b : Fin 2) (v : α) :
    (q.set a v).get b = if b = a then v else q.get b := by
  fin_cases a <;> fin_cases b <;> rfl

@[simp] theorem Quad.get_all {α : Type} (v : α) (a : Fin 4) : (Quad.all v).get a = v := by
  fin_cases a <;> rfl

variable (s : State)

/-! ## setReg -/

@[simp] theorem State.setReg_regs (k : Nat) (w : Word) : (s.setReg k w).regs = SMap.put (resetWord k) s.regs k w := rfl
@[simp] theorem State.setReg_step (k : Nat) (w : Word) : (s.setReg k w).step = s.step := rfl
@[simp] theorem State.setReg_armed (k : Nat) (w : Word) : (s.setReg k w).armed = s.armed := rfl
@[simp] theorem State.setReg_pwm (k : Nat) (w : Word) : (s.setReg k w).pwm = s.pwm := rfl
@[simp] theorem State.setReg_sense (k : Nat) (w : Word) : (s.setReg k w).sense = s.sense := rfl
@[simp] theorem State.setReg_head (k : Nat) (w : Word) : (s.setReg k w).head = s.head := rfl
@[simp] theorem State.setReg_loop (k : Nat) (w : Word) : (s.setReg k w).loop = s.loop := rfl
@[simp] theorem State.setReg_obs (k : Nat) (w : Word) : (s.setReg k w).obs = s.obs := rfl
@[simp] theorem State.setReg_routes (k : Nat) (w : Word) : (s.setReg k w).routes = s.routes := rfl
@[simp] theorem State.setReg_tasks (k : Nat) (w : Word) : (s.setReg k w).tasks = s.tasks := rfl
@[simp] theorem State.setReg_que (k : Nat) (w : Word) : (s.setReg k w).que = s.que := rfl
@[simp] theorem State.setReg_ports (k : Nat) (w : Word) : (s.setReg k w).ports = s.ports := rfl
@[simp] theorem State.setReg_saf (k : Nat) (w : Word) : (s.setReg k w).saf = s.saf := rfl
@[simp] theorem State.setReg_scw (k : Nat) (w : Word) : (s.setReg k w).scw = s.scw := rfl
@[simp] theorem State.setReg_fuses (k : Nat) (w : Word) : (s.setReg k w).fuses = s.fuses := rfl
@[simp] theorem State.setReg_pow (k : Nat) (w : Word) : (s.setReg k w).pow = s.pow := rfl
@[simp] theorem State.setReg_trn (k : Nat) (w : Word) : (s.setReg k w).trn = s.trn := rfl
@[simp] theorem State.setReg_field (k : Nat) (w : Word) : (s.setReg k w).field = s.field := rfl
@[simp] theorem State.setReg_ldr (k : Nat) (w : Word) : (s.setReg k w).ldr = s.ldr := rfl
@[simp] theorem State.setReg_hrw (k : Nat) (w : Word) : (s.setReg k w).hrw = s.hrw := rfl
@[simp] theorem State.setReg_rot (k : Nat) (w : Word) : (s.setReg k w).rot = s.rot := rfl
@[simp] theorem State.setReg_det (k : Nat) (w : Word) : (s.setReg k w).det = s.det := rfl
@[simp] theorem State.setReg_aux (k : Nat) (w : Word) : (s.setReg k w).aux = s.aux := rfl
@[simp] theorem State.setReg_link (k : Nat) (w : Word) : (s.setReg k w).link = s.link := rfl
@[simp] theorem State.setReg_gran (k : Nat) (w : Word) : (s.setReg k w).gran = s.gran := rfl
@[simp] theorem State.setReg_plots (k : Nat) (w : Word) : (s.setReg k w).plots = s.plots := rfl
@[simp] theorem State.setReg_silo (k : Nat) (w : Word) : (s.setReg k w).silo = s.silo := rfl
@[simp] theorem State.setReg_freeIdx (k : Nat) (w : Word) : (s.setReg k w).freeIdx = s.freeIdx := rfl
@[simp] theorem State.setReg_pending (k : Nat) (w : Word) : (s.setReg k w).pending = s.pending := rfl

/-! ## setFld -/

@[simp] theorem State.setFld_step (f : Fld) (v : Nat) : (s.setFld f v).step = s.step := rfl
@[simp] theorem State.setFld_armed (f : Fld) (v : Nat) : (s.setFld f v).armed = s.armed := rfl
@[simp] theorem State.setFld_pwm (f : Fld) (v : Nat) : (s.setFld f v).pwm = s.pwm := rfl
@[simp] theorem State.setFld_sense (f : Fld) (v : Nat) : (s.setFld f v).sense = s.sense := rfl
@[simp] theorem State.setFld_head (f : Fld) (v : Nat) : (s.setFld f v).head = s.head := rfl
@[simp] theorem State.setFld_loop (f : Fld) (v : Nat) : (s.setFld f v).loop = s.loop := rfl
@[simp] theorem State.setFld_obs (f : Fld) (v : Nat) : (s.setFld f v).obs = s.obs := rfl
@[simp] theorem State.setFld_routes (f : Fld) (v : Nat) : (s.setFld f v).routes = s.routes := rfl
@[simp] theorem State.setFld_tasks (f : Fld) (v : Nat) : (s.setFld f v).tasks = s.tasks := rfl
@[simp] theorem State.setFld_que (f : Fld) (v : Nat) : (s.setFld f v).que = s.que := rfl
@[simp] theorem State.setFld_ports (f : Fld) (v : Nat) : (s.setFld f v).ports = s.ports := rfl
@[simp] theorem State.setFld_saf (f : Fld) (v : Nat) : (s.setFld f v).saf = s.saf := rfl
@[simp] theorem State.setFld_scw (f : Fld) (v : Nat) : (s.setFld f v).scw = s.scw := rfl
@[simp] theorem State.setFld_fuses (f : Fld) (v : Nat) : (s.setFld f v).fuses = s.fuses := rfl
@[simp] theorem State.setFld_pow (f : Fld) (v : Nat) : (s.setFld f v).pow = s.pow := rfl
@[simp] theorem State.setFld_trn (f : Fld) (v : Nat) : (s.setFld f v).trn = s.trn := rfl
@[simp] theorem State.setFld_field (f : Fld) (v : Nat) : (s.setFld f v).field = s.field := rfl
@[simp] theorem State.setFld_ldr (f : Fld) (v : Nat) : (s.setFld f v).ldr = s.ldr := rfl
@[simp] theorem State.setFld_hrw (f : Fld) (v : Nat) : (s.setFld f v).hrw = s.hrw := rfl
@[simp] theorem State.setFld_rot (f : Fld) (v : Nat) : (s.setFld f v).rot = s.rot := rfl
@[simp] theorem State.setFld_det (f : Fld) (v : Nat) : (s.setFld f v).det = s.det := rfl
@[simp] theorem State.setFld_aux (f : Fld) (v : Nat) : (s.setFld f v).aux = s.aux := rfl
@[simp] theorem State.setFld_link (f : Fld) (v : Nat) : (s.setFld f v).link = s.link := rfl
@[simp] theorem State.setFld_gran (f : Fld) (v : Nat) : (s.setFld f v).gran = s.gran := rfl
@[simp] theorem State.setFld_plots (f : Fld) (v : Nat) : (s.setFld f v).plots = s.plots := rfl
@[simp] theorem State.setFld_silo (f : Fld) (v : Nat) : (s.setFld f v).silo = s.silo := rfl
@[simp] theorem State.setFld_freeIdx (f : Fld) (v : Nat) : (s.setFld f v).freeIdx = s.freeIdx := rfl
@[simp] theorem State.setFld_pending (f : Fld) (v : Nat) : (s.setFld f v).pending = s.pending := rfl

/-! ## setFlag -/

@[simp] theorem State.setFlag_step (f : Fld) (b : Bool) : (s.setFlag f b).step = s.step := rfl
@[simp] theorem State.setFlag_armed (f : Fld) (b : Bool) : (s.setFlag f b).armed = s.armed := rfl
@[simp] theorem State.setFlag_pwm (f : Fld) (b : Bool) : (s.setFlag f b).pwm = s.pwm := rfl
@[simp] theorem State.setFlag_sense (f : Fld) (b : Bool) : (s.setFlag f b).sense = s.sense := rfl
@[simp] theorem State.setFlag_head (f : Fld) (b : Bool) : (s.setFlag f b).head = s.head := rfl
@[simp] theorem State.setFlag_loop (f : Fld) (b : Bool) : (s.setFlag f b).loop = s.loop := rfl
@[simp] theorem State.setFlag_obs (f : Fld) (b : Bool) : (s.setFlag f b).obs = s.obs := rfl
@[simp] theorem State.setFlag_routes (f : Fld) (b : Bool) : (s.setFlag f b).routes = s.routes := rfl
@[simp] theorem State.setFlag_tasks (f : Fld) (b : Bool) : (s.setFlag f b).tasks = s.tasks := rfl
@[simp] theorem State.setFlag_que (f : Fld) (b : Bool) : (s.setFlag f b).que = s.que := rfl
@[simp] theorem State.setFlag_ports (f : Fld) (b : Bool) : (s.setFlag f b).ports = s.ports := rfl
@[simp] theorem State.setFlag_saf (f : Fld) (b : Bool) : (s.setFlag f b).saf = s.saf := rfl
@[simp] theorem State.setFlag_scw (f : Fld) (b : Bool) : (s.setFlag f b).scw = s.scw := rfl
@[simp] theorem State.setFlag_fuses (f : Fld) (b : Bool) : (s.setFlag f b).fuses = s.fuses := rfl
@[simp] theorem State.setFlag_pow (f : Fld) (b : Bool) : (s.setFlag f b).pow = s.pow := rfl
@[simp] theorem State.setFlag_trn (f : Fld) (b : Bool) : (s.setFlag f b).trn = s.trn := rfl
@[simp] theorem State.setFlag_field (f : Fld) (b : Bool) : (s.setFlag f b).field = s.field := rfl
@[simp] theorem State.setFlag_ldr (f : Fld) (b : Bool) : (s.setFlag f b).ldr = s.ldr := rfl
@[simp] theorem State.setFlag_hrw (f : Fld) (b : Bool) : (s.setFlag f b).hrw = s.hrw := rfl
@[simp] theorem State.setFlag_rot (f : Fld) (b : Bool) : (s.setFlag f b).rot = s.rot := rfl
@[simp] theorem State.setFlag_det (f : Fld) (b : Bool) : (s.setFlag f b).det = s.det := rfl
@[simp] theorem State.setFlag_aux (f : Fld) (b : Bool) : (s.setFlag f b).aux = s.aux := rfl
@[simp] theorem State.setFlag_link (f : Fld) (b : Bool) : (s.setFlag f b).link = s.link := rfl
@[simp] theorem State.setFlag_gran (f : Fld) (b : Bool) : (s.setFlag f b).gran = s.gran := rfl
@[simp] theorem State.setFlag_plots (f : Fld) (b : Bool) : (s.setFlag f b).plots = s.plots := rfl
@[simp] theorem State.setFlag_silo (f : Fld) (b : Bool) : (s.setFlag f b).silo = s.silo := rfl
@[simp] theorem State.setFlag_freeIdx (f : Fld) (b : Bool) : (s.setFlag f b).freeIdx = s.freeIdx := rfl
@[simp] theorem State.setFlag_pending (f : Fld) (b : Bool) : (s.setFlag f b).pending = s.pending := rfl

/-! ## setBit -/

@[simp] theorem State.setBit_step (f : Fld) (k : Nat) (b : Bool) : (s.setBit f k b).step = s.step := rfl
@[simp] theorem State.setBit_armed (f : Fld) (k : Nat) (b : Bool) : (s.setBit f k b).armed = s.armed := rfl
@[simp] theorem State.setBit_pwm (f : Fld) (k : Nat) (b : Bool) : (s.setBit f k b).pwm = s.pwm := rfl
@[simp] theorem State.setBit_sense (f : Fld) (k : Nat) (b : Bool) : (s.setBit f k b).sense = s.sense := rfl
@[simp] theorem State.setBit_head (f : Fld) (k : Nat) (b : Bool) : (s.setBit f k b).head = s.head := rfl
@[simp] theorem State.setBit_loop (f : Fld) (k : Nat) (b : Bool) : (s.setBit f k b).loop = s.loop := rfl
@[simp] theorem State.setBit_obs (f : Fld) (k : Nat) (b : Bool) : (s.setBit f k b).obs = s.obs := rfl
@[simp] theorem State.setBit_routes (f : Fld) (k : Nat) (b : Bool) : (s.setBit f k b).routes = s.routes := rfl
@[simp] theorem State.setBit_tasks (f : Fld) (k : Nat) (b : Bool) : (s.setBit f k b).tasks = s.tasks := rfl
@[simp] theorem State.setBit_que (f : Fld) (k : Nat) (b : Bool) : (s.setBit f k b).que = s.que := rfl
@[simp] theorem State.setBit_ports (f : Fld) (k : Nat) (b : Bool) : (s.setBit f k b).ports = s.ports := rfl
@[simp] theorem State.setBit_saf (f : Fld) (k : Nat) (b : Bool) : (s.setBit f k b).saf = s.saf := rfl
@[simp] theorem State.setBit_scw (f : Fld) (k : Nat) (b : Bool) : (s.setBit f k b).scw = s.scw := rfl
@[simp] theorem State.setBit_fuses (f : Fld) (k : Nat) (b : Bool) : (s.setBit f k b).fuses = s.fuses := rfl
@[simp] theorem State.setBit_pow (f : Fld) (k : Nat) (b : Bool) : (s.setBit f k b).pow = s.pow := rfl
@[simp] theorem State.setBit_trn (f : Fld) (k : Nat) (b : Bool) : (s.setBit f k b).trn = s.trn := rfl
@[simp] theorem State.setBit_field (f : Fld) (k : Nat) (b : Bool) : (s.setBit f k b).field = s.field := rfl
@[simp] theorem State.setBit_ldr (f : Fld) (k : Nat) (b : Bool) : (s.setBit f k b).ldr = s.ldr := rfl
@[simp] theorem State.setBit_hrw (f : Fld) (k : Nat) (b : Bool) : (s.setBit f k b).hrw = s.hrw := rfl
@[simp] theorem State.setBit_rot (f : Fld) (k : Nat) (b : Bool) : (s.setBit f k b).rot = s.rot := rfl
@[simp] theorem State.setBit_det (f : Fld) (k : Nat) (b : Bool) : (s.setBit f k b).det = s.det := rfl
@[simp] theorem State.setBit_aux (f : Fld) (k : Nat) (b : Bool) : (s.setBit f k b).aux = s.aux := rfl
@[simp] theorem State.setBit_link (f : Fld) (k : Nat) (b : Bool) : (s.setBit f k b).link = s.link := rfl
@[simp] theorem State.setBit_gran (f : Fld) (k : Nat) (b : Bool) : (s.setBit f k b).gran = s.gran := rfl
@[simp] theorem State.setBit_plots (f : Fld) (k : Nat) (b : Bool) : (s.setBit f k b).plots = s.plots := rfl
@[simp] theorem State.setBit_silo (f : Fld) (k : Nat) (b : Bool) : (s.setBit f k b).silo = s.silo := rfl
@[simp] theorem State.setBit_freeIdx (f : Fld) (k : Nat) (b : Bool) : (s.setBit f k b).freeIdx = s.freeIdx := rfl
@[simp] theorem State.setBit_pending (f : Fld) (k : Nat) (b : Bool) : (s.setBit f k b).pending = s.pending := rfl

/-! ## bump -/

@[simp] theorem State.bump_step (f : Fld) (k : Nat) : (s.bump f k).step = s.step := rfl
@[simp] theorem State.bump_armed (f : Fld) (k : Nat) : (s.bump f k).armed = s.armed := rfl
@[simp] theorem State.bump_pwm (f : Fld) (k : Nat) : (s.bump f k).pwm = s.pwm := rfl
@[simp] theorem State.bump_sense (f : Fld) (k : Nat) : (s.bump f k).sense = s.sense := rfl
@[simp] theorem State.bump_head (f : Fld) (k : Nat) : (s.bump f k).head = s.head := rfl
@[simp] theorem State.bump_loop (f : Fld) (k : Nat) : (s.bump f k).loop = s.loop := rfl
@[simp] theorem State.bump_obs (f : Fld) (k : Nat) : (s.bump f k).obs = s.obs := rfl
@[simp] theorem State.bump_routes (f : Fld) (k : Nat) : (s.bump f k).routes = s.routes := rfl
@[simp] theorem State.bump_tasks (f : Fld) (k : Nat) : (s.bump f k).tasks = s.tasks := rfl
@[simp] theorem State.bump_que (f : Fld) (k : Nat) : (s.bump f k).que = s.que := rfl
@[simp] theorem State.bump_ports (f : Fld) (k : Nat) : (s.bump f k).ports = s.ports := rfl
@[simp] theorem State.bump_saf (f : Fld) (k : Nat) : (s.bump f k).saf = s.saf := rfl
@[simp] theorem State.bump_scw (f : Fld) (k : Nat) : (s.bump f k).scw = s.scw := rfl
@[simp] theorem State.bump_fuses (f : Fld) (k : Nat) : (s.bump f k).fuses = s.fuses := rfl
@[simp] theorem State.bump_pow (f : Fld) (k : Nat) : (s.bump f k).pow = s.pow := rfl
@[simp] theorem State.bump_trn (f : Fld) (k : Nat) : (s.bump f k).trn = s.trn := rfl
@[simp] theorem State.bump_field (f : Fld) (k : Nat) : (s.bump f k).field = s.field := rfl
@[simp] theorem State.bump_ldr (f : Fld) (k : Nat) : (s.bump f k).ldr = s.ldr := rfl
@[simp] theorem State.bump_hrw (f : Fld) (k : Nat) : (s.bump f k).hrw = s.hrw := rfl
@[simp] theorem State.bump_rot (f : Fld) (k : Nat) : (s.bump f k).rot = s.rot := rfl
@[simp] theorem State.bump_det (f : Fld) (k : Nat) : (s.bump f k).det = s.det := rfl
@[simp] theorem State.bump_aux (f : Fld) (k : Nat) : (s.bump f k).aux = s.aux := rfl
@[simp] theorem State.bump_link (f : Fld) (k : Nat) : (s.bump f k).link = s.link := rfl
@[simp] theorem State.bump_gran (f : Fld) (k : Nat) : (s.bump f k).gran = s.gran := rfl
@[simp] theorem State.bump_plots (f : Fld) (k : Nat) : (s.bump f k).plots = s.plots := rfl
@[simp] theorem State.bump_silo (f : Fld) (k : Nat) : (s.bump f k).silo = s.silo := rfl
@[simp] theorem State.bump_freeIdx (f : Fld) (k : Nat) : (s.bump f k).freeIdx = s.freeIdx := rfl
@[simp] theorem State.bump_pending (f : Fld) (k : Nat) : (s.bump f k).pending = s.pending := rfl

/-! ## modPwm -/

@[simp] theorem State.modPwm_regs (a : Fin 4) (g : PwmAx → PwmAx) : (s.modPwm a g).regs = s.regs := rfl
@[simp] theorem State.modPwm_step (a : Fin 4) (g : PwmAx → PwmAx) : (s.modPwm a g).step = s.step := rfl
@[simp] theorem State.modPwm_armed (a : Fin 4) (g : PwmAx → PwmAx) : (s.modPwm a g).armed = s.armed := rfl
@[simp] theorem State.modPwm_pwm (a : Fin 4) (g : PwmAx → PwmAx) : (s.modPwm a g).pwm = s.pwm.set a (g (s.pwm.get a)) := rfl
@[simp] theorem State.modPwm_sense (a : Fin 4) (g : PwmAx → PwmAx) : (s.modPwm a g).sense = s.sense := rfl
@[simp] theorem State.modPwm_head (a : Fin 4) (g : PwmAx → PwmAx) : (s.modPwm a g).head = s.head := rfl
@[simp] theorem State.modPwm_loop (a : Fin 4) (g : PwmAx → PwmAx) : (s.modPwm a g).loop = s.loop := rfl
@[simp] theorem State.modPwm_obs (a : Fin 4) (g : PwmAx → PwmAx) : (s.modPwm a g).obs = s.obs := rfl
@[simp] theorem State.modPwm_routes (a : Fin 4) (g : PwmAx → PwmAx) : (s.modPwm a g).routes = s.routes := rfl
@[simp] theorem State.modPwm_tasks (a : Fin 4) (g : PwmAx → PwmAx) : (s.modPwm a g).tasks = s.tasks := rfl
@[simp] theorem State.modPwm_que (a : Fin 4) (g : PwmAx → PwmAx) : (s.modPwm a g).que = s.que := rfl
@[simp] theorem State.modPwm_ports (a : Fin 4) (g : PwmAx → PwmAx) : (s.modPwm a g).ports = s.ports := rfl
@[simp] theorem State.modPwm_saf (a : Fin 4) (g : PwmAx → PwmAx) : (s.modPwm a g).saf = s.saf := rfl
@[simp] theorem State.modPwm_scw (a : Fin 4) (g : PwmAx → PwmAx) : (s.modPwm a g).scw = s.scw := rfl
@[simp] theorem State.modPwm_fuses (a : Fin 4) (g : PwmAx → PwmAx) : (s.modPwm a g).fuses = s.fuses := rfl
@[simp] theorem State.modPwm_pow (a : Fin 4) (g : PwmAx → PwmAx) : (s.modPwm a g).pow = s.pow := rfl
@[simp] theorem State.modPwm_trn (a : Fin 4) (g : PwmAx → PwmAx) : (s.modPwm a g).trn = s.trn := rfl
@[simp] theorem State.modPwm_field (a : Fin 4) (g : PwmAx → PwmAx) : (s.modPwm a g).field = s.field := rfl
@[simp] theorem State.modPwm_ldr (a : Fin 4) (g : PwmAx → PwmAx) : (s.modPwm a g).ldr = s.ldr := rfl
@[simp] theorem State.modPwm_hrw (a : Fin 4) (g : PwmAx → PwmAx) : (s.modPwm a g).hrw = s.hrw := rfl
@[simp] theorem State.modPwm_rot (a : Fin 4) (g : PwmAx → PwmAx) : (s.modPwm a g).rot = s.rot := rfl
@[simp] theorem State.modPwm_det (a : Fin 4) (g : PwmAx → PwmAx) : (s.modPwm a g).det = s.det := rfl
@[simp] theorem State.modPwm_aux (a : Fin 4) (g : PwmAx → PwmAx) : (s.modPwm a g).aux = s.aux := rfl
@[simp] theorem State.modPwm_link (a : Fin 4) (g : PwmAx → PwmAx) : (s.modPwm a g).link = s.link := rfl
@[simp] theorem State.modPwm_gran (a : Fin 4) (g : PwmAx → PwmAx) : (s.modPwm a g).gran = s.gran := rfl
@[simp] theorem State.modPwm_plots (a : Fin 4) (g : PwmAx → PwmAx) : (s.modPwm a g).plots = s.plots := rfl
@[simp] theorem State.modPwm_silo (a : Fin 4) (g : PwmAx → PwmAx) : (s.modPwm a g).silo = s.silo := rfl
@[simp] theorem State.modPwm_freeIdx (a : Fin 4) (g : PwmAx → PwmAx) : (s.modPwm a g).freeIdx = s.freeIdx := rfl
@[simp] theorem State.modPwm_pending (a : Fin 4) (g : PwmAx → PwmAx) : (s.modPwm a g).pending = s.pending := rfl
@[simp] theorem State.modPwm_reg (a : Fin 4) (g : PwmAx → PwmAx) (j : Nat) : (s.modPwm a g).reg j = s.reg j := rfl
@[simp] theorem State.modPwm_fld (a : Fin 4) (g : PwmAx → PwmAx) (f : Fld) : (s.modPwm a g).fld f = s.fld f := rfl
@[simp] theorem State.modPwm_flag (a : Fin 4) (g : PwmAx → PwmAx) (f : Fld) : (s.modPwm a g).flag f = s.flag f := rfl
@[simp] theorem State.modPwm_bit (a : Fin 4) (g : PwmAx → PwmAx) (f : Fld) (i : Nat) : (s.modPwm a g).bit f i = s.bit f i := rfl

/-! ## modSense -/

@[simp] theorem State.modSense_regs (a : Fin 4) (g : SenseAx → SenseAx) : (s.modSense a g).regs = s.regs := rfl
@[simp] theorem State.modSense_step (a : Fin 4) (g : SenseAx → SenseAx) : (s.modSense a g).step = s.step := rfl
@[simp] theorem State.modSense_armed (a : Fin 4) (g : SenseAx → SenseAx) : (s.modSense a g).armed = s.armed := rfl
@[simp] theorem State.modSense_pwm (a : Fin 4) (g : SenseAx → SenseAx) : (s.modSense a g).pwm = s.pwm := rfl
@[simp] theorem State.modSense_sense (a : Fin 4) (g : SenseAx → SenseAx) : (s.modSense a g).sense = s.sense.set a (g (s.sense.get a)) := rfl
@[simp] theorem State.modSense_head (a : Fin 4) (g : SenseAx → SenseAx) : (s.modSense a g).head = s.head := rfl
@[simp] theorem State.modSense_loop (a : Fin 4) (g : SenseAx → SenseAx) : (s.modSense a g).loop = s.loop := rfl
@[simp] theorem State.modSense_obs (a : Fin 4) (g : SenseAx → SenseAx) : (s.modSense a g).obs = s.obs := rfl
@[simp] theorem State.modSense_routes (a : Fin 4) (g : SenseAx → SenseAx) : (s.modSense a g).routes = s.routes := rfl
@[simp] theorem State.modSense_tasks (a : Fin 4) (g : SenseAx → SenseAx) : (s.modSense a g).tasks = s.tasks := rfl
@[simp] theorem State.modSense_que (a : Fin 4) (g : SenseAx → SenseAx) : (s.modSense a g).que = s.que := rfl
@[simp] theorem State.modSense_ports (a : Fin 4) (g : SenseAx → SenseAx) : (s.modSense a g).ports = s.ports := rfl
@[simp] theorem State.modSense_saf (a : Fin 4) (g : SenseAx → SenseAx) : (s.modSense a g).saf = s.saf := rfl
@[simp] theorem State.modSense_scw (a : Fin 4) (g : SenseAx → SenseAx) : (s.modSense a g).scw = s.scw := rfl
@[simp] theorem State.modSense_fuses (a : Fin 4) (g : SenseAx → SenseAx) : (s.modSense a g).fuses = s.fuses := rfl
@[simp] theorem State.modSense_pow (a : Fin 4) (g : SenseAx → SenseAx) : (s.modSense a g).pow = s.pow := rfl
@[simp] theorem State.modSense_trn (a : Fin 4) (g : SenseAx → SenseAx) : (s.modSense a g).trn = s.trn := rfl
@[simp] theorem State.modSense_field (a : Fin 4) (g : SenseAx → SenseAx) : (s.modSense a g).field = s.field := rfl
@[simp] theorem State.modSense_ldr (a : Fin 4) (g : SenseAx → SenseAx) : (s.modSense a g).ldr = s.ldr := rfl
@[simp] theorem State.modSense_hrw (a : Fin 4) (g : SenseAx → SenseAx) : (s.modSense a g).hrw = s.hrw := rfl
@[simp] theorem State.modSense_rot (a : Fin 4) (g : SenseAx → SenseAx) : (s.modSense a g).rot = s.rot := rfl
@[simp] theorem State.modSense_det (a : Fin 4) (g : SenseAx → SenseAx) : (s.modSense a g).det = s.det := rfl
@[simp] theorem State.modSense_aux (a : Fin 4) (g : SenseAx → SenseAx) : (s.modSense a g).aux = s.aux := rfl
@[simp] theorem State.modSense_link (a : Fin 4) (g : SenseAx → SenseAx) : (s.modSense a g).link = s.link := rfl
@[simp] theorem State.modSense_gran (a : Fin 4) (g : SenseAx → SenseAx) : (s.modSense a g).gran = s.gran := rfl
@[simp] theorem State.modSense_plots (a : Fin 4) (g : SenseAx → SenseAx) : (s.modSense a g).plots = s.plots := rfl
@[simp] theorem State.modSense_silo (a : Fin 4) (g : SenseAx → SenseAx) : (s.modSense a g).silo = s.silo := rfl
@[simp] theorem State.modSense_freeIdx (a : Fin 4) (g : SenseAx → SenseAx) : (s.modSense a g).freeIdx = s.freeIdx := rfl
@[simp] theorem State.modSense_pending (a : Fin 4) (g : SenseAx → SenseAx) : (s.modSense a g).pending = s.pending := rfl
@[simp] theorem State.modSense_reg (a : Fin 4) (g : SenseAx → SenseAx) (j : Nat) : (s.modSense a g).reg j = s.reg j := rfl
@[simp] theorem State.modSense_fld (a : Fin 4) (g : SenseAx → SenseAx) (f : Fld) : (s.modSense a g).fld f = s.fld f := rfl
@[simp] theorem State.modSense_flag (a : Fin 4) (g : SenseAx → SenseAx) (f : Fld) : (s.modSense a g).flag f = s.flag f := rfl
@[simp] theorem State.modSense_bit (a : Fin 4) (g : SenseAx → SenseAx) (f : Fld) (i : Nat) : (s.modSense a g).bit f i = s.bit f i := rfl

/-! ## modHead -/

@[simp] theorem State.modHead_regs (a : Fin 4) (g : HeadAx → HeadAx) : (s.modHead a g).regs = s.regs := rfl
@[simp] theorem State.modHead_step (a : Fin 4) (g : HeadAx → HeadAx) : (s.modHead a g).step = s.step := rfl
@[simp] theorem State.modHead_armed (a : Fin 4) (g : HeadAx → HeadAx) : (s.modHead a g).armed = s.armed := rfl
@[simp] theorem State.modHead_pwm (a : Fin 4) (g : HeadAx → HeadAx) : (s.modHead a g).pwm = s.pwm := rfl
@[simp] theorem State.modHead_sense (a : Fin 4) (g : HeadAx → HeadAx) : (s.modHead a g).sense = s.sense := rfl
@[simp] theorem State.modHead_head (a : Fin 4) (g : HeadAx → HeadAx) : (s.modHead a g).head = s.head.set a (g (s.head.get a)) := rfl
@[simp] theorem State.modHead_loop (a : Fin 4) (g : HeadAx → HeadAx) : (s.modHead a g).loop = s.loop := rfl
@[simp] theorem State.modHead_obs (a : Fin 4) (g : HeadAx → HeadAx) : (s.modHead a g).obs = s.obs := rfl
@[simp] theorem State.modHead_routes (a : Fin 4) (g : HeadAx → HeadAx) : (s.modHead a g).routes = s.routes := rfl
@[simp] theorem State.modHead_tasks (a : Fin 4) (g : HeadAx → HeadAx) : (s.modHead a g).tasks = s.tasks := rfl
@[simp] theorem State.modHead_que (a : Fin 4) (g : HeadAx → HeadAx) : (s.modHead a g).que = s.que := rfl
@[simp] theorem State.modHead_ports (a : Fin 4) (g : HeadAx → HeadAx) : (s.modHead a g).ports = s.ports := rfl
@[simp] theorem State.modHead_saf (a : Fin 4) (g : HeadAx → HeadAx) : (s.modHead a g).saf = s.saf := rfl
@[simp] theorem State.modHead_scw (a : Fin 4) (g : HeadAx → HeadAx) : (s.modHead a g).scw = s.scw := rfl
@[simp] theorem State.modHead_fuses (a : Fin 4) (g : HeadAx → HeadAx) : (s.modHead a g).fuses = s.fuses := rfl
@[simp] theorem State.modHead_pow (a : Fin 4) (g : HeadAx → HeadAx) : (s.modHead a g).pow = s.pow := rfl
@[simp] theorem State.modHead_trn (a : Fin 4) (g : HeadAx → HeadAx) : (s.modHead a g).trn = s.trn := rfl
@[simp] theorem State.modHead_field (a : Fin 4) (g : HeadAx → HeadAx) : (s.modHead a g).field = s.field := rfl
@[simp] theorem State.modHead_ldr (a : Fin 4) (g : HeadAx → HeadAx) : (s.modHead a g).ldr = s.ldr := rfl
@[simp] theorem State.modHead_hrw (a : Fin 4) (g : HeadAx → HeadAx) : (s.modHead a g).hrw = s.hrw := rfl
@[simp] theorem State.modHead_rot (a : Fin 4) (g : HeadAx → HeadAx) : (s.modHead a g).rot = s.rot := rfl
@[simp] theorem State.modHead_det (a : Fin 4) (g : HeadAx → HeadAx) : (s.modHead a g).det = s.det := rfl
@[simp] theorem State.modHead_aux (a : Fin 4) (g : HeadAx → HeadAx) : (s.modHead a g).aux = s.aux := rfl
@[simp] theorem State.modHead_link (a : Fin 4) (g : HeadAx → HeadAx) : (s.modHead a g).link = s.link := rfl
@[simp] theorem State.modHead_gran (a : Fin 4) (g : HeadAx → HeadAx) : (s.modHead a g).gran = s.gran := rfl
@[simp] theorem State.modHead_plots (a : Fin 4) (g : HeadAx → HeadAx) : (s.modHead a g).plots = s.plots := rfl
@[simp] theorem State.modHead_silo (a : Fin 4) (g : HeadAx → HeadAx) : (s.modHead a g).silo = s.silo := rfl
@[simp] theorem State.modHead_freeIdx (a : Fin 4) (g : HeadAx → HeadAx) : (s.modHead a g).freeIdx = s.freeIdx := rfl
@[simp] theorem State.modHead_pending (a : Fin 4) (g : HeadAx → HeadAx) : (s.modHead a g).pending = s.pending := rfl
@[simp] theorem State.modHead_reg (a : Fin 4) (g : HeadAx → HeadAx) (j : Nat) : (s.modHead a g).reg j = s.reg j := rfl
@[simp] theorem State.modHead_fld (a : Fin 4) (g : HeadAx → HeadAx) (f : Fld) : (s.modHead a g).fld f = s.fld f := rfl
@[simp] theorem State.modHead_flag (a : Fin 4) (g : HeadAx → HeadAx) (f : Fld) : (s.modHead a g).flag f = s.flag f := rfl
@[simp] theorem State.modHead_bit (a : Fin 4) (g : HeadAx → HeadAx) (f : Fld) (i : Nat) : (s.modHead a g).bit f i = s.bit f i := rfl

/-! ## modLoop -/

@[simp] theorem State.modLoop_regs (a : Fin 4) (g : LoopAx → LoopAx) : (s.modLoop a g).regs = s.regs := rfl
@[simp] theorem State.modLoop_step (a : Fin 4) (g : LoopAx → LoopAx) : (s.modLoop a g).step = s.step := rfl
@[simp] theorem State.modLoop_armed (a : Fin 4) (g : LoopAx → LoopAx) : (s.modLoop a g).armed = s.armed := rfl
@[simp] theorem State.modLoop_pwm (a : Fin 4) (g : LoopAx → LoopAx) : (s.modLoop a g).pwm = s.pwm := rfl
@[simp] theorem State.modLoop_sense (a : Fin 4) (g : LoopAx → LoopAx) : (s.modLoop a g).sense = s.sense := rfl
@[simp] theorem State.modLoop_head (a : Fin 4) (g : LoopAx → LoopAx) : (s.modLoop a g).head = s.head := rfl
@[simp] theorem State.modLoop_loop (a : Fin 4) (g : LoopAx → LoopAx) : (s.modLoop a g).loop = s.loop.set a (g (s.loop.get a)) := rfl
@[simp] theorem State.modLoop_obs (a : Fin 4) (g : LoopAx → LoopAx) : (s.modLoop a g).obs = s.obs := rfl
@[simp] theorem State.modLoop_routes (a : Fin 4) (g : LoopAx → LoopAx) : (s.modLoop a g).routes = s.routes := rfl
@[simp] theorem State.modLoop_tasks (a : Fin 4) (g : LoopAx → LoopAx) : (s.modLoop a g).tasks = s.tasks := rfl
@[simp] theorem State.modLoop_que (a : Fin 4) (g : LoopAx → LoopAx) : (s.modLoop a g).que = s.que := rfl
@[simp] theorem State.modLoop_ports (a : Fin 4) (g : LoopAx → LoopAx) : (s.modLoop a g).ports = s.ports := rfl
@[simp] theorem State.modLoop_saf (a : Fin 4) (g : LoopAx → LoopAx) : (s.modLoop a g).saf = s.saf := rfl
@[simp] theorem State.modLoop_scw (a : Fin 4) (g : LoopAx → LoopAx) : (s.modLoop a g).scw = s.scw := rfl
@[simp] theorem State.modLoop_fuses (a : Fin 4) (g : LoopAx → LoopAx) : (s.modLoop a g).fuses = s.fuses := rfl
@[simp] theorem State.modLoop_pow (a : Fin 4) (g : LoopAx → LoopAx) : (s.modLoop a g).pow = s.pow := rfl
@[simp] theorem State.modLoop_trn (a : Fin 4) (g : LoopAx → LoopAx) : (s.modLoop a g).trn = s.trn := rfl
@[simp] theorem State.modLoop_field (a : Fin 4) (g : LoopAx → LoopAx) : (s.modLoop a g).field = s.field := rfl
@[simp] theorem State.modLoop_ldr (a : Fin 4) (g : LoopAx → LoopAx) : (s.modLoop a g).ldr = s.ldr := rfl
@[simp] theorem State.modLoop_hrw (a : Fin 4) (g : LoopAx → LoopAx) : (s.modLoop a g).hrw = s.hrw := rfl
@[simp] theorem State.modLoop_rot (a : Fin 4) (g : LoopAx → LoopAx) : (s.modLoop a g).rot = s.rot := rfl
@[simp] theorem State.modLoop_det (a : Fin 4) (g : LoopAx → LoopAx) : (s.modLoop a g).det = s.det := rfl
@[simp] theorem State.modLoop_aux (a : Fin 4) (g : LoopAx → LoopAx) : (s.modLoop a g).aux = s.aux := rfl
@[simp] theorem State.modLoop_link (a : Fin 4) (g : LoopAx → LoopAx) : (s.modLoop a g).link = s.link := rfl
@[simp] theorem State.modLoop_gran (a : Fin 4) (g : LoopAx → LoopAx) : (s.modLoop a g).gran = s.gran := rfl
@[simp] theorem State.modLoop_plots (a : Fin 4) (g : LoopAx → LoopAx) : (s.modLoop a g).plots = s.plots := rfl
@[simp] theorem State.modLoop_silo (a : Fin 4) (g : LoopAx → LoopAx) : (s.modLoop a g).silo = s.silo := rfl
@[simp] theorem State.modLoop_freeIdx (a : Fin 4) (g : LoopAx → LoopAx) : (s.modLoop a g).freeIdx = s.freeIdx := rfl
@[simp] theorem State.modLoop_pending (a : Fin 4) (g : LoopAx → LoopAx) : (s.modLoop a g).pending = s.pending := rfl
@[simp] theorem State.modLoop_reg (a : Fin 4) (g : LoopAx → LoopAx) (j : Nat) : (s.modLoop a g).reg j = s.reg j := rfl
@[simp] theorem State.modLoop_fld (a : Fin 4) (g : LoopAx → LoopAx) (f : Fld) : (s.modLoop a g).fld f = s.fld f := rfl
@[simp] theorem State.modLoop_flag (a : Fin 4) (g : LoopAx → LoopAx) (f : Fld) : (s.modLoop a g).flag f = s.flag f := rfl
@[simp] theorem State.modLoop_bit (a : Fin 4) (g : LoopAx → LoopAx) (f : Fld) (i : Nat) : (s.modLoop a g).bit f i = s.bit f i := rfl

/-! ## modObs -/

@[simp] theorem State.modObs_regs (a : Fin 4) (g : ObsAx → ObsAx) : (s.modObs a g).regs = s.regs := rfl
@[simp] theorem State.modObs_step (a : Fin 4) (g : ObsAx → ObsAx) : (s.modObs a g).step = s.step := rfl
@[simp] theorem State.modObs_armed (a : Fin 4) (g : ObsAx → ObsAx) : (s.modObs a g).armed = s.armed := rfl
@[simp] theorem State.modObs_pwm (a : Fin 4) (g : ObsAx → ObsAx) : (s.modObs a g).pwm = s.pwm := rfl
@[simp] theorem State.modObs_sense (a : Fin 4) (g : ObsAx → ObsAx) : (s.modObs a g).sense = s.sense := rfl
@[simp] theorem State.modObs_head (a : Fin 4) (g : ObsAx → ObsAx) : (s.modObs a g).head = s.head := rfl
@[simp] theorem State.modObs_loop (a : Fin 4) (g : ObsAx → ObsAx) : (s.modObs a g).loop = s.loop := rfl
@[simp] theorem State.modObs_obs (a : Fin 4) (g : ObsAx → ObsAx) : (s.modObs a g).obs = s.obs.set a (g (s.obs.get a)) := rfl
@[simp] theorem State.modObs_routes (a : Fin 4) (g : ObsAx → ObsAx) : (s.modObs a g).routes = s.routes := rfl
@[simp] theorem State.modObs_tasks (a : Fin 4) (g : ObsAx → ObsAx) : (s.modObs a g).tasks = s.tasks := rfl
@[simp] theorem State.modObs_que (a : Fin 4) (g : ObsAx → ObsAx) : (s.modObs a g).que = s.que := rfl
@[simp] theorem State.modObs_ports (a : Fin 4) (g : ObsAx → ObsAx) : (s.modObs a g).ports = s.ports := rfl
@[simp] theorem State.modObs_saf (a : Fin 4) (g : ObsAx → ObsAx) : (s.modObs a g).saf = s.saf := rfl
@[simp] theorem State.modObs_scw (a : Fin 4) (g : ObsAx → ObsAx) : (s.modObs a g).scw = s.scw := rfl
@[simp] theorem State.modObs_fuses (a : Fin 4) (g : ObsAx → ObsAx) : (s.modObs a g).fuses = s.fuses := rfl
@[simp] theorem State.modObs_pow (a : Fin 4) (g : ObsAx → ObsAx) : (s.modObs a g).pow = s.pow := rfl
@[simp] theorem State.modObs_trn (a : Fin 4) (g : ObsAx → ObsAx) : (s.modObs a g).trn = s.trn := rfl
@[simp] theorem State.modObs_field (a : Fin 4) (g : ObsAx → ObsAx) : (s.modObs a g).field = s.field := rfl
@[simp] theorem State.modObs_ldr (a : Fin 4) (g : ObsAx → ObsAx) : (s.modObs a g).ldr = s.ldr := rfl
@[simp] theorem State.modObs_hrw (a : Fin 4) (g : ObsAx → ObsAx) : (s.modObs a g).hrw = s.hrw := rfl
@[simp] theorem State.modObs_rot (a : Fin 4) (g : ObsAx → ObsAx) : (s.modObs a g).rot = s.rot := rfl
@[simp] theorem State.modObs_det (a : Fin 4) (g : ObsAx → ObsAx) : (s.modObs a g).det = s.det := rfl
@[simp] theorem State.modObs_aux (a : Fin 4) (g : ObsAx → ObsAx) : (s.modObs a g).aux = s.aux := rfl
@[simp] theorem State.modObs_link (a : Fin 4) (g : ObsAx → ObsAx) : (s.modObs a g).link = s.link := rfl
@[simp] theorem State.modObs_gran (a : Fin 4) (g : ObsAx → ObsAx) : (s.modObs a g).gran = s.gran := rfl
@[simp] theorem State.modObs_plots (a : Fin 4) (g : ObsAx → ObsAx) : (s.modObs a g).plots = s.plots := rfl
@[simp] theorem State.modObs_silo (a : Fin 4) (g : ObsAx → ObsAx) : (s.modObs a g).silo = s.silo := rfl
@[simp] theorem State.modObs_freeIdx (a : Fin 4) (g : ObsAx → ObsAx) : (s.modObs a g).freeIdx = s.freeIdx := rfl
@[simp] theorem State.modObs_pending (a : Fin 4) (g : ObsAx → ObsAx) : (s.modObs a g).pending = s.pending := rfl
@[simp] theorem State.modObs_reg (a : Fin 4) (g : ObsAx → ObsAx) (j : Nat) : (s.modObs a g).reg j = s.reg j := rfl
@[simp] theorem State.modObs_fld (a : Fin 4) (g : ObsAx → ObsAx) (f : Fld) : (s.modObs a g).fld f = s.fld f := rfl
@[simp] theorem State.modObs_flag (a : Fin 4) (g : ObsAx → ObsAx) (f : Fld) : (s.modObs a g).flag f = s.flag f := rfl
@[simp] theorem State.modObs_bit (a : Fin 4) (g : ObsAx → ObsAx) (f : Fld) (i : Nat) : (s.modObs a g).bit f i = s.bit f i := rfl

/-! ## modDet -/

@[simp] theorem State.modDet_regs (a : Fin 4) (g : DetAx → DetAx) : (s.modDet a g).regs = s.regs := rfl
@[simp] theorem State.modDet_step (a : Fin 4) (g : DetAx → DetAx) : (s.modDet a g).step = s.step := rfl
@[simp] theorem State.modDet_armed (a : Fin 4) (g : DetAx → DetAx) : (s.modDet a g).armed = s.armed := rfl
@[simp] theorem State.modDet_pwm (a : Fin 4) (g : DetAx → DetAx) : (s.modDet a g).pwm = s.pwm := rfl
@[simp] theorem State.modDet_sense (a : Fin 4) (g : DetAx → DetAx) : (s.modDet a g).sense = s.sense := rfl
@[simp] theorem State.modDet_head (a : Fin 4) (g : DetAx → DetAx) : (s.modDet a g).head = s.head := rfl
@[simp] theorem State.modDet_loop (a : Fin 4) (g : DetAx → DetAx) : (s.modDet a g).loop = s.loop := rfl
@[simp] theorem State.modDet_obs (a : Fin 4) (g : DetAx → DetAx) : (s.modDet a g).obs = s.obs := rfl
@[simp] theorem State.modDet_routes (a : Fin 4) (g : DetAx → DetAx) : (s.modDet a g).routes = s.routes := rfl
@[simp] theorem State.modDet_tasks (a : Fin 4) (g : DetAx → DetAx) : (s.modDet a g).tasks = s.tasks := rfl
@[simp] theorem State.modDet_que (a : Fin 4) (g : DetAx → DetAx) : (s.modDet a g).que = s.que := rfl
@[simp] theorem State.modDet_ports (a : Fin 4) (g : DetAx → DetAx) : (s.modDet a g).ports = s.ports := rfl
@[simp] theorem State.modDet_saf (a : Fin 4) (g : DetAx → DetAx) : (s.modDet a g).saf = s.saf := rfl
@[simp] theorem State.modDet_scw (a : Fin 4) (g : DetAx → DetAx) : (s.modDet a g).scw = s.scw := rfl
@[simp] theorem State.modDet_fuses (a : Fin 4) (g : DetAx → DetAx) : (s.modDet a g).fuses = s.fuses := rfl
@[simp] theorem State.modDet_pow (a : Fin 4) (g : DetAx → DetAx) : (s.modDet a g).pow = s.pow := rfl
@[simp] theorem State.modDet_trn (a : Fin 4) (g : DetAx → DetAx) : (s.modDet a g).trn = s.trn := rfl
@[simp] theorem State.modDet_field (a : Fin 4) (g : DetAx → DetAx) : (s.modDet a g).field = s.field := rfl
@[simp] theorem State.modDet_ldr (a : Fin 4) (g : DetAx → DetAx) : (s.modDet a g).ldr = s.ldr := rfl
@[simp] theorem State.modDet_hrw (a : Fin 4) (g : DetAx → DetAx) : (s.modDet a g).hrw = s.hrw := rfl
@[simp] theorem State.modDet_rot (a : Fin 4) (g : DetAx → DetAx) : (s.modDet a g).rot = s.rot := rfl
@[simp] theorem State.modDet_det (a : Fin 4) (g : DetAx → DetAx) : (s.modDet a g).det = s.det.set a (g (s.det.get a)) := rfl
@[simp] theorem State.modDet_aux (a : Fin 4) (g : DetAx → DetAx) : (s.modDet a g).aux = s.aux := rfl
@[simp] theorem State.modDet_link (a : Fin 4) (g : DetAx → DetAx) : (s.modDet a g).link = s.link := rfl
@[simp] theorem State.modDet_gran (a : Fin 4) (g : DetAx → DetAx) : (s.modDet a g).gran = s.gran := rfl
@[simp] theorem State.modDet_plots (a : Fin 4) (g : DetAx → DetAx) : (s.modDet a g).plots = s.plots := rfl
@[simp] theorem State.modDet_silo (a : Fin 4) (g : DetAx → DetAx) : (s.modDet a g).silo = s.silo := rfl
@[simp] theorem State.modDet_freeIdx (a : Fin 4) (g : DetAx → DetAx) : (s.modDet a g).freeIdx = s.freeIdx := rfl
@[simp] theorem State.modDet_pending (a : Fin 4) (g : DetAx → DetAx) : (s.modDet a g).pending = s.pending := rfl
@[simp] theorem State.modDet_reg (a : Fin 4) (g : DetAx → DetAx) (j : Nat) : (s.modDet a g).reg j = s.reg j := rfl
@[simp] theorem State.modDet_fld (a : Fin 4) (g : DetAx → DetAx) (f : Fld) : (s.modDet a g).fld f = s.fld f := rfl
@[simp] theorem State.modDet_flag (a : Fin 4) (g : DetAx → DetAx) (f : Fld) : (s.modDet a g).flag f = s.flag f := rfl
@[simp] theorem State.modDet_bit (a : Fin 4) (g : DetAx → DetAx) (f : Fld) (i : Nat) : (s.modDet a g).bit f i = s.bit f i := rfl

/-! ## modPort -/

@[simp] theorem State.modPort_regs (p : Fin 2) (g : PortSt → PortSt) : (s.modPort p g).regs = s.regs := rfl
@[simp] theorem State.modPort_step (p : Fin 2) (g : PortSt → PortSt) : (s.modPort p g).step = s.step := rfl
@[simp] theorem State.modPort_armed (p : Fin 2) (g : PortSt → PortSt) : (s.modPort p g).armed = s.armed := rfl
@[simp] theorem State.modPort_pwm (p : Fin 2) (g : PortSt → PortSt) : (s.modPort p g).pwm = s.pwm := rfl
@[simp] theorem State.modPort_sense (p : Fin 2) (g : PortSt → PortSt) : (s.modPort p g).sense = s.sense := rfl
@[simp] theorem State.modPort_head (p : Fin 2) (g : PortSt → PortSt) : (s.modPort p g).head = s.head := rfl
@[simp] theorem State.modPort_loop (p : Fin 2) (g : PortSt → PortSt) : (s.modPort p g).loop = s.loop := rfl
@[simp] theorem State.modPort_obs (p : Fin 2) (g : PortSt → PortSt) : (s.modPort p g).obs = s.obs := rfl
@[simp] theorem State.modPort_routes (p : Fin 2) (g : PortSt → PortSt) : (s.modPort p g).routes = s.routes := rfl
@[simp] theorem State.modPort_tasks (p : Fin 2) (g : PortSt → PortSt) : (s.modPort p g).tasks = s.tasks := rfl
@[simp] theorem State.modPort_que (p : Fin 2) (g : PortSt → PortSt) : (s.modPort p g).que = s.que := rfl
@[simp] theorem State.modPort_ports (p : Fin 2) (g : PortSt → PortSt) : (s.modPort p g).ports = s.ports.set p (g (s.ports.get p)) := rfl
@[simp] theorem State.modPort_saf (p : Fin 2) (g : PortSt → PortSt) : (s.modPort p g).saf = s.saf := rfl
@[simp] theorem State.modPort_scw (p : Fin 2) (g : PortSt → PortSt) : (s.modPort p g).scw = s.scw := rfl
@[simp] theorem State.modPort_fuses (p : Fin 2) (g : PortSt → PortSt) : (s.modPort p g).fuses = s.fuses := rfl
@[simp] theorem State.modPort_pow (p : Fin 2) (g : PortSt → PortSt) : (s.modPort p g).pow = s.pow := rfl
@[simp] theorem State.modPort_trn (p : Fin 2) (g : PortSt → PortSt) : (s.modPort p g).trn = s.trn := rfl
@[simp] theorem State.modPort_field (p : Fin 2) (g : PortSt → PortSt) : (s.modPort p g).field = s.field := rfl
@[simp] theorem State.modPort_ldr (p : Fin 2) (g : PortSt → PortSt) : (s.modPort p g).ldr = s.ldr := rfl
@[simp] theorem State.modPort_hrw (p : Fin 2) (g : PortSt → PortSt) : (s.modPort p g).hrw = s.hrw := rfl
@[simp] theorem State.modPort_rot (p : Fin 2) (g : PortSt → PortSt) : (s.modPort p g).rot = s.rot := rfl
@[simp] theorem State.modPort_det (p : Fin 2) (g : PortSt → PortSt) : (s.modPort p g).det = s.det := rfl
@[simp] theorem State.modPort_aux (p : Fin 2) (g : PortSt → PortSt) : (s.modPort p g).aux = s.aux := rfl
@[simp] theorem State.modPort_link (p : Fin 2) (g : PortSt → PortSt) : (s.modPort p g).link = s.link := rfl
@[simp] theorem State.modPort_gran (p : Fin 2) (g : PortSt → PortSt) : (s.modPort p g).gran = s.gran := rfl
@[simp] theorem State.modPort_plots (p : Fin 2) (g : PortSt → PortSt) : (s.modPort p g).plots = s.plots := rfl
@[simp] theorem State.modPort_silo (p : Fin 2) (g : PortSt → PortSt) : (s.modPort p g).silo = s.silo := rfl
@[simp] theorem State.modPort_freeIdx (p : Fin 2) (g : PortSt → PortSt) : (s.modPort p g).freeIdx = s.freeIdx := rfl
@[simp] theorem State.modPort_pending (p : Fin 2) (g : PortSt → PortSt) : (s.modPort p g).pending = s.pending := rfl
@[simp] theorem State.modPort_reg (p : Fin 2) (g : PortSt → PortSt) (j : Nat) : (s.modPort p g).reg j = s.reg j := rfl
@[simp] theorem State.modPort_fld (p : Fin 2) (g : PortSt → PortSt) (f : Fld) : (s.modPort p g).fld f = s.fld f := rfl
@[simp] theorem State.modPort_flag (p : Fin 2) (g : PortSt → PortSt) (f : Fld) : (s.modPort p g).flag f = s.flag f := rfl
@[simp] theorem State.modPort_bit (p : Fin 2) (g : PortSt → PortSt) (f : Fld) (i : Nat) : (s.modPort p g).bit f i = s.bit f i := rfl

/-! ## modSaf -/

@[simp] theorem State.modSaf_regs (g : SafSt → SafSt) : (s.modSaf g).regs = s.regs := rfl
@[simp] theorem State.modSaf_step (g : SafSt → SafSt) : (s.modSaf g).step = s.step := rfl
@[simp] theorem State.modSaf_armed (g : SafSt → SafSt) : (s.modSaf g).armed = s.armed := rfl
@[simp] theorem State.modSaf_pwm (g : SafSt → SafSt) : (s.modSaf g).pwm = s.pwm := rfl
@[simp] theorem State.modSaf_sense (g : SafSt → SafSt) : (s.modSaf g).sense = s.sense := rfl
@[simp] theorem State.modSaf_head (g : SafSt → SafSt) : (s.modSaf g).head = s.head := rfl
@[simp] theorem State.modSaf_loop (g : SafSt → SafSt) : (s.modSaf g).loop = s.loop := rfl
@[simp] theorem State.modSaf_obs (g : SafSt → SafSt) : (s.modSaf g).obs = s.obs := rfl
@[simp] theorem State.modSaf_routes (g : SafSt → SafSt) : (s.modSaf g).routes = s.routes := rfl
@[simp] theorem State.modSaf_tasks (g : SafSt → SafSt) : (s.modSaf g).tasks = s.tasks := rfl
@[simp] theorem State.modSaf_que (g : SafSt → SafSt) : (s.modSaf g).que = s.que := rfl
@[simp] theorem State.modSaf_ports (g : SafSt → SafSt) : (s.modSaf g).ports = s.ports := rfl
@[simp] theorem State.modSaf_saf (g : SafSt → SafSt) : (s.modSaf g).saf = g s.saf := rfl
@[simp] theorem State.modSaf_scw (g : SafSt → SafSt) : (s.modSaf g).scw = s.scw := rfl
@[simp] theorem State.modSaf_fuses (g : SafSt → SafSt) : (s.modSaf g).fuses = s.fuses := rfl
@[simp] theorem State.modSaf_pow (g : SafSt → SafSt) : (s.modSaf g).pow = s.pow := rfl
@[simp] theorem State.modSaf_trn (g : SafSt → SafSt) : (s.modSaf g).trn = s.trn := rfl
@[simp] theorem State.modSaf_field (g : SafSt → SafSt) : (s.modSaf g).field = s.field := rfl
@[simp] theorem State.modSaf_ldr (g : SafSt → SafSt) : (s.modSaf g).ldr = s.ldr := rfl
@[simp] theorem State.modSaf_hrw (g : SafSt → SafSt) : (s.modSaf g).hrw = s.hrw := rfl
@[simp] theorem State.modSaf_rot (g : SafSt → SafSt) : (s.modSaf g).rot = s.rot := rfl
@[simp] theorem State.modSaf_det (g : SafSt → SafSt) : (s.modSaf g).det = s.det := rfl
@[simp] theorem State.modSaf_aux (g : SafSt → SafSt) : (s.modSaf g).aux = s.aux := rfl
@[simp] theorem State.modSaf_link (g : SafSt → SafSt) : (s.modSaf g).link = s.link := rfl
@[simp] theorem State.modSaf_gran (g : SafSt → SafSt) : (s.modSaf g).gran = s.gran := rfl
@[simp] theorem State.modSaf_plots (g : SafSt → SafSt) : (s.modSaf g).plots = s.plots := rfl
@[simp] theorem State.modSaf_silo (g : SafSt → SafSt) : (s.modSaf g).silo = s.silo := rfl
@[simp] theorem State.modSaf_freeIdx (g : SafSt → SafSt) : (s.modSaf g).freeIdx = s.freeIdx := rfl
@[simp] theorem State.modSaf_pending (g : SafSt → SafSt) : (s.modSaf g).pending = s.pending := rfl
@[simp] theorem State.modSaf_reg (g : SafSt → SafSt) (j : Nat) : (s.modSaf g).reg j = s.reg j := rfl
@[simp] theorem State.modSaf_fld (g : SafSt → SafSt) (f : Fld) : (s.modSaf g).fld f = s.fld f := rfl
@[simp] theorem State.modSaf_flag (g : SafSt → SafSt) (f : Fld) : (s.modSaf g).flag f = s.flag f := rfl
@[simp] theorem State.modSaf_bit (g : SafSt → SafSt) (f : Fld) (i : Nat) : (s.modSaf g).bit f i = s.bit f i := rfl

/-! ## modPow -/

@[simp] theorem State.modPow_regs (g : PowSt → PowSt) : (s.modPow g).regs = s.regs := rfl
@[simp] theorem State.modPow_step (g : PowSt → PowSt) : (s.modPow g).step = s.step := rfl
@[simp] theorem State.modPow_armed (g : PowSt → PowSt) : (s.modPow g).armed = s.armed := rfl
@[simp] theorem State.modPow_pwm (g : PowSt → PowSt) : (s.modPow g).pwm = s.pwm := rfl
@[simp] theorem State.modPow_sense (g : PowSt → PowSt) : (s.modPow g).sense = s.sense := rfl
@[simp] theorem State.modPow_head (g : PowSt → PowSt) : (s.modPow g).head = s.head := rfl
@[simp] theorem State.modPow_loop (g : PowSt → PowSt) : (s.modPow g).loop = s.loop := rfl
@[simp] theorem State.modPow_obs (g : PowSt → PowSt) : (s.modPow g).obs = s.obs := rfl
@[simp] theorem State.modPow_routes (g : PowSt → PowSt) : (s.modPow g).routes = s.routes := rfl
@[simp] theorem State.modPow_tasks (g : PowSt → PowSt) : (s.modPow g).tasks = s.tasks := rfl
@[simp] theorem State.modPow_que (g : PowSt → PowSt) : (s.modPow g).que = s.que := rfl
@[simp] theorem State.modPow_ports (g : PowSt → PowSt) : (s.modPow g).ports = s.ports := rfl
@[simp] theorem State.modPow_saf (g : PowSt → PowSt) : (s.modPow g).saf = s.saf := rfl
@[simp] theorem State.modPow_scw (g : PowSt → PowSt) : (s.modPow g).scw = s.scw := rfl
@[simp] theorem State.modPow_fuses (g : PowSt → PowSt) : (s.modPow g).fuses = s.fuses := rfl
@[simp] theorem State.modPow_pow (g : PowSt → PowSt) : (s.modPow g).pow = g s.pow := rfl
@[simp] theorem State.modPow_trn (g : PowSt → PowSt) : (s.modPow g).trn = s.trn := rfl
@[simp] theorem State.modPow_field (g : PowSt → PowSt) : (s.modPow g).field = s.field := rfl
@[simp] theorem State.modPow_ldr (g : PowSt → PowSt) : (s.modPow g).ldr = s.ldr := rfl
@[simp] theorem State.modPow_hrw (g : PowSt → PowSt) : (s.modPow g).hrw = s.hrw := rfl
@[simp] theorem State.modPow_rot (g : PowSt → PowSt) : (s.modPow g).rot = s.rot := rfl
@[simp] theorem State.modPow_det (g : PowSt → PowSt) : (s.modPow g).det = s.det := rfl
@[simp] theorem State.modPow_aux (g : PowSt → PowSt) : (s.modPow g).aux = s.aux := rfl
@[simp] theorem State.modPow_link (g : PowSt → PowSt) : (s.modPow g).link = s.link := rfl
@[simp] theorem State.modPow_gran (g : PowSt → PowSt) : (s.modPow g).gran = s.gran := rfl
@[simp] theorem State.modPow_plots (g : PowSt → PowSt) : (s.modPow g).plots = s.plots := rfl
@[simp] theorem State.modPow_silo (g : PowSt → PowSt) : (s.modPow g).silo = s.silo := rfl
@[simp] theorem State.modPow_freeIdx (g : PowSt → PowSt) : (s.modPow g).freeIdx = s.freeIdx := rfl
@[simp] theorem State.modPow_pending (g : PowSt → PowSt) : (s.modPow g).pending = s.pending := rfl
@[simp] theorem State.modPow_reg (g : PowSt → PowSt) (j : Nat) : (s.modPow g).reg j = s.reg j := rfl
@[simp] theorem State.modPow_fld (g : PowSt → PowSt) (f : Fld) : (s.modPow g).fld f = s.fld f := rfl
@[simp] theorem State.modPow_flag (g : PowSt → PowSt) (f : Fld) : (s.modPow g).flag f = s.flag f := rfl
@[simp] theorem State.modPow_bit (g : PowSt → PowSt) (f : Fld) (i : Nat) : (s.modPow g).bit f i = s.bit f i := rfl

/-! ## modField -/

@[simp] theorem State.modField_regs (g : FieldSt → FieldSt) : (s.modField g).regs = s.regs := rfl
@[simp] theorem State.modField_step (g : FieldSt → FieldSt) : (s.modField g).step = s.step := rfl
@[simp] theorem State.modField_armed (g : FieldSt → FieldSt) : (s.modField g).armed = s.armed := rfl
@[simp] theorem State.modField_pwm (g : FieldSt → FieldSt) : (s.modField g).pwm = s.pwm := rfl
@[simp] theorem State.modField_sense (g : FieldSt → FieldSt) : (s.modField g).sense = s.sense := rfl
@[simp] theorem State.modField_head (g : FieldSt → FieldSt) : (s.modField g).head = s.head := rfl
@[simp] theorem State.modField_loop (g : FieldSt → FieldSt) : (s.modField g).loop = s.loop := rfl
@[simp] theorem State.modField_obs (g : FieldSt → FieldSt) : (s.modField g).obs = s.obs := rfl
@[simp] theorem State.modField_routes (g : FieldSt → FieldSt) : (s.modField g).routes = s.routes := rfl
@[simp] theorem State.modField_tasks (g : FieldSt → FieldSt) : (s.modField g).tasks = s.tasks := rfl
@[simp] theorem State.modField_que (g : FieldSt → FieldSt) : (s.modField g).que = s.que := rfl
@[simp] theorem State.modField_ports (g : FieldSt → FieldSt) : (s.modField g).ports = s.ports := rfl
@[simp] theorem State.modField_saf (g : FieldSt → FieldSt) : (s.modField g).saf = s.saf := rfl
@[simp] theorem State.modField_scw (g : FieldSt → FieldSt) : (s.modField g).scw = s.scw := rfl
@[simp] theorem State.modField_fuses (g : FieldSt → FieldSt) : (s.modField g).fuses = s.fuses := rfl
@[simp] theorem State.modField_pow (g : FieldSt → FieldSt) : (s.modField g).pow = s.pow := rfl
@[simp] theorem State.modField_trn (g : FieldSt → FieldSt) : (s.modField g).trn = s.trn := rfl
@[simp] theorem State.modField_field (g : FieldSt → FieldSt) : (s.modField g).field = g s.field := rfl
@[simp] theorem State.modField_ldr (g : FieldSt → FieldSt) : (s.modField g).ldr = s.ldr := rfl
@[simp] theorem State.modField_hrw (g : FieldSt → FieldSt) : (s.modField g).hrw = s.hrw := rfl
@[simp] theorem State.modField_rot (g : FieldSt → FieldSt) : (s.modField g).rot = s.rot := rfl
@[simp] theorem State.modField_det (g : FieldSt → FieldSt) : (s.modField g).det = s.det := rfl
@[simp] theorem State.modField_aux (g : FieldSt → FieldSt) : (s.modField g).aux = s.aux := rfl
@[simp] theorem State.modField_link (g : FieldSt → FieldSt) : (s.modField g).link = s.link := rfl
@[simp] theorem State.modField_gran (g : FieldSt → FieldSt) : (s.modField g).gran = s.gran := rfl
@[simp] theorem State.modField_plots (g : FieldSt → FieldSt) : (s.modField g).plots = s.plots := rfl
@[simp] theorem State.modField_silo (g : FieldSt → FieldSt) : (s.modField g).silo = s.silo := rfl
@[simp] theorem State.modField_freeIdx (g : FieldSt → FieldSt) : (s.modField g).freeIdx = s.freeIdx := rfl
@[simp] theorem State.modField_pending (g : FieldSt → FieldSt) : (s.modField g).pending = s.pending := rfl
@[simp] theorem State.modField_reg (g : FieldSt → FieldSt) (j : Nat) : (s.modField g).reg j = s.reg j := rfl
@[simp] theorem State.modField_fld (g : FieldSt → FieldSt) (f : Fld) : (s.modField g).fld f = s.fld f := rfl
@[simp] theorem State.modField_flag (g : FieldSt → FieldSt) (f : Fld) : (s.modField g).flag f = s.flag f := rfl
@[simp] theorem State.modField_bit (g : FieldSt → FieldSt) (f : Fld) (i : Nat) : (s.modField g).bit f i = s.bit f i := rfl

/-! ## modAux -/

@[simp] theorem State.modAux_regs (g : AuxSt → AuxSt) : (s.modAux g).regs = s.regs := rfl
@[simp] theorem State.modAux_step (g : AuxSt → AuxSt) : (s.modAux g).step = s.step := rfl
@[simp] theorem State.modAux_armed (g : AuxSt → AuxSt) : (s.modAux g).armed = s.armed := rfl
@[simp] theorem State.modAux_pwm (g : AuxSt → AuxSt) : (s.modAux g).pwm = s.pwm := rfl
@[simp] theorem State.modAux_sense (g : AuxSt → AuxSt) : (s.modAux g).sense = s.sense := rfl
@[simp] theorem State.modAux_head (g : AuxSt → AuxSt) : (s.modAux g).head = s.head := rfl
@[simp] theorem State.modAux_loop (g : AuxSt → AuxSt) : (s.modAux g).loop = s.loop := rfl
@[simp] theorem State.modAux_obs (g : AuxSt → AuxSt) : (s.modAux g).obs = s.obs := rfl
@[simp] theorem State.modAux_routes (g : AuxSt → AuxSt) : (s.modAux g).routes = s.routes := rfl
@[simp] theorem State.modAux_tasks (g : AuxSt → AuxSt) : (s.modAux g).tasks = s.tasks := rfl
@[simp] theorem State.modAux_que (g : AuxSt → AuxSt) : (s.modAux g).que = s.que := rfl
@[simp] theorem State.modAux_ports (g : AuxSt → AuxSt) : (s.modAux g).ports = s.ports := rfl
@[simp] theorem State.modAux_saf (g : AuxSt → AuxSt) : (s.modAux g).saf = s.saf := rfl
@[simp] theorem State.modAux_scw (g : AuxSt → AuxSt) : (s.modAux g).scw = s.scw := rfl
@[simp] theorem State.modAux_fuses (g : AuxSt → AuxSt) : (s.modAux g).fuses = s.fuses := rfl
@[simp] theorem State.modAux_pow (g : AuxSt → AuxSt) : (s.modAux g).pow = s.pow := rfl
@[simp] theorem State.modAux_trn (g : AuxSt → AuxSt) : (s.modAux g).trn = s.trn := rfl
@[simp] theorem State.modAux_field (g : AuxSt → AuxSt) : (s.modAux g).field = s.field := rfl
@[simp] theorem State.modAux_ldr (g : AuxSt → AuxSt) : (s.modAux g).ldr = s.ldr := rfl
@[simp] theorem State.modAux_hrw (g : AuxSt → AuxSt) : (s.modAux g).hrw = s.hrw := rfl
@[simp] theorem State.modAux_rot (g : AuxSt → AuxSt) : (s.modAux g).rot = s.rot := rfl
@[simp] theorem State.modAux_det (g : AuxSt → AuxSt) : (s.modAux g).det = s.det := rfl
@[simp] theorem State.modAux_aux (g : AuxSt → AuxSt) : (s.modAux g).aux = g s.aux := rfl
@[simp] theorem State.modAux_link (g : AuxSt → AuxSt) : (s.modAux g).link = s.link := rfl
@[simp] theorem State.modAux_gran (g : AuxSt → AuxSt) : (s.modAux g).gran = s.gran := rfl
@[simp] theorem State.modAux_plots (g : AuxSt → AuxSt) : (s.modAux g).plots = s.plots := rfl
@[simp] theorem State.modAux_silo (g : AuxSt → AuxSt) : (s.modAux g).silo = s.silo := rfl
@[simp] theorem State.modAux_freeIdx (g : AuxSt → AuxSt) : (s.modAux g).freeIdx = s.freeIdx := rfl
@[simp] theorem State.modAux_pending (g : AuxSt → AuxSt) : (s.modAux g).pending = s.pending := rfl
@[simp] theorem State.modAux_reg (g : AuxSt → AuxSt) (j : Nat) : (s.modAux g).reg j = s.reg j := rfl
@[simp] theorem State.modAux_fld (g : AuxSt → AuxSt) (f : Fld) : (s.modAux g).fld f = s.fld f := rfl
@[simp] theorem State.modAux_flag (g : AuxSt → AuxSt) (f : Fld) : (s.modAux g).flag f = s.flag f := rfl
@[simp] theorem State.modAux_bit (g : AuxSt → AuxSt) (f : Fld) (i : Nat) : (s.modAux g).bit f i = s.bit f i := rfl

/-! ## modLdr -/

@[simp] theorem State.modLdr_regs (g : LdrSt → LdrSt) : (s.modLdr g).regs = s.regs := rfl
@[simp] theorem State.modLdr_step (g : LdrSt → LdrSt) : (s.modLdr g).step = s.step := rfl
@[simp] theorem State.modLdr_armed (g : LdrSt → LdrSt) : (s.modLdr g).armed = s.armed := rfl
@[simp] theorem State.modLdr_pwm (g : LdrSt → LdrSt) : (s.modLdr g).pwm = s.pwm := rfl
@[simp] theorem State.modLdr_sense (g : LdrSt → LdrSt) : (s.modLdr g).sense = s.sense := rfl
@[simp] theorem State.modLdr_head (g : LdrSt → LdrSt) : (s.modLdr g).head = s.head := rfl
@[simp] theorem State.modLdr_loop (g : LdrSt → LdrSt) : (s.modLdr g).loop = s.loop := rfl
@[simp] theorem State.modLdr_obs (g : LdrSt → LdrSt) : (s.modLdr g).obs = s.obs := rfl
@[simp] theorem State.modLdr_routes (g : LdrSt → LdrSt) : (s.modLdr g).routes = s.routes := rfl
@[simp] theorem State.modLdr_tasks (g : LdrSt → LdrSt) : (s.modLdr g).tasks = s.tasks := rfl
@[simp] theorem State.modLdr_que (g : LdrSt → LdrSt) : (s.modLdr g).que = s.que := rfl
@[simp] theorem State.modLdr_ports (g : LdrSt → LdrSt) : (s.modLdr g).ports = s.ports := rfl
@[simp] theorem State.modLdr_saf (g : LdrSt → LdrSt) : (s.modLdr g).saf = s.saf := rfl
@[simp] theorem State.modLdr_scw (g : LdrSt → LdrSt) : (s.modLdr g).scw = s.scw := rfl
@[simp] theorem State.modLdr_fuses (g : LdrSt → LdrSt) : (s.modLdr g).fuses = s.fuses := rfl
@[simp] theorem State.modLdr_pow (g : LdrSt → LdrSt) : (s.modLdr g).pow = s.pow := rfl
@[simp] theorem State.modLdr_trn (g : LdrSt → LdrSt) : (s.modLdr g).trn = s.trn := rfl
@[simp] theorem State.modLdr_field (g : LdrSt → LdrSt) : (s.modLdr g).field = s.field := rfl
@[simp] theorem State.modLdr_ldr (g : LdrSt → LdrSt) : (s.modLdr g).ldr = g s.ldr := rfl
@[simp] theorem State.modLdr_hrw (g : LdrSt → LdrSt) : (s.modLdr g).hrw = s.hrw := rfl
@[simp] theorem State.modLdr_rot (g : LdrSt → LdrSt) : (s.modLdr g).rot = s.rot := rfl
@[simp] theorem State.modLdr_det (g : LdrSt → LdrSt) : (s.modLdr g).det = s.det := rfl
@[simp] theorem State.modLdr_aux (g : LdrSt → LdrSt) : (s.modLdr g).aux = s.aux := rfl
@[simp] theorem State.modLdr_link (g : LdrSt → LdrSt) : (s.modLdr g).link = s.link := rfl
@[simp] theorem State.modLdr_gran (g : LdrSt → LdrSt) : (s.modLdr g).gran = s.gran := rfl
@[simp] theorem State.modLdr_plots (g : LdrSt → LdrSt) : (s.modLdr g).plots = s.plots := rfl
@[simp] theorem State.modLdr_silo (g : LdrSt → LdrSt) : (s.modLdr g).silo = s.silo := rfl
@[simp] theorem State.modLdr_freeIdx (g : LdrSt → LdrSt) : (s.modLdr g).freeIdx = s.freeIdx := rfl
@[simp] theorem State.modLdr_pending (g : LdrSt → LdrSt) : (s.modLdr g).pending = s.pending := rfl
@[simp] theorem State.modLdr_reg (g : LdrSt → LdrSt) (j : Nat) : (s.modLdr g).reg j = s.reg j := rfl
@[simp] theorem State.modLdr_fld (g : LdrSt → LdrSt) (f : Fld) : (s.modLdr g).fld f = s.fld f := rfl
@[simp] theorem State.modLdr_flag (g : LdrSt → LdrSt) (f : Fld) : (s.modLdr g).flag f = s.flag f := rfl
@[simp] theorem State.modLdr_bit (g : LdrSt → LdrSt) (f : Fld) (i : Nat) : (s.modLdr g).bit f i = s.bit f i := rfl

/-! ## modQue -/

@[simp] theorem State.modQue_regs (g : QueSt → QueSt) : (s.modQue g).regs = s.regs := rfl
@[simp] theorem State.modQue_step (g : QueSt → QueSt) : (s.modQue g).step = s.step := rfl
@[simp] theorem State.modQue_armed (g : QueSt → QueSt) : (s.modQue g).armed = s.armed := rfl
@[simp] theorem State.modQue_pwm (g : QueSt → QueSt) : (s.modQue g).pwm = s.pwm := rfl
@[simp] theorem State.modQue_sense (g : QueSt → QueSt) : (s.modQue g).sense = s.sense := rfl
@[simp] theorem State.modQue_head (g : QueSt → QueSt) : (s.modQue g).head = s.head := rfl
@[simp] theorem State.modQue_loop (g : QueSt → QueSt) : (s.modQue g).loop = s.loop := rfl
@[simp] theorem State.modQue_obs (g : QueSt → QueSt) : (s.modQue g).obs = s.obs := rfl
@[simp] theorem State.modQue_routes (g : QueSt → QueSt) : (s.modQue g).routes = s.routes := rfl
@[simp] theorem State.modQue_tasks (g : QueSt → QueSt) : (s.modQue g).tasks = s.tasks := rfl
@[simp] theorem State.modQue_que (g : QueSt → QueSt) : (s.modQue g).que = g s.que := rfl
@[simp] theorem State.modQue_ports (g : QueSt → QueSt) : (s.modQue g).ports = s.ports := rfl
@[simp] theorem State.modQue_saf (g : QueSt → QueSt) : (s.modQue g).saf = s.saf := rfl
@[simp] theorem State.modQue_scw (g : QueSt → QueSt) : (s.modQue g).scw = s.scw := rfl
@[simp] theorem State.modQue_fuses (g : QueSt → QueSt) : (s.modQue g).fuses = s.fuses := rfl
@[simp] theorem State.modQue_pow (g : QueSt → QueSt) : (s.modQue g).pow = s.pow := rfl
@[simp] theorem State.modQue_trn (g : QueSt → QueSt) : (s.modQue g).trn = s.trn := rfl
@[simp] theorem State.modQue_field (g : QueSt → QueSt) : (s.modQue g).field = s.field := rfl
@[simp] theorem State.modQue_ldr (g : QueSt → QueSt) : (s.modQue g).ldr = s.ldr := rfl
@[simp] theorem State.modQue_hrw (g : QueSt → QueSt) : (s.modQue g).hrw = s.hrw := rfl
@[simp] theorem State.modQue_rot (g : QueSt → QueSt) : (s.modQue g).rot = s.rot := rfl
@[simp] theorem State.modQue_det (g : QueSt → QueSt) : (s.modQue g).det = s.det := rfl
@[simp] theorem State.modQue_aux (g : QueSt → QueSt) : (s.modQue g).aux = s.aux := rfl
@[simp] theorem State.modQue_link (g : QueSt → QueSt) : (s.modQue g).link = s.link := rfl
@[simp] theorem State.modQue_gran (g : QueSt → QueSt) : (s.modQue g).gran = s.gran := rfl
@[simp] theorem State.modQue_plots (g : QueSt → QueSt) : (s.modQue g).plots = s.plots := rfl
@[simp] theorem State.modQue_silo (g : QueSt → QueSt) : (s.modQue g).silo = s.silo := rfl
@[simp] theorem State.modQue_freeIdx (g : QueSt → QueSt) : (s.modQue g).freeIdx = s.freeIdx := rfl
@[simp] theorem State.modQue_pending (g : QueSt → QueSt) : (s.modQue g).pending = s.pending := rfl
@[simp] theorem State.modQue_reg (g : QueSt → QueSt) (j : Nat) : (s.modQue g).reg j = s.reg j := rfl
@[simp] theorem State.modQue_fld (g : QueSt → QueSt) (f : Fld) : (s.modQue g).fld f = s.fld f := rfl
@[simp] theorem State.modQue_flag (g : QueSt → QueSt) (f : Fld) : (s.modQue g).flag f = s.flag f := rfl
@[simp] theorem State.modQue_bit (g : QueSt → QueSt) (f : Fld) (i : Nat) : (s.modQue g).bit f i = s.bit f i := rfl

/-! ## modHrw -/

@[simp] theorem State.modHrw_regs (g : HrwSt → HrwSt) : (s.modHrw g).regs = s.regs := rfl
@[simp] theorem State.modHrw_step (g : HrwSt → HrwSt) : (s.modHrw g).step = s.step := rfl
@[simp] theorem State.modHrw_armed (g : HrwSt → HrwSt) : (s.modHrw g).armed = s.armed := rfl
@[simp] theorem State.modHrw_pwm (g : HrwSt → HrwSt) : (s.modHrw g).pwm = s.pwm := rfl
@[simp] theorem State.modHrw_sense (g : HrwSt → HrwSt) : (s.modHrw g).sense = s.sense := rfl
@[simp] theorem State.modHrw_head (g : HrwSt → HrwSt) : (s.modHrw g).head = s.head := rfl
@[simp] theorem State.modHrw_loop (g : HrwSt → HrwSt) : (s.modHrw g).loop = s.loop := rfl
@[simp] theorem State.modHrw_obs (g : HrwSt → HrwSt) : (s.modHrw g).obs = s.obs := rfl
@[simp] theorem State.modHrw_routes (g : HrwSt → HrwSt) : (s.modHrw g).routes = s.routes := rfl
@[simp] theorem State.modHrw_tasks (g : HrwSt → HrwSt) : (s.modHrw g).tasks = s.tasks := rfl
@[simp] theorem State.modHrw_que (g : HrwSt → HrwSt) : (s.modHrw g).que = s.que := rfl
@[simp] theorem State.modHrw_ports (g : HrwSt → HrwSt) : (s.modHrw g).ports = s.ports := rfl
@[simp] theorem State.modHrw_saf (g : HrwSt → HrwSt) : (s.modHrw g).saf = s.saf := rfl
@[simp] theorem State.modHrw_scw (g : HrwSt → HrwSt) : (s.modHrw g).scw = s.scw := rfl
@[simp] theorem State.modHrw_fuses (g : HrwSt → HrwSt) : (s.modHrw g).fuses = s.fuses := rfl
@[simp] theorem State.modHrw_pow (g : HrwSt → HrwSt) : (s.modHrw g).pow = s.pow := rfl
@[simp] theorem State.modHrw_trn (g : HrwSt → HrwSt) : (s.modHrw g).trn = s.trn := rfl
@[simp] theorem State.modHrw_field (g : HrwSt → HrwSt) : (s.modHrw g).field = s.field := rfl
@[simp] theorem State.modHrw_ldr (g : HrwSt → HrwSt) : (s.modHrw g).ldr = s.ldr := rfl
@[simp] theorem State.modHrw_hrw (g : HrwSt → HrwSt) : (s.modHrw g).hrw = g s.hrw := rfl
@[simp] theorem State.modHrw_rot (g : HrwSt → HrwSt) : (s.modHrw g).rot = s.rot := rfl
@[simp] theorem State.modHrw_det (g : HrwSt → HrwSt) : (s.modHrw g).det = s.det := rfl
@[simp] theorem State.modHrw_aux (g : HrwSt → HrwSt) : (s.modHrw g).aux = s.aux := rfl
@[simp] theorem State.modHrw_link (g : HrwSt → HrwSt) : (s.modHrw g).link = s.link := rfl
@[simp] theorem State.modHrw_gran (g : HrwSt → HrwSt) : (s.modHrw g).gran = s.gran := rfl
@[simp] theorem State.modHrw_plots (g : HrwSt → HrwSt) : (s.modHrw g).plots = s.plots := rfl
@[simp] theorem State.modHrw_silo (g : HrwSt → HrwSt) : (s.modHrw g).silo = s.silo := rfl
@[simp] theorem State.modHrw_freeIdx (g : HrwSt → HrwSt) : (s.modHrw g).freeIdx = s.freeIdx := rfl
@[simp] theorem State.modHrw_pending (g : HrwSt → HrwSt) : (s.modHrw g).pending = s.pending := rfl
@[simp] theorem State.modHrw_reg (g : HrwSt → HrwSt) (j : Nat) : (s.modHrw g).reg j = s.reg j := rfl
@[simp] theorem State.modHrw_fld (g : HrwSt → HrwSt) (f : Fld) : (s.modHrw g).fld f = s.fld f := rfl
@[simp] theorem State.modHrw_flag (g : HrwSt → HrwSt) (f : Fld) : (s.modHrw g).flag f = s.flag f := rfl
@[simp] theorem State.modHrw_bit (g : HrwSt → HrwSt) (f : Fld) (i : Nat) : (s.modHrw g).bit f i = s.bit f i := rfl

/-! ## modScw -/

@[simp] theorem State.modScw_regs (g : ScwSt → ScwSt) : (s.modScw g).regs = s.regs := rfl
@[simp] theorem State.modScw_step (g : ScwSt → ScwSt) : (s.modScw g).step = s.step := rfl
@[simp] theorem State.modScw_armed (g : ScwSt → ScwSt) : (s.modScw g).armed = s.armed := rfl
@[simp] theorem State.modScw_pwm (g : ScwSt → ScwSt) : (s.modScw g).pwm = s.pwm := rfl
@[simp] theorem State.modScw_sense (g : ScwSt → ScwSt) : (s.modScw g).sense = s.sense := rfl
@[simp] theorem State.modScw_head (g : ScwSt → ScwSt) : (s.modScw g).head = s.head := rfl
@[simp] theorem State.modScw_loop (g : ScwSt → ScwSt) : (s.modScw g).loop = s.loop := rfl
@[simp] theorem State.modScw_obs (g : ScwSt → ScwSt) : (s.modScw g).obs = s.obs := rfl
@[simp] theorem State.modScw_routes (g : ScwSt → ScwSt) : (s.modScw g).routes = s.routes := rfl
@[simp] theorem State.modScw_tasks (g : ScwSt → ScwSt) : (s.modScw g).tasks = s.tasks := rfl
@[simp] theorem State.modScw_que (g : ScwSt → ScwSt) : (s.modScw g).que = s.que := rfl
@[simp] theorem State.modScw_ports (g : ScwSt → ScwSt) : (s.modScw g).ports = s.ports := rfl
@[simp] theorem State.modScw_saf (g : ScwSt → ScwSt) : (s.modScw g).saf = s.saf := rfl
@[simp] theorem State.modScw_scw (g : ScwSt → ScwSt) : (s.modScw g).scw = g s.scw := rfl
@[simp] theorem State.modScw_fuses (g : ScwSt → ScwSt) : (s.modScw g).fuses = s.fuses := rfl
@[simp] theorem State.modScw_pow (g : ScwSt → ScwSt) : (s.modScw g).pow = s.pow := rfl
@[simp] theorem State.modScw_trn (g : ScwSt → ScwSt) : (s.modScw g).trn = s.trn := rfl
@[simp] theorem State.modScw_field (g : ScwSt → ScwSt) : (s.modScw g).field = s.field := rfl
@[simp] theorem State.modScw_ldr (g : ScwSt → ScwSt) : (s.modScw g).ldr = s.ldr := rfl
@[simp] theorem State.modScw_hrw (g : ScwSt → ScwSt) : (s.modScw g).hrw = s.hrw := rfl
@[simp] theorem State.modScw_rot (g : ScwSt → ScwSt) : (s.modScw g).rot = s.rot := rfl
@[simp] theorem State.modScw_det (g : ScwSt → ScwSt) : (s.modScw g).det = s.det := rfl
@[simp] theorem State.modScw_aux (g : ScwSt → ScwSt) : (s.modScw g).aux = s.aux := rfl
@[simp] theorem State.modScw_link (g : ScwSt → ScwSt) : (s.modScw g).link = s.link := rfl
@[simp] theorem State.modScw_gran (g : ScwSt → ScwSt) : (s.modScw g).gran = s.gran := rfl
@[simp] theorem State.modScw_plots (g : ScwSt → ScwSt) : (s.modScw g).plots = s.plots := rfl
@[simp] theorem State.modScw_silo (g : ScwSt → ScwSt) : (s.modScw g).silo = s.silo := rfl
@[simp] theorem State.modScw_freeIdx (g : ScwSt → ScwSt) : (s.modScw g).freeIdx = s.freeIdx := rfl
@[simp] theorem State.modScw_pending (g : ScwSt → ScwSt) : (s.modScw g).pending = s.pending := rfl
@[simp] theorem State.modScw_reg (g : ScwSt → ScwSt) (j : Nat) : (s.modScw g).reg j = s.reg j := rfl
@[simp] theorem State.modScw_fld (g : ScwSt → ScwSt) (f : Fld) : (s.modScw g).fld f = s.fld f := rfl
@[simp] theorem State.modScw_flag (g : ScwSt → ScwSt) (f : Fld) : (s.modScw g).flag f = s.flag f := rfl
@[simp] theorem State.modScw_bit (g : ScwSt → ScwSt) (f : Fld) (i : Nat) : (s.modScw g).bit f i = s.bit f i := rfl

/-! ## modTrn -/

@[simp] theorem State.modTrn_regs (g : TrnSt → TrnSt) : (s.modTrn g).regs = s.regs := rfl
@[simp] theorem State.modTrn_step (g : TrnSt → TrnSt) : (s.modTrn g).step = s.step := rfl
@[simp] theorem State.modTrn_armed (g : TrnSt → TrnSt) : (s.modTrn g).armed = s.armed := rfl
@[simp] theorem State.modTrn_pwm (g : TrnSt → TrnSt) : (s.modTrn g).pwm = s.pwm := rfl
@[simp] theorem State.modTrn_sense (g : TrnSt → TrnSt) : (s.modTrn g).sense = s.sense := rfl
@[simp] theorem State.modTrn_head (g : TrnSt → TrnSt) : (s.modTrn g).head = s.head := rfl
@[simp] theorem State.modTrn_loop (g : TrnSt → TrnSt) : (s.modTrn g).loop = s.loop := rfl
@[simp] theorem State.modTrn_obs (g : TrnSt → TrnSt) : (s.modTrn g).obs = s.obs := rfl
@[simp] theorem State.modTrn_routes (g : TrnSt → TrnSt) : (s.modTrn g).routes = s.routes := rfl
@[simp] theorem State.modTrn_tasks (g : TrnSt → TrnSt) : (s.modTrn g).tasks = s.tasks := rfl
@[simp] theorem State.modTrn_que (g : TrnSt → TrnSt) : (s.modTrn g).que = s.que := rfl
@[simp] theorem State.modTrn_ports (g : TrnSt → TrnSt) : (s.modTrn g).ports = s.ports := rfl
@[simp] theorem State.modTrn_saf (g : TrnSt → TrnSt) : (s.modTrn g).saf = s.saf := rfl
@[simp] theorem State.modTrn_scw (g : TrnSt → TrnSt) : (s.modTrn g).scw = s.scw := rfl
@[simp] theorem State.modTrn_fuses (g : TrnSt → TrnSt) : (s.modTrn g).fuses = s.fuses := rfl
@[simp] theorem State.modTrn_pow (g : TrnSt → TrnSt) : (s.modTrn g).pow = s.pow := rfl
@[simp] theorem State.modTrn_trn (g : TrnSt → TrnSt) : (s.modTrn g).trn = g s.trn := rfl
@[simp] theorem State.modTrn_field (g : TrnSt → TrnSt) : (s.modTrn g).field = s.field := rfl
@[simp] theorem State.modTrn_ldr (g : TrnSt → TrnSt) : (s.modTrn g).ldr = s.ldr := rfl
@[simp] theorem State.modTrn_hrw (g : TrnSt → TrnSt) : (s.modTrn g).hrw = s.hrw := rfl
@[simp] theorem State.modTrn_rot (g : TrnSt → TrnSt) : (s.modTrn g).rot = s.rot := rfl
@[simp] theorem State.modTrn_det (g : TrnSt → TrnSt) : (s.modTrn g).det = s.det := rfl
@[simp] theorem State.modTrn_aux (g : TrnSt → TrnSt) : (s.modTrn g).aux = s.aux := rfl
@[simp] theorem State.modTrn_link (g : TrnSt → TrnSt) : (s.modTrn g).link = s.link := rfl
@[simp] theorem State.modTrn_gran (g : TrnSt → TrnSt) : (s.modTrn g).gran = s.gran := rfl
@[simp] theorem State.modTrn_plots (g : TrnSt → TrnSt) : (s.modTrn g).plots = s.plots := rfl
@[simp] theorem State.modTrn_silo (g : TrnSt → TrnSt) : (s.modTrn g).silo = s.silo := rfl
@[simp] theorem State.modTrn_freeIdx (g : TrnSt → TrnSt) : (s.modTrn g).freeIdx = s.freeIdx := rfl
@[simp] theorem State.modTrn_pending (g : TrnSt → TrnSt) : (s.modTrn g).pending = s.pending := rfl
@[simp] theorem State.modTrn_reg (g : TrnSt → TrnSt) (j : Nat) : (s.modTrn g).reg j = s.reg j := rfl
@[simp] theorem State.modTrn_fld (g : TrnSt → TrnSt) (f : Fld) : (s.modTrn g).fld f = s.fld f := rfl
@[simp] theorem State.modTrn_flag (g : TrnSt → TrnSt) (f : Fld) : (s.modTrn g).flag f = s.flag f := rfl
@[simp] theorem State.modTrn_bit (g : TrnSt → TrnSt) (f : Fld) (i : Nat) : (s.modTrn g).bit f i = s.bit f i := rfl

/-! ## modLink -/

@[simp] theorem State.modLink_regs (g : LinkSt → LinkSt) : (s.modLink g).regs = s.regs := rfl
@[simp] theorem State.modLink_step (g : LinkSt → LinkSt) : (s.modLink g).step = s.step := rfl
@[simp] theorem State.modLink_armed (g : LinkSt → LinkSt) : (s.modLink g).armed = s.armed := rfl
@[simp] theorem State.modLink_pwm (g : LinkSt → LinkSt) : (s.modLink g).pwm = s.pwm := rfl
@[simp] theorem State.modLink_sense (g : LinkSt → LinkSt) : (s.modLink g).sense = s.sense := rfl
@[simp] theorem State.modLink_head (g : LinkSt → LinkSt) : (s.modLink g).head = s.head := rfl
@[simp] theorem State.modLink_loop (g : LinkSt → LinkSt) : (s.modLink g).loop = s.loop := rfl
@[simp] theorem State.modLink_obs (g : LinkSt → LinkSt) : (s.modLink g).obs = s.obs := rfl
@[simp] theorem State.modLink_routes (g : LinkSt → LinkSt) : (s.modLink g).routes = s.routes := rfl
@[simp] theorem State.modLink_tasks (g : LinkSt → LinkSt) : (s.modLink g).tasks = s.tasks := rfl
@[simp] theorem State.modLink_que (g : LinkSt → LinkSt) : (s.modLink g).que = s.que := rfl
@[simp] theorem State.modLink_ports (g : LinkSt → LinkSt) : (s.modLink g).ports = s.ports := rfl
@[simp] theorem State.modLink_saf (g : LinkSt → LinkSt) : (s.modLink g).saf = s.saf := rfl
@[simp] theorem State.modLink_scw (g : LinkSt → LinkSt) : (s.modLink g).scw = s.scw := rfl
@[simp] theorem State.modLink_fuses (g : LinkSt → LinkSt) : (s.modLink g).fuses = s.fuses := rfl
@[simp] theorem State.modLink_pow (g : LinkSt → LinkSt) : (s.modLink g).pow = s.pow := rfl
@[simp] theorem State.modLink_trn (g : LinkSt → LinkSt) : (s.modLink g).trn = s.trn := rfl
@[simp] theorem State.modLink_field (g : LinkSt → LinkSt) : (s.modLink g).field = s.field := rfl
@[simp] theorem State.modLink_ldr (g : LinkSt → LinkSt) : (s.modLink g).ldr = s.ldr := rfl
@[simp] theorem State.modLink_hrw (g : LinkSt → LinkSt) : (s.modLink g).hrw = s.hrw := rfl
@[simp] theorem State.modLink_rot (g : LinkSt → LinkSt) : (s.modLink g).rot = s.rot := rfl
@[simp] theorem State.modLink_det (g : LinkSt → LinkSt) : (s.modLink g).det = s.det := rfl
@[simp] theorem State.modLink_aux (g : LinkSt → LinkSt) : (s.modLink g).aux = s.aux := rfl
@[simp] theorem State.modLink_link (g : LinkSt → LinkSt) : (s.modLink g).link = g s.link := rfl
@[simp] theorem State.modLink_gran (g : LinkSt → LinkSt) : (s.modLink g).gran = s.gran := rfl
@[simp] theorem State.modLink_plots (g : LinkSt → LinkSt) : (s.modLink g).plots = s.plots := rfl
@[simp] theorem State.modLink_silo (g : LinkSt → LinkSt) : (s.modLink g).silo = s.silo := rfl
@[simp] theorem State.modLink_freeIdx (g : LinkSt → LinkSt) : (s.modLink g).freeIdx = s.freeIdx := rfl
@[simp] theorem State.modLink_pending (g : LinkSt → LinkSt) : (s.modLink g).pending = s.pending := rfl
@[simp] theorem State.modLink_reg (g : LinkSt → LinkSt) (j : Nat) : (s.modLink g).reg j = s.reg j := rfl
@[simp] theorem State.modLink_fld (g : LinkSt → LinkSt) (f : Fld) : (s.modLink g).fld f = s.fld f := rfl
@[simp] theorem State.modLink_flag (g : LinkSt → LinkSt) (f : Fld) : (s.modLink g).flag f = s.flag f := rfl
@[simp] theorem State.modLink_bit (g : LinkSt → LinkSt) (f : Fld) (i : Nat) : (s.modLink g).bit f i = s.bit f i := rfl

end Sys2Proof.Machine
end

