-- ==== Sys2Proof/Laws/Regs.lean ====
section
/-! SUPPORT. Laws of registers and fields: what a register or a field reads as after a write of it, of another field of the
same register, and of another register. -/

namespace Sys2Proof.Machine

/-! ## Fields of a word -/

theorem fieldGet_testBit (w : Word) (lo n i : Nat) :
    (fieldGet w lo n).testBit i = (decide (i < n) && w.getLsbD (lo + i)) := by
  rw [fieldGet, bitsOf, Nat.testBit_mod_two_pow, Nat.testBit_div_two_pow, ← BitVec.testBit_toNat, Nat.add_comm]

theorem fieldGet_lt (w : Word) (lo n : Nat) : fieldGet w lo n < 2 ^ n := Nat.mod_lt _ (by positivity)

theorem word_getLsbD (n i : Nat) : (word n).getLsbD i = (decide (i < 32) && n.testBit i) := by
  simp [word, BitVec.getLsbD_ofNat]

theorem fieldMask_testBit (lo n i : Nat) :
    ((2 ^ n - 1) * 2 ^ lo).testBit i = (decide (lo ≤ i) && decide (i < lo + n)) := by
  rw [← Nat.shiftLeft_eq, Nat.testBit_shiftLeft, Nat.testBit_two_pow_sub_one]
  by_cases h : lo ≤ i <;> simp [h]
  omega

theorem fieldSet_getLsbD (w : Word) (lo n v i : Nat) (hi : i < 32) :
    (fieldSet w lo n v).getLsbD i = if lo ≤ i ∧ i < lo + n then v.testBit (i - lo) else w.getLsbD i := by
  have hv : (v % 2 ^ n * 2 ^ lo).testBit i = (decide (lo ≤ i) && (decide (i - lo < n) && v.testBit (i - lo))) := by
    rw [← Nat.shiftLeft_eq, Nat.testBit_shiftLeft, Nat.testBit_mod_two_pow]
  simp only [fieldSet, BitVec.getLsbD_or, BitVec.getLsbD_and, BitVec.getLsbD_not, word_getLsbD, fieldMask_testBit, hv, hi]
  by_cases h1 : lo ≤ i <;> by_cases h2 : i < lo + n <;>
    simp [h1, h2] <;> omega

/-- A field reads as what was written to it, modulo its width. -/
theorem fieldGet_fieldSet_same (w : Word) {lo n : Nat} (v : Nat) (h : lo + n ≤ 32) :
    fieldGet (fieldSet w lo n v) lo n = v % 2 ^ n := by
  apply Nat.eq_of_testBit_eq
  intro i
  rw [fieldGet_testBit, Nat.testBit_mod_two_pow]
  by_cases hi : i < n
  · rw [fieldSet_getLsbD _ _ _ _ _ (by omega)]
    simp [hi]
  · simp [hi]

/-- A write of one field leaves every field that shares no bit with it. -/
theorem fieldGet_fieldSet_apart (w : Word) {lo n lo' n' : Nat} (v : Nat) (h : lo' + n' ≤ lo ∨ lo + n ≤ lo') :
    fieldGet (fieldSet w lo n v) lo' n' = fieldGet w lo' n' := by
  apply Nat.eq_of_testBit_eq
  intro i
  rw [fieldGet_testBit, fieldGet_testBit]
  by_cases hi : i < n'
  · by_cases h32 : lo' + i < 32
    · rw [fieldSet_getLsbD _ _ _ _ _ h32, if_neg (by omega)]
    · rw [BitVec.getLsbD_of_ge _ _ (by omega), BitVec.getLsbD_of_ge _ _ (by omega)]
  · simp [hi]

/-- Writing a field with what it holds changes nothing. -/
theorem fieldSet_fieldGet (w : Word) (lo n : Nat) : fieldSet w lo n (fieldGet w lo n) = w := by
  apply BitVec.eq_of_getLsbD_eq
  intro i hi
  rw [fieldSet_getLsbD _ _ _ _ _ hi, fieldGet_testBit]
  split
  · rename_i h
    rw [show lo + (i - lo) = i by omega]
    simp; omega
  · rfl

/-! ## Registers -/

namespace State

variable (s : State)

/-- A register read after a write of a register. -/
theorem reg_setReg (k j : Nat) (w : Word) : (s.setReg k w).reg j = if j = k then w else s.reg j := by
  by_cases h : j = k
  · subst h; simp [State.reg, State.setReg, SMap.get_put]
  · simp [State.reg, State.setReg, SMap.get_put_other, h]

@[simp] theorem reg_setReg_same (k : Nat) (w : Word) : (s.setReg k w).reg k = w := by
  simp [reg_setReg]

theorem reg_setReg_other {k j : Nat} (w : Word) (h : j ≠ k) : (s.setReg k w).reg j = s.reg j := by
  simp [reg_setReg, h]

theorem fld_setReg_other {k : Nat} {g : Fld} (w : Word) (h : g.addr ≠ k) : (s.setReg k w).fld g = s.fld g := by
  simp only [State.fld, reg_setReg_other s w h]

theorem fld_setReg_same (g : Fld) (w : Word) : (s.setReg g.addr w).fld g = fieldGet w g.lo g.width := by
  simp [State.fld]

theorem fld_lt (f : Fld) : s.fld f < 2 ^ f.width := fieldGet_lt _ _ _

/-- A write of a field leaves every other register. -/
theorem reg_setFld_other {f : Fld} {k : Nat} (v : Nat) (h : k ≠ f.addr) : (s.setFld f v).reg k = s.reg k :=
  reg_setReg_other _ _ h

/-- A field reads as what was written, modulo its width. -/
theorem fld_setFld_same {f : Fld} (v : Nat) (h : f.lo + f.width ≤ 32) : (s.setFld f v).fld f = v % 2 ^ f.width := by
  rw [State.setFld, fld_setReg_same, fieldGet_fieldSet_same _ _ h]

/-- A write of a field leaves the fields of other registers. -/
theorem fld_setFld_other {f g : Fld} (v : Nat) (h : g.addr ≠ f.addr) : (s.setFld f v).fld g = s.fld g := by
  simp only [State.fld, reg_setFld_other s v h]

/-- A write of a field leaves the fields of its register that share no bit with it. -/
theorem fld_setFld_apart {f g : Fld} (v : Nat) (h : g.lo + g.width ≤ f.lo ∨ f.lo + f.width ≤ g.lo) :
    (s.setFld f v).fld g = s.fld g := by
  by_cases ha : g.addr = f.addr
  · simp only [State.fld, State.setFld, ha, reg_setReg_same, fieldGet_fieldSet_apart _ _ h]
  · exact fld_setFld_other s v ha

theorem flag_eq (f : Fld) : s.flag f = (s.fld f != 0) := rfl

theorem flag_setFlag_same {f : Fld} (b : Bool) (h : f.lo + f.width ≤ 32) (h1 : f.width ≠ 0) : (s.setFlag f b).flag f = b := by
  rw [State.flag, State.setFlag, fld_setFld_same s _ h]
  have : 1 < 2 ^ f.width := Nat.one_lt_two_pow h1
  cases b <;> simp [Nat.mod_eq_of_lt this]

theorem flag_setFlag_other {f g : Fld} (b : Bool) (h : g.addr ≠ f.addr) : (s.setFlag f b).flag g = s.flag g := by
  simp only [State.flag, State.setFlag, fld_setFld_other s _ h]

theorem flag_setFlag_apart {f g : Fld} (b : Bool) (h : g.lo + g.width ≤ f.lo ∨ f.lo + f.width ≤ g.lo) :
    (s.setFlag f b).flag g = s.flag g := by
  simp only [State.flag, State.setFlag, fld_setFld_apart s _ h]

theorem reg_setFlag_other {f : Fld} {k : Nat} (b : Bool) (h : k ≠ f.addr) : (s.setFlag f b).reg k = s.reg k :=
  reg_setFld_other s _ h

theorem reg_setBit_other {f : Fld} {k : Nat} (i : Nat) (b : Bool) (h : k ≠ f.addr) : (s.setBit f i b).reg k = s.reg k :=
  reg_setFld_other s _ h

theorem reg_bump_other {f : Fld} {k : Nat} (n : Nat) (h : k ≠ f.addr) : (s.bump f n).reg k = s.reg k :=
  reg_setFld_other s _ h

theorem fld_setBit_other {f g : Fld} (i : Nat) (b : Bool) (h : g.addr ≠ f.addr) : (s.setBit f i b).fld g = s.fld g :=
  fld_setFld_other s _ h

theorem fld_setBit_apart {f g : Fld} (i : Nat) (b : Bool) (h : g.lo + g.width ≤ f.lo ∨ f.lo + f.width ≤ g.lo) :
    (s.setBit f i b).fld g = s.fld g := fld_setFld_apart s _ h

theorem fld_bump_other {f g : Fld} (n : Nat) (h : g.addr ≠ f.addr) : (s.bump f n).fld g = s.fld g :=
  fld_setFld_other s _ h

theorem fld_bump_apart {f g : Fld} (n : Nat) (h : g.lo + g.width ≤ f.lo ∨ f.lo + f.width ≤ g.lo) :
    (s.bump f n).fld g = s.fld g := fld_setFld_apart s _ h

/-- A counting field stops at its largest value. -/
theorem fld_bump_same {f : Fld} (n : Nat) (h : f.lo + f.width ≤ 32) :
    (s.bump f n).fld f = min (s.fld f + n) (2 ^ f.width - 1) := by
  rw [State.bump, fld_setFld_same s _ h, satAdd, Nat.mod_eq_of_lt]
  have : 0 < 2 ^ f.width := by positivity
  omega

/-- A bit of a field reads as it was set. -/
theorem bit_setBit_same {f : Fld} (i : Nat) (b : Bool) (h : f.lo + f.width ≤ 32) (hi : i < f.width) :
    (s.setBit f i b).bit f i = b := by
  have hlt := fld_lt s f
  have hp : 2 ^ i < 2 ^ f.width := Nat.pow_lt_pow_right (by omega) hi
  rw [State.bit, State.setBit, fld_setFld_same s _ h, Nat.testBit_mod_two_pow]
  cases b
  · simp only [Bool.false_eq_true, if_false, hi, decide_true, Bool.true_and]
    split
    · rename_i hb
      have hq : (s.fld f - 2 ^ i) / 2 ^ i = s.fld f / 2 ^ i - 1 := by simpa using Nat.sub_mul_div (s.fld f) (2 ^ i) 1
      rw [Nat.testBit_eq_decide_div_mod_eq, decide_eq_true_eq] at hb
      rw [Nat.testBit_eq_decide_div_mod_eq, decide_eq_false_iff_not, hq]
      omega
    · rename_i hb; simpa using hb
  · simp [hi]

end State

end Sys2Proof.Machine
end

