-- ==== Sys2Proof/Laws/Near.lean ====
section
/-! SUPPORT. Which parts of the state an operation leaves as they are, said once: the relation `Near`, and how it passes through the
state's updates. -/

namespace Sys2Proof.Machine

/-- The place of a part in a set of parts written as a number. -/
def Part.bit : Part → Nat
  | .regs => 0 | .step => 1 | .armed => 2 | .pwm => 3 | .sense => 4 | .head => 5 | .loop => 6 | .obs => 7 | .routes => 8
  | .tasks => 9 | .que => 10 | .ports => 11 | .saf => 12 | .scw => 13 | .fuses => 14 | .pow => 15 | .trn => 16 | .field => 17
  | .ldr => 18 | .hrw => 19 | .rot => 20 | .det => 21 | .aux => 22 | .link => 23 | .gran => 24 | .plots => 25 | .silo => 26
  | .freeIdx => 27

/-- The parts of `m` are among those of `l`. -/
def Sub (m l : Nat) : Prop := m &&& l = m

theorem Sub.of {a b l : Nat} (hl : Sub b l) (h : a &&& b = a) : Sub a l := by
  unfold Sub at *
  rw [← h, Nat.and_assoc, hl]

theorem Sub.testBit {m l : Nat} (hl : Sub m l) {k : Nat} (h : m.testBit k = true) : l.testBit k = true := by
  rw [← hl, Nat.testBit_and] at h
  exact (Bool.and_eq_true _ _ ▸ h).2

/-- `t` differs from `s` in no part but those of `l`. -/
structure Near (l : Nat) (s t : State) : Prop where
  same : ∀ x : Part, l.testBit x.bit = false → Part.agrees s t x

namespace Near

variable {l : Nat} {s0 s t : State}

theorem refl (l : Nat) (s : State) : Near l s s := ⟨fun x _ => by cases x <;> rfl⟩

theorem trans {r s t : State} (h : Near l r s) (h' : Near l s t) : Near l r t := ⟨fun x hx => by
  have a := h.same x hx
  have b := h'.same x hx
  cases x <;> exact b.trans a⟩

theorem mono {l' : Nat} (h : Near l s t) (hl : Sub l l') : Near l' s t := ⟨fun x hx => h.same x (by
  cases hk : l.testBit x.bit with
  | false => rfl
  | true => rw [hl.testBit hk] at hx; cases hx)⟩

/-- Every state is near to every other in all parts. -/
theorem any (hl : Sub 0xFFFFFFF l) (s t : State) : Near l s t := ⟨fun x hx =>
  absurd (hl.testBit (by cases x <;> rfl : Nat.testBit 0xFFFFFFF x.bit = true)) (by simp [hx])⟩

theorem ite {c : Prop} [Decidable c] {s t : State} (hs : Near l s0 s) (ht : Near l s0 t) : Near l s0 (if c then s else t) := by
  split <;> assumption

theorem ite_fst {β : Type} {c : Prop} [Decidable c] {x y : State × β} (hx : Near l s0 x.1) (hy : Near l s0 y.1) :
    Near l s0 (if c then x else y).1 := by split <;> assumption

theorem foldl {α : Type} {f : State → α → State} (hf : ∀ x a, Near l s0 x → Near l s0 (f x a)) (r : List α)
    (h : Near l s0 s) : Near l s0 (r.foldl f s) := by
  induction r generalizing s with
  | nil => exact h
  | cons a r ih => exact ih (hf _ _ h)

theorem foldr {α : Type} {f : α → State → State} (hf : ∀ a x, Near l s0 x → Near l s0 (f a x)) (r : List α)
    (h : Near l s0 s) : Near l s0 (r.foldr f s) := by
  induction r with
  | nil => exact h
  | cons a r ih => exact hf _ _ ih

/-- A fold that carries something beside the state. -/
theorem foldl_snd {α β : Type} {f : β × State → α → β × State} (hf : ∀ x a, Near l s0 x.2 → Near l s0 (f x a).2) (r : List α)
    {x : β × State} (h : Near l s0 x.2) : Near l s0 (r.foldl f x).2 := by
  induction r generalizing x with
  | nil => exact h
  | cons a r ih => exact ih (hf _ _ h)

theorem foldl_fst {α β : Type} {f : State × β → α → State × β} (hf : ∀ x a, Near l s0 x.1 → Near l s0 (f x a).1) (r : List α)
    {x : State × β} (h : Near l s0 x.1) : Near l s0 (r.foldl f x).1 := by
  induction r generalizing x with
  | nil => exact h
  | cons a r ih => exact ih (hf _ _ h)

theorem each {α : Type} {f : State → α → State} {r : List α} (hf : ∀ x a, Near l s0 x → Near l s0 (f x a))
    (h : Near l s0 s) : Near l s0 (s.each r f) := foldl hf r h

theorem when {b : Bool} {f : State → State} (hf : ∀ x, Near l s0 x → Near l s0 (f x)) (h : Near l s0 s) :
    Near l s0 (s.when b f) := ite (hf _ h) h

theorem set (h : Near l s0 s) (k : Part) (hk : l.testBit k.bit = true) (ht : ∀ x, x ≠ k → Part.agrees s t x) : Near l s0 t :=
  h.trans ⟨fun x hx => ht x (by rintro rfl; rw [hk] at hx; cases hx)⟩

theorem setReg (h : Near l s0 s) (k : Nat) (w : Word) (hl : Sub 1 l := by first | assumption | exact Sub.of (by assumption) rfl) :
    Near l s0 (s.setReg k w) := h.set .regs (hl.testBit rfl) fun x hx => by cases x <;> first | rfl | exact absurd rfl hx

theorem setFld (h : Near l s0 s) (f : Fld) (v : Nat) (hl : Sub 1 l := by first | assumption | exact Sub.of (by assumption) rfl) :
    Near l s0 (s.setFld f v) := h.setReg _ _ hl
theorem setFlag (h : Near l s0 s) (f : Fld) (b : Bool) (hl : Sub 1 l := by first | assumption | exact Sub.of (by assumption) rfl) :
    Near l s0 (s.setFlag f b) := h.setReg _ _ hl
theorem setBit (h : Near l s0 s) (f : Fld) (k : Nat) (b : Bool) (hl : Sub 1 l := by first | assumption | exact Sub.of (by assumption) rfl) :
    Near l s0 (s.setBit f k b) := h.setReg _ _ hl
theorem bump (h : Near l s0 s) (f : Fld) (k : Nat) (hl : Sub 1 l := by first | assumption | exact Sub.of (by assumption) rfl) :
    Near l s0 (s.bump f k) := h.setReg _ _ hl

theorem setTask (h : Near l s0 s) (c : Nat) (t : Task) (hl : Sub 0x200 l := by first | assumption | exact Sub.of (by assumption) rfl) :
    Near l s0 (s.setTask c t) := h.set .tasks (hl.testBit rfl) fun x hx => by cases x <;> first | rfl | exact absurd rfl hx

/-- Any other update: each part is that of `s`, or one that may differ. -/
theorem upd (h : Near l s0 s) (ht : ∀ x, l.testBit x.bit = false → Part.agrees s t x) : Near l s0 t := h.trans ⟨ht⟩

theorem up_freeIdx (h : Near l s0 s) (v : Nat) (hl : Sub 0x8000000 l) : Near l s0 { s with freeIdx := v } :=
  h.set .freeIdx (hl.testBit rfl) fun x hx => by cases x <;> first | rfl | exact absurd rfl hx

theorem up_step (h : Near l s0 s) (v : StepTag) (hl : Sub 0x2 l) : Near l s0 { s with step := v } :=
  h.set .step (hl.testBit rfl) fun x hx => by cases x <;> first | rfl | exact absurd rfl hx

theorem up_armed (h : Near l s0 s) (v : BitVec 4) (hl : Sub 0x4 l) : Near l s0 { s with armed := v } :=
  h.set .armed (hl.testBit rfl) fun x hx => by cases x <;> first | rfl | exact absurd rfl hx

theorem up_routes (h : Near l s0 s) (v : List Route) (hl : Sub 0x100 l) : Near l s0 { s with routes := v } :=
  h.set .routes (hl.testBit rfl) fun x hx => by cases x <;> first | rfl | exact absurd rfl hx

theorem up_fuses (h : Near l s0 s) (v : Fuses) (hl : Sub 0x4000 l) : Near l s0 { s with fuses := v } :=
  h.set .fuses (hl.testBit rfl) fun x hx => by cases x <;> first | rfl | exact absurd rfl hx

theorem up_trn (h : Near l s0 s) (v : TrnSt) (hl : Sub 0x10000 l) : Near l s0 { s with trn := v } :=
  h.set .trn (hl.testBit rfl) fun x hx => by cases x <;> first | rfl | exact absurd rfl hx

theorem up_rot (h : Near l s0 s) (v : RotSt) (hl : Sub 0x100000 l) : Near l s0 { s with rot := v } :=
  h.set .rot (hl.testBit rfl) fun x hx => by cases x <;> first | rfl | exact absurd rfl hx

theorem up_gran (h : Near l s0 s) (v : SMap Byte) (hl : Sub 0x1000000 l) : Near l s0 { s with gran := v } :=
  h.set .gran (hl.testBit rfl) fun x hx => by cases x <;> first | rfl | exact absurd rfl hx

theorem up_plots (h : Near l s0 s) (v : SMap Byte) (hl : Sub 0x2000000 l) : Near l s0 { s with plots := v } :=
  h.set .plots (hl.testBit rfl) fun x hx => by cases x <;> first | rfl | exact absurd rfl hx

theorem up_silo (h : Near l s0 s) (v : SMap Byte) (hl : Sub 0x4000000 l) : Near l s0 { s with silo := v } :=
  h.set .silo (hl.testBit rfl) fun x hx => by cases x <;> first | rfl | exact absurd rfl hx

theorem up_begin (h : Near l s0 s) (v : StepTag) (r : RotSt) (hs : Sub 2 l) (hr : Sub 0x100000 l) : Near l s0 { s with step := v, rot := r } :=
  (h.up_step v hs).up_rot r hr

theorem up_mems (h : Near l s0 s) (p g : SMap Byte) (hp : Sub 0x2000000 l) (hg : Sub 0x1000000 l) : Near l s0 { s with plots := p, gran := g } :=
  (h.up_plots p hp).up_gran g hg

end Near

end Sys2Proof.Machine
end

