-- ==== Sys2Proof/Laws/NearDrive.lean ====
section
/-! SUPPORT. `Near` through every operation of the registers, the Square, the queues, the axes and the Turnstile; the number of each lemma says which parts it may change. -/

namespace Sys2Proof.Machine

/-! ## Ops -/

theorem near_fresh {l : Nat} (hl : Sub 0x8000000 l) {s0 s : State} (h : Near l s0 s) : Near l s0 (State.fresh s).2 := by
  unfold State.fresh
  dsimp only
  repeat' (first | (with_reducible first | assumption | intro _ | exact hl.of rfl | apply Near.up_freeIdx))

theorem near_modAux {l : Nat} (hl : Sub 0x400000 l) {s0 s : State} (h : Near l s0 s) : ∀ x0, Near l s0 (State.modAux s x0) := by
  intro x0
  exact h.set .aux (hl.testBit rfl) fun x hx => by cases x <;> first | rfl | exact absurd rfl hx

theorem near_modDet {l : Nat} (hl : Sub 0x200000 l) {s0 s : State} (h : Near l s0 s) : ∀ x0 x1, Near l s0 (State.modDet s x0 x1) := by
  intro x0 x1
  exact h.set .det (hl.testBit rfl) fun x hx => by cases x <;> first | rfl | exact absurd rfl hx

theorem near_modField {l : Nat} (hl : Sub 0x20000 l) {s0 s : State} (h : Near l s0 s) : ∀ x0, Near l s0 (State.modField s x0) := by
  intro x0
  exact h.set .field (hl.testBit rfl) fun x hx => by cases x <;> first | rfl | exact absurd rfl hx

theorem near_modHead {l : Nat} (hl : Sub 0x20 l) {s0 s : State} (h : Near l s0 s) : ∀ x0 x1, Near l s0 (State.modHead s x0 x1) := by
  intro x0 x1
  exact h.set .head (hl.testBit rfl) fun x hx => by cases x <;> first | rfl | exact absurd rfl hx

theorem near_modHrw {l : Nat} (hl : Sub 0x80000 l) {s0 s : State} (h : Near l s0 s) : ∀ x0, Near l s0 (State.modHrw s x0) := by
  intro x0
  exact h.set .hrw (hl.testBit rfl) fun x hx => by cases x <;> first | rfl | exact absurd rfl hx

theorem near_modLdr {l : Nat} (hl : Sub 0x40000 l) {s0 s : State} (h : Near l s0 s) : ∀ x0, Near l s0 (State.modLdr s x0) := by
  intro x0
  exact h.set .ldr (hl.testBit rfl) fun x hx => by cases x <;> first | rfl | exact absurd rfl hx

theorem near_modLink {l : Nat} (hl : Sub 0x800000 l) {s0 s : State} (h : Near l s0 s) : ∀ x0, Near l s0 (State.modLink s x0) := by
  intro x0
  exact h.set .link (hl.testBit rfl) fun x hx => by cases x <;> first | rfl | exact absurd rfl hx

theorem near_modLoop {l : Nat} (hl : Sub 0x40 l) {s0 s : State} (h : Near l s0 s) : ∀ x0 x1, Near l s0 (State.modLoop s x0 x1) := by
  intro x0 x1
  exact h.set .loop (hl.testBit rfl) fun x hx => by cases x <;> first | rfl | exact absurd rfl hx

theorem near_modObs {l : Nat} (hl : Sub 0x80 l) {s0 s : State} (h : Near l s0 s) : ∀ x0 x1, Near l s0 (State.modObs s x0 x1) := by
  intro x0 x1
  exact h.set .obs (hl.testBit rfl) fun x hx => by cases x <;> first | rfl | exact absurd rfl hx

theorem near_modPort {l : Nat} (hl : Sub 0x800 l) {s0 s : State} (h : Near l s0 s) : ∀ x0 x1, Near l s0 (State.modPort s x0 x1) := by
  intro x0 x1
  exact h.set .ports (hl.testBit rfl) fun x hx => by cases x <;> first | rfl | exact absurd rfl hx

theorem near_modPow {l : Nat} (hl : Sub 0x8000 l) {s0 s : State} (h : Near l s0 s) : ∀ x0, Near l s0 (State.modPow s x0) := by
  intro x0
  exact h.set .pow (hl.testBit rfl) fun x hx => by cases x <;> first | rfl | exact absurd rfl hx

theorem near_modPwm {l : Nat} (hl : Sub 0x8 l) {s0 s : State} (h : Near l s0 s) : ∀ x0 x1, Near l s0 (State.modPwm s x0 x1) := by
  intro x0 x1
  exact h.set .pwm (hl.testBit rfl) fun x hx => by cases x <;> first | rfl | exact absurd rfl hx

theorem near_modQue {l : Nat} (hl : Sub 0x400 l) {s0 s : State} (h : Near l s0 s) : ∀ x0, Near l s0 (State.modQue s x0) := by
  intro x0
  exact h.set .que (hl.testBit rfl) fun x hx => by cases x <;> first | rfl | exact absurd rfl hx

theorem near_modSaf {l : Nat} (hl : Sub 0x1000 l) {s0 s : State} (h : Near l s0 s) : ∀ x0, Near l s0 (State.modSaf s x0) := by
  intro x0
  exact h.set .saf (hl.testBit rfl) fun x hx => by cases x <;> first | rfl | exact absurd rfl hx

theorem near_modScw {l : Nat} (hl : Sub 0x2000 l) {s0 s : State} (h : Near l s0 s) : ∀ x0, Near l s0 (State.modScw s x0) := by
  intro x0
  exact h.set .scw (hl.testBit rfl) fun x hx => by cases x <;> first | rfl | exact absurd rfl hx

theorem near_modSense {l : Nat} (hl : Sub 0x10 l) {s0 s : State} (h : Near l s0 s) : ∀ x0 x1, Near l s0 (State.modSense s x0 x1) := by
  intro x0 x1
  exact h.set .sense (hl.testBit rfl) fun x hx => by cases x <;> first | rfl | exact absurd rfl hx

theorem near_modTrn {l : Nat} (hl : Sub 0x10000 l) {s0 s : State} (h : Near l s0 s) : ∀ x0, Near l s0 (State.modTrn s x0) := by
  intro x0
  exact h.set .trn (hl.testBit rfl) fun x hx => by cases x <;> first | rfl | exact absurd rfl hx

/-! ## Gates -/

theorem near_outputsMoved {l : Nat} (hl : Sub 0x9 l) {s0 s : State} (h : Near l s0 s) : ∀ x0 x1, Near l s0 (outputsMoved x0 x1 s) := by
  intro x0 x1
  unfold outputsMoved
  dsimp only
  repeat' (first | (with_reducible first | assumption | intro _ | exact hl.of rfl | apply Near.setFlag | apply near_modPwm (hl.of rfl) | apply Near.foldl | apply Near.foldl_snd | apply Near.ite))

/-! ## Square -/

theorem near_trnEnd {l : Nat} (hl : Sub 0x10000 l) {s0 s : State} (h : Near l s0 s) : ∀ x0, Near l s0 (trnEnd x0 s) := by
  intro x0
  unfold trnEnd
  dsimp only
  repeat' (first | (with_reducible first | assumption | intro _ | exact hl.of rfl | apply Near.up_trn))

theorem near_bulkSet {l : Nat} (hl : Sub 0x1 l) {s0 s : State} (h : Near l s0 s) : ∀ x0 x1 x2, Near l s0 (bulkSet x0 x1 x2 s) := by
  intro x0 x1 x2
  unfold bulkSet
  repeat' (first | (with_reducible first | assumption | intro _ | exact hl.of rfl | apply Near.setFld))

theorem near_snsStart {l : Nat} (hl : Sub 0x11 l) {s0 s : State} (h : Near l s0 s) : ∀ x0 x1 x2, Near l s0 (snsStart x0 x1 x2 s) := by
  intro x0 x1 x2
  unfold snsStart
  dsimp only
  repeat' (first | (with_reducible first | assumption | intro _ | exact hl.of rfl | apply Near.setFlag | apply near_modSense (hl.of rfl) | apply Near.ite))

theorem near_maskSel {l : Nat} (hl : Sub 0x9 l) {s0 s : State} (h : Near l s0 s) : ∀ x0 x1, Near l s0 (maskSel x0 x1 s) := by
  intro x0 x1
  unfold maskSel
  repeat' (first | (with_reducible first | assumption | intro _ | exact hl.of rfl | apply Near.setFld | apply near_outputsMoved (hl.of rfl) | apply Near.ite))

theorem near_bankSwapReq {l : Nat} (hl : Sub 0x41 l) {s0 s : State} (h : Near l s0 s) : ∀ x0, Near l s0 (bankSwapReq x0 s) := by
  intro x0
  unfold bankSwapReq
  repeat' (first | (with_reducible first | assumption | intro _ | exact hl.of rfl | apply Near.setFlag | apply near_modLoop (hl.of rfl) | apply Near.ite))

theorem near_armGroup {l : Nat} (hl : Sub 0x4 l) {s0 s : State} (h : Near l s0 s) : ∀ x0, Near l s0 (armGroup x0 s) := by
  intro x0
  unfold armGroup
  repeat' (first | (with_reducible first | assumption | intro _ | exact hl.of rfl | apply Near.up_armed))

theorem near_scanStop {l : Nat} (hl : Sub 0x1 l) {s0 s : State} (h : Near l s0 s) : ∀ x0 x1 x2, Near l s0 (scanStop x0 x1 x2 s) := by
  intro x0 x1 x2
  unfold scanStop
  repeat' (first | (with_reducible first | assumption | intro _ | exact hl.of rfl | apply Near.setFld))

theorem near_trnRequest {l : Nat} (hl : Sub 0x10000 l) {s0 s : State} (h : Near l s0 s) : ∀ x0 x1 x2, Near l s0 (trnRequest x0 x1 x2 s) := by
  intro x0 x1 x2
  unfold trnRequest
  dsimp only
  repeat' (first | (with_reducible first | assumption | intro _ | exact hl.of rfl | apply Near.up_trn))

theorem near_scanGo {l : Nat} (hl : Sub 0x10001 l) {s0 s : State} (h : Near l s0 s) : ∀ x0, Near l s0 (scanGo x0 s) := by
  intro x0
  unfold scanGo
  dsimp only
  repeat' (first | (with_reducible first | assumption | intro _ | exact hl.of rfl | apply Near.setFld | apply Near.setFlag | apply near_scanStop (hl.of rfl) | apply near_trnRequest (hl.of rfl) | apply Near.ite))

theorem near_cutSwapReq {l : Nat} (hl : Sub 0x20001 l) {s0 s : State} (h : Near l s0 s) : ∀ x0 x1, Near l s0 (cutSwapReq x0 x1 s) := by
  intro x0 x1
  unfold cutSwapReq
  repeat' (first | (with_reducible first | assumption | intro _ | exact hl.of rfl | apply Near.setFlag | apply near_modField (hl.of rfl) | apply Near.ite))

theorem near_bulkGo {l : Nat} (hl : Sub 0x10001 l) {s0 s : State} (h : Near l s0 s) : ∀ x0, Near l s0 (bulkGo x0 s) := by
  intro x0
  unfold bulkGo
  dsimp only
  repeat' (first | (with_reducible first | assumption | intro _ | exact hl.of rfl | apply near_bulkSet (hl.of rfl) | apply near_trnRequest (hl.of rfl) | apply Near.ite))

theorem near_linkTask {l : Nat} (hl : Sub 0x10001 l) {s0 s : State} (h : Near l s0 s) : ∀ x0, Near l s0 (linkTask x0 s) := by
  intro x0
  unfold linkTask
  repeat' (first | (with_reducible first | assumption | intro _ | exact hl.of rfl | apply near_bulkGo (hl.of rfl) | apply Near.ite))

theorem near_taskServe {l : Nat} (hl : Sub 0x3005d l) {s0 s : State} (h : Near l s0 s) : ∀ x0 x1 x2, Near l s0 (taskServe x0 x1 x2 s) := by
  intro x0 x1 x2
  unfold taskServe
  dsimp only
  repeat' (first | (with_reducible first | assumption | intro _ | exact hl.of rfl | apply near_snsStart (hl.of rfl) | apply near_maskSel (hl.of rfl) | apply near_bankSwapReq (hl.of rfl) | apply near_armGroup (hl.of rfl) | apply near_scanGo (hl.of rfl) | apply near_cutSwapReq (hl.of rfl) | apply near_linkTask (hl.of rfl) | apply Near.ite) | split)

theorem near_ovfServe {l : Nat} (hl : Sub 0x3025d l) {s0 s : State} (h : Near l s0 s) : ∀ x0, Near l s0 (ovfServe x0 s) := by
  intro x0
  unfold ovfServe
  dsimp only
  repeat' (first | (with_reducible first | assumption | intro _ | exact hl.of rfl | apply Near.setTask | apply near_taskServe (hl.of rfl) | apply near_taskServe (hl.of rfl)) | split)

theorem near_auditTask {l : Nat} (hl : Sub 0x1 l) {s0 s : State} (h : Near l s0 s) : ∀ x0, Near l s0 (auditTask x0 s) := by
  intro x0
  unfold auditTask
  dsimp only
  repeat' (first | (with_reducible first | assumption | intro _ | exact hl.of rfl | apply Near.setFld | apply Near.setFlag | apply Near.ite))

theorem near_taskEvent {l : Nat} (hl : Sub 0x3025d l) {s0 s : State} (h : Near l s0 s) : ∀ x0 x1 x2 x3 x4, Near l s0 (taskEvent x0 x1 x2 x3 x4 s) := by
  intro x0 x1 x2 x3 x4
  unfold taskEvent
  dsimp only
  repeat' (first | (with_reducible first | assumption | intro _ | exact hl.of rfl | apply Near.setFlag | apply Near.setTask | apply near_taskServe (hl.of rfl) | apply near_taskServe (hl.of rfl) | apply near_taskServe (hl.of rfl) | apply near_taskServe (hl.of rfl) | apply Near.ite) | split)

theorem near_deliver {l : Nat} (hl : Sub 0x3025d l) {s0 s : State} (h : Near l s0 s) : ∀ x0 x1 x2, Near l s0 (deliver x0 x1 x2 s) := by
  intro x0 x1
  induction x1 generalizing s with
  | nil => intro x2; exact h
  | cons e r ih => intro x2; exact ih (near_auditTask (hl.of rfl) (near_taskEvent (hl.of rfl) h _ _ _ _ _) _) _

theorem near_raiseAll {l : Nat} (hl : Sub 0x3025d l) {s0 s : State} (h : Near l s0 s) : ∀ x0 x1, Near l s0 (raiseAll x0 x1 s) := by
  intro x0 x1
  unfold raiseAll
  dsimp only
  repeat' (first | (with_reducible first | assumption | intro _ | exact hl.of rfl | apply near_ovfServe (hl.of rfl) | apply near_deliver (hl.of rfl) | apply Near.each))

theorem near_raise {l : Nat} (hl : Sub 0x3025d l) {s0 s : State} (h : Near l s0 s) : ∀ x0 x1, Near l s0 (raise x0 x1 s) := by
  intro x0 x1
  unfold raise
  repeat' (first | (with_reducible first | assumption | intro _ | exact hl.of rfl | apply near_raiseAll (hl.of rfl)))

theorem near_raiseAx {l : Nat} (hl : Sub 0x3025d l) {s0 s : State} (h : Near l s0 s) : ∀ x0 x1 x2, Near l s0 (raiseAx x0 x1 x2 s) := by
  intro x0 x1 x2
  unfold raiseAx
  repeat' (first | (with_reducible first | assumption | intro _ | exact hl.of rfl | apply near_raise (hl.of rfl)))

/-! ## Safe -/

theorem near_auxOff {l : Nat} (hl : Sub 0x400001 l) {s0 s : State} (h : Near l s0 s) : Near l s0 (auxOff s) := by
  unfold auxOff
  repeat' (first | (with_reducible first | assumption | intro _ | exact hl.of rfl | apply Near.setReg | apply Near.setFld | apply near_modAux (hl.of rfl)))

theorem near_pairOut {l : Nat} (hl : Sub 0x1 l) {s0 s : State} (h : Near l s0 s) : ∀ x0, Near l s0 (pairOut x0 s) := by
  intro x0
  unfold pairOut
  repeat' (first | (with_reducible first | assumption | intro _ | exact hl.of rfl | apply Near.setFlag))

theorem near_auxKillOne {l : Nat} (hl : Sub 0x400001 l) {s0 s : State} (h : Near l s0 s) : ∀ x0, Near l s0 (auxKillOne x0 s) := by
  intro x0
  unfold auxKillOne
  dsimp only
  repeat' (first | (with_reducible first | assumption | intro _ | exact hl.of rfl | apply Near.setBit | apply near_modAux (hl.of rfl) | apply Near.ite))

theorem near_auxKillNow {l : Nat} (hl : Sub 0x400001 l) {s0 s : State} (h : Near l s0 s) : Near l s0 (auxKillNow s) := by
  unfold auxKillNow
  repeat' (first | (with_reducible first | assumption | intro _ | exact hl.of rfl | apply near_auxKillOne (hl.of rfl) | apply Near.each | apply Near.ite))

theorem near_setRet {l : Nat} (hl : Sub 0x1000 l) {s0 s : State} (h : Near l s0 s) : ∀ x0 x1, Near l s0 (setRet x0 x1 s) := by
  intro x0 x1
  unfold setRet
  repeat' (first | (with_reducible first | assumption | intro _ | exact hl.of rfl | apply near_modSaf (hl.of rfl)))

theorem near_tenFault {l : Nat} (hl : Sub 0x1 l) {s0 s : State} (h : Near l s0 s) : ∀ x0 x1, Near l s0 (tenFault x0 x1 s) := by
  intro x0 x1
  unfold tenFault
  dsimp only
  repeat' (first | (with_reducible first | assumption | intro _ | exact hl.of rfl | apply Near.setFld | apply Near.setBit | apply Near.ite))

theorem near_driveOff {l : Nat} (hl : Sub 0x41 l) {s0 s : State} (h : Near l s0 s) : ∀ x0, Near l s0 (driveOff x0 s) := by
  intro x0
  unfold driveOff
  dsimp only
  repeat' (first | (with_reducible first | assumption | intro _ | exact hl.of rfl | apply Near.setFld | apply Near.setFlag | apply near_modLoop (hl.of rfl)))

theorem near_linkQueueAt {l : Nat} (hl : Sub 0x800000 l) {s0 s : State} (h : Near l s0 s) : ∀ x0 x1 x2 x3 x4 x5, Near l s0 (linkQueueAt x0 x1 x2 x3 x4 x5 s) := by
  intro x0 x1 x2 x3 x4 x5
  unfold linkQueueAt
  dsimp only
  repeat' (first | (with_reducible first | assumption | intro _ | exact hl.of rfl | apply near_modLink (hl.of rfl) | apply Near.ite))

theorem near_linkQueue {l : Nat} (hl : Sub 0x800000 l) {s0 s : State} (h : Near l s0 s) : ∀ x0 x1 x2 x3 x4, Near l s0 (linkQueue x0 x1 x2 x3 x4 s) := by
  intro x0 x1 x2 x3 x4
  unfold linkQueue
  repeat' (first | (with_reducible first | assumption | intro _ | exact hl.of rfl | apply near_linkQueueAt (hl.of rfl)))

theorem near_safeDemand {l : Nat} (hl : Sub 0xc09041 l) {s0 s : State} (h : Near l s0 s) : ∀ x0, Near l s0 (safeDemand x0 s) := by
  intro x0
  unfold safeDemand
  dsimp only
  repeat' (first | (with_reducible first | assumption | intro _ | exact hl.of rfl | apply Near.setFld | apply Near.setFlag | apply Near.setBit | apply near_modSaf (hl.of rfl) | apply near_driveOff (hl.of rfl) | apply near_modPow (hl.of rfl) | apply near_auxKillNow (hl.of rfl) | apply near_linkQueue (hl.of rfl) | apply near_pairOut (hl.of rfl) | apply Near.each | apply Near.ite))

theorem near_axstopRefresh {l : Nat} (hl : Sub 0x1 l) {s0 s : State} (h : Near l s0 s) : Near l s0 (axstopRefresh s) := by
  unfold axstopRefresh
  dsimp only
  repeat' (first | (with_reducible first | assumption | intro _ | exact hl.of rfl | apply Near.setFld))

theorem near_headDoubt {l : Nat} (hl : Sub 0xc09041 l) {s0 s : State} (h : Near l s0 s) : ∀ x0 x1, Near l s0 (headDoubt x0 x1 s) := by
  intro x0 x1
  unfold headDoubt
  dsimp only
  repeat' (first | (with_reducible first | assumption | intro _ | exact hl.of rfl | apply Near.setBit | apply near_tenFault (hl.of rfl) | apply near_safeDemand (hl.of rfl) | apply near_modSaf (hl.of rfl) | apply near_auxKillNow (hl.of rfl) | apply near_axstopRefresh (hl.of rfl) | apply near_driveOff (hl.of rfl) | apply Near.ite))

theorem near_linkDoubt {l : Nat} (hl : Sub 0x800000 l) {s0 s : State} (h : Near l s0 s) : Near l s0 (linkDoubt s) := by
  unfold linkDoubt
  dsimp only
  repeat' (first | (with_reducible first | assumption | intro _ | exact hl.of rfl | apply near_modLink (hl.of rfl) | apply near_linkQueue (hl.of rfl) | apply Near.ite))

theorem near_startOnHeadland {l : Nat} (hl : Sub 0x1000 l) {s0 s : State} (h : Near l s0 s) : ∀ x0, Near l s0 (startOnHeadland x0 s) := by
  intro x0
  unfold startOnHeadland
  repeat' (first | (with_reducible first | assumption | intro _ | exact hl.of rfl | apply near_setRet (hl.of rfl) | apply near_modSaf (hl.of rfl)))

theorem near_countCommit {l : Nat} (hl : Sub 0x1 l) {s0 s : State} (h : Near l s0 s) : ∀ x0, Near l s0 (countCommit x0 s) := by
  intro x0
  unfold countCommit
  repeat' (first | (with_reducible first | assumption | intro _ | exact hl.of rfl | apply Near.setFld))

theorem near_irqLatch {l : Nat} (hl : Sub 0x1 l) {s0 s : State} (h : Near l s0 s) : ∀ x0, Near l s0 (irqLatch x0 s) := by
  intro x0
  unfold irqLatch
  repeat' (first | (with_reducible first | assumption | intro _ | exact hl.of rfl | apply Near.setBit))

theorem near_raiseDoubt {l : Nat} (hl : Sub 0x83125d l) {s0 s : State} (h : Near l s0 s) : ∀ x0 x1, Near l s0 (raiseDoubt x0 x1 s) := by
  intro x0 x1
  unfold raiseDoubt
  dsimp only
  repeat' (first | (with_reducible first | assumption | intro _ | exact hl.of rfl | apply Near.setFld | apply Near.setFlag | apply Near.setBit | apply near_setRet (hl.of rfl) | apply near_tenFault (hl.of rfl) | apply near_raise (hl.of rfl) | apply near_irqLatch (hl.of rfl) | apply near_linkDoubt (hl.of rfl) | apply Near.ite) | split)

theorem near_detFlag {l : Nat} (hl : Sub 0x1 l) {s0 s : State} (h : Near l s0 s) : ∀ x0, Near l s0 (detFlag x0 s) := by
  intro x0
  unfold detFlag
  repeat' (first | (with_reducible first | assumption | intro _ | exact hl.of rfl | apply Near.setFlag))

theorem near_doubtAxes {l : Nat} (hl : Sub 0x83125d l) {s0 s : State} (h : Near l s0 s) : ∀ x0, Near l s0 (doubtAxes x0 s) := by
  intro x0
  unfold doubtAxes
  repeat' (first | (with_reducible first | assumption | intro _ | exact hl.of rfl | apply near_raiseDoubt (hl.of rfl) | apply Near.each | apply Near.ite))

/-! ## Memory -/

theorem near_overtake {l : Nat} (hl : Sub 0x80000 l) {s0 s : State} (h : Near l s0 s) : ∀ x0 x1 x2, Near l s0 (overtake x0 x1 x2 s) := by
  intro x0 x1 x2
  unfold overtake
  repeat' (first | (with_reducible first | assumption | intro _ | exact hl.of rfl | apply near_modHrw (hl.of rfl)))

theorem near_granWrite {l : Nat} (hl : Sub 0x10a0000 l) {s0 s : State} (h : Near l s0 s) : ∀ x0 x1, Near l s0 (granWrite x0 x1 s) := by
  intro x0 x1
  unfold granWrite
  dsimp only
  repeat' (first | (with_reducible first | assumption | intro _ | exact hl.of rfl | apply near_overtake (hl.of rfl) | apply near_modField (hl.of rfl) | apply near_modField (hl.of rfl) | apply near_overtake (hl.of rfl) | apply Near.up_gran))

theorem near_siloWrite {l : Nat} (hl : Sub 0x4000000 l) {s0 s : State} (h : Near l s0 s) : ∀ x0 x1, Near l s0 (siloWrite x0 x1 s) :=
  fun _ _ => h.up_silo _ (hl.of rfl)

theorem near_plotWrite {l : Nat} (hl : Sub 0x20a0000 l) {s0 s : State} (h : Near l s0 s) : ∀ x0 x1 x2, Near l s0 (plotWrite x0 x1 x2 s) := by
  intro x0 x1 x2
  unfold plotWrite
  dsimp only
  repeat' (first | (with_reducible first | assumption | intro _ | exact hl.of rfl | apply near_overtake (hl.of rfl) | apply near_modField (hl.of rfl) | apply near_modField (hl.of rfl) | apply near_overtake (hl.of rfl) | apply Near.up_plots))

theorem near_applyUpset {l : Nat} (hl : Sub 0x20000 l) {s0 s : State} (h : Near l s0 s) : ∀ x0, Near l s0 (applyUpset x0 s) := by
  intro x0
  unfold applyUpset
  repeat' (first | (with_reducible first | assumption | intro _ | exact hl.of rfl | apply near_modField (hl.of rfl)))

theorem near_applyUpsets {l : Nat} (hl : Sub 0x20000 l) {s0 s : State} (h : Near l s0 s) : ∀ x0, Near l s0 (applyUpsets x0 s) := by
  intro x0
  unfold applyUpsets
  repeat' (first | (with_reducible first | assumption | intro _ | exact hl.of rfl | apply near_applyUpset (hl.of rfl) | apply Near.each))

theorem near_eccDoubt {l : Nat} (hl : Sub 0x83125d l) {s0 s : State} (h : Near l s0 s) : ∀ x0, Near l s0 (eccDoubt x0 s) := by
  intro x0
  unfold eccDoubt
  repeat' (first | (with_reducible first | assumption | intro _ | exact hl.of rfl | apply near_raiseDoubt (hl.of rfl) | apply near_detFlag (hl.of rfl)) | split)

theorem near_granCount {l : Nat} (hl : Sub 0x83125d l) {s0 s : State} (h : Near l s0 s) : ∀ x0 x1 x2, Near l s0 (granCount x0 x1 x2 s) := by
  intro x0 x1 x2
  unfold granCount
  dsimp only
  repeat' (first | (with_reducible first | assumption | intro _ | exact hl.of rfl | apply Near.setFld | apply Near.setFlag | apply Near.bump | apply near_eccDoubt (hl.of rfl)) | split)

theorem near_granRead {l : Nat} (hl : Sub 0x83125d l) {s0 s : State} (h : Near l s0 s) : ∀ x0 x1 x2, Near l s0 (granRead x0 x1 x2 s).2 := by
  intro x0 x1 x2
  unfold granRead
  dsimp only
  repeat' (first | (with_reducible first | assumption | intro _ | exact hl.of rfl | apply near_granCount (hl.of rfl)))

theorem near_plotCount {l : Nat} (hl : Sub 0x83125d l) {s0 s : State} (h : Near l s0 s) : ∀ x0 x1 x2 x3, Near l s0 (plotCount x0 x1 x2 x3 s) := by
  intro x0 x1 x2 x3
  unfold plotCount
  dsimp only
  repeat' (first | (with_reducible first | assumption | intro _ | exact hl.of rfl | apply Near.setFlag | apply Near.bump | apply near_eccDoubt (hl.of rfl) | apply Near.ite))

theorem near_plotRead {l : Nat} (hl : Sub 0x83125d l) {s0 s : State} (h : Near l s0 s) : ∀ x0 x1 x2 x3, Near l s0 (plotRead x0 x1 x2 x3 s).2 := by
  intro x0 x1 x2 x3
  unfold plotRead
  dsimp only
  repeat' (first | (with_reducible first | assumption | intro _ | exact hl.of rfl | apply near_plotCount (hl.of rfl)))

/-! ## Queues -/

theorem near_aliveRef {l : Nat} (hl : Sub 0x1 l) {s0 s : State} (h : Near l s0 s) : ∀ x0 x1, Near l s0 (aliveRef x0 x1 s) := by
  intro x0 x1
  unfold aliveRef
  repeat' (first | (with_reducible first | assumption | intro _ | exact hl.of rfl | apply Near.setFld | apply Near.setFlag | apply Near.ite))

theorem near_setBell {l : Nat} (hl : Sub 0x400 l) {s0 s : State} (h : Near l s0 s) : ∀ x0 x1, Near l s0 (setBell x0 x1 s) := by
  intro x0 x1
  unfold setBell
  repeat' (first | (with_reducible first | assumption | intro _ | exact hl.of rfl | apply near_modQue (hl.of rfl)))

theorem near_queRestart {l : Nat} (hl : Sub 0x401 l) {s0 s : State} (h : Near l s0 s) : ∀ x0, Near l s0 (queRestart x0 s) := by
  intro x0
  unfold queRestart
  dsimp only
  repeat' (first | (with_reducible first | assumption | intro _ | exact hl.of rfl | apply Near.setReg | apply Near.setFld | apply near_modQue (hl.of rfl) | apply near_setBell (hl.of rfl)))

theorem near_queOverflow {l : Nat} (hl : Sub 0x3025d l) {s0 s : State} (h : Near l s0 s) : ∀ x0, Near l s0 (queOverflow x0 s) := by
  intro x0
  unfold queOverflow
  dsimp only
  repeat' (first | (with_reducible first | assumption | intro _ | exact hl.of rfl | apply Near.setFlag | apply Near.bump | apply near_raise (hl.of rfl) | apply near_tenFault (hl.of rfl)))

theorem near_postDesc {l : Nat} (hl : Sub 0x10b065d l) {s0 s : State} (h : Near l s0 s) : ∀ x0 x1 x2 x3 x4 x5 x6 x7, Near l s0 (postDesc x0 x1 x2 x3 x4 x5 x6 x7 s) := by
  intro x0 x1 x2 x3 x4 x5 x6 x7
  unfold postDesc
  dsimp only
  repeat' (first | (with_reducible first | assumption | intro _ | exact hl.of rfl | apply Near.setFld | apply near_queOverflow (hl.of rfl) | apply near_granWrite (hl.of rfl) | apply near_modQue (hl.of rfl) | apply near_raise (hl.of rfl) | apply Near.ite))

theorem near_inlog {l : Nat} (hl : Sub 0x10b065d l) {s0 s : State} (h : Near l s0 s) : ∀ x0 x1 x2 x3, Near l s0 (inlog x0 x1 x2 x3 s) := by
  intro x0 x1 x2 x3
  unfold inlog
  repeat' (first | (with_reducible first | assumption | intro _ | exact hl.of rfl | apply near_postDesc (hl.of rfl) | apply Near.ite))

theorem near_bellRegister {l : Nat} (hl : Sub 0x3065d l) {s0 s : State} (h : Near l s0 s) : ∀ x0, Near l s0 (bellRegister x0 s) := by
  intro x0
  unfold bellRegister
  dsimp only
  repeat' (first | (with_reducible first | assumption | intro _ | exact hl.of rfl | apply near_modQue (hl.of rfl) | apply near_raise (hl.of rfl) | apply near_setBell (hl.of rfl) | apply Near.ite) | split)

theorem near_queAudit {l : Nat} (hl : Sub 0x401 l) {s0 s : State} (h : Near l s0 s) : ∀ x0, Near l s0 (queAudit x0 s) := by
  intro x0
  unfold queAudit
  dsimp only
  repeat' (first | (with_reducible first | assumption | intro _ | exact hl.of rfl | apply Near.setFld | apply Near.setFlag | apply near_modQue (hl.of rfl) | apply Near.ite))

theorem near_bellWrite {l : Nat} (hl : Sub 0x401 l) {s0 s : State} (h : Near l s0 s) : ∀ x0 x1, Near l s0 (bellWrite x0 x1 s) := by
  intro x0 x1
  unfold bellWrite
  dsimp only
  repeat' (first | (with_reducible first | assumption | intro _ | exact hl.of rfl | apply Near.setFld | apply near_modQue (hl.of rfl) | apply near_queAudit (hl.of rfl)))

theorem near_queFlush {l : Nat} (hl : Sub 0x401 l) {s0 s : State} (h : Near l s0 s) : ∀ x0, Near l s0 (queFlush x0 s) := by
  intro x0
  unfold queFlush
  dsimp only
  repeat' (first | (with_reducible first | assumption | intro _ | exact hl.of rfl | apply Near.setFld | apply Near.bump | apply near_modQue (hl.of rfl) | apply near_setBell (hl.of rfl)))

theorem near_queFetch {l : Nat} (hl : Sub 0x83125d l) {s0 s : State} (h : Near l s0 s) : ∀ x0 x1, Near l s0 (queFetch x0 x1 s).2.2 := by
  intro x0 x1
  unfold queFetch
  dsimp only
  repeat' (first | (with_reducible first | assumption | intro _ | exact hl.of rfl | apply near_granRead (hl.of rfl)) | split)

theorem near_returnDesc {l : Nat} (hl : Sub 0x10b065d l) {s0 s : State} (h : Near l s0 s) : ∀ x0 x1 x2 x3, Near l s0 (returnDesc x0 x1 x2 x3 s) := by
  intro x0 x1 x2 x3
  unfold returnDesc
  dsimp only
  repeat' (first | (with_reducible first | assumption | intro _ | exact hl.of rfl | apply Near.setFlag | apply Near.bump | apply near_tenFault (hl.of rfl) | apply near_postDesc (hl.of rfl) | apply near_irqLatch (hl.of rfl) | apply Near.ite))

theorem near_setCons {l : Nat} (hl : Sub 0x401 l) {s0 s : State} (h : Near l s0 s) : ∀ x0 x1, Near l s0 (setCons x0 x1 s) := by
  intro x0 x1
  unfold setCons
  repeat' (first | (with_reducible first | assumption | intro _ | exact hl.of rfl | apply Near.setFld | apply near_queAudit (hl.of rfl)))

theorem near_queConsume {l : Nat} (hl : Sub 0x401 l) {s0 s : State} (h : Near l s0 s) : ∀ x0, Near l s0 (queConsume x0 s) := by
  intro x0
  unfold queConsume
  dsimp only
  repeat' (first | (with_reducible first | assumption | intro _ | exact hl.of rfl | apply near_modQue (hl.of rfl) | apply near_setCons (hl.of rfl)))

theorem near_queIdle {l : Nat} (hl : Sub 0x401 l) {s0 s : State} (h : Near l s0 s) : ∀ x0, Near l s0 (queIdle x0 s) := by
  intro x0
  unfold queIdle
  dsimp only
  repeat' (first | (with_reducible first | assumption | intro _ | exact hl.of rfl | apply Near.setFld | apply Near.bump | apply near_modQue (hl.of rfl) | apply Near.ite))

theorem near_queHead {l : Nat} (hl : Sub 0x83125d l) {s0 s : State} (h : Near l s0 s) : ∀ x0, Near l s0 (queHead x0 s).2 := by
  intro x0
  unfold queHead
  repeat' (first | (with_reducible first | assumption | intro _ | exact hl.of rfl | apply near_granRead (hl.of rfl)))

theorem near_enqDesc {l : Nat} (hl : Sub 0x10b065d l) {s0 s : State} (h : Near l s0 s) : ∀ x0 x1, Near l s0 (enqDesc x0 x1 s) := by
  intro x0 x1
  unfold enqDesc
  dsimp only
  repeat' (first | (with_reducible first | assumption | intro _ | exact hl.of rfl | apply Near.setFld | apply near_granWrite (hl.of rfl) | apply near_modQue (hl.of rfl) | apply near_setBell (hl.of rfl) | apply near_queAudit (hl.of rfl) | apply near_raise (hl.of rfl) | apply Near.ite))

theorem near_eventPost {l : Nat} (hl : Sub 0x10b065d l) {s0 s : State} (h : Near l s0 s) : ∀ x0, Near l s0 (eventPost x0 s) := by
  intro x0
  unfold eventPost
  dsimp only
  repeat' (first | (with_reducible first | assumption | intro _ | exact hl.of rfl | apply Near.setTask | apply near_postDesc (hl.of rfl) | apply near_postDesc (hl.of rfl)) | split)

theorem near_queTimeout {l : Nat} (hl : Sub 0x3025d l) {s0 s : State} (h : Near l s0 s) : ∀ x0, Near l s0 (queTimeout x0 s) := by
  intro x0
  unfold queTimeout
  dsimp only
  repeat' (first | (with_reducible first | assumption | intro _ | exact hl.of rfl | apply Near.setFlag | apply near_raise (hl.of rfl) | apply near_irqLatch (hl.of rfl) | apply near_tenFault (hl.of rfl) | apply Near.ite))

/-! ## Pwm -/

theorem near_autoArm {l : Nat} (hl : Sub 0x4 l) {s0 s : State} (h : Near l s0 s) : ∀ x0, Near l s0 (autoArm x0 s) := by
  intro x0
  unfold autoArm
  dsimp only
  repeat' (first | (with_reducible first | assumption | intro _ | exact hl.of rfl | apply near_armGroup (hl.of rfl) | apply Near.ite))

theorem near_pwmCommit {l : Nat} (hl : Sub 0x200009 l) {s0 s : State} (h : Near l s0 s) : ∀ x0 x1 x2, Near l s0 (pwmCommit x0 x1 x2 s) := by
  intro x0 x1 x2
  unfold pwmCommit
  dsimp only
  repeat' (first | (with_reducible first | assumption | intro _ | exact hl.of rfl | apply Near.setFlag | apply near_modDet (hl.of rfl) | apply near_modPwm (hl.of rfl) | apply Near.ite))

theorem near_cleanCount {l : Nat} (hl : Sub 0x1 l) {s0 s : State} (h : Near l s0 s) : ∀ x0, Near l s0 (cleanCount x0 s) := by
  intro x0
  unfold cleanCount
  dsimp only
  repeat' (first | (with_reducible first | assumption | intro _ | exact hl.of rfl | apply Near.setFld | apply Near.ite))

theorem near_latchOff {l : Nat} (hl : Sub 0x3025d l) {s0 s : State} (h : Near l s0 s) : ∀ x0, Near l s0 (latchOff x0 s) := by
  intro x0
  unfold latchOff
  repeat' (first | (with_reducible first | assumption | intro _ | exact hl.of rfl | apply Near.setFlag | apply near_raiseAx (hl.of rfl) | apply near_tenFault (hl.of rfl) | apply near_driveOff (hl.of rfl)))

theorem near_tripNow {l : Nat} (hl : Sub 0x3025d l) {s0 s : State} (h : Near l s0 s) : ∀ x0, Near l s0 (tripNow x0 s) := by
  intro x0
  unfold tripNow
  dsimp only
  repeat' (first | (with_reducible first | assumption | intro _ | exact hl.of rfl | apply Near.setFld | apply Near.setFlag | apply Near.bump | apply near_modPwm (hl.of rfl) | apply near_raiseAx (hl.of rfl) | apply near_latchOff (hl.of rfl) | apply Near.ite))

theorem near_latchCheck {l : Nat} (hl : Sub 0x3025d l) {s0 s : State} (h : Near l s0 s) : ∀ x0, Near l s0 (latchCheck x0 s) := by
  intro x0
  unfold latchCheck
  dsimp only
  repeat' (first | (with_reducible first | assumption | intro _ | exact hl.of rfl | apply Near.setFlag | apply near_cleanCount (hl.of rfl) | apply near_modPwm (hl.of rfl) | apply near_tripNow (hl.of rfl) | apply Near.ite))

theorem near_pwmLoad {l : Nat} (hl : Sub 0x3025d l) {s0 s : State} (h : Near l s0 s) : ∀ x0 x1, Near l s0 (pwmLoad x0 x1 s) := by
  intro x0 x1
  unfold pwmLoad
  dsimp only
  repeat' (first | (with_reducible first | assumption | intro _ | exact hl.of rfl | apply Near.setReg | apply Near.setFld | apply Near.setFlag | apply near_modPwm (hl.of rfl) | apply near_autoArm (hl.of rfl) | apply near_latchCheck (hl.of rfl) | apply near_outputsMoved (hl.of rfl) | apply Near.each))

theorem near_tripClear {l : Nat} (hl : Sub 0x9 l) {s0 s : State} (h : Near l s0 s) : ∀ x0, Near l s0 (tripClear x0 s) := by
  intro x0
  unfold tripClear
  repeat' (first | (with_reducible first | assumption | intro _ | exact hl.of rfl | apply Near.setFld | apply Near.setFlag | apply near_modPwm (hl.of rfl) | apply Near.ite))

theorem near_blankClose {l : Nat} (hl : Sub 0x3025d l) {s0 s : State} (h : Near l s0 s) : ∀ x0 x1, Near l s0 (blankClose x0 x1 s) := by
  intro x0 x1
  unfold blankClose
  repeat' (first | (with_reducible first | assumption | intro _ | exact hl.of rfl | apply near_tripNow (hl.of rfl) | apply near_modPwm (hl.of rfl) | apply Near.ite))

theorem near_debugHalt {l : Nat} (hl : Sub 0x400009 l) {s0 s : State} (h : Near l s0 s) : ∀ x0, Near l s0 (debugHalt x0 s) := by
  intro x0
  unfold debugHalt
  dsimp only
  repeat' (first | (with_reducible first | assumption | intro _ | exact hl.of rfl | apply Near.setFlag | apply near_modPwm (hl.of rfl) | apply near_modAux (hl.of rfl) | apply Near.each | apply Near.ite))

theorem near_outputEdge {l : Nat} (hl : Sub 0x9 l) {s0 s : State} (h : Near l s0 s) : ∀ x0 x1 x2, Near l s0 (outputEdge x0 x1 x2 s) := by
  intro x0 x1 x2
  unfold outputEdge
  dsimp only
  repeat' (first | (with_reducible first | assumption | intro _ | exact hl.of rfl | apply Near.setFlag | apply near_outputsMoved (hl.of rfl) | apply near_modPwm (hl.of rfl) | apply Near.ite))

theorem near_zeroCommit {l : Nat} (hl : Sub 0x8 l) {s0 s : State} (h : Near l s0 s) : ∀ x0, Near l s0 (zeroCommit x0 s) := by
  intro x0
  unfold zeroCommit
  repeat' (first | (with_reducible first | assumption | intro _ | exact hl.of rfl | apply near_modPwm (hl.of rfl)))

theorem near_timerChannel {l : Nat} (hl : Sub 0x3025d l) {s0 s : State} (h : Near l s0 s) : ∀ x0 x1, Near l s0 (timerChannel x0 x1 s) := by
  intro x0 x1
  unfold timerChannel
  dsimp only
  repeat' (first | (with_reducible first | assumption | intro _ | exact hl.of rfl | apply near_raiseAx (hl.of rfl) | apply Near.ite))

theorem near_trigger {l : Nat} (hl : Sub 0x3025d l) {s0 s : State} (h : Near l s0 s) : ∀ x0 x1 x2, Near l s0 (trigger x0 x1 x2 s) := by
  intro x0 x1 x2
  unfold trigger
  dsimp only
  repeat' (first | (with_reducible first | assumption | intro _ | exact hl.of rfl | apply Near.setFld | apply Near.setFlag | apply near_modSense (hl.of rfl) | apply near_raiseAll (hl.of rfl) | apply near_raiseAx (hl.of rfl) | apply Near.ite))

theorem near_tripLevels {l : Nat} (hl : Sub 0x3025d l) {s0 s : State} (h : Near l s0 s) : ∀ x0 x1 x2, Near l s0 (tripLevels x0 x1 x2 s) := by
  intro x0 x1 x2
  unfold tripLevels
  repeat' (first | (with_reducible first | assumption | intro _ | exact hl.of rfl | apply near_tripNow (hl.of rfl) | apply near_modPwm (hl.of rfl)))

/-! ## Sense -/

theorem near_mlimUpdate {l : Nat} (hl : Sub 0x1 l) {s0 s : State} (h : Near l s0 s) : ∀ x0, Near l s0 (mlimUpdate x0 s) := by
  intro x0
  unfold mlimUpdate
  repeat' (first | (with_reducible first | assumption | intro _ | exact hl.of rfl | apply Near.setFld))

theorem near_deliverSet {l : Nat} (hl : Sub 0x11 l) {s0 s : State} (h : Near l s0 s) : ∀ x0 x1, Near l s0 (deliverSet x0 x1 s) := by
  intro x0 x1
  unfold deliverSet
  dsimp only
  repeat' (first | (with_reducible first | assumption | intro _ | exact hl.of rfl | apply Near.setReg | apply near_modSense (hl.of rfl) | apply Near.each))

theorem near_earlyRelease {l : Nat} (hl : Sub 0x11 l) {s0 s : State} (h : Near l s0 s) : ∀ x0 x1, Near l s0 (earlyRelease x0 x1 s).1 := by
  intro x0 x1
  unfold earlyRelease
  dsimp only
  repeat' (first | (with_reducible first | assumption | intro _ | exact hl.of rfl | apply near_modSense (hl.of rfl) | apply near_deliverSet (hl.of rfl) | apply Near.ite) | split)

theorem near_calRequest {l : Nat} (hl : Sub 0x1 l) {s0 s : State} (h : Near l s0 s) : ∀ x0, Near l s0 (calRequest x0 s) := by
  intro x0
  unfold calRequest
  repeat' (first | (with_reducible first | assumption | intro _ | exact hl.of rfl | apply Near.setFlag | apply Near.ite))

theorem near_losAck {l : Nat} (hl : Sub 0x10 l) {s0 s : State} (h : Near l s0 s) : ∀ x0, Near l s0 (losAck x0 s) := by
  intro x0
  unfold losAck
  repeat' (first | (with_reducible first | assumption | intro _ | exact hl.of rfl | apply near_modSense (hl.of rfl)))

theorem near_cmdDeliver {l : Nat} (hl : Sub 0x11 l) {s0 s : State} (h : Near l s0 s) : ∀ x0, Near l s0 (cmdDeliver x0 s) := by
  intro x0
  unfold cmdDeliver
  dsimp only
  repeat' (first | (with_reducible first | assumption | intro _ | exact hl.of rfl | apply Near.setReg | apply Near.setFld | apply near_modSense (hl.of rfl) | apply Near.ite) | split)

theorem near_calEnd {l : Nat} (hl : Sub 0x1 l) {s0 s : State} (h : Near l s0 s) : ∀ x0 x1, Near l s0 (calEnd x0 x1 s) := by
  intro x0 x1
  unfold calEnd
  dsimp only
  repeat' (first | (with_reducible first | assumption | intro _ | exact hl.of rfl | apply Near.setReg | apply Near.setFlag | apply Near.each | apply Near.foldl | apply Near.foldl_snd | apply Near.ite))

theorem near_cmdInvalid {l : Nat} (hl : Sub 0x11 l) {s0 s : State} (h : Near l s0 s) : ∀ x0 x1, Near l s0 (cmdInvalid x0 x1 s) := by
  intro x0 x1
  unfold cmdInvalid
  dsimp only
  repeat' (first | (with_reducible first | assumption | intro _ | exact hl.of rfl | apply Near.setFlag | apply near_modSense (hl.of rfl) | apply Near.ite))

theorem near_cmdValid {l : Nat} (hl : Sub 0x10 l) {s0 s : State} (h : Near l s0 s) : ∀ x0 x1, Near l s0 (cmdValid x0 x1 s) := by
  intro x0 x1
  unfold cmdValid
  dsimp only
  repeat' (first | (with_reducible first | assumption | intro _ | exact hl.of rfl | apply near_modSense (hl.of rfl)))

theorem near_cmdCode {l : Nat} (hl : Sub 0x11 l) {s0 s : State} (h : Near l s0 s) : ∀ x0 x1, Near l s0 (cmdCode x0 x1 s) := by
  intro x0 x1
  unfold cmdCode
  dsimp only
  repeat' (first | (with_reducible first | assumption | intro _ | exact hl.of rfl | apply near_cmdInvalid (hl.of rfl) | apply near_cmdValid (hl.of rfl) | apply Near.ite))

theorem near_cmdMeasure {l : Nat} (hl : Sub 0x11 l) {s0 s : State} (h : Near l s0 s) : ∀ x0 x1, Near l s0 (cmdMeasure x0 x1 s) := by
  intro x0 x1
  unfold cmdMeasure
  dsimp only
  repeat' (first | (with_reducible first | assumption | intro _ | exact hl.of rfl | apply near_cmdCode (hl.of rfl) | apply near_cmdValid (hl.of rfl) | apply near_cmdInvalid (hl.of rfl) | apply near_modSense (hl.of rfl) | apply Near.ite) | split)

theorem near_kclCheck {l : Nat} (hl : Sub 0xc09051 l) {s0 s : State} (h : Near l s0 s) : ∀ x0 x1 x2 x3, Near l s0 (kclCheck x0 x1 x2 x3 s) := by
  intro x0 x1 x2 x3
  unfold kclCheck
  dsimp only
  repeat' (first | (with_reducible first | assumption | intro _ | exact hl.of rfl | apply Near.setFlag | apply near_modSense (hl.of rfl) | apply near_headDoubt (hl.of rfl) | apply Near.ite))

theorem near_vbusLatch {l : Nat} (hl : Sub 0x11 l) {s0 s : State} (h : Near l s0 s) : ∀ x0 x1, Near l s0 (vbusLatch x0 x1 s) := by
  intro x0 x1
  unfold vbusLatch
  dsimp only
  repeat' (first | (with_reducible first | assumption | intro _ | exact hl.of rfl | apply Near.setFld | apply near_modSense (hl.of rfl)))

theorem near_convLatch {l : Nat} (hl : Sub 0xc09051 l) {s0 s : State} (h : Near l s0 s) : ∀ x0 x1 x2 x3 x4, Near l s0 (convLatch x0 x1 x2 x3 x4 s).1 := by
  intro a u v w vb
  unfold convLatch
  extract_lets n s1 x y z r sat win s2 s3 s4 s5 next set s6 s8 s7
  have h1 : Near l s0 s1 := by
    simp only [s1]
    repeat' (first | with_reducible assumption | exact hl.of rfl | with_reducible apply near_vbusLatch (hl.of rfl) | split)
  have h5 : Near l s0 s5 := by
    simp only [s5, s4, s3, s2]
    repeat' (first | with_reducible assumption | exact hl.of rfl | with_reducible apply Near.bump | with_reducible apply Near.setFlag | split)
  have h7 : Near l s0 s7 := by
    simp only [s7, s8, s6]
    clear_value s5
    repeat' (first | with_reducible assumption | exact hl.of rfl | intro _ | with_reducible apply near_deliverSet (hl.of rfl) | with_reducible apply near_modSense (hl.of rfl) | with_reducible apply Near.each | with_reducible apply Near.setReg | split)
  clear_value s1 s7 next win sat r x y z
  with_reducible apply Near.ite_fst
  · exact h1
  · dsimp only
    with_reducible apply near_kclCheck (hl.of rfl)
    exact h7

theorem near_losSet {l : Nat} (hl : Sub 0x3025d l) {s0 s : State} (h : Near l s0 s) : ∀ x0, Near l s0 (losSet x0 s) := by
  intro x0
  unfold losSet
  dsimp only
  repeat' (first | (with_reducible first | assumption | intro _ | exact hl.of rfl | apply Near.setFlag | apply near_modSense (hl.of rfl) | apply near_raiseAx (hl.of rfl) | apply Near.ite))

theorem near_slowLatch {l : Nat} (hl : Sub 0x11 l) {s0 s : State} (h : Near l s0 s) : ∀ x0 x1, Near l s0 (slowLatch x0 x1 s) := by
  intro x0 x1
  unfold slowLatch
  dsimp only
  repeat' (first | (with_reducible first | assumption | intro _ | exact hl.of rfl | apply Near.setFld | apply Near.setFlag | apply near_modSense (hl.of rfl) | apply near_cmdMeasure (hl.of rfl) | apply Near.ite))

theorem near_swnMiss {l : Nat} (hl : Sub 0x1 l) {s0 s : State} (h : Near l s0 s) : ∀ x0 x1 x2, Near l s0 (swnMiss x0 x1 x2 s) := by
  intro x0 x1 x2
  unfold swnMiss
  repeat' (first | (with_reducible first | assumption | intro _ | exact hl.of rfl | apply Near.setFlag))

theorem near_swnEdge {l : Nat} (hl : Sub 0x9 l) {s0 s : State} (h : Near l s0 s) : ∀ x0 x1 x2 x3, Near l s0 (swnEdge x0 x1 x2 x3 s) := by
  intro x0 x1 x2 x3
  unfold swnEdge
  dsimp only
  repeat' (first | (with_reducible first | assumption | intro _ | exact hl.of rfl | apply Near.setFld | apply Near.setFlag | apply near_swnMiss (hl.of rfl) | apply near_modPwm (hl.of rfl) | apply Near.ite))

/-! ## Head -/

theorem near_headChecks {l : Nat} (hl : Sub 0xc09061 l) {s0 s : State} (h : Near l s0 s) : ∀ x0, Near l s0 (headChecks x0 s) := by
  intro x0
  unfold headChecks
  dsimp only
  repeat' (first | (with_reducible first | assumption | intro _ | exact hl.of rfl | apply near_headDoubt (hl.of rfl) | apply near_modHead (hl.of rfl) | apply Near.ite))

theorem near_handover {l : Nat} (hl : Sub 0x21 l) {s0 s : State} (h : Near l s0 s) : ∀ x0, Near l s0 (handover x0 s) := by
  intro x0
  unfold handover
  dsimp only
  repeat' (first | (with_reducible first | assumption | intro _ | exact hl.of rfl | apply Near.bump | apply near_modHead (hl.of rfl) | apply Near.ite))

theorem near_headShow {l : Nat} (hl : Sub 0x1 l) {s0 s : State} (h : Near l s0 s) : ∀ x0, Near l s0 (headShow x0 s) := by
  intro x0
  unfold headShow
  dsimp only
  repeat' (first | (with_reducible first | assumption | intro _ | exact hl.of rfl | apply Near.setFld))

theorem near_headCompute {l : Nat} (hl : Sub 0xc09061 l) {s0 s : State} (h : Near l s0 s) : ∀ x0, Near l s0 (headCompute x0 s) := by
  intro x0
  unfold headCompute
  dsimp only
  repeat' (first | (with_reducible first | assumption | intro _ | exact hl.of rfl | apply Near.setReg | apply Near.setFlag | apply near_modHead (hl.of rfl) | apply near_headChecks (hl.of rfl) | apply near_handover (hl.of rfl) | apply near_headShow (hl.of rfl) | apply Near.ite))

theorem near_headLoad {l : Nat} (hl : Sub 0x21 l) {s0 s : State} (h : Near l s0 s) : ∀ x0, Near l s0 (headLoad x0 s) := by
  intro x0
  unfold headLoad
  dsimp only
  repeat' (first | (with_reducible first | assumption | intro _ | exact hl.of rfl | apply Near.setFlag | apply near_modHead (hl.of rfl) | apply near_headShow (hl.of rfl) | apply Near.ite))

theorem near_headSeed {l : Nat} (hl : Sub 0x20 l) {s0 s : State} (h : Near l s0 s) : ∀ x0, Near l s0 (headSeed x0 s) := by
  intro x0
  unfold headSeed
  dsimp only
  repeat' (first | (with_reducible first | assumption | intro _ | exact hl.of rfl | apply near_modHead (hl.of rfl)))

theorem near_headStart {l : Nat} (hl : Sub 0x21 l) {s0 s : State} (h : Near l s0 s) : ∀ x0, Near l s0 (headStart x0 s) := by
  intro x0
  unfold headStart
  dsimp only
  repeat' (first | (with_reducible first | assumption | intro _ | exact hl.of rfl | apply Near.setReg | apply near_modHead (hl.of rfl)))

/-! ## Sequencer -/

theorem near_seqDecide {l : Nat} (hl : Sub 0x40 l) {s0 s : State} (h : Near l s0 s) : ∀ x0 x1, Near l s0 (seqDecide x0 x1 s) := by
  intro x0 x1
  unfold seqDecide
  dsimp only
  repeat' (first | (with_reducible first | assumption | intro _ | exact hl.of rfl | apply near_modLoop (hl.of rfl)))

theorem near_seqLos {l : Nat} (hl : Sub 0x40 l) {s0 s : State} (h : Near l s0 s) : ∀ x0, Near l s0 (seqLos x0 s) := by
  intro x0
  unfold seqLos
  dsimp only
  repeat' (first | (with_reducible first | assumption | intro _ | exact hl.of rfl | apply near_seqDecide (hl.of rfl) | apply Near.ite))

theorem near_delaysClear {l : Nat} (hl : Sub 0x8 l) {s0 s : State} (h : Near l s0 s) : ∀ x0, Near l s0 (delaysClear x0 s) := by
  intro x0
  unfold delaysClear
  repeat' (first | (with_reducible first | assumption | intro _ | exact hl.of rfl | apply near_modPwm (hl.of rfl)))

theorem near_seqShow {l : Nat} (hl : Sub 0x1 l) {s0 s : State} (h : Near l s0 s) : ∀ x0, Near l s0 (seqShow x0 s) := by
  intro x0
  unfold seqShow
  dsimp only
  repeat' (first | (with_reducible first | assumption | intro _ | exact hl.of rfl | apply Near.setFld))

theorem near_seqLoad {l : Nat} (hl : Sub 0x69 l) {s0 s : State} (h : Near l s0 s) : ∀ x0, Near l s0 (seqLoad x0 s) := by
  intro x0
  unfold seqLoad
  dsimp only
  repeat' (first | (with_reducible first | assumption | intro _ | exact hl.of rfl | apply near_modLoop (hl.of rfl) | apply near_headSeed (hl.of rfl) | apply near_modHead (hl.of rfl) | apply near_delaysClear (hl.of rfl) | apply near_seqShow (hl.of rfl) | apply Near.ite) | split)

theorem near_drvAck {l : Nat} (hl : Sub 0x40 l) {s0 s : State} (h : Near l s0 s) : ∀ x0, Near l s0 (drvAck x0 s) := by
  intro x0
  unfold drvAck
  repeat' (first | (with_reducible first | assumption | intro _ | exact hl.of rfl | apply near_modLoop (hl.of rfl) | apply Near.ite))

theorem near_drvMask {l : Nat} (hl : Sub 0x3025d l) {s0 s : State} (h : Near l s0 s) : ∀ x0, Near l s0 (drvMask x0 s) := by
  intro x0
  unfold drvMask
  dsimp only
  repeat' (first | (with_reducible first | assumption | intro _ | exact hl.of rfl | apply Near.setFld | apply near_seqLos (hl.of rfl) | apply near_raiseAx (hl.of rfl) | apply near_modLoop (hl.of rfl) | apply Near.ite) | split)

/-! ## Loop -/

theorem near_loopCommit {l : Nat} (hl : Sub 0x41 l) {s0 s : State} (h : Near l s0 s) : ∀ x0 x1, Near l s0 (loopCommit x0 x1 s) := by
  intro x0 x1
  unfold loopCommit
  dsimp only
  repeat' (first | (with_reducible first | assumption | intro _ | exact hl.of rfl | apply Near.setFld | apply Near.setFlag | apply near_modLoop (hl.of rfl) | apply near_seqLos (hl.of rfl) | apply near_seqDecide (hl.of rfl) | apply Near.ite) | split)

theorem near_loopCapture {l : Nat} (hl : Sub 0x41 l) {s0 s : State} (h : Near l s0 s) : ∀ x0, Near l s0 (loopCapture x0 s) := by
  intro x0
  unfold loopCapture
  dsimp only
  repeat' (first | (with_reducible first | assumption | intro _ | exact hl.of rfl | apply Near.setReg | apply near_modLoop (hl.of rfl) | apply Near.each))

theorem near_sectorEvent {l : Nat} (hl : Sub 0x3025d l) {s0 s : State} (h : Near l s0 s) : ∀ x0, Near l s0 (sectorEvent x0 s) := by
  intro x0
  unfold sectorEvent
  dsimp only
  repeat' (first | (with_reducible first | assumption | intro _ | exact hl.of rfl | apply near_modLoop (hl.of rfl) | apply near_raiseAx (hl.of rfl) | apply Near.ite))

theorem near_loopLoad {l : Nat} (hl : Sub 0x69 l) {s0 s : State} (h : Near l s0 s) : ∀ x0, Near l s0 (loopLoad x0 s) := by
  intro x0
  unfold loopLoad
  repeat' (first | (with_reducible first | assumption | intro _ | exact hl.of rfl | apply near_seqLoad (hl.of rfl) | apply near_modLoop (hl.of rfl)))

theorem near_loopStart {l : Nat} (hl : Sub 0x49 l) {s0 s : State} (h : Near l s0 s) : ∀ x0, Near l s0 (loopStart x0 s) := by
  intro x0
  unfold loopStart
  dsimp only
  repeat' (first | (with_reducible first | assumption | intro _ | exact hl.of rfl | apply Near.setFld | apply Near.setFlag | apply near_modLoop (hl.of rfl) | apply near_seqShow (hl.of rfl) | apply near_delaysClear (hl.of rfl)))

theorem near_bankRefuse {l : Nat} (hl : Sub 0x41 l) {s0 s : State} (h : Near l s0 s) : ∀ x0 x1 x2, Near l s0 (bankRefuse x0 x1 x2 s) := by
  intro x0 x1 x2
  unfold bankRefuse
  dsimp only
  repeat' (first | (with_reducible first | assumption | intro _ | exact hl.of rfl | apply Near.setFld | apply Near.setFlag | apply near_modLoop (hl.of rfl)))

theorem near_bankSwap {l : Nat} (hl : Sub 0x1 l) {s0 s : State} (h : Near l s0 s) : ∀ x0, Near l s0 (bankSwap x0 s) := by
  intro x0
  unfold bankSwap
  dsimp only
  repeat' (first | (with_reducible first | assumption | intro _ | exact hl.of rfl | apply Near.setFlag | apply Near.ite))

theorem near_guardEnd {l : Nat} (hl : Sub 0x41 l) {s0 s : State} (h : Near l s0 s) : ∀ x0, Near l s0 (guardEnd x0 s) := by
  intro x0
  unfold guardEnd
  repeat' (first | (with_reducible first | assumption | intro _ | exact hl.of rfl | apply Near.setFlag | apply near_bankRefuse (hl.of rfl) | apply near_modLoop (hl.of rfl) | apply Near.ite) | split)

theorem near_passHits {l : Nat} (hl : Sub 0x83125d l) {s0 s : State} (h : Near l s0 s) : ∀ x0 x1 x2, Near l s0 (passHits x0 x1 x2 s) := by
  intro x0 x1 x2
  unfold passHits
  dsimp only
  repeat' (first | (with_reducible first | assumption | intro _ | exact hl.of rfl | apply Near.setFlag | apply Near.bump | apply near_raiseDoubt (hl.of rfl) | apply Near.each | apply Near.ite))

theorem near_passNaN {l : Nat} (hl : Sub 0xc3925d l) {s0 s : State} (h : Near l s0 s) : ∀ x0 x1 x2 x3, Near l s0 (passNaN x0 x1 x2 x3 s) := by
  intro x0 x1 x2 x3
  unfold passNaN
  dsimp only
  repeat' (first | (with_reducible first | assumption | intro _ | exact hl.of rfl | apply Near.setReg | apply Near.setFlag | apply near_raiseDoubt (hl.of rfl) | apply near_headDoubt (hl.of rfl) | apply Near.ite))

theorem near_passSat {l : Nat} (hl : Sub 0xc3925d l) {s0 s : State} (h : Near l s0 s) : ∀ x0 x1 x2 x3, Near l s0 (passSat x0 x1 x2 x3 s) := by
  intro x0 x1 x2 x3
  unfold passSat
  dsimp only
  repeat' (first | (with_reducible first | assumption | intro _ | exact hl.of rfl | apply Near.setReg | apply Near.setFlag | apply near_raiseDoubt (hl.of rfl) | apply near_headDoubt (hl.of rfl) | apply Near.ite))

theorem near_writeShadow {l : Nat} (hl : Sub 0x9 l) {s0 s : State} (h : Near l s0 s) : ∀ x0 x1, Near l s0 (writeShadow x0 x1 s) := by
  intro x0 x1
  unfold writeShadow
  dsimp only
  repeat' (first | (with_reducible first | assumption | intro _ | exact hl.of rfl | apply Near.setReg | apply near_modPwm (hl.of rfl) | apply Near.each | apply Near.ite))

theorem near_writeHset {l : Nat} (hl : Sub 0x8 l) {s0 s : State} (h : Near l s0 s) : ∀ x0 x1, Near l s0 (writeHset x0 x1 s) := by
  intro x0 x1
  unfold writeHset
  dsimp only
  repeat' (first | (with_reducible first | assumption | intro _ | exact hl.of rfl | apply near_modPwm (hl.of rfl)))

theorem near_passWrite {l : Nat} (hl : Sub 0x49 l) {s0 s : State} (h : Near l s0 s) : ∀ x0 x1, Near l s0 (passWrite x0 x1 s) := by
  intro x0 x1
  unfold passWrite
  dsimp only
  repeat' (first | (with_reducible first | assumption | intro _ | exact hl.of rfl | apply near_writeShadow (hl.of rfl) | apply near_writeHset (hl.of rfl) | apply near_countCommit (hl.of rfl) | apply near_modLoop (hl.of rfl) | apply Near.ite) | split)

theorem near_passEntry {l : Nat} (hl : Sub 0xc392dd l) {s0 : State} : ∀ a ue sx b, Near l s0 sx.1 → Near l s0 (passEntry a ue sx b).1 := by
  intro a ue sx b h
  unfold passEntry
  dsimp only
  repeat' (first | with_reducible assumption | exact hl.of rfl | with_reducible apply Near.ite | with_reducible apply Near.ite_fst | with_reducible apply Near.setFlag | with_reducible apply near_passNaN (hl.of rfl) | with_reducible apply near_passSat (hl.of rfl) | with_reducible apply near_raiseDoubt (hl.of rfl) | with_reducible apply near_passHits (hl.of rfl) | with_reducible apply near_modObs (hl.of rfl) | with_reducible apply near_modLoop (hl.of rfl))

theorem near_runPass {l : Nat} (hl : Sub 0xc392dd l) {s0 s : State} (h : Near l s0 s) : ∀ x0 x1 x2 x3, Near l s0 (runPass x0 x1 x2 x3 s) := by
  intro a o ce ue
  unfold runPass
  dsimp only
  have hp := Near.foldl_fst (s0 := s0) (fun sx b hx => near_passEntry (hl.of rfl) a ue sx b hx) (List.range ((s.bump (F.LPE_ECC_CE a) ce).fld (F.LPE_CTRL_N_BLK a)))
    (x := (s.bump (F.LPE_ECC_CE a) ce, ⟨o, (s.bump (F.LPE_ECC_CE a) ce).passSigs a o, ((s.bump (F.LPE_ECC_CE a) ce).loop.get a).start, none, false⟩)) (h.bump _ _)
  repeat' (first | with_reducible assumption | exact hl.of rfl | with_reducible apply near_passWrite (hl.of rfl) | split)

/-! ## Observers -/

theorem near_obsLoad {l : Nat} (hl : Sub 0x81 l) {s0 s : State} (h : Near l s0 s) : ∀ x0, Near l s0 (obsLoad x0 s) := by
  intro x0
  unfold obsLoad
  dsimp only
  repeat' (first | (with_reducible first | assumption | intro _ | exact hl.of rfl | apply Near.setFlag | apply near_modObs (hl.of rfl)))

theorem near_obsStart {l : Nat} (hl : Sub 0x81 l) {s0 s : State} (h : Near l s0 s) : ∀ x0, Near l s0 (obsStart x0 s) := by
  intro x0
  unfold obsStart
  dsimp only
  repeat' (first | (with_reducible first | assumption | intro _ | exact hl.of rfl | apply Near.setReg | apply near_modObs (hl.of rfl) | apply Near.each))

theorem near_decTake {l : Nat} (hl : Sub 0x80 l) {s0 s : State} (h : Near l s0 s) : ∀ x0, Near l s0 (decTake x0 s) := by
  intro x0
  unfold decTake
  dsimp only
  repeat' (first | (with_reducible first | assumption | intro _ | exact hl.of rfl | apply near_modObs (hl.of rfl)))

theorem near_frameClose {l : Nat} (hl : Sub 0x10a0081 l) {s0 s : State} (h : Near l s0 s) : Near l s0 (frameClose s) := by
  unfold frameClose
  dsimp only
  repeat' (first | (with_reducible first | assumption | intro _ | exact hl.of rfl | apply Near.setFld | apply near_granWrite (hl.of rfl) | apply near_modField (hl.of rfl) | apply near_modObs (hl.of rfl) | apply Near.each | apply Near.foldl | apply Near.foldl_snd | apply Near.ite))

theorem near_obsInput {l : Nat} (hl : Sub 0x1 l) {s0 s : State} (h : Near l s0 s) : ∀ x0, Near l s0 (obsInput x0 s).2 := by
  intro x0
  unfold obsInput
  dsimp only
  repeat' (first | (with_reducible first | assumption | intro _ | exact hl.of rfl | apply Near.bump))

theorem near_windowRecord {l : Nat} (hl : Sub 0x83125d l) {s0 s : State} (h : Near l s0 s) : ∀ x0, Near l s0 (windowRecord x0 s).2 := by
  intro x0
  unfold windowRecord
  dsimp only
  repeat' (first | (with_reducible first | assumption | intro _ | exact hl.of rfl | apply near_granRead (hl.of rfl) | apply Near.ite) | split)

theorem near_windowInput {l : Nat} (hl : Sub 0x83125d l) {s0 s : State} (h : Near l s0 s) : Near l s0 (windowInput s).2 := by
  unfold windowInput
  dsimp only
  repeat' (first | (with_reducible first | assumption | intro _ | exact hl.of rfl | apply near_windowRecord (hl.of rfl) | apply Near.foldl | apply Near.foldl_snd))

theorem near_obsCommit {l : Nat} (hl : Sub 0x81 l) {s0 s : State} (h : Near l s0 s) : ∀ x0 x1, Near l s0 (obsCommit x0 x1 s) := by
  intro x0 x1
  unfold obsCommit
  dsimp only
  repeat' (first | (with_reducible first | assumption | intro _ | exact hl.of rfl | apply Near.setReg | apply near_modObs (hl.of rfl) | apply Near.each))

theorem near_windowStart {l : Nat} (hl : Sub 0x20081 l) {s0 s : State} (h : Near l s0 s) : Near l s0 (windowStart s) := by
  unfold windowStart
  dsimp only
  repeat' (first | (with_reducible first | assumption | intro _ | exact hl.of rfl | apply Near.setFld | apply near_modObs (hl.of rfl) | apply near_modField (hl.of rfl) | apply Near.each))

theorem near_verdictAlerts {l : Nat} (hl : Sub 0x302dd l) {s0 s : State} (h : Near l s0 s) : ∀ x0 x1, Near l s0 (verdictAlerts x0 x1 s) := by
  intro x0 x1
  unfold verdictAlerts
  dsimp only
  repeat' (first | (with_reducible first | assumption | intro _ | exact hl.of rfl | apply near_modObs (hl.of rfl) | apply near_raiseAx (hl.of rfl) | apply Near.each | apply Near.ite))

theorem near_verdictPost {l : Nat} (hl : Sub 0x10b06dd l) {s0 s : State} (h : Near l s0 s) : ∀ x0 x1 x2 x3, Near l s0 (verdictPost x0 x1 x2 x3 s) := by
  intro x0 x1 x2 x3
  unfold verdictPost
  dsimp only
  repeat' (first | (with_reducible first | assumption | intro _ | exact hl.of rfl | apply Near.setReg | apply near_verdictAlerts (hl.of rfl) | apply near_postDesc (hl.of rfl) | apply Near.each))

theorem near_verdictsPost {l : Nat} (hl : Sub 0x10b06dd l) {s0 s : State} (h : Near l s0 s) : ∀ x0 x1, Near l s0 (verdictsPost x0 x1 s) := by
  intro x0 x1
  unfold verdictsPost
  repeat' (first | (with_reducible first | assumption | intro _ | exact hl.of rfl | apply near_verdictPost (hl.of rfl) | apply Near.each))

/-! ## Turnstile -/

theorem near_plannedEnd {l : Nat} (hl : Sub 0x20000 l) {s0 s : State} (h : Near l s0 s) : ∀ x0, Near l s0 (plannedEnd x0 s) := by
  intro x0
  unfold plannedEnd
  repeat' (first | (with_reducible first | assumption | intro _ | exact hl.of rfl | apply near_modField (hl.of rfl)))

theorem near_trnShow {l : Nat} (hl : Sub 0x1 l) {s0 s : State} (h : Near l s0 s) : Near l s0 (trnShow s) := by
  unfold trnShow
  repeat' (first | (with_reducible first | assumption | intro _ | exact hl.of rfl | apply Near.setFld | apply Near.setFlag | apply Near.each))

theorem near_trnStart {l : Nat} (hl : Sub 0x10001 l) {s0 s : State} (h : Near l s0 s) : Near l s0 (trnStart s) := by
  unfold trnStart
  dsimp only
  repeat' (first | (with_reducible first | assumption | intro _ | exact hl.of rfl | apply Near.setFld | apply near_modTrn (hl.of rfl) | apply near_trnShow (hl.of rfl)))

theorem near_plannedStart {l : Nat} (hl : Sub 0x83125d l) {s0 s : State} (h : Near l s0 s) : ∀ x0 x1 x2 x3, Near l s0 (plannedStart x0 x1 x2 x3 s) := by
  intro x0 x1 x2 x3
  unfold plannedStart
  dsimp only
  repeat' (first | (with_reducible first | assumption | intro _ | exact hl.of rfl | apply Near.setFlag | apply near_modField (hl.of rfl) | apply near_raiseDoubt (hl.of rfl) | apply Near.ite))

theorem near_trnRefuse {l : Nat} (hl : Sub 0x10001 l) {s0 s : State} {x0 : TrnReq → State → State} (hx : ∀ r t, Near l s0 t → Near l s0 (x0 r t)) (h : Near l s0 s) : ∀ x1, Near l s0 (trnRefuse x0 x1 s) := by
  intro x1
  unfold trnRefuse
  dsimp only
  repeat' (first | with_reducible assumption | exact hl.of rfl | with_reducible apply hx | with_reducible apply Near.bump | with_reducible apply near_modTrn (hl.of rfl))

theorem near_trnGrants {l : Nat} (hl : Sub 0x10001 l) {s0 s : State} {x0 : TrnReq → State → State} (hx : ∀ r t, Near l s0 t → Near l s0 (x0 r t)) (h : Near l s0 s) : ∀ x1 x2, Near l s0 (trnGrants x0 x1 x2 s) := by
  intro x1
  induction x1 generalizing s with
  | nil => intro x2; exact h
  | cons r q ih =>
    intro x2
    unfold trnGrants
    dsimp only
    repeat' (first | with_reducible assumption | exact hl.of rfl | with_reducible apply ih | with_reducible apply hx | with_reducible apply Near.setFld | with_reducible apply near_modTrn (hl.of rfl) | split)

theorem near_trnEdge {l : Nat} (hl : Sub 0x83125d l) {s0 s : State} {x0 x1 : TrnReq → State → State} (h0 : ∀ r t, Near l s0 t → Near l s0 (x0 r t)) (h1 : ∀ r t, Near l s0 t → Near l s0 (x1 r t)) (h : Near l s0 s) : Near l s0 (trnEdge x0 x1 s) := by
  unfold trnEdge
  dsimp only
  repeat' (first | with_reducible assumption | exact hl.of rfl | intro _ | with_reducible apply near_trnShow (hl.of rfl) | with_reducible apply Near.setFld | with_reducible apply near_modTrn (hl.of rfl) | with_reducible apply near_raiseDoubt (hl.of rfl) | with_reducible apply Near.setFlag | with_reducible apply Near.each | with_reducible apply near_trnRefuse (hl.of rfl) | with_reducible apply near_trnGrants (hl.of rfl) | split)

theorem near_trnTimeout {l : Nat} (hl : Sub 0x10001 l) {s0 s : State} {x0 : TrnReq → State → State} (hx : ∀ r t, Near l s0 t → Near l s0 (x0 r t)) (h : Near l s0 s) : ∀ x1, Near l s0 (trnTimeout x0 x1 s) := by
  intro x1
  unfold trnTimeout
  split
  · exact h
  · exact near_trnShow (hl.of rfl) (near_trnRefuse (hl.of rfl) hx h _)

end Sys2Proof.Machine
end

