-- ==== Sys2Proof/Laws/Events.lean ====
section
/-! SUPPORT. What raising events does (R320, R321): only the registers of `eventRegs` may change, of a PWM unit only its open
BLANK windows, and the counts of the task inputs count each event on each of its routes. -/

namespace Sys2Proof.Machine

/-- `t` differs from `s` by services of events alone, the counts of the task inputs aside. -/
structure Served (s t : State) : Prop where
  regs : s.regsBut t eventRegs
  near : Near 0x3025d s t
  pwm : ∀ a, ∃ b, t.pwm.get a = { s.pwm.get a with blank := b }
  halt : ∀ a, t.halted a = s.halted a

namespace Served

variable {s0 s t : State}

theorem refl (s : State) : Served s s := ⟨fun _ _ => rfl, .refl _ s, fun _ => ⟨_, rfl⟩, fun _ => rfl⟩

theorem trans {r : State} (h : Served r s) (h' : Served s t) : Served r t :=
  ⟨fun k hk => (h'.regs k hk).trans (h.regs k hk), h.near.trans h'.near,
    fun a => by
      obtain ⟨b, hb⟩ := h'.pwm a
      obtain ⟨c, hc⟩ := h.pwm a
      exact ⟨b, by rw [hb, hc]⟩,
    fun a => (h'.halt a).trans (h.halt a)⟩

/-- An update of one register of the list that holds no HALTED flag. -/
theorem setReg (h : Served s0 s) {k : Nat} (w : Word) (hk : k ∈ eventRegs) (hs : ∀ a : Fin 4, R.PWM_STAT a ≠ k) : Served s0 (s.setReg k w) :=
  h.trans ⟨fun j hj => State.reg_setReg_other _ _ (by rintro rfl; exact hj hk), (Near.refl _ s).setReg _ _ rfl, fun _ => ⟨_, rfl⟩,
    fun a => by unfold State.halted State.flag; rw [State.fld_setReg_other]; exact hs a⟩

theorem setFld (h : Served s0 s) (f : Fld) (v : Nat) (hk : f.addr ∈ eventRegs) (hs : ∀ a : Fin 4, R.PWM_STAT a ≠ f.addr) : Served s0 (s.setFld f v) :=
  h.setReg _ hk hs

/-- INTERLOCK and HALTED are bits of one register, and apart. -/
theorem interlock (h : Served s0 s) (a : Fin 4) (b : Bool) : Served s0 (s.setFlag (F.PWM_STAT_INTERLOCK a) b) :=
  h.trans ⟨fun j hj => State.reg_setFlag_other _ _ (by rintro rfl; exact hj (by fin_cases a <;> decide)), (Near.refl _ s).setFlag _ _ rfl,
    fun _ => ⟨_, rfl⟩, fun c => by
      unfold State.halted
      by_cases hc : c = a
      · subst hc; exact State.flag_setFlag_apart _ _ (by fin_cases c <;> decide)
      · exact State.flag_setFlag_other _ _ (by revert hc; fin_cases a <;> fin_cases c <;> decide)⟩

/-- An update of parts that are neither registers nor PWM units. -/
theorem same (h : Served s0 s) (hn : Near 0x3025d s t) (hr : t.regs = s.regs) (hp : t.pwm = s.pwm) : Served s0 t :=
  have e : ∀ k, t.reg k = s.reg k := fun k => by unfold State.reg; rw [hr]
  h.trans ⟨fun k _ => e k, hn, fun a => ⟨_, by rw [hp]⟩, fun a => by unfold State.halted State.flag State.fld; rw [e]⟩

theorem modSense (h : Served s0 s) (a : Fin 4) (f : SenseAx → SenseAx) : Served s0 (s.modSense a f) :=
  h.same (near_modSense (l := 0x3025d) rfl (.refl _ _) _ _) rfl rfl
theorem modLoop (h : Served s0 s) (a : Fin 4) (f : LoopAx → LoopAx) : Served s0 (s.modLoop a f) :=
  h.same (near_modLoop (l := 0x3025d) rfl (.refl _ _) _ _) rfl rfl
theorem modField (h : Served s0 s) (f : FieldSt → FieldSt) : Served s0 (s.modField f) :=
  h.same (near_modField (l := 0x3025d) rfl (.refl _ _) _) rfl rfl
theorem trn (h : Served s0 s) (w : TrnWho) (n c : Nat) : Served s0 (trnRequest w n c s) :=
  h.same (near_trnRequest (l := 0x3025d) rfl (.refl _ _) _ _ _) rfl rfl
theorem arm (h : Served s0 s) (g : Nat) : Served s0 (armGroup g s) :=
  h.same (near_armGroup (l := 0x3025d) rfl (.refl _ _) _) rfl rfl

end Served

theorem Served.blank {s0 s : State} (h : Served s0 s) (a : Fin 4) (g : BitVec 4 → BitVec 4) :
    Served s0 (s.modPwm a (fun p => { p with blank := g p.blank })) :=
  h.trans ⟨fun _ _ => rfl, near_modPwm (l := 0x3025d) rfl (.refl _ s) _ _, fun b => by
    by_cases hb : a = b
    · subst hb; exact ⟨g (s.pwm.get a).blank, by simp only [State.modPwm, Quad.get_set, if_true]⟩
    · exact ⟨(s.pwm.get b).blank, by simp only [State.modPwm, Quad.get_set, if_neg (Ne.symm hb)]⟩, fun _ => rfl⟩

theorem served_outputsMoved {s0 s : State} (h : Served s0 s) (a : Fin 4) (was : BitVec 8) : Served s0 (outputsMoved a was s) := by
  unfold outputsMoved
  extract_lets s1 m
  have h1 : Served s0 s1 := by
    simp only [s1]
    split
    · exact h.interlock a _
    · exact h
  clear_value s1
  split
  · exact h1
  · exact (h1.blank a (fun b => b ||| BitVec.ofNat 4 m)).setFld (F.SCW_SPIN_HOLD a) _ (by fin_cases a <;> decide) (by fin_cases a <;> decide)

theorem served_maskSel {s0 s : State} (h : Served s0 s) (a : Fin 4) (p : Nat) : Served s0 (maskSel a p s) := by
  unfold maskSel
  split
  · exact h
  · exact served_outputsMoved (h.setFld _ _ (by fin_cases a <;> decide) (by fin_cases a <;> decide)) a _

theorem served_snsStart {s0 s : State} (h : Served s0 s) (a : Fin 4) (j : Nat) (early : Bool) : Served s0 (snsStart a j early s) := by
  unfold snsStart
  dsimp only
  split
  · exact h.setFld _ _ (by fin_cases a <;> decide) (by fin_cases a <;> decide)
  · exact h.modSense _ _

theorem served_bankSwapReq {s0 s : State} (h : Served s0 s) (a : Fin 4) : Served s0 (bankSwapReq a s) := by
  unfold bankSwapReq
  split
  · exact h
  · exact (h.setFld (F.LPE_BANK_CTRL_LOCK a) _ (by fin_cases a <;> decide) (by fin_cases a <;> decide)).modLoop _ _

/-- The registers of the list that an index below its bound names. -/
theorem cset_events {c : Nat} (h : c < 32) : R.FLD_CSET_CTRL c ∈ eventRegs ∧ ∀ a : Fin 4, R.PWM_STAT a ≠ R.FLD_CSET_CTRL c := by
  interval_cases c <;> decide
theorem scan_events {c : Nat} (h : c < 4) : R.HRW_CH_STAT c ∈ eventRegs ∧ R.HRW_CH_DONE c ∈ eventRegs
    ∧ (∀ a : Fin 4, R.PWM_STAT a ≠ R.HRW_CH_STAT c) ∧ ∀ a : Fin 4, R.PWM_STAT a ≠ R.HRW_CH_DONE c := by
  interval_cases c <;> decide
theorem unit_events {n : Nat} (h : n < 8) : R.CHK_STAT n ∈ eventRegs ∧ R.TRL_BULK_STAT n ∈ eventRegs
    ∧ (∀ a : Fin 4, R.PWM_STAT a ≠ R.CHK_STAT n) ∧ ∀ a : Fin 4, R.PWM_STAT a ≠ R.TRL_BULK_STAT n := by
  interval_cases n <;> decide

theorem served_cutSwapReq {s0 s : State} (h : Served s0 s) {c : Nat} (hc : c < 32) (twin : Bool) : Served s0 (cutSwapReq c twin s) := by
  obtain ⟨hk, hs⟩ := cset_events hc
  unfold cutSwapReq
  split
  · exact h
  · exact ((h.setFld (F.FLD_CSET_CTRL_LOCK c) _ hk hs).setFld (F.FLD_CSET_CTRL_TWIN c) _ hk hs).modField _

theorem served_trnRequest {s0 s : State} (h : Served s0 s) (w : TrnWho) (t c : Nat) : Served s0 (trnRequest w t c s) :=
  h.trn _ _ _

theorem served_scanStop {s0 s : State} (h : Served s0 s) {c : Nat} (hc : c < 4) (st why : Nat) : Served s0 (scanStop c st why s) := by
  obtain ⟨hk, -, hs, -⟩ := scan_events hc
  exact (h.setFld (F.HRW_CH_STAT_STATE c) _ hk hs).setFld (F.HRW_CH_STAT_WHY c) _ hk hs

theorem served_scanGo {s0 s : State} (h : Served s0 s) {c : Nat} (hc : c < 4) : Served s0 (scanGo c s) := by
  obtain ⟨-, hd, -, hds⟩ := scan_events hc
  unfold scanGo
  dsimp only
  split
  · exact h
  · split
    · exact served_scanStop h hc _ _
    · split
      · exact served_scanStop h hc _ _
      · split
        · exact served_scanStop h hc _ _
        · obtain ⟨hu, -, hus, -⟩ := unit_events (n := s.fld (F.HRW_CH_CFG_UNIT c)) (State.fld_lt s _)
          exact served_trnRequest (((((served_scanStop h hc _ _).setFld (F.HRW_CH_DONE_ELEMS c) _ hd hds).setFld (F.CHK_STAT_OWNER _) _ hu hus).setFld
            (F.CHK_STAT_CH _) _ hu hus).setFld (F.CHK_STAT_BUSY _) _ hu hus) _ _ _

theorem served_bulkGo {s0 s : State} (h : Served s0 s) {i : Nat} (hi : i < 8) : Served s0 (bulkGo i s) := by
  obtain ⟨-, hk, -, hs⟩ := unit_events hi
  have hb : ∀ st res, Served s0 (bulkSet i st res s) := fun _ _ =>
    (h.setFld (F.TRL_BULK_STAT_STATE i) _ hk hs).setFld (F.TRL_BULK_STAT_RESULT i) _ hk hs
  unfold bulkGo
  dsimp only
  split
  · exact h
  · split
    · exact hb _ _
    · split
      · exact hb _ _
      · exact served_trnRequest (hb _ _) _ _ _

theorem served_taskServe {s0 s : State} (h : Served s0 s) (c pay : Nat) (early : Bool) : Served s0 (taskServe c pay early s) := by
  unfold taskServe
  split
  · dsimp only
    split
    · exact served_snsStart h _ _ _
    · split
      · exact served_maskSel h _ _
      · exact served_bankSwapReq h _
  · split
    · exact h.arm _
    · split
      · exact served_scanGo h (by omega)
      · split
        · exact served_cutSwapReq h (by omega) _
        · unfold linkTask
          split
          · exact served_bulkGo h (by assumption)
          · exact h

theorem Served.setTask {s0 s : State} (h : Served s0 s) (c : Nat) (t : Task) : Served s0 (s.setTask c t) :=
  h.same ((Near.refl 0x3025d s).setTask _ _ rfl) rfl rfl

theorem Served.sqrStat {s0 s : State} (h : Served s0 s) (f : Fld) (v : Nat) (hf : f.addr = R.SQR_STAT) : Served s0 (s.setFld f v) :=
  h.setFld f v (by rw [hf]; decide) (by rw [hf]; decide)

theorem served_taskEvent {s0 s : State} (h : Served s0 s) (src c pay : Nat) (again early : Bool) :
    Served s0 (taskEvent src c pay again early s) := by
  unfold taskEvent
  dsimp only
  split
  · exact (h.setTask _ _).sqrStat _ _ rfl
  · split
    · split
      · exact h.setTask _ _
      · exact (h.setTask _ _).sqrStat _ _ rfl
    · split
      · exact served_taskServe (h.setTask _ _) _ _ _
      · split
        · exact h.setTask _ _
        · exact (h.setTask _ _).sqrStat _ _ rfl
    · split
      · exact h.setTask _ _
      · split <;> exact served_taskServe (h.setTask _ _) _ _ _

theorem served_ovfServe {s0 s : State} (h : Served s0 s) (c : Nat) : Served s0 (ovfServe c s) := by
  unfold ovfServe
  dsimp only
  split
  · exact h
  · exact served_taskServe (h.setTask _ _) _ _ _

theorem served_auditTask {s0 s : State} (h : Served s0 s) (c : Nat) : Served s0 (auditTask c s) := by
  unfold auditTask
  dsimp only
  split
  · exact h
  · exact (h.sqrStat F.SQR_STAT_AUDIT_ERR true.toNat rfl).sqrStat _ _ rfl

theorem served_deliver (early : Bool) {s0 s : State} (h : Served s0 s) : ∀ l seen, Served s0 (deliver early l seen s) := by
  intro l
  induction l generalizing s with
  | nil => intro _; exact h
  | cons e r ih => intro _; exact ih (served_auditTask (served_taskEvent h _ _ _ _ _) _) _

theorem served_raiseAll {s0 s : State} (h : Served s0 s) (evs : List (Nat × Nat)) (early : Bool) : Served s0 (raiseAll evs early s) := by
  unfold raiseAll
  dsimp only
  refine served_deliver early ?_ _ _
  unfold State.each
  generalize allAxes = l
  induction l generalizing s with
  | nil => exact h
  | cons a r ih => exact ih (served_ovfServe h _)

theorem served_raise {s0 s : State} (h : Served s0 s) (src pay : Nat) : Served s0 (raise src pay s) := served_raiseAll h _ _
theorem served_raiseAx {s0 s : State} (h : Served s0 s) (a : Fin 4) (k pay : Nat) : Served s0 (raiseAx a k pay s) := served_raiseAll h _ _

/-! ## Counts -/

theorem task_setTask (s : State) (c d : Nat) (t : Task) : (s.setTask c t).task d = if d = c then t else s.task d := by
  simp only [State.setTask, State.task]
  exact SMap.get_put ..

/-- No service changes a count. -/
theorem taskServe_task (s : State) (c pay : Nat) (early : Bool) (d : Nat) : (taskServe c pay early s).task d = s.task d :=
  congrArg (fun m : SMap Task => SMap.get ({} : Task) m d) ((near_taskServe (l := 0x3005d) rfl (.refl _ s) c pay early).same .tasks rfl)

/-- An event is received by its own task input alone. -/
theorem taskEvent_rcv (s : State) (src c pay : Nat) (again early : Bool) (d : Nat) :
    ((taskEvent src c pay again early s).task d).rcv = if d = c then ((s.task c).rcv + 1) % 65536 else (s.task d).rcv := by
  have hf : ∀ (s : State) (f : Fld) (b : Bool), (s.setFlag f b).task d = s.task d := fun _ _ _ => rfl
  unfold taskEvent
  dsimp only
  repeat' (first | split | rw [taskServe_task] | rw [hf] | rw [task_setTask])
  all_goals first | rfl | (exact absurd ‹_› ‹_›)

theorem ovfServe_rcv (s : State) (c d : Nat) : ((ovfServe c s).task d).rcv = (s.task d).rcv := by
  unfold ovfServe
  dsimp only
  split
  · rfl
  · rw [taskServe_task, task_setTask]
    split
    · rename_i h; rw [h]
    · rfl

theorem auditTask_task (s : State) (c d : Nat) : (auditTask c s).task d = s.task d := by
  unfold auditTask
  dsimp only
  split <;> rfl

theorem deliver_rcv (early : Bool) (l : List (Nat × Nat × Nat)) (seen : List Nat) (s : State) (d : Nat) :
    ((deliver early l seen s).task d).rcv % 65536 = ((s.task d).rcv + (l.filter (fun e => e.2.1 == d)).length) % 65536 := by
  induction l generalizing seen s with
  | nil => rfl
  | cons e r ih =>
    obtain ⟨src, c, p⟩ := e
    unfold deliver
    rw [ih, auditTask_task, taskEvent_rcv, List.filter_cons]
    by_cases hd : c = d
    · subst hd; simp only [if_true, beq_self_eq_true, List.length_cons]; omega
    · rw [if_neg (Ne.symm hd), if_neg (by simpa using hd)]

/-- Raising one event: every task input receives it once for each route that leads to it, and an axis in tenant reset raises
nothing. -/
theorem raiseAll_rcv (s : State) (src pay : Nat) (early : Bool) (d : Nat) :
    ((raiseAll [(src, pay)] early s).task d).rcv % 65536
      = ((s.task d).rcv + if 0x80 ≤ src ∨ s.inReset (src / 0x20) = false then s.routeCount src d else 0) % 65536 := by
  have hov : ∀ (l : List (Fin 4)) (s : State), ((s.each l (fun s a => ovfServe (0x10 * a.val + 4) s)).task d).rcv = (s.task d).rcv := by
    intro l
    induction l with
    | nil => intro s; rfl
    | cons a r ih => intro s; exact (ih _).trans (ovfServe_rcv ..)
  have hro : ∀ (l : List (Fin 4)) (s : State), (s.each l (fun s a => ovfServe (0x10 * a.val + 4) s)).routes = s.routes := by
    intro l s
    exact (Near.each (l := 0x3025d) (fun _ _ h => near_ovfServe (l := 0x3025d) rfl h _) (.refl _ s)).same .routes rfl
  unfold raiseAll
  dsimp only
  rw [deliver_rcv, hov]
  congr 2
  by_cases hr : 0x80 ≤ src ∨ s.inReset (src / 0x20) = false
  · rw [if_pos hr, List.filter_cons, if_pos (by simpa using hr)]
    simp only [List.filter_nil, List.foldr_cons, List.foldr_nil, insertEvent, List.flatMap_cons, List.flatMap_nil, List.append_nil,
      State.routesOf, hro, List.map_map, List.filter_map, List.length_map, List.filter_filter, State.routeCount]
    congr 2
    funext r
    simp only [Function.comp, Bool.and_comm]
  · rw [if_neg hr, List.filter_cons, if_neg (by simpa using hr)]
    rfl

theorem raise_heard (s : State) (src pay : Nat) : s.heard (raise src pay s) src := raiseAll_rcv s src pay false
theorem raiseAx_heard (s : State) (a : Fin 4) (k pay : Nat) : s.heard (raiseAx a k pay s) (0x20 * a.val + k) := raiseAll_rcv s _ pay false

end Sys2Proof.Machine
end

