-- ==== Sys2Proof/Laws/Follows.lean ====
section
/-! SUPPORT. What every operation of the block does to the queue, to the facts of the part, to the canonical forms, to STEP, to
the supply of free values and to the Square's books, said once: the relation `Follows`, and how it passes through the state's updates. -/

namespace Sys2Proof.Machine

/-- `t` keeps what `s` has: the same commands wait, the part is the same but for plots retired since, canonical forms are
kept, no number of a free value comes back, the Square's
books stay balanced, and every tenant keeps its place on the way back to the observers. -/
structure Keeps (s t : State) : Prop where
  pending : t.pending = s.pending
  part : t.fuses = { s.fuses with retired := t.fuses.retired }
  kept : s.kept = true → t.kept = true
  free : s.freeIdx ≤ t.freeIdx
  books : s.booked = true → t.booked = true
  rets : s.saf.ret.length = 5 → t.saf.ret.length = 5

/-- `t` follows `s` within a schedule period: it keeps what `s` has, and if the schedule runs in `t`, it ran in `s` and STEP is
the same. -/
structure Follows (s t : State) : Prop extends Keeps s t where
  run : t.pow.running = true → s.pow.running = true ∧ t.step = s.step

theorem Keeps.refl (s : State) : Keeps s s := ⟨rfl, rfl, id, le_refl _, id, id⟩

theorem Keeps.trans {r s t : State} (h : Keeps r s) (h' : Keeps s t) : Keeps r t :=
  ⟨h'.pending.trans h.pending, by rw [h'.part, h.part], h'.kept ∘ h.kept, h.free.trans h'.free, h'.books ∘ h.books, h'.rets ∘ h.rets⟩

/-- In balanced books every task input balances, listed or not. -/
theorem taskBooked_of {s : State} (h : s.booked = true) (c : Nat) : taskBooked c (s.task c) = true := by
  have hall : ∀ e ∈ s.tasks, taskBooked e.1 e.2 = true := List.all_eq_true.1 h
  rw [State.task]
  generalize s.tasks = m at hall
  induction m with
  | nil => unfold SMap.get taskBooked; split <;> rfl
  | cons e r ih =>
    unfold SMap.get
    split
    · rename_i hk
      have := hall e (by simp)
      rwa [hk] at this
    · exact ih fun e he => hall e (by simp [he])

namespace Follows

variable {s0 s : State}

theorem refl (s : State) : Follows s s := ⟨.refl s, fun h => ⟨h, rfl⟩⟩

theorem trans {r s t : State} (h : Follows r s) (h' : Follows s t) : Follows r t :=
  ⟨h.toKeeps.trans h'.toKeeps, fun k => ⟨(h.run (h'.run k).1).1, (h'.run k).2.trans (h.run (h'.run k).1).2⟩⟩

/-- An update that touches neither the queue, the fuses nor a sparse part, nor what `Follows` says of the schedule. -/
theorem same {t : State} (h : Follows s0 s) (hp : t.pending = s.pending) (hf : t.fuses = s.fuses) (hr : t.regs = s.regs)
    (ht : t.tasks = s.tasks) (hg : t.gran = s.gran) (hl : t.plots = s.plots) (ho : t.silo = s.silo)
    (hi : t.freeIdx = s.freeIdx) (hs : t.step = s.step) (hw : t.pow.running = s.pow.running)
    (hv : t.saf.ret = s.saf.ret) : Follows s0 t :=
  ⟨⟨hp.trans h.pending, by rw [hf]; exact h.part,
    fun k => by have := h.kept k; simpa only [State.kept, hr, ht, hg, hl, ho] using this, hi ▸ h.free,
    fun k => by have := h.books k; simpa only [State.booked, ht] using this, by rw [hv]; exact h.rets⟩, by rw [hs, hw]; exact h.run⟩

theorem ite {c : Prop} [Decidable c] {s t : State} (hs : Follows s0 s) (ht : Follows s0 t) :
    Follows s0 (if c then s else t) := by split <;> assumption

theorem ite_fst {β : Type} {c : Prop} [Decidable c] {x y : State × β} (hx : Follows s0 x.1) (hy : Follows s0 y.1) :
    Follows s0 (if c then x else y).1 := by split <;> assumption

theorem foldl {α : Type} {f : State → α → State} (hf : ∀ x a, Follows s0 x → Follows s0 (f x a)) (l : List α)
    (h : Follows s0 s) : Follows s0 (l.foldl f s) := by
  induction l generalizing s with
  | nil => exact h
  | cons a r ih => exact ih (hf _ _ h)

theorem foldr {α : Type} {f : α → State → State} (hf : ∀ a x, Follows s0 x → Follows s0 (f a x)) (l : List α)
    (h : Follows s0 s) : Follows s0 (l.foldr f s) := by
  induction l with
  | nil => exact h
  | cons a r ih => exact hf _ _ ih

/-- A fold that carries something beside the state. -/
theorem foldl_snd {α β : Type} {f : β × State → α → β × State} (hf : ∀ x a, Follows s0 x.2 → Follows s0 (f x a).2) (l : List α)
    {x : β × State} (h : Follows s0 x.2) : Follows s0 (l.foldl f x).2 := by
  induction l generalizing x with
  | nil => exact h
  | cons a r ih => exact ih (hf _ _ h)

theorem foldl_fst {α β : Type} {f : State × β → α → State × β} (hf : ∀ x a, Follows s0 x.1 → Follows s0 (f x a).1) (l : List α)
    {x : State × β} (h : Follows s0 x.1) : Follows s0 (l.foldl f x).1 := by
  induction l generalizing x with
  | nil => exact h
  | cons a r ih => exact ih (hf _ _ h)

theorem each {α : Type} {f : State → α → State} {l : List α} (hf : ∀ x a, Follows s0 x → Follows s0 (f x a))
    (h : Follows s0 s) : Follows s0 (s.each l f) := foldl hf l h

theorem when {b : Bool} {f : State → State} (hf : ∀ x, Follows s0 x → Follows s0 (f x)) (h : Follows s0 s) :
    Follows s0 (s.when b f) := ite (hf _ h) h

theorem setReg (h : Follows s0 s) (k : Nat) (w : Word) : Follows s0 (s.setReg k w) :=
  ⟨⟨h.pending, h.part, fun hk => by
    have := h.kept hk
    simp only [State.kept, State.setReg, Bool.and_eq_true] at this ⊢
    exact ⟨⟨⟨⟨SMap.wf_put this.1.1.1.1 k w, this.1.1.1.2⟩, this.1.1.2⟩, this.1.2⟩, this.2⟩, h.free, h.books, h.rets⟩, h.run⟩

theorem setFld (h : Follows s0 s) (f : Fld) (v : Nat) : Follows s0 (s.setFld f v) := h.setReg _ _
theorem setFlag (h : Follows s0 s) (f : Fld) (b : Bool) : Follows s0 (s.setFlag f b) := h.setReg _ _
theorem setBit (h : Follows s0 s) (f : Fld) (k : Nat) (b : Bool) : Follows s0 (s.setBit f k b) := h.setReg _ _
theorem bump (h : Follows s0 s) (f : Fld) (k : Nat) : Follows s0 (s.bump f k) := h.setReg _ _

theorem setTask (h : Follows s0 s) (c : Nat) (t : Task) (hb : s.booked = true → taskBooked c t = true) : Follows s0 (s.setTask c t) :=
  ⟨⟨h.pending, h.part, fun hk => by
    have := h.kept hk
    simp only [State.kept, State.setTask, Bool.and_eq_true] at this ⊢
    exact ⟨⟨⟨⟨this.1.1.1.1, SMap.wf_put (d := fun _ => ({} : Task)) this.1.1.1.2 c t⟩, this.1.1.2⟩, this.1.2⟩, this.2⟩, h.free, fun k => by
    have hs := h.books k
    simp only [State.booked, State.setTask, List.all_eq_true] at hs ⊢
    intro e he
    rcases SMap.mem_put he with rfl | he
    · exact hb (h.books k)
    · exact hs e he, h.rets⟩, h.run⟩

/-- An update of any other fields. -/
theorem mk_same (h : Follows s0 s)
    (armed : BitVec 4) (pwm : Quad PwmAx) (sense : Quad SenseAx) (head : Quad HeadAx) (loop : Quad LoopAx)
    (obs : Quad ObsAx) (routes : List Route) (que : QueSt) (ports : Pair PortSt) (scw : ScwSt)
    (trn : TrnSt) (field : FieldSt) (ldr : LdrSt) (hrw : HrwSt) (rot : RotSt) (det : Quad DetAx) (aux : AuxSt)
    (link : LinkSt) :
    Follows s0 (State.mk s.regs s.step armed pwm sense head loop obs routes s.tasks que ports s.saf scw s.fuses s.pow
      trn field ldr hrw rot det aux link s.gran s.plots s.silo s.freeIdx s.pending) :=
  ⟨⟨h.pending, h.part, h.kept, h.free, h.books, h.rets⟩, h.run⟩

/-- New contents of the memories, each canonical where the old ones are. -/
theorem mems {g l o : SMap Byte} (h : Follows s0 s) (hg : SMap.wf (fun _ => 0#8) s.gran = true → SMap.wf (fun _ => 0#8) g = true)
    (hl : SMap.wf (fun _ => 0#8) s.plots = true → SMap.wf (fun _ => 0#8) l = true)
    (ho : SMap.wf (fun _ => 0#8) s.silo = true → SMap.wf (fun _ => 0#8) o = true) :
    Follows s0 { s with gran := g, plots := l, silo := o } :=
  ⟨⟨h.pending, h.part, fun hk => by
    have := h.kept hk
    simp only [State.kept, Bool.and_eq_true] at this ⊢
    exact ⟨⟨⟨⟨this.1.1.1.1, this.1.1.1.2⟩, hg this.1.1.2⟩, hl this.1.2⟩, ho this.2⟩, h.free, h.books, h.rets⟩, h.run⟩

end Follows

end Sys2Proof.Machine
end

