-- ==== Sys2Proof/Laws/FollowsDrive.lean ====
section
/-! SUPPORT. `Follows` through every operation of the registers, the Square, the queues, the axes and the Turnstile. -/

namespace Sys2Proof.Machine

/-! ## Ops -/

theorem follows_fresh {s0 s : State} (h : Follows s0 s) : Follows s0 s.fresh.2 :=
  ⟨⟨h.pending, h.part, h.kept, h.free.trans (Nat.le_succ _), h.books, h.rets⟩, h.run⟩

theorem follows_modAux {s0 s : State} (h : Follows s0 s) : ∀ x0, Follows s0 (State.modAux s x0) := by
  intro x0
  exact h.same rfl rfl rfl rfl rfl rfl rfl rfl rfl rfl rfl

theorem follows_modDet {s0 s : State} (h : Follows s0 s) : ∀ x0 x1, Follows s0 (State.modDet s x0 x1) := by
  intro x0 x1
  exact h.same rfl rfl rfl rfl rfl rfl rfl rfl rfl rfl rfl

theorem follows_modField {s0 s : State} (h : Follows s0 s) : ∀ x0, Follows s0 (State.modField s x0) := by
  intro x0
  exact h.same rfl rfl rfl rfl rfl rfl rfl rfl rfl rfl rfl

theorem follows_modHead {s0 s : State} (h : Follows s0 s) : ∀ x0 x1, Follows s0 (State.modHead s x0 x1) := by
  intro x0 x1
  exact h.same rfl rfl rfl rfl rfl rfl rfl rfl rfl rfl rfl

theorem follows_modHrw {s0 s : State} (h : Follows s0 s) : ∀ x0, Follows s0 (State.modHrw s x0) := by
  intro x0
  exact h.same rfl rfl rfl rfl rfl rfl rfl rfl rfl rfl rfl

theorem follows_modLdr {s0 s : State} (h : Follows s0 s) : ∀ x0, Follows s0 (State.modLdr s x0) := by
  intro x0
  exact h.same rfl rfl rfl rfl rfl rfl rfl rfl rfl rfl rfl

theorem follows_modLink {s0 s : State} (h : Follows s0 s) : ∀ x0, Follows s0 (State.modLink s x0) := by
  intro x0
  exact h.same rfl rfl rfl rfl rfl rfl rfl rfl rfl rfl rfl

theorem follows_modLoop {s0 s : State} (h : Follows s0 s) : ∀ x0 x1, Follows s0 (State.modLoop s x0 x1) := by
  intro x0 x1
  exact h.same rfl rfl rfl rfl rfl rfl rfl rfl rfl rfl rfl

theorem follows_modObs {s0 s : State} (h : Follows s0 s) : ∀ x0 x1, Follows s0 (State.modObs s x0 x1) := by
  intro x0 x1
  exact h.same rfl rfl rfl rfl rfl rfl rfl rfl rfl rfl rfl

theorem follows_modPort {s0 s : State} (h : Follows s0 s) : ∀ x0 x1, Follows s0 (State.modPort s x0 x1) := by
  intro x0 x1
  exact h.same rfl rfl rfl rfl rfl rfl rfl rfl rfl rfl rfl

theorem follows_modPow {s0 s : State} (h : Follows s0 s) : ∀ f, (∀ p, (f p).running = true → p.running = true) → Follows s0 (s.modPow f) :=
  fun _ hf => ⟨⟨h.pending, h.part, h.kept, h.free, h.books, h.rets⟩, fun k => h.run (hf _ k)⟩

theorem follows_modPwm {s0 s : State} (h : Follows s0 s) : ∀ x0 x1, Follows s0 (State.modPwm s x0 x1) := by
  intro x0 x1
  exact h.same rfl rfl rfl rfl rfl rfl rfl rfl rfl rfl rfl

theorem follows_modQue {s0 s : State} (h : Follows s0 s) : ∀ x0, Follows s0 (State.modQue s x0) := by
  intro x0
  exact h.same rfl rfl rfl rfl rfl rfl rfl rfl rfl rfl rfl

theorem follows_modSaf {s0 s : State} (h : Follows s0 s) : ∀ f, (∀ x, x.ret.length = 5 → (f x).ret.length = 5) → Follows s0 (s.modSaf f) :=
  fun _ hf => ⟨⟨h.pending, h.part, h.kept, h.free, h.books, fun k => hf _ (h.rets k)⟩, h.run⟩

theorem follows_modScw {s0 s : State} (h : Follows s0 s) : ∀ x0, Follows s0 (State.modScw s x0) := by
  intro x0
  exact h.same rfl rfl rfl rfl rfl rfl rfl rfl rfl rfl rfl

theorem follows_modSense {s0 s : State} (h : Follows s0 s) : ∀ x0 x1, Follows s0 (State.modSense s x0 x1) := by
  intro x0 x1
  exact h.same rfl rfl rfl rfl rfl rfl rfl rfl rfl rfl rfl

theorem follows_modTrn {s0 s : State} (h : Follows s0 s) : ∀ x0, Follows s0 (State.modTrn s x0) := by
  intro x0
  exact h.same rfl rfl rfl rfl rfl rfl rfl rfl rfl rfl rfl

/-! ## Gates -/

theorem follows_outputsMoved {s0 s : State} (h : Follows s0 s) : ∀ x0 x1, Follows s0 (outputsMoved x0 x1 s) := by
  intro x0 x1
  unfold outputsMoved
  dsimp only
  repeat' (first | (with_reducible first | assumption | intro _ | apply Follows.setFlag | apply follows_modPwm | apply Follows.foldl | apply Follows.foldl_snd | apply Follows.ite))

/-! ## Square -/

theorem follows_trnEnd {s0 s : State} (h : Follows s0 s) : ∀ x0, Follows s0 (trnEnd x0 s) := by
  intro x0
  unfold trnEnd
  dsimp only
  repeat' (first | (with_reducible first | assumption | intro _ | apply Follows.mk_same))

theorem follows_bulkSet {s0 s : State} (h : Follows s0 s) : ∀ x0 x1 x2, Follows s0 (bulkSet x0 x1 x2 s) := by
  intro x0 x1 x2
  unfold bulkSet
  repeat' (first | (with_reducible first | assumption | intro _ | apply Follows.setFld))

theorem follows_snsStart {s0 s : State} (h : Follows s0 s) : ∀ x0 x1 x2, Follows s0 (snsStart x0 x1 x2 s) := by
  intro x0 x1 x2
  unfold snsStart
  dsimp only
  repeat' (first | (with_reducible first | assumption | intro _ | apply Follows.setFlag | apply follows_modSense | apply Follows.ite))

theorem follows_maskSel {s0 s : State} (h : Follows s0 s) : ∀ x0 x1, Follows s0 (maskSel x0 x1 s) := by
  intro x0 x1
  unfold maskSel
  repeat' (first | (with_reducible first | assumption | intro _ | apply Follows.setFld | apply follows_outputsMoved | apply Follows.ite))

theorem follows_bankSwapReq {s0 s : State} (h : Follows s0 s) : ∀ x0, Follows s0 (bankSwapReq x0 s) := by
  intro x0
  unfold bankSwapReq
  repeat' (first | (with_reducible first | assumption | intro _ | apply Follows.setFlag | apply follows_modLoop | apply Follows.ite))

theorem follows_armGroup {s0 s : State} (h : Follows s0 s) : ∀ x0, Follows s0 (armGroup x0 s) := by
  intro x0
  unfold armGroup
  repeat' (first | (with_reducible first | assumption | intro _ | apply Follows.mk_same))

theorem follows_scanStop {s0 s : State} (h : Follows s0 s) : ∀ x0 x1 x2, Follows s0 (scanStop x0 x1 x2 s) := by
  intro x0 x1 x2
  unfold scanStop
  repeat' (first | (with_reducible first | assumption | intro _ | apply Follows.setFld))

theorem follows_trnRequest {s0 s : State} (h : Follows s0 s) : ∀ x0 x1 x2, Follows s0 (trnRequest x0 x1 x2 s) := by
  intro x0 x1 x2
  unfold trnRequest
  dsimp only
  repeat' (first | (with_reducible first | assumption | intro _ | apply Follows.mk_same))

theorem follows_scanGo {s0 s : State} (h : Follows s0 s) : ∀ x0, Follows s0 (scanGo x0 s) := by
  intro x0
  unfold scanGo
  dsimp only
  repeat' (first | (with_reducible first | assumption | intro _ | apply Follows.setFld | apply Follows.setFlag | apply follows_scanStop | apply follows_trnRequest | apply Follows.ite))

theorem follows_cutSwapReq {s0 s : State} (h : Follows s0 s) : ∀ x0 x1, Follows s0 (cutSwapReq x0 x1 s) := by
  intro x0 x1
  unfold cutSwapReq
  repeat' (first | (with_reducible first | assumption | intro _ | apply Follows.setFlag | apply follows_modField | apply Follows.ite))

theorem follows_bulkGo {s0 s : State} (h : Follows s0 s) : ∀ x0, Follows s0 (bulkGo x0 s) := by
  intro x0
  unfold bulkGo
  dsimp only
  repeat' (first | (with_reducible first | assumption | intro _ | apply follows_bulkSet | apply follows_trnRequest | apply Follows.ite))

theorem follows_linkTask {s0 s : State} (h : Follows s0 s) : ∀ x0, Follows s0 (linkTask x0 s) := by
  intro x0
  unfold linkTask
  repeat' (first | (with_reducible first | assumption | intro _ | apply follows_bulkGo | apply Follows.ite))

theorem follows_taskServe {s0 s : State} (h : Follows s0 s) : ∀ x0 x1 x2, Follows s0 (taskServe x0 x1 x2 s) := by
  intro x0 x1 x2
  unfold taskServe
  dsimp only
  repeat' (first | (with_reducible first | assumption | intro _ | apply follows_snsStart | apply follows_maskSel | apply follows_bankSwapReq | apply follows_armGroup | apply follows_scanGo | apply follows_cutSwapReq | apply follows_linkTask | apply Follows.ite) | split)

theorem follows_ovfServe {s0 s : State} (h : Follows s0 s) : ∀ x0, Follows s0 (ovfServe x0 s) := by
  intro c
  unfold ovfServe
  dsimp only
  split
  · exact h
  · rename_i p ho
    refine follows_taskServe (h.setTask c _ fun hb => ?_) _ _ _
    have := taskBooked_of hb c
    unfold taskBooked at this ⊢
    simp only [ho, Option.isNone_some, Option.isSome_some, Bool.and_eq_true, beq_iff_eq] at this ⊢
    obtain ⟨h1, h2⟩ := this
    split at h2
    · simp at h2
    · simp only [Bool.and_eq_true, beq_iff_eq, Bool.toNat_true] at h2
      refine ⟨?_, ?_⟩
      · omega
      · simp [h2.1, h2.2]
    · simp at h2

theorem follows_auditTask {s0 s : State} (h : Follows s0 s) : ∀ x0, Follows s0 (auditTask x0 s) := by
  intro x0
  unfold auditTask
  dsimp only
  repeat' (first | (with_reducible first | assumption | intro _ | apply Follows.setFld | apply Follows.setFlag | apply Follows.ite))

theorem follows_taskEvent {s0 s : State} (h : Follows s0 s) : ∀ x0 x1 x2 x3 x4, Follows s0 (taskEvent x0 x1 x2 x3 x4 s) := by
  intro src c pay again early
  have hm : s.booked = true → taskBooked c { s.task c with rcv := ((s.task c).rcv + 1) % 65536, mrg := ((s.task c).mrg + 1) % 65536 } = true := by
    intro hb
    have := taskBooked_of hb c
    unfold taskBooked at this ⊢
    rw [Bool.and_eq_true, beq_iff_eq] at this ⊢
    refine ⟨?_, this.2⟩
    dsimp only
    omega
  unfold taskEvent
  dsimp only
  split
  · exact (h.setTask c _ hm).setFlag _ _
  · split
    · rename_i hk
      split
      · refine h.setTask c _ fun hb => ?_
        have := taskBooked_of hb c
        simp only [taskBooked, hk, Bool.and_eq_true, beq_iff_eq, List.length_append, List.length_cons, List.length_nil] at this ⊢
        refine ⟨?_, ?_, this.2.2⟩ <;> omega
      · refine (h.setTask c _ fun hb => ?_).setFlag _ _
        have := hm hb
        simpa only [taskBooked, hk] using this
    · rename_i hk
      split
      · refine follows_taskServe (h.setTask c _ fun hb => ?_) _ _ _
        have := taskBooked_of hb c
        simp only [taskBooked, hk, Bool.and_eq_true, beq_iff_eq] at this ⊢
        refine ⟨?_, this.2⟩
        omega
      · split
        · rename_i hn
          refine h.setTask c _ fun hb => ?_
          have := taskBooked_of hb c
          rw [Option.isNone_iff_eq_none] at hn
          simp only [taskBooked, hk, Bool.and_eq_true, beq_iff_eq, hn, Option.isSome_none, Option.isSome_some, Bool.toNat_false, Bool.toNat_true] at this ⊢
          refine ⟨?_, ?_, this.2.2⟩ <;> omega
        · exact (h.setTask c _ hm).setFlag _ _
    · rename_i h2 h1
      have hk : ∀ t, taskBooked c t = (t.rcv == (t.srv + t.mrg + t.pend) % 65536 && (decide (t.pend ≤ 1) && t.ovf.isNone && t.evs.isEmpty)) := by
        intro t
        unfold taskBooked
        split <;> first | exact absurd ‹_› h2 | exact absurd ‹_› h1 | rfl
      split
      · exact h.setTask c _ hm
      · rename_i hbusy
        split
        · rename_i hc
          refine follows_taskServe (h.setTask c _ fun hb => ?_) _ _ _
          have := taskBooked_of hb c
          have hp : (s.task c).pend = 0 := by
            simp only [Bool.or_eq_true, not_or, State.taskBusy] at hbusy
            have := hbusy.2
            rw [dif_neg (by omega), if_pos (by omega)] at this
            simpa using this
          simp only [hk, Bool.and_eq_true, beq_iff_eq, decide_eq_true_eq, hp] at this ⊢
          refine ⟨?_, ⟨?_, this.2.1.2⟩, this.2.2⟩ <;> omega
        · refine follows_taskServe (h.setTask c _ fun hb => ?_) _ _ _
          have := taskBooked_of hb c
          simp only [hk, Bool.and_eq_true, beq_iff_eq] at this ⊢
          refine ⟨?_, this.2⟩
          omega

theorem follows_deliver {s0 s : State} (h : Follows s0 s) : ∀ x0 x1 x2, Follows s0 (deliver x0 x1 x2 s) := by
  intro x0 x1
  induction x1 generalizing s with
  | nil => intro x2; exact h
  | cons e r ih => intro x2; exact ih (follows_auditTask (follows_taskEvent h _ _ _ _ _) _) _

theorem follows_raiseAll {s0 s : State} (h : Follows s0 s) : ∀ x0 x1, Follows s0 (raiseAll x0 x1 s) := by
  intro x0 x1
  unfold raiseAll
  dsimp only
  repeat' (first | (with_reducible first | assumption | intro _ | apply follows_ovfServe | apply follows_deliver | apply Follows.each))

theorem follows_raise {s0 s : State} (h : Follows s0 s) : ∀ x0 x1, Follows s0 (raise x0 x1 s) := by
  intro x0 x1
  unfold raise
  repeat' (first | (with_reducible first | assumption | intro _ | apply follows_raiseAll))

theorem follows_raiseAx {s0 s : State} (h : Follows s0 s) : ∀ x0 x1 x2, Follows s0 (raiseAx x0 x1 x2 s) := by
  intro x0 x1 x2
  unfold raiseAx
  repeat' (first | (with_reducible first | assumption | intro _ | apply follows_raise))

/-! ## Safe -/

theorem follows_auxOff {s0 s : State} (h : Follows s0 s) : Follows s0 (auxOff s) := by
  unfold auxOff
  repeat' (first | (with_reducible first | assumption | intro _ | apply Follows.setReg | apply Follows.setFld | apply follows_modAux))

theorem follows_pairOut {s0 s : State} (h : Follows s0 s) : ∀ x0, Follows s0 (pairOut x0 s) := by
  intro x0
  unfold pairOut
  repeat' (first | (with_reducible first | assumption | intro _ | apply Follows.setFlag))

theorem follows_auxKillOne {s0 s : State} (h : Follows s0 s) : ∀ x0, Follows s0 (auxKillOne x0 s) := by
  intro x0
  unfold auxKillOne
  dsimp only
  repeat' (first | (with_reducible first | assumption | intro _ | apply Follows.setBit | apply follows_modAux | apply Follows.ite))

theorem follows_auxKillNow {s0 s : State} (h : Follows s0 s) : Follows s0 (auxKillNow s) := by
  unfold auxKillNow
  repeat' (first | (with_reducible first | assumption | intro _ | apply follows_auxKillOne | apply Follows.each | apply Follows.ite))

theorem follows_setRet {s0 s : State} (h : Follows s0 s) : ∀ t r, Follows s0 (setRet t r s) := by
  intro t r
  exact follows_modSaf h _ fun x hx => by simpa only [setAt, List.length_set] using hx

theorem follows_tenFault {s0 s : State} (h : Follows s0 s) : ∀ x0 x1, Follows s0 (tenFault x0 x1 s) := by
  intro x0 x1
  unfold tenFault
  dsimp only
  repeat' (first | (with_reducible first | assumption | intro _ | apply Follows.setFld | apply Follows.setBit | apply Follows.ite))

theorem follows_driveOff {s0 s : State} (h : Follows s0 s) : ∀ x0, Follows s0 (driveOff x0 s) := by
  intro x0
  unfold driveOff
  dsimp only
  repeat' (first | (with_reducible first | assumption | intro _ | apply Follows.setFld | apply Follows.setFlag | apply follows_modLoop))

theorem follows_linkQueueAt {s0 s : State} (h : Follows s0 s) : ∀ x0 x1 x2 x3 x4 x5, Follows s0 (linkQueueAt x0 x1 x2 x3 x4 x5 s) := by
  intro x0 x1 x2 x3 x4 x5
  unfold linkQueueAt
  dsimp only
  repeat' (first | (with_reducible first | assumption | intro _ | apply follows_modLink | apply Follows.ite))

theorem follows_linkQueue {s0 s : State} (h : Follows s0 s) : ∀ x0 x1 x2 x3 x4, Follows s0 (linkQueue x0 x1 x2 x3 x4 s) := by
  intro x0 x1 x2 x3 x4
  unfold linkQueue
  repeat' (first | (with_reducible first | assumption | intro _ | apply follows_linkQueueAt))

theorem follows_safeDemand {s0 s : State} (h : Follows s0 s) : ∀ x0, Follows s0 (safeDemand x0 s) := by
  intro x0
  unfold safeDemand
  dsimp only
  repeat' (first | (with_reducible first | assumption | exact fun _ h => h | exact fun _ h => Bool.noConfusion h | intro _ | apply Follows.setFld | apply Follows.setFlag | apply Follows.setBit | apply follows_modSaf | apply follows_driveOff | apply follows_modPow | apply follows_auxKillNow | apply follows_linkQueue | apply follows_pairOut | apply Follows.each | apply Follows.ite))

theorem follows_axstopRefresh {s0 s : State} (h : Follows s0 s) : Follows s0 (axstopRefresh s) := by
  unfold axstopRefresh
  dsimp only
  repeat' (first | (with_reducible first | assumption | intro _ | apply Follows.setFld))

theorem follows_headDoubt {s0 s : State} (h : Follows s0 s) : ∀ x0 x1, Follows s0 (headDoubt x0 x1 s) := by
  intro x0 x1
  unfold headDoubt
  dsimp only
  repeat' (first | (with_reducible first | assumption | exact fun _ h => h | exact fun _ h => Bool.noConfusion h | intro _ | apply Follows.setBit | apply follows_tenFault | apply follows_safeDemand | apply follows_modSaf | apply follows_auxKillNow | apply follows_axstopRefresh | apply follows_driveOff | apply Follows.ite))

theorem follows_linkDoubt {s0 s : State} (h : Follows s0 s) : Follows s0 (linkDoubt s) := by
  unfold linkDoubt
  dsimp only
  repeat' (first | (with_reducible first | assumption | intro _ | apply follows_modLink | apply follows_linkQueue | apply Follows.ite))

theorem follows_startOnHeadland {s0 s : State} (h : Follows s0 s) : ∀ x0, Follows s0 (startOnHeadland x0 s) := by
  intro x0
  unfold startOnHeadland
  repeat' (first | (with_reducible first | assumption | exact fun _ h => h | exact fun _ h => Bool.noConfusion h | intro _ | apply follows_setRet | apply follows_modSaf))

theorem follows_countCommit {s0 s : State} (h : Follows s0 s) : ∀ x0, Follows s0 (countCommit x0 s) := by
  intro x0
  unfold countCommit
  repeat' (first | (with_reducible first | assumption | intro _ | apply Follows.setFld))

theorem follows_irqLatch {s0 s : State} (h : Follows s0 s) : ∀ x0, Follows s0 (irqLatch x0 s) := by
  intro x0
  unfold irqLatch
  repeat' (first | (with_reducible first | assumption | intro _ | apply Follows.setBit))

theorem follows_raiseDoubt {s0 s : State} (h : Follows s0 s) : ∀ x0 x1, Follows s0 (raiseDoubt x0 x1 s) := by
  intro x0 x1
  unfold raiseDoubt
  dsimp only
  repeat' (first | (with_reducible first | assumption | intro _ | apply Follows.setFld | apply Follows.setFlag | apply Follows.setBit | apply follows_setRet | apply follows_tenFault | apply follows_raise | apply follows_irqLatch | apply follows_linkDoubt | apply Follows.ite) | split)

theorem follows_detFlag {s0 s : State} (h : Follows s0 s) : ∀ x0, Follows s0 (detFlag x0 s) := by
  intro x0
  unfold detFlag
  repeat' (first | (with_reducible first | assumption | intro _ | apply Follows.setFlag))

theorem follows_doubtAxes {s0 s : State} (h : Follows s0 s) : ∀ x0, Follows s0 (doubtAxes x0 s) := by
  intro x0
  unfold doubtAxes
  repeat' (first | (with_reducible first | assumption | intro _ | apply follows_raiseDoubt | apply Follows.each | apply Follows.ite))

/-! ## Memory -/

theorem follows_overtake {s0 s : State} (h : Follows s0 s) : ∀ x0 x1 x2, Follows s0 (overtake x0 x1 x2 s) := by
  intro x0 x1 x2
  unfold overtake
  repeat' (first | (with_reducible first | assumption | intro _ | apply follows_modHrw))

theorem follows_granWrite {s0 s : State} (h : Follows s0 s) : ∀ x0 x1, Follows s0 (granWrite x0 x1 s) := by
  intro x0 x1
  unfold granWrite
  exact follows_modField (follows_overtake (h.mems (fun w => memWrite_wf w _ _) id id) _ _ _) _

theorem follows_siloWrite {s0 s : State} (h : Follows s0 s) : ∀ x0 x1, Follows s0 (siloWrite x0 x1 s) := fun _ _ =>
  h.mems id id (fun w => memWrite_wf w _ _)

theorem follows_plotWrite {s0 s : State} (h : Follows s0 s) : ∀ x0 x1 x2, Follows s0 (plotWrite x0 x1 x2 s) := by
  intro x0 x1 x2
  unfold plotWrite
  exact follows_modField (follows_overtake (h.mems id (fun w => memWrite_wf w _ _) id) _ _ _) _

theorem follows_applyUpset {s0 s : State} (h : Follows s0 s) : ∀ x0, Follows s0 (applyUpset x0 s) := by
  intro x0
  unfold applyUpset
  repeat' (first | (with_reducible first | assumption | intro _ | apply follows_modField))

theorem follows_applyUpsets {s0 s : State} (h : Follows s0 s) : ∀ x0, Follows s0 (applyUpsets x0 s) := by
  intro x0
  unfold applyUpsets
  repeat' (first | (with_reducible first | assumption | intro _ | apply follows_applyUpset | apply Follows.each))

theorem follows_eccDoubt {s0 s : State} (h : Follows s0 s) : ∀ x0, Follows s0 (eccDoubt x0 s) := by
  intro x0
  unfold eccDoubt
  repeat' (first | (with_reducible first | assumption | intro _ | apply follows_raiseDoubt | apply follows_detFlag) | split)

theorem follows_granCount {s0 s : State} (h : Follows s0 s) : ∀ x0 x1 x2, Follows s0 (granCount x0 x1 x2 s) := by
  intro x0 x1 x2
  unfold granCount
  dsimp only
  repeat' (first | (with_reducible first | assumption | intro _ | apply Follows.setFld | apply Follows.setFlag | apply Follows.bump | apply follows_eccDoubt) | split)

theorem follows_granRead {s0 s : State} (h : Follows s0 s) : ∀ x0 x1 x2, Follows s0 (granRead x0 x1 x2 s).2 := by
  intro x0 x1 x2
  unfold granRead
  dsimp only
  repeat' (first | (with_reducible first | assumption | intro _ | apply follows_granCount))

theorem follows_plotCount {s0 s : State} (h : Follows s0 s) : ∀ x0 x1 x2 x3, Follows s0 (plotCount x0 x1 x2 x3 s) := by
  intro x0 x1 x2 x3
  unfold plotCount
  dsimp only
  repeat' (first | (with_reducible first | assumption | intro _ | apply Follows.setFlag | apply Follows.bump | apply follows_eccDoubt | apply Follows.ite))

theorem follows_plotRead {s0 s : State} (h : Follows s0 s) : ∀ x0 x1 x2 x3, Follows s0 (plotRead x0 x1 x2 x3 s).2 := by
  intro x0 x1 x2 x3
  unfold plotRead
  dsimp only
  repeat' (first | (with_reducible first | assumption | intro _ | apply follows_plotCount))

/-! ## Queues -/

theorem follows_aliveRef {s0 s : State} (h : Follows s0 s) : ∀ x0 x1, Follows s0 (aliveRef x0 x1 s) := by
  intro x0 x1
  unfold aliveRef
  repeat' (first | (with_reducible first | assumption | intro _ | apply Follows.setFld | apply Follows.setFlag | apply Follows.ite))

theorem follows_setBell {s0 s : State} (h : Follows s0 s) : ∀ x0 x1, Follows s0 (setBell x0 x1 s) := by
  intro x0 x1
  unfold setBell
  repeat' (first | (with_reducible first | assumption | intro _ | apply follows_modQue))

theorem follows_queRestart {s0 s : State} (h : Follows s0 s) : ∀ x0, Follows s0 (queRestart x0 s) := by
  intro x0
  unfold queRestart
  dsimp only
  repeat' (first | (with_reducible first | assumption | intro _ | apply Follows.setReg | apply Follows.setFld | apply follows_modQue | apply follows_setBell))

theorem follows_queOverflow {s0 s : State} (h : Follows s0 s) : ∀ x0, Follows s0 (queOverflow x0 s) := by
  intro x0
  unfold queOverflow
  dsimp only
  repeat' (first | (with_reducible first | assumption | intro _ | apply Follows.setFlag | apply Follows.bump | apply follows_raise | apply follows_tenFault))

theorem follows_postDesc {s0 s : State} (h : Follows s0 s) : ∀ x0 x1 x2 x3 x4 x5 x6 x7, Follows s0 (postDesc x0 x1 x2 x3 x4 x5 x6 x7 s) := by
  intro x0 x1 x2 x3 x4 x5 x6 x7
  unfold postDesc
  dsimp only
  repeat' (first | (with_reducible first | assumption | intro _ | apply Follows.setFld | apply follows_queOverflow | apply follows_granWrite | apply follows_modQue | apply follows_raise | apply Follows.ite))

theorem follows_inlog {s0 s : State} (h : Follows s0 s) : ∀ x0 x1 x2 x3, Follows s0 (inlog x0 x1 x2 x3 s) := by
  intro x0 x1 x2 x3
  unfold inlog
  repeat' (first | (with_reducible first | assumption | intro _ | apply follows_postDesc | apply Follows.ite))

theorem follows_bellRegister {s0 s : State} (h : Follows s0 s) : ∀ x0, Follows s0 (bellRegister x0 s) := by
  intro x0
  unfold bellRegister
  dsimp only
  repeat' (first | (with_reducible first | assumption | intro _ | apply follows_modQue | apply follows_raise | apply follows_setBell | apply Follows.ite) | split)

theorem follows_queAudit {s0 s : State} (h : Follows s0 s) : ∀ x0, Follows s0 (queAudit x0 s) := by
  intro x0
  unfold queAudit
  dsimp only
  repeat' (first | (with_reducible first | assumption | intro _ | apply Follows.setFld | apply Follows.setFlag | apply follows_modQue | apply Follows.ite))

theorem follows_bellWrite {s0 s : State} (h : Follows s0 s) : ∀ x0 x1, Follows s0 (bellWrite x0 x1 s) := by
  intro x0 x1
  unfold bellWrite
  dsimp only
  repeat' (first | (with_reducible first | assumption | intro _ | apply Follows.setFld | apply follows_modQue | apply follows_queAudit))

theorem follows_queFlush {s0 s : State} (h : Follows s0 s) : ∀ x0, Follows s0 (queFlush x0 s) := by
  intro x0
  unfold queFlush
  dsimp only
  repeat' (first | (with_reducible first | assumption | intro _ | apply Follows.setFld | apply Follows.bump | apply follows_modQue | apply follows_setBell))

theorem follows_queFetch {s0 s : State} (h : Follows s0 s) : ∀ x0 x1, Follows s0 (queFetch x0 x1 s).2.2 := by
  intro x0 x1
  unfold queFetch
  dsimp only
  repeat' (first | (with_reducible first | assumption | intro _ | apply follows_granRead) | split)

theorem follows_returnDesc {s0 s : State} (h : Follows s0 s) : ∀ x0 x1 x2 x3, Follows s0 (returnDesc x0 x1 x2 x3 s) := by
  intro x0 x1 x2 x3
  unfold returnDesc
  dsimp only
  repeat' (first | (with_reducible first | assumption | intro _ | apply Follows.setFlag | apply Follows.bump | apply follows_tenFault | apply follows_postDesc | apply follows_irqLatch | apply Follows.ite))

theorem follows_setCons {s0 s : State} (h : Follows s0 s) : ∀ x0 x1, Follows s0 (setCons x0 x1 s) := by
  intro x0 x1
  unfold setCons
  repeat' (first | (with_reducible first | assumption | intro _ | apply Follows.setFld | apply follows_queAudit))

theorem follows_queConsume {s0 s : State} (h : Follows s0 s) : ∀ x0, Follows s0 (queConsume x0 s) := by
  intro x0
  unfold queConsume
  dsimp only
  repeat' (first | (with_reducible first | assumption | intro _ | apply follows_modQue | apply follows_setCons))

theorem follows_queIdle {s0 s : State} (h : Follows s0 s) : ∀ x0, Follows s0 (queIdle x0 s) := by
  intro x0
  unfold queIdle
  dsimp only
  repeat' (first | (with_reducible first | assumption | intro _ | apply Follows.setFld | apply Follows.bump | apply follows_modQue | apply Follows.ite))

theorem follows_queHead {s0 s : State} (h : Follows s0 s) : ∀ x0, Follows s0 (queHead x0 s).2 := by
  intro x0
  unfold queHead
  repeat' (first | (with_reducible first | assumption | intro _ | apply follows_granRead))

theorem follows_enqDesc {s0 s : State} (h : Follows s0 s) : ∀ x0 x1, Follows s0 (enqDesc x0 x1 s) := by
  intro x0 x1
  unfold enqDesc
  dsimp only
  repeat' (first | (with_reducible first | assumption | intro _ | apply Follows.setFld | apply follows_granWrite | apply follows_modQue | apply follows_setBell | apply follows_queAudit | apply follows_raise | apply Follows.ite))

theorem follows_eventPost {s0 s : State} (h : Follows s0 s) : ∀ x0, Follows s0 (eventPost x0 s) := by
  intro n
  unfold eventPost
  dsimp only
  split
  · exact h
  · rename_i he
    refine follows_postDesc (h.setTask (0x80 + n) _ fun hb => ?_) _ _ _ _ _ _ _ _
    have := taskBooked_of hb (0x80 + n)
    have hk : taskKind (0x80 + n) = 2 := if_pos (by omega)
    simp only [taskBooked, hk, he, Bool.and_eq_true, beq_iff_eq, List.length_cons] at this ⊢
    refine ⟨?_, ?_, this.2.2⟩ <;> omega

theorem follows_queTimeout {s0 s : State} (h : Follows s0 s) : ∀ x0, Follows s0 (queTimeout x0 s) := by
  intro x0
  unfold queTimeout
  dsimp only
  repeat' (first | (with_reducible first | assumption | intro _ | apply Follows.setFlag | apply follows_raise | apply follows_irqLatch | apply follows_tenFault | apply Follows.ite))

/-! ## Pwm -/

theorem follows_autoArm {s0 s : State} (h : Follows s0 s) : ∀ x0, Follows s0 (autoArm x0 s) := by
  intro x0
  unfold autoArm
  dsimp only
  repeat' (first | (with_reducible first | assumption | intro _ | apply follows_armGroup | apply Follows.ite))

theorem follows_pwmCommit {s0 s : State} (h : Follows s0 s) : ∀ x0 x1 x2, Follows s0 (pwmCommit x0 x1 x2 s) := by
  intro x0 x1 x2
  unfold pwmCommit
  dsimp only
  repeat' (first | (with_reducible first | assumption | intro _ | apply Follows.setFlag | apply follows_modDet | apply follows_modPwm | apply Follows.ite))

theorem follows_cleanCount {s0 s : State} (h : Follows s0 s) : ∀ x0, Follows s0 (cleanCount x0 s) := by
  intro x0
  unfold cleanCount
  dsimp only
  repeat' (first | (with_reducible first | assumption | intro _ | apply Follows.setFld | apply Follows.ite))

theorem follows_latchOff {s0 s : State} (h : Follows s0 s) : ∀ x0, Follows s0 (latchOff x0 s) := by
  intro x0
  unfold latchOff
  repeat' (first | (with_reducible first | assumption | intro _ | apply Follows.setFlag | apply follows_raiseAx | apply follows_tenFault | apply follows_driveOff))

theorem follows_tripNow {s0 s : State} (h : Follows s0 s) : ∀ x0, Follows s0 (tripNow x0 s) := by
  intro x0
  unfold tripNow
  dsimp only
  repeat' (first | (with_reducible first | assumption | intro _ | apply Follows.setFld | apply Follows.setFlag | apply Follows.bump | apply follows_modPwm | apply follows_raiseAx | apply follows_latchOff | apply Follows.ite))

theorem follows_latchCheck {s0 s : State} (h : Follows s0 s) : ∀ x0, Follows s0 (latchCheck x0 s) := by
  intro x0
  unfold latchCheck
  dsimp only
  repeat' (first | (with_reducible first | assumption | intro _ | apply Follows.setFlag | apply follows_cleanCount | apply follows_modPwm | apply follows_tripNow | apply Follows.ite))

theorem follows_pwmLoad {s0 s : State} (h : Follows s0 s) : ∀ x0 x1, Follows s0 (pwmLoad x0 x1 s) := by
  intro x0 x1
  unfold pwmLoad
  dsimp only
  repeat' (first | (with_reducible first | assumption | intro _ | apply Follows.setReg | apply Follows.setFld | apply Follows.setFlag | apply follows_modPwm | apply follows_autoArm | apply follows_latchCheck | apply follows_outputsMoved | apply Follows.each))

theorem follows_tripClear {s0 s : State} (h : Follows s0 s) : ∀ x0, Follows s0 (tripClear x0 s) := by
  intro x0
  unfold tripClear
  repeat' (first | (with_reducible first | assumption | intro _ | apply Follows.setFld | apply Follows.setFlag | apply follows_modPwm | apply Follows.ite))

theorem follows_blankClose {s0 s : State} (h : Follows s0 s) : ∀ x0 x1, Follows s0 (blankClose x0 x1 s) := by
  intro x0 x1
  unfold blankClose
  repeat' (first | (with_reducible first | assumption | intro _ | apply follows_tripNow | apply follows_modPwm | apply Follows.ite))

theorem follows_debugHalt {s0 s : State} (h : Follows s0 s) : ∀ x0, Follows s0 (debugHalt x0 s) := by
  intro x0
  unfold debugHalt
  dsimp only
  repeat' (first | (with_reducible first | assumption | intro _ | apply Follows.setFlag | apply follows_modPwm | apply follows_modAux | apply Follows.each | apply Follows.ite))

theorem follows_outputEdge {s0 s : State} (h : Follows s0 s) : ∀ x0 x1 x2, Follows s0 (outputEdge x0 x1 x2 s) := by
  intro x0 x1 x2
  unfold outputEdge
  dsimp only
  repeat' (first | (with_reducible first | assumption | intro _ | apply Follows.setFlag | apply follows_outputsMoved | apply follows_modPwm | apply Follows.ite))

theorem follows_zeroCommit {s0 s : State} (h : Follows s0 s) : ∀ x0, Follows s0 (zeroCommit x0 s) := by
  intro x0
  unfold zeroCommit
  repeat' (first | (with_reducible first | assumption | intro _ | apply follows_modPwm))

theorem follows_timerChannel {s0 s : State} (h : Follows s0 s) : ∀ x0 x1, Follows s0 (timerChannel x0 x1 s) := by
  intro x0 x1
  unfold timerChannel
  dsimp only
  repeat' (first | (with_reducible first | assumption | intro _ | apply follows_raiseAx | apply Follows.ite))

theorem follows_trigger {s0 s : State} (h : Follows s0 s) : ∀ x0 x1 x2, Follows s0 (trigger x0 x1 x2 s) := by
  intro x0 x1 x2
  unfold trigger
  dsimp only
  repeat' (first | (with_reducible first | assumption | intro _ | apply Follows.setFld | apply Follows.setFlag | apply follows_modSense | apply follows_raiseAll | apply follows_raiseAx | apply Follows.ite))

theorem follows_tripLevels {s0 s : State} (h : Follows s0 s) : ∀ x0 x1 x2, Follows s0 (tripLevels x0 x1 x2 s) := by
  intro x0 x1 x2
  unfold tripLevels
  repeat' (first | (with_reducible first | assumption | intro _ | apply follows_tripNow | apply follows_modPwm))

/-! ## Sense -/

theorem follows_mlimUpdate {s0 s : State} (h : Follows s0 s) : ∀ x0, Follows s0 (mlimUpdate x0 s) := by
  intro x0
  unfold mlimUpdate
  repeat' (first | (with_reducible first | assumption | intro _ | apply Follows.setFld))

theorem follows_deliverSet {s0 s : State} (h : Follows s0 s) : ∀ x0 x1, Follows s0 (deliverSet x0 x1 s) := by
  intro x0 x1
  unfold deliverSet
  dsimp only
  repeat' (first | (with_reducible first | assumption | intro _ | apply Follows.setReg | apply follows_modSense | apply Follows.each))

theorem follows_earlyRelease {s0 s : State} (h : Follows s0 s) : ∀ x0 x1, Follows s0 (earlyRelease x0 x1 s).1 := by
  intro x0 x1
  unfold earlyRelease
  dsimp only
  repeat' (first | (with_reducible first | assumption | intro _ | apply follows_modSense | apply follows_deliverSet | apply Follows.ite) | split)

theorem follows_calRequest {s0 s : State} (h : Follows s0 s) : ∀ x0, Follows s0 (calRequest x0 s) := by
  intro x0
  unfold calRequest
  repeat' (first | (with_reducible first | assumption | intro _ | apply Follows.setFlag | apply Follows.ite))

theorem follows_losAck {s0 s : State} (h : Follows s0 s) : ∀ x0, Follows s0 (losAck x0 s) := by
  intro x0
  unfold losAck
  repeat' (first | (with_reducible first | assumption | intro _ | apply follows_modSense))

theorem follows_cmdDeliver {s0 s : State} (h : Follows s0 s) : ∀ x0, Follows s0 (cmdDeliver x0 s) := by
  intro x0
  unfold cmdDeliver
  dsimp only
  repeat' (first | (with_reducible first | assumption | intro _ | apply Follows.setReg | apply Follows.setFld | apply follows_modSense | apply Follows.ite) | split)

theorem follows_calEnd {s0 s : State} (h : Follows s0 s) : ∀ x0 x1, Follows s0 (calEnd x0 x1 s) := by
  intro x0 x1
  unfold calEnd
  dsimp only
  repeat' (first | (with_reducible first | assumption | intro _ | apply Follows.setReg | apply Follows.setFlag | apply Follows.each | apply Follows.foldl | apply Follows.foldl_snd | apply Follows.ite))

theorem follows_cmdInvalid {s0 s : State} (h : Follows s0 s) : ∀ x0 x1, Follows s0 (cmdInvalid x0 x1 s) := by
  intro x0 x1
  unfold cmdInvalid
  dsimp only
  repeat' (first | (with_reducible first | assumption | intro _ | apply Follows.setFlag | apply follows_modSense | apply Follows.ite))

theorem follows_cmdValid {s0 s : State} (h : Follows s0 s) : ∀ x0 x1, Follows s0 (cmdValid x0 x1 s) := by
  intro x0 x1
  unfold cmdValid
  dsimp only
  repeat' (first | (with_reducible first | assumption | intro _ | apply follows_modSense))

theorem follows_cmdCode {s0 s : State} (h : Follows s0 s) : ∀ x0 x1, Follows s0 (cmdCode x0 x1 s) := by
  intro x0 x1
  unfold cmdCode
  dsimp only
  repeat' (first | (with_reducible first | assumption | intro _ | apply follows_cmdInvalid | apply follows_cmdValid | apply Follows.ite))

theorem follows_cmdMeasure {s0 s : State} (h : Follows s0 s) : ∀ x0 x1, Follows s0 (cmdMeasure x0 x1 s) := by
  intro x0 x1
  unfold cmdMeasure
  dsimp only
  repeat' (first | (with_reducible first | assumption | intro _ | apply follows_cmdCode | apply follows_cmdValid | apply follows_cmdInvalid | apply follows_modSense | apply Follows.ite) | split)

theorem follows_kclCheck {s0 s : State} (h : Follows s0 s) : ∀ x0 x1 x2 x3, Follows s0 (kclCheck x0 x1 x2 x3 s) := by
  intro x0 x1 x2 x3
  unfold kclCheck
  dsimp only
  repeat' (first | (with_reducible first | assumption | intro _ | apply Follows.setFlag | apply follows_modSense | apply follows_headDoubt | apply Follows.ite))

theorem follows_vbusLatch {s0 s : State} (h : Follows s0 s) : ∀ x0 x1, Follows s0 (vbusLatch x0 x1 s) := by
  intro x0 x1
  unfold vbusLatch
  dsimp only
  repeat' (first | (with_reducible first | assumption | intro _ | apply Follows.setFld | apply follows_modSense))

theorem follows_convLatch {s0 s : State} (h : Follows s0 s) : ∀ x0 x1 x2 x3 x4, Follows s0 (convLatch x0 x1 x2 x3 x4 s).1 := by
  intro a u v w vb
  unfold convLatch
  extract_lets n s1 x y z r sat win s2 s3 s4 s5 next set s6 s8 s7
  have h1 : Follows s0 s1 := by
    simp only [s1]
    repeat' (first | with_reducible assumption | with_reducible apply follows_vbusLatch | split)
  have h5 : Follows s0 s5 := by
    simp only [s5, s4, s3, s2]
    repeat' (first | with_reducible assumption | with_reducible apply Follows.bump | with_reducible apply Follows.setFlag | split)
  have h7 : Follows s0 s7 := by
    simp only [s7, s8, s6]
    clear_value s5
    repeat' (first | with_reducible assumption | intro _ | with_reducible apply follows_deliverSet | with_reducible apply follows_modSense | with_reducible apply Follows.each | with_reducible apply Follows.setReg | split)
  clear_value s1 s7 next win sat r x y z
  with_reducible apply Follows.ite_fst
  · exact h1
  · dsimp only
    with_reducible apply follows_kclCheck
    exact h7

theorem follows_losSet {s0 s : State} (h : Follows s0 s) : ∀ x0, Follows s0 (losSet x0 s) := by
  intro x0
  unfold losSet
  dsimp only
  repeat' (first | (with_reducible first | assumption | intro _ | apply Follows.setFlag | apply follows_modSense | apply follows_raiseAx | apply Follows.ite))

theorem follows_slowLatch {s0 s : State} (h : Follows s0 s) : ∀ x0 x1, Follows s0 (slowLatch x0 x1 s) := by
  intro x0 x1
  unfold slowLatch
  dsimp only
  repeat' (first | (with_reducible first | assumption | intro _ | apply Follows.setFld | apply Follows.setFlag | apply follows_modSense | apply follows_cmdMeasure | apply Follows.ite))

theorem follows_swnMiss {s0 s : State} (h : Follows s0 s) : ∀ x0 x1 x2, Follows s0 (swnMiss x0 x1 x2 s) := by
  intro x0 x1 x2
  unfold swnMiss
  repeat' (first | (with_reducible first | assumption | intro _ | apply Follows.setFlag))

theorem follows_swnEdge {s0 s : State} (h : Follows s0 s) : ∀ x0 x1 x2 x3, Follows s0 (swnEdge x0 x1 x2 x3 s) := by
  intro x0 x1 x2 x3
  unfold swnEdge
  dsimp only
  repeat' (first | (with_reducible first | assumption | intro _ | apply Follows.setFld | apply Follows.setFlag | apply follows_swnMiss | apply follows_modPwm | apply Follows.ite))

/-! ## Head -/

theorem follows_headChecks {s0 s : State} (h : Follows s0 s) : ∀ x0, Follows s0 (headChecks x0 s) := by
  intro x0
  unfold headChecks
  dsimp only
  repeat' (first | (with_reducible first | assumption | intro _ | apply follows_headDoubt | apply follows_modHead | apply Follows.ite))

theorem follows_handover {s0 s : State} (h : Follows s0 s) : ∀ x0, Follows s0 (handover x0 s) := by
  intro x0
  unfold handover
  dsimp only
  repeat' (first | (with_reducible first | assumption | intro _ | apply Follows.bump | apply follows_modHead | apply Follows.ite))

theorem follows_headShow {s0 s : State} (h : Follows s0 s) : ∀ x0, Follows s0 (headShow x0 s) := by
  intro x0
  unfold headShow
  dsimp only
  repeat' (first | (with_reducible first | assumption | intro _ | apply Follows.setFld))

theorem follows_headCompute {s0 s : State} (h : Follows s0 s) : ∀ x0, Follows s0 (headCompute x0 s) := by
  intro x0
  unfold headCompute
  dsimp only
  repeat' (first | (with_reducible first | assumption | intro _ | apply Follows.setReg | apply Follows.setFlag | apply follows_modHead | apply follows_headChecks | apply follows_handover | apply follows_headShow | apply Follows.ite))

theorem follows_headLoad {s0 s : State} (h : Follows s0 s) : ∀ x0, Follows s0 (headLoad x0 s) := by
  intro x0
  unfold headLoad
  dsimp only
  repeat' (first | (with_reducible first | assumption | intro _ | apply Follows.setFlag | apply follows_modHead | apply follows_headShow | apply Follows.ite))

theorem follows_headSeed {s0 s : State} (h : Follows s0 s) : ∀ x0, Follows s0 (headSeed x0 s) := by
  intro x0
  unfold headSeed
  dsimp only
  repeat' (first | (with_reducible first | assumption | intro _ | apply follows_modHead))

theorem follows_headStart {s0 s : State} (h : Follows s0 s) : ∀ x0, Follows s0 (headStart x0 s) := by
  intro x0
  unfold headStart
  dsimp only
  repeat' (first | (with_reducible first | assumption | intro _ | apply Follows.setReg | apply follows_modHead))

/-! ## Sequencer -/

theorem follows_seqDecide {s0 s : State} (h : Follows s0 s) : ∀ x0 x1, Follows s0 (seqDecide x0 x1 s) := by
  intro x0 x1
  unfold seqDecide
  dsimp only
  repeat' (first | (with_reducible first | assumption | intro _ | apply follows_modLoop))

theorem follows_seqLos {s0 s : State} (h : Follows s0 s) : ∀ x0, Follows s0 (seqLos x0 s) := by
  intro x0
  unfold seqLos
  dsimp only
  repeat' (first | (with_reducible first | assumption | intro _ | apply follows_seqDecide | apply Follows.ite))

theorem follows_delaysClear {s0 s : State} (h : Follows s0 s) : ∀ x0, Follows s0 (delaysClear x0 s) := by
  intro x0
  unfold delaysClear
  repeat' (first | (with_reducible first | assumption | intro _ | apply follows_modPwm))

theorem follows_seqShow {s0 s : State} (h : Follows s0 s) : ∀ x0, Follows s0 (seqShow x0 s) := by
  intro x0
  unfold seqShow
  dsimp only
  repeat' (first | (with_reducible first | assumption | intro _ | apply Follows.setFld))

theorem follows_seqLoad {s0 s : State} (h : Follows s0 s) : ∀ x0, Follows s0 (seqLoad x0 s) := by
  intro x0
  unfold seqLoad
  dsimp only
  repeat' (first | (with_reducible first | assumption | intro _ | apply follows_modLoop | apply follows_headSeed | apply follows_modHead | apply follows_delaysClear | apply follows_seqShow | apply Follows.ite) | split)

theorem follows_drvAck {s0 s : State} (h : Follows s0 s) : ∀ x0, Follows s0 (drvAck x0 s) := by
  intro x0
  unfold drvAck
  repeat' (first | (with_reducible first | assumption | intro _ | apply follows_modLoop | apply Follows.ite))

theorem follows_drvMask {s0 s : State} (h : Follows s0 s) : ∀ x0, Follows s0 (drvMask x0 s) := by
  intro x0
  unfold drvMask
  dsimp only
  repeat' (first | (with_reducible first | assumption | intro _ | apply Follows.setFld | apply follows_seqLos | apply follows_raiseAx | apply follows_modLoop | apply Follows.ite) | split)

/-! ## Loop -/

theorem follows_loopCommit {s0 s : State} (h : Follows s0 s) : ∀ x0 x1, Follows s0 (loopCommit x0 x1 s) := by
  intro x0 x1
  unfold loopCommit
  dsimp only
  repeat' (first | (with_reducible first | assumption | intro _ | apply Follows.setFld | apply Follows.setFlag | apply follows_modLoop | apply follows_seqLos | apply follows_seqDecide | apply Follows.ite) | split)

theorem follows_loopCapture {s0 s : State} (h : Follows s0 s) : ∀ x0, Follows s0 (loopCapture x0 s) := by
  intro x0
  unfold loopCapture
  dsimp only
  repeat' (first | (with_reducible first | assumption | intro _ | apply Follows.setReg | apply follows_modLoop | apply Follows.each))

theorem follows_sectorEvent {s0 s : State} (h : Follows s0 s) : ∀ x0, Follows s0 (sectorEvent x0 s) := by
  intro x0
  unfold sectorEvent
  dsimp only
  repeat' (first | (with_reducible first | assumption | intro _ | apply follows_modLoop | apply follows_raiseAx | apply Follows.ite))

theorem follows_loopLoad {s0 s : State} (h : Follows s0 s) : ∀ x0, Follows s0 (loopLoad x0 s) := by
  intro x0
  unfold loopLoad
  repeat' (first | (with_reducible first | assumption | intro _ | apply follows_seqLoad | apply follows_modLoop))

theorem follows_loopStart {s0 s : State} (h : Follows s0 s) : ∀ x0, Follows s0 (loopStart x0 s) := by
  intro x0
  unfold loopStart
  dsimp only
  repeat' (first | (with_reducible first | assumption | intro _ | apply Follows.setFld | apply Follows.setFlag | apply follows_modLoop | apply follows_seqShow | apply follows_delaysClear))

theorem follows_bankRefuse {s0 s : State} (h : Follows s0 s) : ∀ x0 x1 x2, Follows s0 (bankRefuse x0 x1 x2 s) := by
  intro x0 x1 x2
  unfold bankRefuse
  dsimp only
  repeat' (first | (with_reducible first | assumption | intro _ | apply Follows.setFld | apply Follows.setFlag | apply follows_modLoop))

theorem follows_bankSwap {s0 s : State} (h : Follows s0 s) : ∀ x0, Follows s0 (bankSwap x0 s) := by
  intro x0
  unfold bankSwap
  dsimp only
  repeat' (first | (with_reducible first | assumption | intro _ | apply Follows.setFlag | apply Follows.ite))

theorem follows_guardEnd {s0 s : State} (h : Follows s0 s) : ∀ x0, Follows s0 (guardEnd x0 s) := by
  intro x0
  unfold guardEnd
  repeat' (first | (with_reducible first | assumption | intro _ | apply Follows.setFlag | apply follows_bankRefuse | apply follows_modLoop | apply Follows.ite) | split)

theorem follows_passHits {s0 s : State} (h : Follows s0 s) : ∀ x0 x1 x2, Follows s0 (passHits x0 x1 x2 s) := by
  intro x0 x1 x2
  unfold passHits
  dsimp only
  repeat' (first | (with_reducible first | assumption | intro _ | apply Follows.setFlag | apply Follows.bump | apply follows_raiseDoubt | apply Follows.each | apply Follows.ite))

theorem follows_passNaN {s0 s : State} (h : Follows s0 s) : ∀ x0 x1 x2 x3, Follows s0 (passNaN x0 x1 x2 x3 s) := by
  intro x0 x1 x2 x3
  unfold passNaN
  dsimp only
  repeat' (first | (with_reducible first | assumption | intro _ | apply Follows.setReg | apply Follows.setFlag | apply follows_raiseDoubt | apply follows_headDoubt | apply Follows.ite))

theorem follows_passSat {s0 s : State} (h : Follows s0 s) : ∀ x0 x1 x2 x3, Follows s0 (passSat x0 x1 x2 x3 s) := by
  intro x0 x1 x2 x3
  unfold passSat
  dsimp only
  repeat' (first | (with_reducible first | assumption | intro _ | apply Follows.setReg | apply Follows.setFlag | apply follows_raiseDoubt | apply follows_headDoubt | apply Follows.ite))

theorem follows_writeShadow {s0 s : State} (h : Follows s0 s) : ∀ x0 x1, Follows s0 (writeShadow x0 x1 s) := by
  intro x0 x1
  unfold writeShadow
  dsimp only
  repeat' (first | (with_reducible first | assumption | intro _ | apply Follows.setReg | apply follows_modPwm | apply Follows.each | apply Follows.ite))

theorem follows_writeHset {s0 s : State} (h : Follows s0 s) : ∀ x0 x1, Follows s0 (writeHset x0 x1 s) := by
  intro x0 x1
  unfold writeHset
  dsimp only
  repeat' (first | (with_reducible first | assumption | intro _ | apply follows_modPwm))

theorem follows_passWrite {s0 s : State} (h : Follows s0 s) : ∀ x0 x1, Follows s0 (passWrite x0 x1 s) := by
  intro x0 x1
  unfold passWrite
  dsimp only
  repeat' (first | (with_reducible first | assumption | intro _ | apply follows_writeShadow | apply follows_writeHset | apply follows_countCommit | apply follows_modLoop | apply Follows.ite) | split)

theorem follows_passEntry {s0 : State} : ∀ a ue sx b, Follows s0 sx.1 → Follows s0 (passEntry a ue sx b).1 := by
  intro a ue sx b h
  unfold passEntry
  dsimp only
  repeat' (first | with_reducible assumption | with_reducible apply Follows.ite | with_reducible apply Follows.ite_fst | with_reducible apply Follows.setFlag | with_reducible apply follows_passNaN | with_reducible apply follows_passSat | with_reducible apply follows_raiseDoubt | with_reducible apply follows_passHits | with_reducible apply follows_modObs | with_reducible apply follows_modLoop)

theorem follows_runPass {s0 s : State} (h : Follows s0 s) : ∀ x0 x1 x2 x3, Follows s0 (runPass x0 x1 x2 x3 s) := by
  intro a o ce ue
  unfold runPass
  dsimp only
  have hp := Follows.foldl_fst (s0 := s0) (fun sx b hx => follows_passEntry a ue sx b hx) (List.range ((s.bump (F.LPE_ECC_CE a) ce).fld (F.LPE_CTRL_N_BLK a)))
    (x := (s.bump (F.LPE_ECC_CE a) ce, ⟨o, (s.bump (F.LPE_ECC_CE a) ce).passSigs a o, ((s.bump (F.LPE_ECC_CE a) ce).loop.get a).start, none, false⟩)) (h.bump _ _)
  repeat' (first | with_reducible assumption | with_reducible apply follows_passWrite | split)

/-! ## Observers -/

theorem follows_obsLoad {s0 s : State} (h : Follows s0 s) : ∀ x0, Follows s0 (obsLoad x0 s) := by
  intro x0
  unfold obsLoad
  dsimp only
  repeat' (first | (with_reducible first | assumption | intro _ | apply Follows.setFlag | apply follows_modObs))

theorem follows_obsStart {s0 s : State} (h : Follows s0 s) : ∀ x0, Follows s0 (obsStart x0 s) := by
  intro x0
  unfold obsStart
  dsimp only
  repeat' (first | (with_reducible first | assumption | intro _ | apply Follows.setReg | apply follows_modObs | apply Follows.each))

theorem follows_decTake {s0 s : State} (h : Follows s0 s) : ∀ x0, Follows s0 (decTake x0 s) := by
  intro x0
  unfold decTake
  dsimp only
  repeat' (first | (with_reducible first | assumption | intro _ | apply follows_modObs))

theorem follows_frameClose {s0 s : State} (h : Follows s0 s) : Follows s0 (frameClose s) := by
  unfold frameClose
  dsimp only
  repeat' (first | (with_reducible first | assumption | intro _ | apply Follows.setFld | apply follows_granWrite | apply follows_modField | apply follows_modObs | apply Follows.each | apply Follows.foldl | apply Follows.foldl_snd | apply Follows.ite))

theorem follows_obsInput {s0 s : State} (h : Follows s0 s) : ∀ x0, Follows s0 (obsInput x0 s).2 := by
  intro x0
  unfold obsInput
  dsimp only
  repeat' (first | (with_reducible first | assumption | intro _ | apply Follows.bump))

theorem follows_windowRecord {s0 s : State} (h : Follows s0 s) : ∀ x0, Follows s0 (windowRecord x0 s).2 := by
  intro x0
  unfold windowRecord
  dsimp only
  repeat' (first | (with_reducible first | assumption | intro _ | apply follows_granRead | apply Follows.ite) | split)

theorem follows_windowInput {s0 s : State} (h : Follows s0 s) : Follows s0 (windowInput s).2 := by
  unfold windowInput
  dsimp only
  repeat' (first | (with_reducible first | assumption | intro _ | apply follows_windowRecord | apply Follows.foldl | apply Follows.foldl_snd))

theorem follows_obsCommit {s0 s : State} (h : Follows s0 s) : ∀ x0 x1, Follows s0 (obsCommit x0 x1 s) := by
  intro x0 x1
  unfold obsCommit
  dsimp only
  repeat' (first | (with_reducible first | assumption | intro _ | apply Follows.setReg | apply follows_modObs | apply Follows.each))

theorem follows_windowStart {s0 s : State} (h : Follows s0 s) : Follows s0 (windowStart s) := by
  unfold windowStart
  dsimp only
  repeat' (first | (with_reducible first | assumption | intro _ | apply Follows.setFld | apply follows_modObs | apply follows_modField | apply Follows.each))

theorem follows_verdictAlerts {s0 s : State} (h : Follows s0 s) : ∀ x0 x1, Follows s0 (verdictAlerts x0 x1 s) := by
  intro x0 x1
  unfold verdictAlerts
  dsimp only
  repeat' (first | (with_reducible first | assumption | intro _ | apply follows_modObs | apply follows_raiseAx | apply Follows.each | apply Follows.ite))

theorem follows_verdictPost {s0 s : State} (h : Follows s0 s) : ∀ x0 x1 x2 x3, Follows s0 (verdictPost x0 x1 x2 x3 s) := by
  intro x0 x1 x2 x3
  unfold verdictPost
  dsimp only
  repeat' (first | (with_reducible first | assumption | intro _ | apply Follows.setReg | apply follows_verdictAlerts | apply follows_postDesc | apply Follows.each))

theorem follows_verdictsPost {s0 s : State} (h : Follows s0 s) : ∀ x0 x1, Follows s0 (verdictsPost x0 x1 s) := by
  intro x0 x1
  unfold verdictsPost
  repeat' (first | (with_reducible first | assumption | intro _ | apply follows_verdictPost | apply Follows.each))

/-! ## Turnstile -/

theorem follows_plannedEnd {s0 s : State} (h : Follows s0 s) : ∀ x0, Follows s0 (plannedEnd x0 s) := by
  intro x0
  unfold plannedEnd
  repeat' (first | (with_reducible first | assumption | intro _ | apply follows_modField))

theorem follows_trnShow {s0 s : State} (h : Follows s0 s) : Follows s0 (trnShow s) := by
  unfold trnShow
  repeat' (first | (with_reducible first | assumption | intro _ | apply Follows.setFld | apply Follows.setFlag | apply Follows.each))

theorem follows_trnStart {s0 s : State} (h : Follows s0 s) : Follows s0 (trnStart s) := by
  unfold trnStart
  dsimp only
  repeat' (first | (with_reducible first | assumption | intro _ | apply Follows.setFld | apply follows_modTrn | apply follows_trnShow))

theorem follows_plannedStart {s0 s : State} (h : Follows s0 s) : ∀ x0 x1 x2 x3, Follows s0 (plannedStart x0 x1 x2 x3 s) := by
  intro x0 x1 x2 x3
  unfold plannedStart
  dsimp only
  repeat' (first | (with_reducible first | assumption | intro _ | apply Follows.setFlag | apply follows_modField | apply follows_raiseDoubt | apply Follows.ite))

theorem follows_trnRefuse {s0 s : State} {x0 : TrnReq → State → State} (hx : ∀ r t, Follows s0 t → Follows s0 (x0 r t)) (h : Follows s0 s) : ∀ x1, Follows s0 (trnRefuse x0 x1 s) := by
  intro x1
  unfold trnRefuse
  dsimp only
  repeat' (first | with_reducible assumption | with_reducible apply hx | with_reducible apply Follows.bump | with_reducible apply follows_modTrn)

theorem follows_trnGrants {s0 s : State} {x0 : TrnReq → State → State} (hx : ∀ r t, Follows s0 t → Follows s0 (x0 r t)) (h : Follows s0 s) : ∀ x1 x2, Follows s0 (trnGrants x0 x1 x2 s) := by
  intro x1
  induction x1 generalizing s with
  | nil => intro x2; exact h
  | cons r l ih =>
    intro x2
    unfold trnGrants
    dsimp only
    repeat' (first | with_reducible assumption | with_reducible apply ih | with_reducible apply hx | with_reducible apply Follows.setFld | with_reducible apply follows_modTrn | split)

theorem follows_trnEdge {s0 s : State} {x0 x1 : TrnReq → State → State} (h0 : ∀ r t, Follows s0 t → Follows s0 (x0 r t)) (h1 : ∀ r t, Follows s0 t → Follows s0 (x1 r t)) (h : Follows s0 s) : Follows s0 (trnEdge x0 x1 s) := by
  unfold trnEdge
  dsimp only
  repeat' (first | with_reducible assumption | intro _ | with_reducible apply follows_trnShow | with_reducible apply Follows.setFld | with_reducible apply follows_modTrn | with_reducible apply follows_raiseDoubt | with_reducible apply Follows.setFlag | with_reducible apply Follows.each | with_reducible apply follows_trnRefuse | with_reducible apply follows_trnGrants | split)

theorem follows_trnTimeout {s0 s : State} {x0 : TrnReq → State → State} (hx : ∀ r t, Follows s0 t → Follows s0 (x0 r t)) (h : Follows s0 s) : ∀ x1, Follows s0 (trnTimeout x0 x1 s) := by
  intro x1
  unfold trnTimeout
  split
  · exact h
  · exact follows_trnShow (follows_trnRefuse hx h _)

end Sys2Proof.Machine
end

