-- ==== Sys2Proof/Laws/FollowsField.lean ====
section
/-! SUPPORT. `Follows` through every operation of the Field, the replay, Harrow, the windows and the link. -/

namespace Sys2Proof.Machine

/-! ## Field -/

theorem follows_runDrop {s0 s : State} (h : Follows s0 s) : ∀ x0, Follows s0 (runDrop x0 s) := by
  intro x0
  unfold runDrop
  dsimp only
  repeat' (first | (with_reducible first | assumption | intro _ | apply Follows.setFlag | apply follows_plannedEnd | apply follows_modField | apply Follows.each))

theorem follows_runsDrop {s0 s : State} (h : Follows s0 s) : ∀ x0, Follows s0 (runsDrop x0 s) := by
  intro x0
  unfold runsDrop
  repeat' (first | (with_reducible first | assumption | intro _ | apply follows_runDrop | apply Follows.each | apply Follows.ite))

theorem follows_bistEnd {s0 s : State} (h : Follows s0 s) : ∀ x0, Follows s0 (bistEnd x0 s) := by
  intro x0
  unfold bistEnd
  dsimp only
  repeat' (first | (with_reducible first | assumption | intro _ | apply Follows.setReg | apply Follows.setFlag | apply follows_plotWrite | apply follows_plannedEnd | apply follows_countCommit | apply follows_raiseDoubt | apply Follows.ite) | split)

theorem follows_bistStart {s0 s : State} (h : Follows s0 s) : Follows s0 (bistStart s) := by
  unfold bistStart
  repeat' (first | (with_reducible first | assumption | intro _ | apply follows_plannedStart | apply Follows.ite))

theorem follows_blockFail {s0 s : State} (h : Follows s0 s) : ∀ x0 x1 x2, Follows s0 (blockFail x0 x1 x2 s) := by
  intro x0 x1 x2
  unfold blockFail
  dsimp only
  repeat' (first | (with_reducible first | assumption | intro _ | apply Follows.setFld | apply Follows.setFlag | apply Follows.bump | apply follows_raiseDoubt | apply follows_detFlag))

theorem follows_fallowAdvance {s0 s : State} (h : Follows s0 s) : Follows s0 (fallowAdvance s) := by
  unfold fallowAdvance
  dsimp only
  repeat' (first | (with_reducible first | assumption | intro _ | apply Follows.setFld | apply Follows.setFlag | apply Follows.each | apply Follows.ite))

theorem follows_cutRefuse {s0 s : State} (h : Follows s0 s) : ∀ x0 x1, Follows s0 (cutRefuse x0 x1 s) := by
  intro x0 x1
  unfold cutRefuse
  dsimp only
  repeat' (first | (with_reducible first | assumption | intro _ | apply Follows.setFld | apply Follows.setFlag | apply follows_modField))

theorem follows_sigPromote {s0 s : State} (h : Follows s0 s) : ∀ x0, Follows s0 (sigPromote x0 s) := by
  intro x0
  unfold sigPromote
  dsimp only
  repeat' (first | (with_reducible first | assumption | exact fun _ h => h | exact fun _ h => Bool.noConfusion h | intro _ | apply Follows.setFld | apply follows_modSaf))

theorem follows_cutSwap {s0 s : State} (h : Follows s0 s) : ∀ x0, Follows s0 (cutSwap x0 s) := by
  intro x0
  unfold cutSwap
  dsimp only
  repeat' (first | (with_reducible first | assumption | intro _ | apply Follows.setFlag | apply follows_cutRefuse | apply follows_sigPromote | apply Follows.each | apply Follows.ite))

theorem follows_ckptFrame {s0 s : State} (h : Follows s0 s) : Follows s0 (ckptFrame s) := by
  unfold ckptFrame
  repeat' (first | (with_reducible first | assumption | intro _ | apply Follows.setFld | apply Follows.each))

theorem follows_ckptFollow {s0 s : State} (h : Follows s0 s) : ∀ x0, Follows s0 (ckptFollow x0 s) := by
  intro x0
  unfold ckptFollow
  repeat' (first | (with_reducible first | assumption | intro _ | apply Follows.setFld | apply Follows.each))

theorem follows_checkpoint {s0 s : State} (h : Follows s0 s) : Follows s0 (checkpoint s) := by
  unfold checkpoint
  dsimp only
  repeat' (first | (with_reducible first | assumption | intro _ | apply Follows.setReg | apply follows_raiseDoubt | apply Follows.each | apply Follows.foldl | apply Follows.foldl_snd | apply Follows.ite))

theorem follows_cutCheckEnd {s0 s : State} (h : Follows s0 s) : ∀ x0, Follows s0 (cutCheckEnd x0 s) := by
  intro x0
  unfold cutCheckEnd
  dsimp only
  repeat' (first | (with_reducible first | assumption | intro _ | apply Follows.setFlag | apply follows_cutRefuse | apply follows_modField | apply Follows.ite))

theorem follows_spillDone {s0 s : State} (h : Follows s0 s) : ∀ x0, Follows s0 (spillDone x0 s) := by
  intro x0
  unfold spillDone
  dsimp only
  repeat' (first | (with_reducible first | assumption | intro _ | apply Follows.setFld | apply Follows.setFlag | apply follows_modField | apply follows_countCommit | apply follows_plannedEnd))

theorem follows_dqsTimeout {s0 s : State} (h : Follows s0 s) : ∀ x0, Follows s0 (dqsTimeout x0 s) := by
  intro x0
  unfold dqsTimeout
  repeat' (first | (with_reducible first | assumption | intro _ | apply follows_spillDone | apply follows_blockFail | apply Follows.each) | split)

theorem follows_goldenInput {s0 s : State} (h : Follows s0 s) : Follows s0 (goldenInput s).2 := by
  unfold goldenInput
  dsimp only
  repeat' (first | (with_reducible first | assumption | intro _ | apply follows_granRead | apply Follows.foldl | apply Follows.foldl_snd))

theorem follows_entryInput {s0 s : State} (h : Follows s0 s) : ∀ x0, Follows s0 (entryInput x0 s).2 := by
  intro x0
  unfold entryInput
  dsimp only
  repeat' (first | (with_reducible first | assumption | intro _ | apply follows_goldenInput | apply follows_modField | apply follows_obsInput | apply follows_windowInput | apply Follows.ite) | split)

theorem follows_runSeeds {s0 s : State} (h : Follows s0 s) : ∀ x0 x1, Follows s0 (runSeeds x0 x1 s).2 := by
  intro x0 x1
  unfold runSeeds
  dsimp only
  repeat' (first | (with_reducible first | assumption | intro _ | apply follows_fresh | apply Follows.foldl | apply Follows.foldl_snd | apply Follows.ite) | split)

theorem follows_writeInputs {s0 s : State} (h : Follows s0 s) : ∀ x0 x1 x2, Follows s0 (writeInputs x0 x1 x2 s) := by
  intro x0 x1 x2
  unfold writeInputs
  dsimp only
  repeat' (first | (with_reducible first | assumption | intro _ | apply follows_plotWrite))

theorem follows_entryStart {s0 s : State} (h : Follows s0 s) : ∀ x0, Follows s0 (entryStart x0 s) := by
  intro x0
  unfold entryStart
  dsimp only
  repeat' (first | (with_reducible first | assumption | intro _ | apply Follows.setFlag | apply follows_plannedStart | apply follows_runSeeds | apply follows_entryInput | apply follows_writeInputs | apply follows_modField | apply Follows.ite) | split)

theorem follows_laneStore {s0 s : State} (h : Follows s0 s) : ∀ x0 x1 x2 x3, Follows s0 (laneStore x0 x1 x2 x3 s) := by
  intro x0 x1 x2 x3
  unfold laneStore
  repeat' (first | (with_reducible first | assumption | intro _ | apply follows_modLink | apply follows_modField | apply Follows.ite))

theorem follows_opRead {s0 s : State} (h : Follows s0 s) : ∀ x0 x1 x2 x3 x4, Follows s0 (opRead x0 x1 x2 x3 x4 s).2 := by
  intro x0 x1 x2 x3 x4
  unfold opRead
  repeat' (first | (with_reducible first | assumption | intro _ | apply follows_granRead | apply follows_plotRead | apply Follows.ite) | split)

theorem follows_layerOps {s0 s : State} (h : Follows s0 s) : ∀ x0 x1 x2 x3, Follows s0 (layerOps x0 x1 x2 x3 s).2 := by
  intro x0 x1 x2 x3
  unfold layerOps
  dsimp only
  repeat' (first | (with_reducible first | assumption | intro _ | apply follows_opRead))

theorem follows_layerInputs {s0 s : State} (h : Follows s0 s) : ∀ x0 x1 x2, Follows s0 (layerInputs x0 x1 x2 s).2 := by
  intro x0 x1 x2
  unfold layerInputs
  dsimp only
  repeat' (first | (with_reducible first | assumption | intro _ | apply follows_plotRead | apply Follows.foldl | apply Follows.foldl_snd))

theorem follows_layerRun {s0 s : State} (h : Follows s0 s) : ∀ x0 x1 x2 x3, Follows s0 (layerRun x0 x1 x2 x3 s).2 := by
  intro x0 x1 x2 x3
  unfold layerRun
  dsimp only
  repeat' (first | (with_reducible first | assumption | intro _ | apply Follows.setFlag | apply Follows.bump | apply follows_layerOps | apply follows_layerInputs | apply follows_raiseDoubt | apply follows_plotWrite | apply Follows.ite) | split)

theorem follows_layerEnd {s0 s : State} (h : Follows s0 s) : ∀ x0 x1, Follows s0 (layerEnd x0 x1 s) := by
  intro x0 x1
  unfold layerEnd
  dsimp only
  repeat' (first | (with_reducible first | assumption | intro _ | apply follows_applyUpsets | apply follows_layerRun | apply follows_modField | apply Follows.ite) | split)

theorem follows_runOutputs {s0 s : State} (h : Follows s0 s) : ∀ x0 x1 x2, Follows s0 (runOutputs x0 x1 x2 s).2 := by
  intro x0 x1 x2
  unfold runOutputs
  dsimp only
  repeat' (first | (with_reducible first | assumption | intro _ | apply follows_plotRead | apply Follows.foldl | apply Follows.foldl_snd | apply Follows.ite) | split)

theorem follows_tpStore {s0 s : State} (h : Follows s0 s) : ∀ x0 x1 x2, Follows s0 (tpStore x0 x1 x2 s) := by
  intro x0 x1 x2
  unfold tpStore
  dsimp only
  repeat' (first | (with_reducible first | assumption | exact fun _ h => h | exact fun _ h => Bool.noConfusion h | intro _ | apply follows_modSaf))

theorem follows_networkCommit {s0 s : State} (h : Follows s0 s) : ∀ x0, Follows s0 (networkCommit x0 s) := by
  intro x0
  unfold networkCommit
  dsimp only
  repeat' (first | (with_reducible first | assumption | intro _ | apply follows_runOutputs | apply follows_countCommit | apply follows_runDrop | apply follows_tpStore | apply follows_obsCommit | apply follows_laneStore | apply Follows.ite) | split)

theorem follows_prgVerdicts {s0 s : State} (h : Follows s0 s) : Follows s0 (prgVerdicts s) := by
  unfold prgVerdicts
  dsimp only
  repeat' (first | (with_reducible first | assumption | intro _ | apply follows_modField | apply follows_verdictsPost | apply Follows.ite) | split)

theorem follows_siloBlock {s0 s : State} (h : Follows s0 s) : ∀ x0 x1, Follows s0 (siloBlock x0 x1 s) := by
  intro x0 x1
  unfold siloBlock
  dsimp only
  repeat' (first | (with_reducible first | assumption | intro _ | apply follows_granWrite | apply follows_blockFail | apply follows_spillDone | apply follows_modField | apply Follows.ite) | split)

theorem follows_spillStart {s0 s : State} (h : Follows s0 s) : ∀ x0, Follows s0 (spillStart x0 s) := by
  intro x0
  unfold spillStart
  dsimp only
  repeat' (first | (with_reducible first | assumption | intro _ | apply Follows.setFlag | apply follows_plannedStart | apply follows_modField | apply Follows.ite) | split)

theorem follows_tpCompare {s0 s : State} (h : Follows s0 s) : ∀ x0, Follows s0 (tpCompare x0 s) := by
  intro x0
  unfold tpCompare
  repeat' (first | (with_reducible first | assumption | exact fun _ h => h | exact fun _ h => Bool.noConfusion h | intro _ | apply Follows.setBit | apply Follows.bump | apply follows_modSaf | apply follows_raiseDoubt) | split)

/-! ## Replay -/

theorem follows_capSeq {s0 s : State} (h : Follows s0 s) : ∀ x0, Follows s0 (capSeq x0 s).2 := by
  intro x0
  unfold capSeq
  dsimp only
  repeat' (first | (with_reducible first | assumption | intro _ | apply Follows.setFld))

theorem follows_capPost {s0 s : State} (h : Follows s0 s) : ∀ x0 x1 x2, Follows s0 (capPost x0 x1 x2 s) := by
  intro x0 x1 x2
  unfold capPost
  dsimp only
  repeat' (first | (with_reducible first | assumption | intro _ | apply Follows.setFlag | apply follows_postDesc | apply Follows.ite))

theorem follows_capFast {s0 s : State} (h : Follows s0 s) : ∀ x0 x1, Follows s0 (capFast x0 x1 s) := by
  intro x0 x1
  unfold capFast
  dsimp only
  repeat' (first | (with_reducible first | assumption | intro _ | apply follows_capSeq | apply follows_capPost | apply Follows.ite))

theorem follows_replayStop {s0 s : State} (h : Follows s0 s) : ∀ x0, Follows s0 (replayStop x0 s) := by
  intro x0
  unfold replayStop
  repeat' (first | (with_reducible first | assumption | intro _ | apply Follows.setFld | apply follows_loopCapture | apply Follows.ite))

theorem follows_ditherStart {s0 s : State} (h : Follows s0 s) : ∀ x0 x1, Follows s0 (ditherStart x0 x1 s) := by
  intro x0 x1
  unfold ditherStart
  dsimp only
  repeat' (first | (with_reducible first | assumption | intro _ | apply follows_modDet | apply follows_fresh | apply Follows.ite))

theorem follows_axisStart {s0 s : State} (h : Follows s0 s) : ∀ x0 x1, Follows s0 (axisStart x0 x1 s) := by
  intro x0 x1
  unfold axisStart
  repeat' (first | (with_reducible first | assumption | intro _ | apply follows_ditherStart | apply follows_headStart | apply follows_obsStart | apply follows_loopStart))

theorem follows_replayLeave {s0 s : State} (h : Follows s0 s) : ∀ x0, Follows s0 (replayLeave x0 s) := by
  intro x0
  unfold replayLeave
  dsimp only
  repeat' (first | (with_reducible first | assumption | intro _ | apply Follows.setFlag | apply follows_modHead | apply follows_driveOff | apply follows_modDet))

theorem follows_replayAbort {s0 s : State} (h : Follows s0 s) : ∀ x0, Follows s0 (replayAbort x0 s) := by
  intro x0
  unfold replayAbort
  dsimp only
  repeat' (first | (with_reducible first | assumption | intro _ | apply Follows.setFld | apply follows_replayLeave | apply Follows.ite))

theorem follows_replayGo {s0 s : State} (h : Follows s0 s) : ∀ x0 x1, Follows s0 (replayGo x0 x1 s) := by
  intro x0 x1
  unfold replayGo
  dsimp only
  repeat' (first | (with_reducible first | assumption | intro _ | apply Follows.setFld | apply follows_modDet | apply Follows.ite))

theorem follows_capSlow {s0 s : State} (h : Follows s0 s) : ∀ x0, Follows s0 (capSlow x0 s) := by
  intro x0
  unfold capSlow
  dsimp only
  repeat' (first | (with_reducible first | assumption | intro _ | apply follows_capSeq | apply follows_capPost | apply Follows.ite))

theorem follows_replayHead {s0 s : State} (h : Follows s0 s) : ∀ x0, Follows s0 (replayHead x0 s).2 := by
  intro x0
  unfold replayHead
  dsimp only
  repeat' (first | (with_reducible first | assumption | intro _ | apply follows_queFetch | apply follows_queConsume | apply Follows.ite) | split)

theorem follows_replayFail {s0 s : State} (h : Follows s0 s) : ∀ x0 x1, Follows s0 (replayFail x0 x1 s) := by
  intro x0 x1
  unfold replayFail
  repeat' (first | (with_reducible first | assumption | intro _ | apply Follows.setFld | apply follows_replayLeave))

theorem follows_replayTake {s0 s : State} (h : Follows s0 s) : ∀ x0 x1 x2, Follows s0 (replayTake x0 x1 x2 s).2 := by
  intro x0 x1 x2
  unfold replayTake
  dsimp only
  repeat' (first | (with_reducible first | assumption | intro _ | apply follows_replayHead | apply follows_replayFail | apply follows_modDet | apply Follows.ite) | split)

theorem follows_slowTake {s0 s : State} (h : Follows s0 s) : ∀ x0, Follows s0 (slowTake x0 s) := by
  intro x0
  unfold slowTake
  dsimp only
  repeat' (first | (with_reducible first | assumption | intro _ | apply follows_replayTake | apply follows_modDet | apply Follows.ite) | split)

theorem follows_setVstep {s0 s : State} (h : Follows s0 s) : ∀ x0 x1, Follows s0 (setVstep x0 x1 s) := by
  intro x0 x1
  unfold setVstep
  repeat' (first | (with_reducible first | assumption | intro _ | apply Follows.setFld))

theorem follows_replayStart {s0 s : State} (h : Follows s0 s) : ∀ x0, Follows s0 (replayStart x0 s) := by
  intro x0
  unfold replayStart
  dsimp only
  repeat' (first | (with_reducible first | assumption | intro _ | apply Follows.setFld | apply Follows.setFlag | apply follows_setVstep | apply follows_axisStart | apply follows_modDet | apply follows_modHead | apply Follows.ite))

theorem follows_replaySample {s0 s : State} (h : Follows s0 s) : ∀ x0, Follows s0 (replaySample x0 s).1 := by
  intro x0
  unfold replaySample
  dsimp only
  repeat' (first | (with_reducible first | assumption | intro _ | apply follows_replayTake | apply follows_modDet | apply follows_deliverSet | apply follows_kclCheck) | split)

theorem follows_replayStep {s0 s : State} (h : Follows s0 s) : ∀ x0, Follows s0 (replayStep x0 s) := by
  intro x0
  unfold replayStep
  repeat' (first | (with_reducible first | assumption | intro _ | apply follows_setVstep | apply Follows.ite))

/-! ## Harrow -/

theorem follows_alvJudge {s0 s : State} (h : Follows s0 s) : ∀ x0 x1, Follows s0 (alvJudge x0 x1 s) := by
  intro x0 x1
  unfold alvJudge
  dsimp only
  repeat' (first | (with_reducible first | assumption | intro _ | apply Follows.setFld | apply Follows.bump | apply follows_modHrw | apply Follows.ite) | split)

theorem follows_alvRecords {s0 s : State} (h : Follows s0 s) : ∀ x0 x1 x2 x3, Follows s0 (alvRecords x0 x1 x2 x3 s) := by
  intro x0 x1 x2 x3
  induction x2 generalizing s x3 with
  | zero => exact follows_modHrw h _
  | succ n ih =>
    unfold alvRecords
    split
    · exact follows_modHrw h _
    · exact ih (follows_alvJudge h _ _) _

theorem follows_chkFree {s0 s : State} (h : Follows s0 s) : ∀ x0, Follows s0 (chkFree x0 s) := by
  intro x0
  unfold chkFree
  repeat' (first | (with_reducible first | assumption | intro _ | apply Follows.setFld | apply Follows.setFlag))

theorem follows_setHeld {s0 s : State} (h : Follows s0 s) : ∀ x0 x1, Follows s0 (setHeld x0 x1 s) := by
  intro x0 x1
  unfold setHeld
  repeat' (first | (with_reducible first | assumption | intro _ | apply follows_modHrw))

theorem follows_chkInit {s0 s : State} (h : Follows s0 s) : ∀ x0 x1, Follows s0 (chkInit x0 x1 s) := by
  intro x0 x1
  unfold chkInit
  dsimp only
  repeat' (first | (with_reducible first | assumption | intro _ | apply Follows.setReg | apply Follows.setFld | apply Follows.setFlag | apply follows_modHrw))

theorem follows_stdNext {s0 s : State} (h : Follows s0 s) : Follows s0 (stdNext s) := by
  unfold stdNext
  dsimp only
  repeat' (first | (with_reducible first | assumption | intro _ | apply Follows.setFld | apply Follows.setFlag | apply follows_setHeld | apply follows_chkInit | apply Follows.ite) | split)

theorem follows_scanEndWhy {s0 s : State} (h : Follows s0 s) : ∀ x0 x1, Follows s0 (scanEndWhy x0 x1 s) := by
  intro x0 x1
  unfold scanEndWhy
  dsimp only
  repeat' (first | (with_reducible first | assumption | intro _ | apply follows_chkFree | apply follows_stdNext | apply follows_setHeld | apply follows_trnEnd | apply follows_scanStop | apply Follows.each | apply Follows.ite))

theorem follows_stdStop {s0 s : State} (h : Follows s0 s) : ∀ x0, Follows s0 (stdStop x0 s) := by
  intro x0
  unfold stdStop
  dsimp only
  repeat' (first | (with_reducible first | assumption | intro _ | apply follows_setHeld | apply follows_chkFree | apply follows_stdNext | apply follows_modHrw) | split)

theorem follows_scansTenant {s0 s : State} (h : Follows s0 s) : ∀ x0, Follows s0 (scansTenant x0 s) := by
  intro x0
  unfold scansTenant
  dsimp only
  repeat' (first | (with_reducible first | assumption | intro _ | apply follows_scanEndWhy | apply follows_stdStop | apply Follows.each | apply Follows.ite))

theorem follows_chkHost {s0 s : State} {x1 : State → State} (hx : ∀ t, Follows s0 t → Follows s0 (x1 t)) (h : Follows s0 s) : ∀ x0, Follows s0 (chkHost x0 x1 s) := by
  intro x0
  unfold chkHost
  split <;> first | exact h | exact hx _ h | exact h.setFlag _ _

theorem follows_chkHostInit {s0 s : State} (h : Follows s0 s) : ∀ x0, Follows s0 (chkHostInit x0 s) := by
  intro x0
  unfold chkHostInit
  repeat' (first | (with_reducible first | assumption | intro _ | apply follows_chkHost | apply follows_chkInit))

theorem follows_chkFeed {s0 s : State} (h : Follows s0 s) : ∀ x0 x1 x2, Follows s0 (chkFeed x0 x1 x2 s) := by
  intro x0 x1 x2
  unfold chkFeed
  dsimp only
  repeat' (first | (with_reducible first | assumption | intro _ | apply Follows.setReg | apply Follows.setFld | apply follows_modHrw | apply follows_alvRecords | apply Follows.ite))

theorem follows_chkHostFeed {s0 s : State} (h : Follows s0 s) : ∀ x0 x1, Follows s0 (chkHostFeed x0 x1 s) := by
  intro x0 x1
  unfold chkHostFeed
  repeat' (first | (with_reducible first | assumption | intro _ | apply Follows.setFlag | apply follows_chkHost | apply follows_chkFeed))

theorem follows_chkConfig {s0 s : State} (h : Follows s0 s) : ∀ x0 x1 x2, Follows s0 (chkConfig x0 x1 x2 s) := by
  intro x0 x1 x2
  unfold chkConfig
  dsimp only
  repeat' (first | (with_reducible first | assumption | intro _ | apply Follows.setReg | apply Follows.setFlag | apply follows_chkHost | apply Follows.ite))

theorem follows_snapTake {s0 s : State} (h : Follows s0 s) : Follows s0 (snapTake s) := by
  unfold snapTake
  repeat' (first | (with_reducible first | assumption | intro _ | apply follows_modHrw))

theorem follows_stdDue {s0 s : State} (h : Follows s0 s) : Follows s0 (stdDue s) := by
  unfold stdDue
  dsimp only
  repeat' (first | (with_reducible first | assumption | intro _ | apply Follows.setFlag | apply follows_modHrw | apply follows_stdNext | apply Follows.each | apply Follows.ite))

theorem follows_chkDone {s0 s : State} (h : Follows s0 s) : ∀ x0, Follows s0 (chkDone x0 s) := by
  intro x0
  unfold chkDone
  repeat' (first | (with_reducible first | assumption | intro _ | apply Follows.setFld | apply Follows.setFlag))

theorem follows_scansPd3 {s0 s : State} (h : Follows s0 s) : Follows s0 (scansPd3 s) := by
  unfold scansPd3
  dsimp only
  repeat' (first | (with_reducible first | assumption | intro _ | apply follows_scanEndWhy | apply follows_stdStop | apply Follows.each | apply Follows.ite))

theorem follows_scrubFrame {s0 s : State} (h : Follows s0 s) : Follows s0 (scrubFrame s) := by
  unfold scrubFrame
  extract_lets one r t
  have hr : Follows s0 r.1 := by
    refine Follows.foldl_fst (fun x m hx => ?_) _ h
    simp only [one]
    repeat' (first | with_reducible assumption | with_reducible apply Follows.setFld | with_reducible apply Follows.setBit | with_reducible apply Follows.bump | dsimp only | split)
  have ht : Follows s0 t := follows_modHrw hr _
  clear_value t r
  repeat' (first | with_reducible assumption | with_reducible apply follows_raise | with_reducible apply follows_irqLatch | split)

theorem follows_scanElem {s0 s : State} (h : Follows s0 s) : ∀ x0 x1 x2 x3, Follows s0 (scanElem x0 x1 x2 x3 s).2 := by
  intro x0 x1 x2 x3
  unfold scanElem
  dsimp only
  repeat' (first | (with_reducible first | assumption | intro _ | apply Follows.setFld | apply Follows.setFlag | apply follows_granCount | apply follows_plotCount) | split)

theorem follows_scanElems {s0 s : State} (h : Follows s0 s) : ∀ x0 x1 x2 x3 x4, Follows s0 (scanElems x0 x1 x2 x3 x4 s).2 := by
  intro x0 x1 x2 x3 x4
  induction x4 generalizing s x3 with
  | zero => exact h
  | succ n ih => exact ih (follows_scanElem h _ _ _ _) _

theorem follows_scanDone {s0 s : State} (h : Follows s0 s) : ∀ x0, Follows s0 (scanDone x0 s) := by
  intro x0
  unfold scanDone
  dsimp only
  repeat' (first | (with_reducible first | assumption | intro _ | apply Follows.setFld | apply follows_scanElems | apply follows_chkDone | apply follows_chkFeed | apply follows_scanStop | apply follows_stdNext | apply follows_setHeld | apply follows_trnEnd | apply Follows.each | apply Follows.ite))

theorem follows_scanRefused {s0 s : State} (h : Follows s0 s) : ∀ x0, Follows s0 (scanRefused x0 s) := by
  intro x0
  unfold scanRefused
  repeat' (first | (with_reducible first | assumption | intro _ | apply follows_scanEndWhy))

theorem follows_scanRun {s0 s : State} (h : Follows s0 s) : ∀ x0, Follows s0 (scanRun x0 s) := by
  intro x0
  unfold scanRun
  dsimp only
  repeat' (first | (with_reducible first | assumption | intro _ | apply Follows.setFld | apply follows_scanEndWhy | apply follows_setHeld | apply follows_chkInit | apply Follows.each | apply Follows.ite))

theorem follows_scanStarved {s0 s : State} (h : Follows s0 s) : ∀ x0 x1, Follows s0 (scanStarved x0 x1 s) := by
  intro x0 x1
  unfold scanStarved
  dsimp only
  repeat' (first | (with_reducible first | assumption | intro _ | apply Follows.setFld | apply follows_scanElems | apply follows_chkFeed | apply follows_scanEndWhy | apply Follows.each | apply Follows.ite))

theorem follows_scrubAccess {s0 s : State} (h : Follows s0 s) : ∀ x0, Follows s0 (scrubAccess x0 s) := by
  intro x0
  unfold scrubAccess
  dsimp only
  repeat' (first | (with_reducible first | assumption | intro _ | apply Follows.setFld | apply Follows.setFlag | apply Follows.bump | apply follows_modHrw | apply Follows.ite))

theorem follows_scrubWriteBack {s0 s : State} (h : Follows s0 s) : ∀ x0, Follows s0 (scrubWriteBack x0 s) := by
  intro x0
  unfold scrubWriteBack
  dsimp only
  repeat' (first | (with_reducible first | assumption | intro _ | apply Follows.bump | apply follows_modHrw | apply follows_modField | apply Follows.ite) | split)

theorem follows_stdEnd {s0 s : State} (h : Follows s0 s) : Follows s0 (stdEnd s) := by
  unfold stdEnd
  dsimp only
  repeat' (first | (with_reducible first | assumption | intro _ | apply Follows.setFlag | apply follows_scanElems | apply follows_chkDone | apply follows_chkFeed | apply follows_modHrw | apply follows_setHeld | apply follows_raise | apply follows_irqLatch | apply follows_stdNext | apply Follows.ite) | split)

/-! ## Windows -/

theorem follows_winWriteFail {s0 s : State} (h : Follows s0 s) : ∀ x0 x1, Follows s0 (winWriteFail x0 x1 s) := by
  intro x0 x1
  unfold winWriteFail
  dsimp only
  repeat' (first | (with_reducible first | assumption | intro _ | apply Follows.setFld | apply Follows.setFlag | apply Follows.setBit))

theorem follows_siloShow {s0 s : State} (h : Follows s0 s) : Follows s0 (siloShow s) := by
  unfold siloShow
  repeat' (first | (with_reducible first | assumption | intro _ | apply Follows.setFlag))

theorem follows_siloOver {s0 s : State} (h : Follows s0 s) : ∀ x0, Follows s0 (siloOver x0 s) := by
  intro x0
  unfold siloOver
  dsimp only
  repeat' (first | (with_reducible first | assumption | intro _ | apply follows_modField | apply follows_siloShow | apply follows_trnEnd))

theorem follows_winFail {s0 s : State} (h : Follows s0 s) : ∀ x0 x1 x2, Follows s0 (winFail x0 x1 x2 s) := by
  intro x0 x1 x2
  unfold winFail
  dsimp only
  repeat' (first | (with_reducible first | assumption | intro _ | apply follows_modPort | apply follows_winWriteFail | apply follows_siloOver | apply Follows.ite))

theorem follows_siloRefused {s0 s : State} (h : Follows s0 s) : ∀ x0, Follows s0 (siloRefused x0 s) := by
  intro x0
  unfold siloRefused
  repeat' (first | (with_reducible first | assumption | intro _ | apply follows_winFail) | split)

theorem follows_siloStart {s0 s : State} (h : Follows s0 s) : ∀ x0, Follows s0 (siloStart x0 s) := by
  intro x0
  unfold siloStart
  repeat' (first | (with_reducible first | assumption | intro _ | apply follows_siloShow | apply follows_modField | apply Follows.ite))

theorem follows_winAsk {s0 s : State} (h : Follows s0 s) : ∀ x0 x1 x2, Follows s0 (winAsk x0 x1 x2 s) := by
  intro x0 x1 x2
  unfold winAsk
  repeat' (first | (with_reducible first | assumption | intro _ | apply Follows.setFlag | apply follows_winFail | apply follows_trnRequest | apply Follows.ite) | split)

theorem follows_winOffEnd {s0 s : State} (h : Follows s0 s) : ∀ x0 x1 x2, Follows s0 (winOffEnd x0 x1 x2 s) := by
  intro x0 x1 x2
  unfold winOffEnd
  repeat' (first | (with_reducible first | assumption | intro _ | apply Follows.setFlag | apply follows_winFail | apply Follows.ite))

theorem follows_winReadServe {s0 s : State} (h : Follows s0 s) : ∀ x0 x1 x2, Follows s0 (winReadServe x0 x1 x2 s) := by
  intro x0 x1 x2
  unfold winReadServe
  dsimp only
  repeat' (first | (with_reducible first | assumption | intro _ | apply follows_granRead | apply follows_winFail | apply follows_modPort | apply follows_plotRead | apply follows_siloOver | apply Follows.ite) | split)

theorem follows_winWriteServe {s0 s : State} (h : Follows s0 s) : ∀ x0 x1 x2, Follows s0 (winWriteServe x0 x1 x2 s) := by
  intro x0 x1 x2
  unfold winWriteServe
  dsimp only
  repeat' (first | (with_reducible first | assumption | intro _ | apply Follows.setFlag | apply follows_winFail | apply follows_modPort | apply follows_granCount | apply follows_granWrite | apply follows_modField | apply follows_plotCount | apply follows_plotWrite | apply follows_siloOver | apply follows_siloWrite | apply Follows.each | apply Follows.ite) | split)

theorem follows_winServe {s0 s : State} (h : Follows s0 s) : ∀ x0 x1, Follows s0 (winServe x0 x1 s) := by
  intro x0 x1
  unfold winServe
  repeat' (first | (with_reducible first | assumption | intro _ | apply follows_winOffEnd | apply follows_winWriteServe | apply follows_winReadServe | apply Follows.ite) | split)

theorem follows_winTimeout {s0 s : State} (h : Follows s0 s) : ∀ x0 x1, Follows s0 (winTimeout x0 x1 s) := by
  intro x0 x1
  unfold winTimeout
  dsimp only
  repeat' (first | (with_reducible first | assumption | intro _ | apply Follows.setFlag | apply follows_winFail | apply Follows.ite))

/-! ## Tramline -/

theorem follows_linkFlush {s0 s : State} (h : Follows s0 s) : Follows s0 (linkFlush s) := by
  unfold linkFlush
  repeat' (first | (with_reducible first | assumption | intro _ | apply follows_modLink))

theorem follows_bulkEnd {s0 s : State} (h : Follows s0 s) : ∀ x0 x1 x2, Follows s0 (bulkEnd x0 x1 x2 s) := by
  intro x0 x1 x2
  unfold bulkEnd
  dsimp only
  repeat' (first | (with_reducible first | assumption | intro _ | apply follows_trnEnd | apply follows_bulkSet | apply follows_raise | apply follows_modLink))

theorem follows_bulkDrop {s0 s : State} (h : Follows s0 s) : ∀ x0 x1 x2, Follows s0 (bulkDrop x0 x1 x2 s) := by
  intro x0 x1 x2
  unfold bulkDrop
  dsimp only
  repeat' (first | (with_reducible first | assumption | intro _ | apply follows_bulkEnd | apply Follows.ite))

theorem follows_setTile {s0 s : State} (h : Follows s0 s) : ∀ x0 x1, Follows s0 (setTile x0 x1 s) := by
  intro x0 x1
  unfold setTile
  repeat' (first | (with_reducible first | assumption | intro _ | apply Follows.setFld))

theorem follows_tileAudit {s0 s : State} (h : Follows s0 s) : Follows s0 (tileAudit s) := by
  unfold tileAudit
  dsimp only
  repeat' (first | (with_reducible first | assumption | intro _ | apply Follows.setFld | apply Follows.setFlag | apply follows_raise | apply Follows.ite))

theorem follows_evictCheck {s0 s : State} (h : Follows s0 s) : Follows s0 (evictCheck s) := by
  unfold evictCheck
  repeat' (first | (with_reducible first | assumption | intro _ | apply follows_tileAudit | apply follows_setTile | apply follows_modLink | apply Follows.ite) | split)

theorem follows_linkOff {s0 s : State} (h : Follows s0 s) : ∀ x0, Follows s0 (linkOff x0 s) := by
  intro x0
  unfold linkOff
  dsimp only
  repeat' (first | (with_reducible first | assumption | intro _ | apply Follows.setFld | apply follows_linkFlush | apply follows_pairOut | apply follows_bulkDrop | apply follows_setTile | apply follows_raise | apply follows_evictCheck | apply Follows.each | apply Follows.ite))

theorem follows_trainStart {s0 s : State} (h : Follows s0 s) : Follows s0 (trainStart s) := by
  unfold trainStart
  dsimp only
  repeat' (first | (with_reducible first | assumption | intro _ | apply Follows.setReg | apply Follows.setFld | apply follows_linkFlush | apply follows_modLink))

theorem follows_bookShow {s0 s : State} (h : Follows s0 s) : ∀ x0 x1, Follows s0 (bookShow x0 x1 s) := by
  intro x0 x1
  unfold bookShow
  dsimp only
  repeat' (first | (with_reducible first | assumption | intro _ | apply Follows.setFld))

theorem follows_cutAnswer {s0 s : State} (h : Follows s0 s) : ∀ x0 x1, Follows s0 (cutAnswer x0 x1 s) := by
  intro x0 x1
  unfold cutAnswer
  repeat' (first | (with_reducible first | assumption | intro _ | apply follows_linkQueue))

theorem follows_trlAck {s0 s : State} (h : Follows s0 s) : Follows s0 (trlAck s) := by
  unfold trlAck
  repeat' (first | (with_reducible first | assumption | intro _ | apply Follows.setFlag | apply follows_trainStart | apply Follows.ite))

theorem follows_psClr {s0 s : State} (h : Follows s0 s) : Follows s0 (psClr s) := by
  unfold psClr
  repeat' (first | (with_reducible first | assumption | intro _ | apply follows_pairOut | apply Follows.ite))

theorem follows_driftAlarm {s0 s : State} (h : Follows s0 s) : Follows s0 (driftAlarm s) := by
  unfold driftAlarm
  dsimp only
  repeat' (first | (with_reducible first | assumption | intro _ | apply Follows.setFld | apply Follows.setFlag | apply follows_raise | apply Follows.ite))

theorem follows_linkDiscipline {s0 s : State} (h : Follows s0 s) : Follows s0 (linkDiscipline s) := by
  unfold linkDiscipline
  repeat' (first | (with_reducible first | assumption | intro _ | apply Follows.setFld | apply follows_modLink | apply follows_driftAlarm | apply Follows.ite) | split)

theorem follows_linkBoundary {s0 s : State} (h : Follows s0 s) : Follows s0 (linkBoundary s) := by
  unfold linkBoundary
  repeat' (first | (with_reducible first | assumption | intro _ | apply follows_linkDiscipline | apply follows_modLink))

theorem follows_partFlush {s0 s : State} (h : Follows s0 s) : Follows s0 (partFlush s) := by
  unfold partFlush
  repeat' (first | (with_reducible first | assumption | intro _ | apply follows_modLink))

theorem follows_linkUp {s0 s : State} (h : Follows s0 s) : Follows s0 (linkUp s) := by
  unfold linkUp
  repeat' (first | (with_reducible first | assumption | intro _ | apply Follows.setFld | apply follows_raise | apply follows_partFlush))

theorem follows_linkJudge {s0 s : State} (h : Follows s0 s) : Follows s0 (linkJudge s) := by
  unfold linkJudge
  dsimp only
  repeat' (first | (with_reducible first | assumption | intro _ | apply Follows.setFld | apply follows_linkOff | apply follows_raise | apply follows_linkUp | apply Follows.ite))

theorem follows_linkErr {s0 s : State} (h : Follows s0 s) : ∀ x0, Follows s0 (linkErr x0 s) := by
  intro x0
  unfold linkErr
  repeat' (first | (with_reducible first | assumption | intro _ | apply Follows.bump | apply follows_modLink | apply Follows.ite))

theorem follows_linkReject {s0 s : State} (h : Follows s0 s) : Follows s0 (linkReject s) := by
  unfold linkReject
  repeat' (first | (with_reducible first | assumption | intro _ | apply Follows.bump | apply follows_linkErr))

theorem follows_linkGood {s0 s : State} (h : Follows s0 s) : Follows s0 (linkGood s) := by
  unfold linkGood
  repeat' (first | (with_reducible first | assumption | intro _ | apply Follows.setFld | apply follows_modLink))

theorem follows_modVc {s0 s : State} (h : Follows s0 s) : ∀ x0 x1, Follows s0 (modVc x0 x1 s) := by
  intro x0 x1
  unfold modVc
  repeat' (first | (with_reducible first | assumption | intro _ | apply follows_modLink))

theorem follows_linkMissing {s0 s : State} (h : Follows s0 s) : ∀ x0 x1, Follows s0 (linkMissing x0 x1 s) := by
  intro x0 x1
  unfold linkMissing
  dsimp only
  repeat' (first | (with_reducible first | assumption | intro _ | apply follows_modVc | apply follows_linkErr | apply follows_cutAnswer | apply follows_modLink | apply Follows.ite) | split)

theorem follows_linkTake {s0 s : State} (h : Follows s0 s) : ∀ x0 x1 x2, Follows s0 (linkTake x0 x1 x2 s) := by
  intro x0 x1 x2
  unfold linkTake
  dsimp only
  repeat' (first | (with_reducible first | assumption | intro _ | apply follows_linkReject | apply follows_linkGood | apply follows_linkMissing | apply follows_modVc | apply follows_modLink | apply Follows.ite) | split)

theorem follows_linkReceive {s0 s : State} (h : Follows s0 s) : ∀ x0 x1, Follows s0 (linkReceive x0 x1 s) := by
  intro x0 x1
  unfold linkReceive
  dsimp only
  repeat' (first | (with_reducible first | assumption | intro _ | apply Follows.setFld | apply Follows.bump | apply follows_linkReject | apply follows_linkGood | apply follows_modLink | apply follows_linkTake | apply follows_driftAlarm | apply Follows.ite) | split)

theorem follows_burstReceived {s0 s : State} (h : Follows s0 s) : ∀ x0 x1 x2 x3, Follows s0 (burstReceived x0 x1 x2 x3 s) := by
  intro x0 x1 x2 x3
  unfold burstReceived
  dsimp only
  repeat' (first | (with_reducible first | assumption | intro _ | apply Follows.setFld | apply follows_modLink | apply follows_linkJudge | apply follows_linkReceive | apply Follows.each | apply Follows.ite))

theorem follows_cretTake {s0 s : State} (h : Follows s0 s) : Follows s0 (cretTake s) := by
  unfold cretTake
  dsimp only
  repeat' (first | (with_reducible first | assumption | intro _ | apply follows_modVc | apply Follows.each))

theorem follows_doubtIn {s0 s : State} (h : Follows s0 s) : ∀ x0, Follows s0 (doubtIn x0 s) := by
  intro x0
  unfold doubtIn
  repeat' (first | (with_reducible first | assumption | intro _ | apply follows_modLink))

theorem follows_tecUpdate {s0 s : State} (h : Follows s0 s) : ∀ x0, Follows s0 (tecUpdate x0 s) := by
  intro x0
  unfold tecUpdate
  repeat' (first | (with_reducible first | assumption | intro _ | apply Follows.setFld))

theorem follows_tileCount {s0 s : State} (h : Follows s0 s) : ∀ x0, Follows s0 (tileCount x0 s) := by
  intro x0
  unfold tileCount
  repeat' (first | (with_reducible first | assumption | intro _ | apply Follows.setFlag | apply follows_raise | apply Follows.ite))

theorem follows_heartbeatIn {s0 s : State} (h : Follows s0 s) : ∀ x0, Follows s0 (heartbeatIn x0 s) := by
  intro x0
  unfold heartbeatIn
  dsimp only
  repeat' (first | (with_reducible first | assumption | intro _ | apply Follows.setFld | apply Follows.setFlag | apply follows_linkJudge | apply follows_linkReject | apply follows_modLink | apply follows_linkMissing | apply follows_bookShow | apply follows_tecUpdate | apply follows_tileCount | apply follows_linkOff | apply follows_raise | apply Follows.each | apply Follows.ite))

theorem follows_laneLoss {s0 s : State} (h : Follows s0 s) : Follows s0 (laneLoss s) := by
  unfold laneLoss
  repeat' (first | (with_reducible first | assumption | intro _ | apply Follows.setFld | apply follows_linkOff | apply Follows.ite))

theorem follows_linkCret {s0 s : State} (h : Follows s0 s) : ∀ x0, Follows s0 (linkCret x0 s) := by
  intro x0
  unfold linkCret
  dsimp only
  repeat' (first | (with_reducible first | assumption | intro _ | apply follows_modVc | apply Follows.each))

theorem follows_linkFree {s0 s : State} (h : Follows s0 s) : ∀ x0, Follows s0 (linkFree x0 s) := by
  intro x0
  unfold linkFree
  repeat' (first | (with_reducible first | assumption | intro _ | apply follows_modVc))

theorem follows_linkPop {s0 s : State} (h : Follows s0 s) : ∀ x0, Follows s0 (linkPop x0 s).2 := by
  intro x0
  unfold linkPop
  dsimp only
  repeat' (first | (with_reducible first | assumption | intro _ | apply follows_linkCret | apply follows_modLink | apply follows_linkFree | apply Follows.ite) | split)

theorem follows_linkHandle {s0 s : State} {f : List Byte → State → State} (hf : ∀ b t, Follows s0 t → Follows s0 (f b t)) (h : Follows s0 s) : ∀ x0, Follows s0 (linkHandle x0 f s) := by
  intro x0
  have hp := follows_linkPop h x0
  unfold linkHandle
  split <;> rename_i he <;> rw [he] at hp
  · exact hp
  · exact hf _ _ hp

theorem follows_linkPhase {s0 s : State} (h : Follows s0 s) : ∀ x0 x1, Follows s0 (linkPhase x0 x1 s) := by
  intro x0 x1
  unfold linkPhase
  dsimp only
  repeat' (first | (with_reducible first | assumption | intro _ | apply Follows.setFld | apply follows_linkOff | apply follows_modLink | apply follows_linkUp | apply Follows.ite))

theorem follows_noHeartbeat {s0 s : State} (h : Follows s0 s) : Follows s0 (noHeartbeat s) := by
  unfold noHeartbeat
  repeat' (first | (with_reducible first | assumption | intro _ | apply follows_linkJudge | apply follows_linkErr))

theorem follows_offReady {s0 s : State} (h : Follows s0 s) : Follows s0 (offReady s) := by
  unfold offReady
  repeat' (first | (with_reducible first | assumption | intro _ | apply Follows.setFld | apply Follows.ite))

theorem follows_retractIn {s0 s : State} (h : Follows s0 s) : ∀ x0, Follows s0 (retractIn x0 s) := by
  intro x0
  unfold retractIn
  dsimp only
  repeat' (first | (with_reducible first | assumption | intro _ | apply follows_modLink | apply follows_raise))

theorem follows_retrainEnd {s0 s : State} (h : Follows s0 s) : ∀ x0 x1, Follows s0 (retrainEnd x0 x1 s) := by
  intro x0 x1
  unfold retrainEnd
  repeat' (first | (with_reducible first | assumption | intro _ | apply follows_linkJudge | apply follows_linkPhase | apply Follows.ite))

theorem follows_sendFrame {s0 s : State} (h : Follows s0 s) : ∀ x0 x1, Follows s0 (sendFrame x0 x1 s) := by
  intro x0 x1
  unfold sendFrame
  dsimp only
  repeat' (first | (with_reducible first | assumption | intro _ | apply follows_modLink | apply follows_cretTake | apply follows_modVc | apply Follows.ite))

theorem follows_sendHeartbeat {s0 s : State} (h : Follows s0 s) : Follows s0 (sendHeartbeat s) := by
  unfold sendHeartbeat
  repeat' (first | (with_reducible first | assumption | intro _ | apply follows_modLink | apply follows_sendFrame | apply Follows.ite))

theorem follows_sendVc {s0 s : State} (h : Follows s0 s) : ∀ x0 x1 x2, Follows s0 (sendVc x0 x1 x2 s) := by
  intro x0 x1 x2
  induction x2 generalizing s with
  | zero => exact h
  | succ n ih =>
    unfold sendVc
    split
    · exact h
    · split
      · exact h
      · exact ih (follows_sendFrame (follows_modLink h _) _ _)

theorem follows_slotStart {s0 s : State} (h : Follows s0 s) : ∀ x0 x1, Follows s0 (slotStart x0 x1 s) := by
  intro x0 x1
  unfold slotStart
  dsimp only
  repeat' (first | (with_reducible first | assumption | intro _ | apply follows_modLink | apply follows_sendHeartbeat | apply follows_sendVc | apply follows_sendFrame | apply Follows.each | apply Follows.ite))

theorem follows_tileStart {s0 s : State} (h : Follows s0 s) : Follows s0 (tileStart s) := by
  unfold tileStart
  repeat' (first | (with_reducible first | assumption | intro _ | apply follows_tileAudit | apply follows_setTile | apply Follows.each | apply Follows.ite))

theorem follows_trainFail {s0 s : State} (h : Follows s0 s) : ∀ x0, Follows s0 (trainFail x0 s) := by
  intro x0
  unfold trainFail
  repeat' (first | (with_reducible first | assumption | intro _ | apply follows_linkOff))

theorem follows_trainCap {s0 s : State} (h : Follows s0 s) : ∀ x0 x1 x2 x3 x4 x5, Follows s0 (trainCap x0 x1 x2 x3 x4 x5 s) := by
  intro x0 x1 x2 x3 x4 x5
  unfold trainCap
  dsimp only
  repeat' (first | (with_reducible first | assumption | intro _ | apply Follows.setReg | apply Follows.setFld | apply follows_modLink | apply follows_trainFail | apply Follows.ite))

theorem follows_trainAdvance {s0 s : State} (h : Follows s0 s) : ∀ x0, Follows s0 (trainAdvance x0 s) := by
  intro x0
  unfold trainAdvance
  dsimp only
  repeat' (first | (with_reducible first | assumption | intro _ | apply Follows.setFld | apply Follows.setFlag | apply follows_trainCap | apply follows_trainFail | apply follows_linkPhase | apply follows_tileStart | apply follows_modLink | apply Follows.ite) | split)

theorem follows_trainTmo {s0 s : State} (h : Follows s0 s) : Follows s0 (trainTmo s) := by
  unfold trainTmo
  repeat' (first | (with_reducible first | assumption | intro _ | apply follows_trainFail | apply Follows.ite))

/-! ## Twin -/

theorem follows_cutReport {s0 s : State} (h : Follows s0 s) : ∀ b x0, Follows s0 (cutReport b x0 s) := by
  intro b x0
  unfold cutReport
  repeat' (first | with_reducible assumption | with_reducible apply follows_cutAnswer | split)

theorem follows_tileEvict {s0 s : State} (h : Follows s0 s) : ∀ x0 x1, Follows s0 (tileEvict x0 x1 s) := by
  intro x0 x1
  unfold tileEvict
  dsimp only
  repeat' (first | (with_reducible first | assumption | intro _ | apply follows_granRead | apply follows_setTile | apply follows_modLink | apply follows_tileAudit | apply follows_linkQueue | apply Follows.ite))

theorem follows_tileLoad {s0 s : State} (h : Follows s0 s) : ∀ x0 x1, Follows s0 (tileLoad x0 x1 s) := by
  intro x0 x1
  unfold tileLoad
  dsimp only
  repeat' (first | (with_reducible first | assumption | intro _ | apply Follows.setFld | apply follows_granWrite | apply follows_tileAudit | apply follows_setTile | apply Follows.ite))

theorem follows_tileCmd {s0 s : State} (h : Follows s0 s) : ∀ x0 x1, Follows s0 (tileCmd x0 x1 s) := by
  intro x0 x1
  unfold tileCmd
  repeat' (first | (with_reducible first | assumption | intro _ | apply follows_tileEvict | apply follows_tileLoad | apply Follows.ite) | split)

theorem follows_sharePrune {s0 s : State} (h : Follows s0 s) : Follows s0 (sharePrune s) := by
  unfold sharePrune
  dsimp only
  repeat' (first | (with_reducible first | assumption | intro _ | apply follows_modLink | apply Follows.ite))

theorem follows_bulkRefused {s0 s : State} (h : Follows s0 s) : ∀ x0, Follows s0 (bulkRefused x0 s) := by
  intro x0
  unfold bulkRefused
  repeat' (first | (with_reducible first | assumption | intro _ | apply follows_bulkDrop))

theorem follows_cutQueue {s0 s : State} (h : Follows s0 s) : ∀ x0 x1, Follows s0 (cutQueue x0 x1 s) := by
  intro x0
  induction x0 generalizing s with
  | zero => intro x1; exact h
  | succ n ih =>
    intro x1
    unfold cutQueue
    split
    · exact h
    · exact ih (follows_linkQueue h _ _ _ _ _) _

theorem follows_cutSend {s0 s : State} (h : Follows s0 s) : ∀ x0, Follows s0 (cutSend x0 s) := by
  intro x0
  unfold cutSend
  dsimp only
  repeat' (first | (with_reducible first | assumption | intro _ | apply follows_cutQueue | apply follows_linkQueue))

theorem follows_rtfStart {s0 s : State} (h : Follows s0 s) : ∀ x0, Follows s0 (rtfStart x0 s) := by
  intro x0
  unfold rtfStart
  dsimp only
  repeat' (first | (with_reducible first | assumption | intro _ | apply follows_modLink | apply follows_linkQueue))

theorem follows_bulkStart {s0 s : State} (h : Follows s0 s) : ∀ x0, Follows s0 (bulkStart x0 s) := by
  intro x0
  unfold bulkStart
  dsimp only
  repeat' (first | (with_reducible first | assumption | intro _ | apply follows_bulkSet | apply follows_cutSend | apply follows_rtfStart | apply Follows.ite))

theorem follows_bulkTimeout {s0 s : State} (h : Follows s0 s) : ∀ x0, Follows s0 (bulkTimeout x0 s) := by
  intro x0
  unfold bulkTimeout
  repeat' (first | (with_reducible first | assumption | intro _ | apply follows_bulkEnd | apply Follows.ite))

theorem follows_cutBegin {s0 s : State} (h : Follows s0 s) : ∀ x0, Follows s0 (cutBegin x0 s) := by
  intro x0
  unfold cutBegin
  dsimp only
  repeat' (first | (with_reducible first | assumption | intro _ | apply Follows.setFld | apply follows_cutAnswer | apply follows_modLink | apply Follows.each | apply Follows.ite))

theorem follows_cutPut {s0 s : State} (h : Follows s0 s) : ∀ x0 x1 x2, Follows s0 (cutPut x0 x1 x2 s) := by
  intro x0 x1 x2
  unfold cutPut
  dsimp only
  repeat' (first | (with_reducible first | assumption | intro _ | apply follows_granWrite | apply follows_plotWrite | apply Follows.ite) | split)

theorem follows_cutPlace {s0 s : State} (h : Follows s0 s) : ∀ x0 x1 x2, Follows s0 (cutPlace x0 x1 x2 s) := by
  intro x0
  induction x0 generalizing s with
  | nil => intro x1 x2; exact h
  | cons e r ih =>
    intro x1 x2
    unfold cutPlace
    split
    · exact h
    · split
      · exact ih h _ _
      · exact ih (follows_cutPut h _ _ _) _ _

theorem follows_cutFinish {s0 s : State} (h : Follows s0 s) : ∀ x0 x1, Follows s0 (cutFinish x0 x1 s) := by
  intro x0
  induction x0 generalizing s with
  | nil => intro x1; exact h
  | cons e r ih =>
    intro x1
    unfold cutFinish
    dsimp only
    repeat' (first | with_reducible assumption | with_reducible apply ih | with_reducible apply follows_cutPut | with_reducible apply follows_granRead | split)

theorem follows_cutData {s0 s : State} (h : Follows s0 s) : ∀ x0, Follows s0 (cutData x0 s) := by
  intro x0
  unfold cutData
  dsimp only
  repeat' (first | (with_reducible first | assumption | intro _ | apply follows_modLink | apply follows_cutAnswer | apply follows_cutPlace | apply follows_cutSwapReq | apply follows_cutFinish | apply Follows.ite) | split)

theorem follows_cutStat {s0 s : State} (h : Follows s0 s) : ∀ x0, Follows s0 (cutStat x0 s) := by
  intro x0
  unfold cutStat
  dsimp only
  repeat' (first | (with_reducible first | assumption | intro _ | apply follows_bulkEnd | apply Follows.ite) | split)

theorem follows_evictWritten {s0 s : State} (h : Follows s0 s) : Follows s0 (evictWritten s) := by
  unfold evictWritten
  dsimp only
  repeat' (first | (with_reducible first | assumption | intro _ | apply follows_evictCheck | apply follows_modLink | apply follows_siloWrite) | split)

theorem follows_evnAck {s0 s : State} (h : Follows s0 s) : ∀ x0, Follows s0 (evnAck x0 s) := by
  intro x0
  unfold evnAck
  dsimp only
  repeat' (first | (with_reducible first | assumption | intro _ | apply follows_evictCheck | apply follows_modLink))

theorem follows_evnIn {s0 s : State} (h : Follows s0 s) : ∀ x0, Follows s0 (evnIn x0 s) := by
  intro x0
  unfold evnIn
  dsimp only
  repeat' (first | (with_reducible first | assumption | intro _ | apply follows_linkQueue | apply follows_setTile | apply Follows.ite) | split)

theorem follows_reductionFrame {s0 s : State} (h : Follows s0 s) : Follows s0 (reductionFrame s) := by
  unfold reductionFrame
  repeat' (first | (with_reducible first | assumption | intro _ | apply follows_modLink))

theorem follows_partQueue {s0 s : State} (h : Follows s0 s) : ∀ x0 x1 x2 x3, Follows s0 (partQueue x0 x1 x2 x3 s) := by
  intro x0 x1 x2
  induction x2 generalizing s x1 with
  | zero => intro x3; exact h
  | succ n ih =>
    intro x3
    unfold partQueue
    dsimp only
    split
    · exact h
    · exact ih (follows_linkQueue h _ _ _ _ _) _ _

theorem follows_partSend {s0 s : State} (h : Follows s0 s) : ∀ x0, Follows s0 (partSend x0 s) := by
  intro x0
  unfold partSend
  repeat' (first | (with_reducible first | assumption | intro _ | apply follows_partQueue | apply Follows.each | apply Follows.ite) | split)

theorem follows_partialIn {s0 s : State} (h : Follows s0 s) : ∀ x0, Follows s0 (partialIn x0 s) := by
  intro x0
  unfold partialIn
  dsimp only
  repeat' (first | (with_reducible first | assumption | intro _ | apply follows_modLink | apply Follows.ite))

theorem follows_reductionSum {s0 s : State} (h : Follows s0 s) : Follows s0 (reductionSum s) := by
  unfold reductionSum
  dsimp only
  repeat' (first | (with_reducible first | assumption | intro _ | apply follows_detFlag | apply follows_modLink | apply follows_modField | apply Follows.ite) | split)

theorem follows_tileQueue {s0 s : State} (h : Follows s0 s) : ∀ x0 x1 x2 x3 x4, Follows s0 (tileQueue x0 x1 x2 x3 x4 s) := by
  intro x0 x1 x2 x3 x4
  unfold tileQueue
  dsimp only
  repeat' (first | (with_reducible first | assumption | intro _ | apply follows_linkQueue | apply Follows.each))

theorem follows_rtfReq {s0 s : State} (h : Follows s0 s) : ∀ x0, Follows s0 (rtfReq x0 s) := by
  intro x0
  unfold rtfReq
  dsimp only
  repeat' (first | (with_reducible first | assumption | intro _ | apply follows_granRead | apply follows_tileQueue | apply follows_linkQueue) | split)

theorem follows_shareCross {s0 s : State} (h : Follows s0 s) : ∀ x0, Follows s0 (shareCross x0 s) := by
  intro x0
  unfold shareCross
  dsimp only
  repeat' (first | (with_reducible first | assumption | intro _ | apply Follows.bump | apply follows_modObs | apply follows_modLink | apply follows_inlog | apply follows_detFlag | apply Follows.ite) | split)

theorem follows_shareQueue {s0 s : State} (h : Follows s0 s) : ∀ x0, Follows s0 (shareQueue x0 s) := by
  intro x0
  unfold shareQueue
  repeat' (first | (with_reducible first | assumption | intro _ | apply follows_linkQueueAt))

theorem follows_shareForm {s0 s : State} (h : Follows s0 s) : ∀ x0, Follows s0 (shareForm x0 s) := by
  intro x0
  unfold shareForm
  dsimp only
  repeat' (first | (with_reducible first | assumption | intro _ | apply follows_shareQueue | apply follows_modLink | apply Follows.ite))

theorem follows_shareTake {s0 s : State} (h : Follows s0 s) : ∀ x0 x1, Follows s0 (shareTake x0 x1 s) := by
  intro x0 x1
  unfold shareTake
  dsimp only
  repeat' (first | (with_reducible first | assumption | intro _ | apply follows_detFlag | apply follows_modLink | apply Follows.ite))

theorem follows_shareIn {s0 s : State} (h : Follows s0 s) : ∀ x0, Follows s0 (shareIn x0 s) := by
  intro x0
  unfold shareIn
  repeat' (first | (with_reducible first | assumption | intro _ | apply follows_shareTake))

theorem follows_shareJudge {s0 s : State} (h : Follows s0 s) : ∀ x0 x1, Follows s0 (shareJudge x0 x1 s) := by
  intro x0 x1
  unfold shareJudge
  dsimp only
  repeat' (first | (with_reducible first | assumption | intro _ | apply follows_modLink | apply follows_shareQueue | apply follows_linkQueue | apply Follows.each | apply Follows.ite) | split)

theorem follows_tileAbsent {s0 s : State} (h : Follows s0 s) : ∀ x0, Follows s0 (tileAbsent x0 s) := by
  intro x0
  unfold tileAbsent
  repeat' (first | (with_reducible first | assumption | intro _ | apply follows_bulkEnd) | split)

theorem follows_tileData {s0 s : State} (h : Follows s0 s) : ∀ x0, Follows s0 (tileData x0 s) := by
  intro x0
  unfold tileData
  dsimp only
  repeat' (first | (with_reducible first | assumption | intro _ | apply Follows.setFld | apply follows_granWrite | apply follows_bulkEnd | apply follows_setTile | apply Follows.ite) | split)

end Sys2Proof.Machine
end

