-- ==== Sys2Proof/Laws/FollowsHost.lean ====
section
/-! SUPPORT. `Follows` through every operation of power, Scarecrow, the safety commands, the loader, the host ports and the schedule. -/

namespace Sys2Proof.Machine

/-! ## Power -/

theorem follows_setPd {s0 s : State} (h : Follows s0 s) : ∀ x0 x1, Follows s0 (setPd x0 x1 s) := by
  intro x0 x1
  unfold setPd
  repeat' (first | (with_reducible first | assumption | intro _ | apply Follows.setBit))

theorem follows_pd4Down {s0 s : State} (h : Follows s0 s) : Follows s0 (pd4Down s) := by
  unfold pd4Down
  repeat' (first | (with_reducible first | assumption | intro _ | apply Follows.setFld | apply Follows.setFlag | apply follows_setPd | apply follows_linkOff | apply Follows.ite))

theorem follows_schedStop {s0 s : State} (h : Follows s0 s) : Follows s0 (schedStop s) := by
  unfold schedStop
  dsimp only
  repeat' (first | (with_reducible first | assumption | exact fun _ h => h | exact fun _ h => Bool.noConfusion h | intro _ | apply Follows.setFlag | apply follows_runsDrop | apply follows_modField | apply follows_modPow | apply Follows.mk_same))

theorem follows_setPwr {s0 s : State} (h : Follows s0 s) : ∀ x0, Follows s0 (setPwr x0 s) := by
  intro x0
  unfold setPwr
  repeat' (first | (with_reducible first | assumption | intro _ | apply Follows.setFld))

theorem follows_startNext {s0 s : State} (h : Follows s0 s) : Follows s0 (startNext s) := by
  unfold startNext
  repeat' (first | (with_reducible first | assumption | intro _ | apply Follows.setFlag | apply follows_trainStart | apply follows_setPd | apply follows_setPwr | apply Follows.ite))

theorem follows_pd3Request {s0 s : State} (h : Follows s0 s) : Follows s0 (pd3Request s) := by
  unfold pd3Request
  repeat' (first | (with_reducible first | assumption | exact fun _ h => h | exact fun _ h => Bool.noConfusion h | intro _ | apply follows_trnRequest | apply follows_modPow))

theorem follows_pd3Begin {s0 s : State} (h : Follows s0 s) : Follows s0 (pd3Begin s) := by
  unfold pd3Begin
  repeat' (first | (with_reducible first | assumption | exact fun _ h => h | exact fun _ h => Bool.noConfusion h | intro _ | apply follows_pd3Request | apply follows_modPow | apply Follows.ite))

theorem follows_calAll {s0 s : State} (h : Follows s0 s) : Follows s0 (calAll s) := by
  unfold calAll
  repeat' (first | (with_reducible first | assumption | intro _ | apply Follows.setFlag | apply Follows.each | apply Follows.ite))

theorem follows_pinsKeep {s0 s : State} (h : Follows s0 s) : ∀ o, Follows s0 (pinsKeep o s) := by
  intro o
  unfold pinsKeep
  refine Follows.setFlag (follows_modSaf (h.each (fun _ _ hx => follows_modPwm hx _ _)) _ ?_) _ _
  exact fun _ h => h

theorem follows_powerOnReset {s0 s : State} (h : Follows s0 s) : Follows s0 (powerOnReset s) := by
  unfold powerOnReset
  apply follows_pinsKeep
  refine ⟨⟨h.pending, h.part, fun hk => ?_, h.free, fun _ => rfl, fun _ => rfl⟩, fun hr => by cases hr⟩
  have := h.kept hk
  simp only [State.kept, Bool.and_eq_true] at this ⊢
  exact ⟨by decide, this.2⟩

theorem follows_fullReset {s0 s : State} (h : Follows s0 s) : ∀ x0, Follows s0 (fullReset x0 s) := by
  intro x0
  unfold fullReset
  dsimp only
  repeat' (first | (with_reducible first | assumption | intro _ | apply Follows.setReg | apply Follows.setFlag | apply follows_powerOnReset))

theorem follows_fuseReset {s0 s : State} (h : Follows s0 s) : ∀ x0, Follows s0 (fuseReset x0 s) := by
  intro x0
  unfold fuseReset
  repeat' (first | (with_reducible first | assumption | intro _ | apply follows_setPwr | apply follows_fullReset))

theorem follows_borReset {s0 s : State} (h : Follows s0 s) : Follows s0 (borReset s) := by
  unfold borReset
  repeat' (first | (with_reducible first | assumption | intro _ | apply follows_fuseReset | apply Follows.ite))

theorem follows_rstCtrl {s0 s : State} (h : Follows s0 s) : ∀ x0, Follows s0 (rstCtrl x0 s) := by
  intro x0
  unfold rstCtrl
  repeat' (first | (with_reducible first | assumption | intro _ | apply follows_fuseReset | apply Follows.ite))

theorem follows_wakeStart {s0 s : State} (h : Follows s0 s) : ∀ x0 x1 x2, Follows s0 (wakeStart x0 x1 x2 s) := by
  intro x0 x1 x2
  unfold wakeStart
  dsimp only
  repeat' (first | (with_reducible first | assumption | exact fun _ h => h | exact fun _ h => Bool.noConfusion h | intro _ | apply Follows.setFld | apply follows_setPd | apply follows_setPwr | apply follows_modPow | apply follows_pd3Begin | apply Follows.ite))

theorem follows_wakeCause {s0 s : State} (h : Follows s0 s) : ∀ x0 x1 x2, Follows s0 (wakeCause x0 x1 x2 s) := by
  intro x0 x1 x2
  unfold wakeCause
  repeat' (first | (with_reducible first | assumption | exact fun _ h => h | exact fun _ h => Bool.noConfusion h | intro _ | apply Follows.setFld | apply follows_modPow | apply follows_setPwr | apply follows_wakeStart | apply Follows.ite))

theorem follows_sleepRequest {s0 s : State} (h : Follows s0 s) : Follows s0 (sleepRequest s) := by
  unfold sleepRequest
  dsimp only
  repeat' (first | (with_reducible first | assumption | exact fun _ h => h | exact fun _ h => Bool.noConfusion h | intro _ | apply Follows.setFld | apply follows_modPow | apply follows_setPwr | apply Follows.ite))

theorem follows_pd3Ack {s0 s : State} (h : Follows s0 s) : Follows s0 (pd3Ack s) := by
  unfold pd3Ack
  dsimp only
  repeat' (first | (with_reducible first | assumption | exact fun _ h => h | exact fun _ h => Bool.noConfusion h | intro _ | apply follows_modPow | apply follows_pd3Request | apply Follows.ite))

theorem follows_fldRepair {s0 s : State} (h : Follows s0 s) : ∀ x0, Follows s0 (fldRepair x0 s) := by
  intro v
  unfold fldRepair
  split
  · exact ⟨⟨h.pending, by rw [h.part], h.kept, h.free, h.books, h.rets⟩, h.run⟩
  · exact h

theorem follows_clockFault {s0 s : State} (h : Follows s0 s) : ∀ x0, Follows s0 (clockFault x0 s) := by
  intro x0
  unfold clockFault
  dsimp only
  repeat' (first | (with_reducible first | assumption | exact fun _ h => h | exact fun _ h => Bool.noConfusion h | intro _ | apply Follows.setFlag | apply follows_safeDemand | apply follows_modPow | apply follows_fuseReset | apply Follows.ite))

theorem follows_declareZero {s0 s : State} (h : Follows s0 s) : Follows s0 (declareZero s) := by
  unfold declareZero
  dsimp only
  repeat' (first | (with_reducible first | assumption | exact fun _ h => h | exact fun _ h => Bool.noConfusion h | intro _ | apply Follows.setFlag | apply follows_setPwr | apply follows_modPow))

theorem follows_needImage {s0 s : State} (h : Follows s0 s) : Follows s0 (needImage s) := by
  unfold needImage
  repeat' (first | (with_reducible first | assumption | intro _ | apply Follows.setFlag | apply Follows.each | apply Follows.ite))

theorem follows_wakeAligned {s0 s : State} (h : Follows s0 s) : Follows s0 (wakeAligned s) := by
  unfold wakeAligned
  dsimp only
  repeat' (first | (with_reducible first | assumption | exact fun _ h => h | exact fun _ h => Bool.noConfusion h | intro _ | apply Follows.setFlag | apply follows_calAll | apply follows_setPd | apply follows_trainStart | apply follows_modPow | apply follows_needImage | apply Follows.ite))

theorem follows_dividersAligned {s0 s : State} (h : Follows s0 s) : Follows s0 (dividersAligned s) := by
  unfold dividersAligned
  dsimp only
  repeat' (first | (with_reducible first | assumption | exact fun _ h => h | exact fun _ h => Bool.noConfusion h | intro _ | apply Follows.setFld | apply Follows.setFlag | apply follows_wakeAligned | apply follows_modPow | apply follows_setPwr | apply follows_modLdr | apply Follows.ite))

theorem follows_pd5Down {s0 s : State} (h : Follows s0 s) : Follows s0 (pd5Down s) := by
  unfold pd5Down
  dsimp only
  repeat' (first | (with_reducible first | assumption | intro _ | apply follows_stdStop | apply follows_scanEndWhy | apply follows_winFail | apply follows_setPd | apply Follows.each | apply Follows.ite))

theorem wf_filter {α : Type} [DecidableEq α] {d : Nat → α} {m : SMap α} (h : SMap.wf d m = true) (p : Nat × α → Bool) :
    SMap.wf d (m.filter p) = true := by
  rw [SMap.wf_iff] at h ⊢
  exact ⟨h.1.filter _, fun e he => h.2 e (List.mem_filter.1 he).1⟩

theorem follows_pd3Down {s0 s : State} (h : Follows s0 s) : Follows s0 (pd3Down s) := by
  unfold pd3Down
  have h1 := follows_scansPd3 (follows_setPd (follows_plannedEnd (follows_runsDrop h (fun e => e.op != 3)) bistIdx) 3 false)
  dsimp only
  exact follows_modPow (follows_modField (h1.mems (fun w => wf_filter w _) (fun _ => SMap.wf_nil _) id) _) _ (fun _ h => h)

theorem follows_domainsOff {s0 s : State} (h : Follows s0 s) : Follows s0 (domainsOff s) := by
  unfold domainsOff
  dsimp only
  repeat' (first | (with_reducible first | assumption | intro _ | apply Follows.setFlag | apply follows_pd5Down | apply follows_pd3Down | apply follows_pd4Down | apply follows_schedStop | apply follows_trnEnd | apply follows_setPd | apply follows_auxOff | apply follows_modSense | apply Follows.each))

theorem follows_nresetRelease {s0 s : State} (h : Follows s0 s) : ∀ x0, Follows s0 (nresetRelease x0 s) := by
  intro x0
  unfold nresetRelease
  dsimp only
  repeat' (first | (with_reducible first | assumption | exact fun _ h => h | exact fun _ h => Bool.noConfusion h | intro _ | apply Follows.setFld | apply follows_setPwr | apply follows_modPow | apply follows_modLdr | apply Follows.ite))

theorem follows_pd3Release {s0 s : State} (h : Follows s0 s) : Follows s0 (pd3Release s) := by
  unfold pd3Release
  repeat' (first | (with_reducible first | assumption | intro _ | apply follows_trnEnd | apply Follows.ite))

theorem follows_pd3Fail {s0 s : State} (h : Follows s0 s) : Follows s0 (pd3Fail s) := by
  unfold pd3Fail
  dsimp only
  repeat' (first | (with_reducible first | assumption | exact fun _ h => h | exact fun _ h => Bool.noConfusion h | intro _ | apply Follows.setFlag | apply follows_modPow | apply follows_startNext | apply follows_pd3Release))

theorem follows_pd3Good {s0 s : State} (h : Follows s0 s) : Follows s0 (pd3Good s) := by
  unfold pd3Good
  repeat' (first | (with_reducible first | assumption | exact fun _ h => h | exact fun _ h => Bool.noConfusion h | intro _ | apply follows_startNext | apply follows_pd3Release | apply follows_modPow | apply follows_setPd | apply Follows.ite))

theorem follows_pd3Granted {s0 s : State} (h : Follows s0 s) : Follows s0 (pd3Granted s) := by
  unfold pd3Granted
  repeat' (first | (with_reducible first | assumption | exact fun _ h => h | exact fun _ h => Bool.noConfusion h | intro _ | apply follows_modPow))

theorem follows_pd3Lost {s0 s : State} (h : Follows s0 s) : Follows s0 (pd3Lost s) := by
  unfold pd3Lost
  dsimp only
  repeat' (first | (with_reducible first | assumption | exact fun _ h => h | exact fun _ h => Bool.noConfusion h | intro _ | apply Follows.setFlag | apply follows_pd3Fail | apply follows_pd3Down | apply follows_modPow | apply follows_detFlag | apply follows_doubtAxes | apply Follows.ite))

theorem follows_pgoodTimeout {s0 s : State} (h : Follows s0 s) : Follows s0 (pgoodTimeout s) := by
  unfold pgoodTimeout
  repeat' (first | (with_reducible first | assumption | intro _ | apply follows_pd3Fail | apply Follows.ite))

theorem follows_pinReset {s0 s : State} (h : Follows s0 s) : Follows s0 (pinReset s) := by
  unfold pinReset
  dsimp only
  repeat' (first | (with_reducible first | assumption | intro _ | apply Follows.setFlag | apply follows_fullReset | apply Follows.ite))

theorem follows_pllLock {s0 s : State} (h : Follows s0 s) : Follows s0 (pllLock s) := by
  unfold pllLock
  repeat' (first | (with_reducible first | assumption | intro _ | apply Follows.setFlag | apply Follows.ite))

theorem follows_readyStep {s0 s : State} (h : Follows s0 s) : Follows s0 (readyStep s) := by
  unfold readyStep
  repeat' (first | (with_reducible first | assumption | intro _ | apply follows_declareZero | apply Follows.ite))

theorem follows_refDetect {s0 s : State} (h : Follows s0 s) : ∀ x0, Follows s0 (refDetect x0 s) := by
  intro x0
  unfold refDetect
  dsimp only
  repeat' (first | (with_reducible first | assumption | exact fun _ h => h | exact fun _ h => Bool.noConfusion h | intro _ | apply Follows.setFlag | apply follows_fuseReset | apply follows_modPow | apply follows_setPwr | apply follows_setPd | apply Follows.ite) | split)

theorem follows_safePowerOff {s0 s : State} (h : Follows s0 s) : Follows s0 (safePowerOff s) := by
  unfold safePowerOff
  dsimp only
  repeat' (first | (with_reducible first | assumption | intro _ | apply follows_setPwr | apply follows_domainsOff | apply follows_fuseReset | apply Follows.ite))

theorem follows_sleepEntry {s0 s : State} {x0 : TrnReq → State → State} (hx : ∀ r t, Follows s0 t → Follows s0 (x0 r t)) (h : Follows s0 s) : Follows s0 (sleepEntry x0 s) := by
  unfold sleepEntry
  dsimp only
  have h1 : Follows s0 ((domainsOff (trnShow (s.each s.trn.queue fun s r => trnRefuse x0 r s))).modPow fun p => { p with sleepReq := false }) :=
    follows_modPow (follows_domainsOff (follows_trnShow (h.each (fun _ r ht => follows_trnRefuse hx ht r)))) _ (fun _ h => h)
  revert h1
  generalize ((domainsOff (trnShow (s.each s.trn.queue fun s r => trnRefuse x0 r s))).modPow fun p => { p with sleepReq := false }) = t
  intro h1
  have h2 : Follows s0 { t with gran := [] } := h1.mems (fun _ => SMap.wf_nil _) id id
  repeat' (first | with_reducible assumption | with_reducible apply follows_setPwr | with_reducible apply follows_modField | with_reducible apply follows_modPow | exact fun _ h => h | split)

theorem follows_supplyTrip {s0 s : State} (h : Follows s0 s) : ∀ x0, Follows s0 (supplyTrip x0 s) := by
  intro x0
  unfold supplyTrip
  dsimp only
  repeat' (first | (with_reducible first | assumption | exact fun _ h => h | exact fun _ h => Bool.noConfusion h | intro _ | apply Follows.setFld | apply follows_safeDemand | apply follows_modPow | apply Follows.ite))

theorem follows_tlSupplyTrip {s0 s : State} (h : Follows s0 s) : Follows s0 (tlSupplyTrip s) := by
  unfold tlSupplyTrip
  dsimp only
  repeat' (first | (with_reducible first | assumption | intro _ | apply Follows.setFld | apply Follows.setBit | apply follows_linkOff | apply Follows.ite))

theorem follows_wakeComplete {s0 s : State} (h : Follows s0 s) : Follows s0 (wakeComplete s) := by
  unfold wakeComplete
  repeat' (first | (with_reducible first | assumption | intro _ | apply follows_declareZero | apply Follows.ite))

/-! ## Scarecrow -/

theorem follows_scanReset {s0 s : State} (h : Follows s0 s) : Follows s0 (scanReset s) := by
  unfold scanReset
  repeat' (first | (with_reducible first | assumption | intro _ | apply follows_modScw))

theorem follows_setRule {s0 s : State} (h : Follows s0 s) : ∀ x0 x1, Follows s0 (setRule x0 x1 s) := by
  intro x0 x1
  unfold setRule
  repeat' (first | (with_reducible first | assumption | intro _ | apply follows_modScw))

theorem follows_firedWrite {s0 s : State} (h : Follows s0 s) : ∀ x0, Follows s0 (firedWrite x0 s) := by
  intro x0
  unfold firedWrite
  dsimp only
  repeat' (first | (with_reducible first | assumption | intro _ | apply Follows.setReg | apply follows_setRule | apply Follows.each | apply Follows.ite))

theorem follows_filtersRun {s0 s : State} (h : Follows s0 s) : ∀ x0 x1, Follows s0 (filtersRun x0 x1 s).2 := by
  intro x0 x1
  unfold filtersRun
  dsimp only
  repeat' (first | (with_reducible first | assumption | intro _ | apply Follows.setFld | apply follows_modScw | apply Follows.foldl | apply Follows.foldl_snd | apply Follows.ite) | split)

theorem follows_logTake {s0 s : State} (h : Follows s0 s) : Follows s0 (logTake s) := by
  unfold logTake
  repeat' (first | (with_reducible first | assumption | intro _ | apply follows_modScw))

theorem follows_logPut {s0 s : State} (h : Follows s0 s) : ∀ x0, Follows s0 (logPut x0 s) := by
  intro x0
  unfold logPut
  repeat' (first | (with_reducible first | assumption | intro _ | apply Follows.bump | apply follows_modScw | apply Follows.ite))

theorem follows_modSpin {s0 s : State} (h : Follows s0 s) : ∀ x0 x1, Follows s0 (modSpin x0 x1 s) := by
  intro x0 x1
  unfold modSpin
  repeat' (first | (with_reducible first | assumption | intro _ | apply follows_modScw))

theorem follows_ruleEval {s0 s : State} (h : Follows s0 s) : ∀ x0 x1, Follows s0 (ruleEval x0 x1 s).2 := by
  intro x0 x1
  unfold ruleEval
  dsimp only
  repeat' (first | (with_reducible first | assumption | intro _ | apply follows_setRule | apply Follows.ite) | split)

theorem follows_rulesFire {s0 s : State} (h : Follows s0 s) : ∀ x0, Follows s0 (rulesFire x0 s) := by
  intro x0
  unfold rulesFire
  dsimp only
  repeat' (first | (with_reducible first | assumption | intro _ | apply Follows.setBit | apply follows_logPut | apply follows_raise | apply follows_safeDemand | apply follows_wakeCause | apply Follows.each | apply Follows.ite) | split)

theorem follows_rulesRun {s0 s : State} (h : Follows s0 s) : ∀ x0, Follows s0 (rulesRun x0 s).2 := by
  intro x0
  unfold rulesRun
  dsimp only
  repeat' (first | (with_reducible first | assumption | intro _ | apply follows_ruleEval | apply Follows.foldl | apply Follows.foldl_snd | apply Follows.ite) | split)

theorem follows_slotEnd {s0 s : State} (h : Follows s0 s) : ∀ x0, Follows s0 (slotEnd x0 s) := by
  intro x0
  unfold slotEnd
  dsimp only
  repeat' (first | (with_reducible first | assumption | intro _ | apply Follows.setFld | apply follows_filtersRun | apply follows_rulesRun | apply follows_modScw | apply follows_rulesFire | apply Follows.ite) | split)

theorem follows_spinChange {s0 s : State} (h : Follows s0 s) : ∀ x0 x1 x2 x3, Follows s0 (spinChange x0 x1 x2 x3 s) := by
  intro x0 x1 x2 x3
  unfold spinChange
  dsimp only
  repeat' (first | (with_reducible first | assumption | intro _ | apply Follows.setFld | apply Follows.bump | apply follows_modSpin | apply Follows.ite))

theorem follows_spinRestart {s0 s : State} (h : Follows s0 s) : ∀ x0, Follows s0 (spinRestart x0 s) := by
  intro x0
  unfold spinRestart
  dsimp only
  repeat' (first | (with_reducible first | assumption | intro _ | apply Follows.setFld | apply Follows.setFlag | apply follows_modSpin | apply Follows.ite))

theorem follows_spinStill {s0 s : State} (h : Follows s0 s) : ∀ x0, Follows s0 (spinStill x0 s) := by
  intro x0
  unfold spinStill
  repeat' (first | (with_reducible first | assumption | intro _ | apply Follows.setFld | apply follows_modSpin | apply Follows.ite))

/-! ## SafeCmd -/

theorem follows_axstopEnd {s0 s : State} (h : Follows s0 s) : ∀ x0, Follows s0 (axstopEnd x0 s) := by
  intro x0
  unfold axstopEnd
  dsimp only
  repeat' (first | (with_reducible first | assumption | exact fun _ h => h | exact fun _ h => Bool.noConfusion h | intro _ | apply Follows.setBit | apply follows_modSaf | apply follows_startOnHeadland | apply follows_axstopRefresh | apply Follows.ite))

theorem follows_axstopAck {s0 s : State} (h : Follows s0 s) : ∀ x0, Follows s0 (axstopAck x0 s) := by
  intro x0
  unfold axstopAck
  dsimp only
  repeat' (first | (with_reducible first | assumption | exact fun _ h => h | exact fun _ h => Bool.noConfusion h | intro _ | apply follows_modSaf | apply follows_axstopEnd | apply Follows.each))

theorem follows_rotOpen {s0 s : State} (h : Follows s0 s) : Follows s0 (rotOpen s) := by
  unfold rotOpen
  split
  · exact h
  · extract_lets n i s1 t
    have h1 : Follows s0 s1 := ((h.setFld _ _).setFld _ _).setFld _ _
    clear_value s1
    exact h1.mk_same ..

theorem follows_doubtAck {s0 s : State} (h : Follows s0 s) : ∀ x0, Follows s0 (doubtAck x0 s) := by
  intro x0
  unfold doubtAck
  repeat' (first | (with_reducible first | assumption | intro _ | apply Follows.setReg | apply follows_setRet | apply Follows.each | apply Follows.ite))

theorem follows_stoAck {s0 s : State} (h : Follows s0 s) : Follows s0 (stoAck s) := by
  unfold stoAck
  repeat' (first | (with_reducible first | assumption | exact fun _ h => h | exact fun _ h => Bool.noConfusion h | intro _ | apply Follows.setFlag | apply follows_modSaf | apply Follows.ite))

theorem follows_demandWrite {s0 s : State} (h : Follows s0 s) : ∀ x0, Follows s0 (demandWrite x0 s) := by
  intro x0
  unfold demandWrite
  repeat' (first | (with_reducible first | assumption | intro _ | apply follows_safeDemand | apply Follows.ite))

theorem follows_relRefuse {s0 s : State} (h : Follows s0 s) : ∀ x0, Follows s0 (relRefuse x0 s) := by
  intro x0
  unfold relRefuse
  repeat' (first | (with_reducible first | assumption | exact fun _ h => h | exact fun _ h => Bool.noConfusion h | intro _ | apply Follows.setFld | apply Follows.setFlag | apply follows_modSaf))

theorem follows_relAccept {s0 s : State} (h : Follows s0 s) : Follows s0 (relAccept s) := by
  unfold relAccept
  dsimp only
  repeat' (first | (with_reducible first | assumption | intro _ | apply Follows.setFld | apply Follows.setFlag | apply follows_relRefuse | apply follows_wakeStart | apply follows_pairOut))

theorem follows_relWrite {s0 s : State} (h : Follows s0 s) : ∀ x0 x1, Follows s0 (relWrite x0 x1 s) := by
  intro x0 x1
  unfold relWrite
  repeat' (first | (with_reducible first | assumption | exact fun _ h => h | exact fun _ h => Bool.noConfusion h | intro _ | apply Follows.setFlag | apply follows_relRefuse | apply follows_relAccept | apply follows_modSaf | apply Follows.ite) | split)

theorem follows_rotPass {s0 s : State} (h : Follows s0 s) : ∀ x0, Follows s0 (rotPass x0 s) := by
  intro x0
  unfold rotPass
  dsimp only
  repeat' (first | (with_reducible first | assumption | intro _ | apply Follows.setFld))

theorem follows_rotClose {s0 s : State} (h : Follows s0 s) : Follows s0 (rotClose s) := by
  unfold rotClose
  dsimp only
  repeat' (first | (with_reducible first | assumption | intro _ | apply Follows.setFld | apply Follows.setBit | apply Follows.bump | apply follows_rotPass | apply follows_raiseDoubt | apply Follows.ite))

theorem follows_gdenMismatch {s0 s : State} (h : Follows s0 s) : Follows s0 (gdenMismatch s) := by
  unfold gdenMismatch
  repeat' (first | (with_reducible first | assumption | intro _ | apply follows_safeDemand))

theorem follows_pairIn {s0 s : State} (h : Follows s0 s) : ∀ x0, Follows s0 (pairIn x0 s) := by
  intro x0
  unfold pairIn
  dsimp only
  repeat' (first | (with_reducible first | assumption | exact fun _ h => h | exact fun _ h => Bool.noConfusion h | intro _ | apply follows_modSaf | apply follows_safeDemand | apply Follows.ite))

theorem follows_relTimeout {s0 s : State} (h : Follows s0 s) : Follows s0 (relTimeout s) := by
  unfold relTimeout
  repeat' (first | (with_reducible first | assumption | intro _ | apply follows_relRefuse | apply Follows.ite))

theorem follows_rotFail {s0 s : State} (h : Follows s0 s) : ∀ x0, Follows s0 (rotFail x0 s) := by
  intro x0
  unfold rotFail
  dsimp only
  repeat' (first | (with_reducible first | assumption | intro _ | apply Follows.setBit | apply follows_safeDemand | apply follows_raiseDoubt | apply Follows.each | apply Follows.ite))

theorem follows_safeNRead {s0 s : State} (h : Follows s0 s) : ∀ x0, Follows s0 (safeNRead x0 s) := by
  intro x0
  unfold safeNRead
  dsimp only
  repeat' (first | (with_reducible first | assumption | exact fun _ h => h | exact fun _ h => Bool.noConfusion h | intro _ | apply Follows.setFlag | apply follows_modSaf | apply follows_raiseDoubt | apply Follows.ite))

theorem follows_sliceEnd {s0 s : State} (h : Follows s0 s) : ∀ x0, Follows s0 (sliceEnd x0 s) := by
  intro x0
  unfold sliceEnd
  split
  · exact h
  · extract_lets r0 s1
    have h1 : Follows s0 s1 := h.mk_same ..
    clear_value s1
    exact Follows.ite (follows_rotPass h1 _) (follows_rotFail ((h1.setFld _ _).setFld _ _) _)

theorem follows_sliceStart {s0 s : State} (h : Follows s0 s) : ∀ x0 x1 x2, Follows s0 (sliceStart x0 x1 x2 s) := by
  intro x0 x1 x2
  have h1 : ∀ r, Follows s0 { s with rot := r } := fun _ => h.mk_same ..
  unfold sliceStart
  split
  · exact h
  · split
    · exact h
    · exact Follows.ite (h1 _) h

theorem follows_stoCount {s0 s : State} (h : Follows s0 s) : ∀ x0 x1, Follows s0 (stoCount x0 x1 s) := by
  intro x0 x1
  unfold stoCount
  repeat' (first | (with_reducible first | assumption | exact fun _ h => h | exact fun _ h => Bool.noConfusion h | intro _ | apply Follows.setFld | apply Follows.bump | apply follows_modSaf | apply Follows.ite))

theorem follows_stoEnd {s0 s : State} (h : Follows s0 s) : Follows s0 (stoEnd s) := by
  unfold stoEnd
  dsimp only
  repeat' (first | (with_reducible first | assumption | intro _ | apply Follows.setFlag | apply follows_axstopRefresh | apply follows_modLoop | apply Follows.each))

theorem follows_stoLatch {s0 s : State} (h : Follows s0 s) : ∀ x0 x1, Follows s0 (stoLatch x0 x1 s) := by
  intro x0 x1
  unfold stoLatch
  dsimp only
  repeat' (first | (with_reducible first | assumption | exact fun _ h => h | exact fun _ h => Bool.noConfusion h | intro _ | apply Follows.setFlag | apply follows_modSaf | apply Follows.ite))

theorem follows_stoStop {s0 s : State} (h : Follows s0 s) : ∀ x0 x1, Follows s0 (stoStop x0 x1 s) := by
  intro x0 x1
  unfold stoStop
  dsimp only
  repeat' (first | (with_reducible first | assumption | exact fun _ h => h | exact fun _ h => Bool.noConfusion h | intro _ | apply Follows.setFlag | apply follows_modSaf | apply follows_driveOff | apply follows_auxKillNow | apply follows_axstopRefresh | apply Follows.each | apply Follows.ite))

theorem follows_stoTick {s0 s : State} (h : Follows s0 s) : ∀ x0 x1, Follows s0 (stoTick x0 x1 s) := by
  intro x0 x1
  unfold stoTick
  dsimp only
  repeat' (first | (with_reducible first | assumption | exact fun _ h => h | exact fun _ h => Bool.noConfusion h | intro _ | apply Follows.setFlag | apply follows_stoStop | apply follows_modSaf | apply follows_stoLatch | apply follows_stoCount | apply follows_stoEnd | apply Follows.ite))

/-! ## Image -/

theorem follows_placeBlobs {s0 s : State} (h : Follows s0 s) : ∀ x0 x1, Follows s0 (placeBlobs x0 x1 s) := by
  intro x0 x1
  unfold placeBlobs
  repeat' (first | (with_reducible first | assumption | intro _ | apply follows_granWrite | apply follows_siloWrite | apply Follows.each | apply Follows.ite) | split)

theorem follows_loadImg {s0 s : State} (h : Follows s0 s) : ∀ x0 x1, Follows s0 (loadImg x0 x1 s) := by
  intro x0 x1
  unfold loadImg
  dsimp only
  repeat' (first | (with_reducible first | assumption | intro _ | apply Follows.setReg))

theorem follows_loadRegsets {s0 s : State} (h : Follows s0 s) : ∀ x0 x1, Follows s0 (loadRegsets x0 x1 s) := by
  intro x0 x1
  unfold loadRegsets
  repeat' (first | (with_reducible first | assumption | intro _ | apply follows_loadImg | apply Follows.each))

theorem follows_clearImg {s0 s : State} (h : Follows s0 s) : ∀ x0, Follows s0 (clearImg x0 s) := by
  intro x0
  unfold clearImg
  repeat' (first | (with_reducible first | assumption | intro _ | apply Follows.setReg | apply Follows.each | apply Follows.ite))

theorem follows_rotCond {s0 s : State} (h : Follows s0 s) : Follows s0 (rotCond s) := by
  unfold rotCond
  dsimp only
  repeat' (first | (with_reducible first | assumption | intro _ | apply Follows.setFld | apply Follows.setFlag))

theorem follows_putWords {s0 s : State} (h : Follows s0 s) : ∀ x0 x1, Follows s0 (putWords x0 x1 s) := by
  intro x0 x1
  unfold putWords
  repeat' (first | (with_reducible first | assumption | intro _ | apply Follows.setReg | apply Follows.foldl | apply Follows.foldl_snd))

theorem follows_loadGraph {s0 s : State} (h : Follows s0 s) : ∀ x0 x1, Follows s0 (loadGraph x0 x1 s) := by
  intro x0 x1
  unfold loadGraph
  dsimp only
  repeat' (first | (with_reducible first | assumption | intro _ | apply Follows.setFld | apply Follows.setFlag | apply follows_putWords))

theorem follows_loadAxis {s0 s : State} (h : Follows s0 s) : ∀ x0 x1, Follows s0 (loadAxis x0 x1 s) := by
  intro x0 x1
  unfold loadAxis
  dsimp only
  repeat' (first | (with_reducible first | assumption | intro _ | apply Follows.setFld | apply follows_loadGraph | apply follows_mlimUpdate))

theorem follows_loadDerived {s0 s : State} (h : Follows s0 s) : ∀ x0, Follows s0 (loadDerived x0 s) := by
  intro x0
  unfold loadDerived
  dsimp only
  repeat' (first | (with_reducible first | assumption | intro _ | apply Follows.setFld | apply Follows.setFlag | apply follows_rotCond | apply follows_loadAxis | apply Follows.each | apply Follows.ite))

theorem follows_loadSigs {s0 s : State} (h : Follows s0 s) : ∀ x0 x1, Follows s0 (loadSigs x0 x1 s) := by
  intro x0 x1
  unfold loadSigs
  dsimp only
  repeat' (first | (with_reducible first | assumption | intro _ | apply Follows.setFld | apply Follows.each | apply Follows.ite))

theorem follows_loadCuts {s0 s : State} (h : Follows s0 s) : ∀ x0, Follows s0 (loadCuts x0 s) := by
  intro x0
  unfold loadCuts
  dsimp only
  repeat' (first | (with_reducible first | assumption | intro _ | apply Follows.setFld | apply Follows.setFlag | apply follows_modField | apply Follows.each))

theorem follows_loadQueue {s0 s : State} (h : Follows s0 s) : ∀ x0, Follows s0 (loadQueue x0 s) := by
  intro x0
  unfold loadQueue
  dsimp only
  repeat' (first | (with_reducible first | assumption | intro _ | apply Follows.setFld | apply Follows.setFlag))

theorem follows_loadTables {s0 s : State} (h : Follows s0 s) : ∀ x0, Follows s0 (loadTables x0 s) := by
  intro x0
  unfold loadTables
  dsimp only
  repeat' (first | (with_reducible first | assumption | intro _ | apply follows_modField | apply follows_loadSigs | apply follows_loadCuts | apply follows_putWords | apply follows_loadQueue | apply follows_modLdr | apply follows_modLink | apply Follows.each | apply Follows.mk_same))

theorem follows_configure {s0 s : State} (h : Follows s0 s) : ∀ x0, Follows s0 (configure x0 s) := by
  intro x0
  unfold configure
  dsimp only
  repeat' (first | (with_reducible first | assumption | intro _ | apply Follows.setFld | apply Follows.setFlag | apply follows_loadRegsets | apply follows_clearImg | apply follows_modLdr | apply follows_loadDerived | apply follows_loadTables))

theorem follows_configureTenant {s0 s : State} (h : Follows s0 s) : ∀ x0 x1, Follows s0 (configureTenant x0 x1 s) := by
  intro x0 x1
  unfold configureTenant
  dsimp only
  repeat' (first | (with_reducible first | assumption | intro _ | apply Follows.setReg | apply follows_loadRegsets | apply follows_clearImg | apply follows_modField | apply follows_loadAxis | apply follows_loadSigs | apply follows_loadCuts | apply follows_modLdr | apply Follows.each))

theorem follows_fillPlots {s0 s : State} (h : Follows s0 s) : ∀ x0 x1, Follows s0 (fillPlots x0 x1 s) := by
  intro x0 x1
  unfold fillPlots
  repeat' (first | (with_reducible first | assumption | intro _ | apply follows_plotWrite | apply Follows.each | apply Follows.ite) | split)

theorem follows_refill {s0 s : State} (h : Follows s0 s) : ∀ x0 x1, Follows s0 (refill x0 x1 s) := by
  intro x0 x1
  unfold refill
  dsimp only
  repeat' (first | (with_reducible first | assumption | intro _ | apply follows_granWrite) | split)

theorem follows_refillRetained {s0 s : State} (h : Follows s0 s) : ∀ x0, Follows s0 (refillRetained x0 s) := by
  intro x0
  unfold refillRetained
  repeat' (first | (with_reducible first | assumption | intro _ | apply follows_refill | apply Follows.each))

theorem follows_restoreGran {s0 s : State} (h : Follows s0 s) : ∀ x0, Follows s0 (restoreGran x0 s) := by
  intro x0
  unfold restoreGran
  dsimp only
  repeat' (first | (with_reducible first | assumption | intro _ | apply follows_refill | apply Follows.each))

/-! ## Loader -/

theorem follows_applyFull {s0 s : State} (h : Follows s0 s) : Follows s0 (applyFull s) := by
  unfold applyFull
  dsimp only
  repeat' (first | (with_reducible first | assumption | exact fun _ h => h | exact fun _ h => Bool.noConfusion h | intro _ | apply Follows.setFld | apply Follows.setFlag | apply follows_auxOff | apply follows_pd4Down | apply follows_schedStop | apply follows_placeBlobs | apply follows_configure | apply follows_modLdr | apply follows_modPow | apply follows_setPd | apply follows_setPwr | apply follows_modLoop | apply follows_queRestart | apply follows_startNext | apply follows_pd3Begin | apply follows_calAll | apply follows_scanReset | apply follows_trnStart | apply Follows.each | apply Follows.ite))

theorem follows_applyTenant {s0 s : State} (h : Follows s0 s) : ∀ x0, Follows s0 (applyTenant x0 s) := by
  intro x0
  unfold applyTenant
  dsimp only
  repeat' (first | (with_reducible first | assumption | intro _ | apply Follows.setFld | apply Follows.setFlag | apply Follows.setBit | apply follows_placeBlobs | apply follows_configureTenant | apply follows_fillPlots | apply follows_modLdr | apply Follows.ite))

theorem follows_imageGone {s0 s : State} (h : Follows s0 s) : Follows s0 (imageGone s) := by
  unfold imageGone
  dsimp only
  repeat' (first | (with_reducible first | assumption | intro _ | apply Follows.setFlag | apply follows_auxOff | apply follows_pd4Down | apply follows_schedStop | apply follows_scanReset | apply follows_clearImg | apply follows_modField | apply follows_modLdr | apply Follows.mk_same))

theorem follows_loadFailed {s0 s : State} (h : Follows s0 s) : ∀ x0 x1 x2, Follows s0 (loadFailed x0 x1 x2 s) := by
  intro x0 x1 x2
  unfold loadFailed
  dsimp only
  repeat' (first | (with_reducible first | assumption | intro _ | apply Follows.setReg | apply Follows.setFld | apply Follows.setFlag | apply Follows.setBit | apply follows_modLdr | apply follows_setPwr | apply follows_imageGone | apply follows_tenFault | apply Follows.ite))

theorem follows_loadStop {s0 s : State} (h : Follows s0 s) : ∀ x0, Follows s0 (loadStop x0 s) := by
  intro x0
  unfold loadStop
  dsimp only
  repeat' (first | (with_reducible first | assumption | intro _ | apply follows_loadFailed))

theorem follows_loadAbort {s0 s : State} (h : Follows s0 s) : Follows s0 (loadAbort s) := by
  unfold loadAbort
  repeat' (first | (with_reducible first | assumption | intro _ | apply follows_loadStop | apply Follows.ite))

theorem follows_loadStart {s0 s : State} (h : Follows s0 s) : ∀ x0, Follows s0 (loadStart x0 s) := by
  intro x0
  unfold loadStart
  dsimp only
  repeat' (first | (with_reducible first | assumption | intro _ | apply Follows.setReg | apply Follows.setFld | apply Follows.setFlag | apply follows_modLdr | apply follows_setPwr | apply Follows.ite))

theorem follows_sealWrite {s0 s : State} (h : Follows s0 s) : Follows s0 (sealWrite s) := by
  unfold sealWrite
  repeat' (first | (with_reducible first | assumption | intro _ | apply Follows.setFlag | apply follows_modLdr | apply Follows.ite))

theorem follows_imgCtrl {s0 s : State} (h : Follows s0 s) : ∀ x0 x1, Follows s0 (imgCtrl x0 x1 s) := by
  intro x0 x1
  unfold imgCtrl
  dsimp only
  repeat' (first | (with_reducible first | assumption | intro _ | apply Follows.setFld | apply Follows.setFlag | apply follows_loadAbort | apply follows_loadStart | apply follows_sealWrite | apply Follows.when | apply Follows.ite))

theorem follows_loadFind {s0 s : State} (h : Follows s0 s) : ∀ x0, Follows s0 (loadFind x0 s) := by
  intro x0
  unfold loadFind
  repeat' (first | (with_reducible first | assumption | intro _ | apply follows_loadFailed | apply follows_loadStop) | split)

theorem follows_loadVerdict {s0 s : State} (h : Follows s0 s) : ∀ x0, Follows s0 (loadVerdict x0 s) := by
  intro x0
  unfold loadVerdict
  dsimp only
  repeat' (first | (with_reducible first | assumption | intro _ | apply Follows.setFld | apply follows_modLdr | apply follows_loadFind | apply follows_loadFailed) | split)

theorem follows_loadCheck {s0 s : State} (h : Follows s0 s) : ∀ x0, Follows s0 (loadCheck x0 s) := by
  intro x0
  unfold loadCheck
  dsimp only
  repeat' (first | (with_reducible first | assumption | intro _ | apply follows_loadFind | apply follows_loadVerdict | apply Follows.ite) | split)

theorem follows_fifoWord {s0 s : State} (h : Follows s0 s) : ∀ x0 x1, Follows s0 (fifoWord x0 x1 s) := by
  intro x0 x1
  unfold fifoWord
  repeat' (first | (with_reducible first | assumption | intro _ | apply follows_loadCheck | apply follows_modLdr | apply Follows.ite))

theorem follows_imageApply {s0 s : State} (h : Follows s0 s) : Follows s0 (imageApply s) := by
  unfold imageApply
  dsimp only
  repeat' (first | (with_reducible first | assumption | intro _ | apply follows_applyTenant | apply follows_applyFull | apply Follows.ite) | split)

theorem follows_loadStall {s0 s : State} (h : Follows s0 s) : Follows s0 (loadStall s) := by
  unfold loadStall
  repeat' (first | (with_reducible first | assumption | intro _ | apply follows_loadStop | apply Follows.ite))

theorem follows_plotFillEnd {s0 s : State} (h : Follows s0 s) : Follows s0 (plotFillEnd s) := by
  unfold plotFillEnd
  dsimp only
  repeat' (first | (with_reducible first | assumption | exact fun _ h => h | exact fun _ h => Bool.noConfusion h | intro _ | apply follows_fillPlots | apply follows_refillRetained | apply follows_startNext | apply follows_modPow | apply Follows.ite))

theorem follows_restoreEnd {s0 s : State} (h : Follows s0 s) : ∀ x0, Follows s0 (restoreEnd x0 s) := by
  intro x0
  unfold restoreEnd
  repeat' (first | (with_reducible first | assumption | exact fun _ h => h | exact fun _ h => Bool.noConfusion h | intro _ | apply follows_modPow | apply follows_restoreGran | apply follows_needImage | apply Follows.ite))

theorem follows_siloLoadEnd {s0 s : State} (h : Follows s0 s) : ∀ x0, Follows s0 (siloLoadEnd x0 s) := by
  intro x0
  unfold siloLoadEnd
  dsimp only
  repeat' (first | (with_reducible first | assumption | intro _ | apply follows_siloWrite | apply follows_loadCheck | apply follows_modLdr | apply Follows.ite))

/-! ## Live -/

theorem follows_liveRefuse {s0 s : State} (h : Follows s0 s) : Follows s0 (liveRefuse s) := by
  unfold liveRefuse
  repeat' (first | (with_reducible first | assumption | intro _ | apply Follows.setFlag | apply Follows.bump))

theorem follows_perStore {s0 s : State} (h : Follows s0 s) : ∀ x0 x1, Follows s0 (perStore x0 x1 s) := by
  intro x0 x1
  unfold perStore
  dsimp only
  repeat' (first | (with_reducible first | assumption | intro _ | apply Follows.setFld | apply follows_mlimUpdate | apply follows_modPwm))

theorem follows_livePeriods {s0 s : State} (h : Follows s0 s) : Follows s0 (livePeriods s) := by
  unfold livePeriods
  dsimp only
  repeat' (first | (with_reducible first | assumption | intro _ | apply follows_modLdr | apply follows_inlog | apply follows_liveRefuse | apply follows_perStore | apply Follows.each | apply Follows.ite) | split)

theorem follows_liveStore {s0 s : State} (h : Follows s0 s) : ∀ x0 x1 x2, Follows s0 (liveStore x0 x1 x2 s) := by
  intro x0 x1 x2
  unfold liveStore
  dsimp only
  repeat' (first | (with_reducible first | assumption | intro _ | apply Follows.setReg | apply follows_mlimUpdate | apply Follows.each | apply Follows.ite))

theorem follows_liveField {s0 s : State} (h : Follows s0 s) : ∀ x0 x1 x2, Follows s0 (liveField x0 x1 s x2) := by
  intro x0 x1 x2
  unfold liveField
  dsimp only
  repeat' (first | (with_reducible first | assumption | intro _ | apply follows_liveRefuse | apply follows_liveStore | apply follows_inlog | apply follows_modLdr | apply Follows.ite))

theorem follows_liveWrite {s0 s : State} (h : Follows s0 s) : ∀ x0 x1 x2, Follows s0 (liveWrite x0 x1 x2 s) := by
  intro x0 x1 x2
  unfold liveWrite
  repeat' (first | (with_reducible first | assumption | intro _ | apply follows_liveField | apply Follows.each))

theorem follows_liveBoundary {s0 s : State} (h : Follows s0 s) : Follows s0 (liveBoundary s) := by
  unfold liveBoundary
  dsimp only
  repeat' (first | (with_reducible first | assumption | intro _ | apply follows_modLdr | apply follows_inlog | apply follows_liveStore | apply Follows.each))

/-! ## AuxOut -/

theorem follows_auxClr {s0 s : State} (h : Follows s0 s) : ∀ x0, Follows s0 (auxClr x0 s) := by
  intro x0
  unfold auxClr
  repeat' (first | (with_reducible first | assumption | intro _ | apply follows_modAux))

theorem follows_auxPair {s0 s : State} (h : Follows s0 s) : ∀ x0, Follows s0 (auxPair x0 s) := by
  intro x0
  unfold auxPair
  dsimp only
  repeat' (first | (with_reducible first | assumption | intro _ | apply Follows.setBit | apply Follows.ite))

theorem follows_auxDecision {s0 s : State} (h : Follows s0 s) : Follows s0 (auxDecision s) := by
  unfold auxDecision
  dsimp only
  repeat' (first | (with_reducible first | assumption | intro _ | apply follows_auxOff | apply follows_auxKillNow | apply follows_modAux | apply follows_auxPair | apply Follows.each | apply Follows.ite))

theorem follows_auxSet {s0 s : State} (h : Follows s0 s) : ∀ x0, Follows s0 (auxSet x0 s) := by
  intro x0
  unfold auxSet
  dsimp only
  repeat' (first | (with_reducible first | assumption | intro _ | apply Follows.setBit | apply follows_modAux | apply Follows.each))

theorem follows_hallChange {s0 s : State} (h : Follows s0 s) : ∀ x0 x1, Follows s0 (hallChange x0 x1 s) := by
  intro x0 x1
  unfold hallChange
  repeat' (first | (with_reducible first | assumption | intro _ | apply Follows.setFld | apply follows_raiseAx | apply Follows.ite))

theorem follows_offDelayEnd {s0 s : State} (h : Follows s0 s) : ∀ x0, Follows s0 (offDelayEnd x0 s) := by
  intro x0
  unfold offDelayEnd
  repeat' (first | (with_reducible first | assumption | intro _ | apply Follows.setBit | apply Follows.ite))

/-! ## HostRegs -/

theorem follows_plainWrite {s0 s : State} (h : Follows s0 s) : ∀ x0 x1, Follows s0 (plainWrite x0 x1 s) := by
  intro x0 x1
  unfold plainWrite
  repeat' (first | (with_reducible first | assumption | intro _ | apply Follows.setReg))

theorem follows_auxWrite {s0 s : State} (h : Follows s0 s) : ∀ x0 x1, Follows s0 (auxWrite x0 x1 s) := by
  intro x0 x1
  unfold auxWrite
  repeat' (first | (with_reducible first | assumption | intro _ | apply follows_auxSet | apply follows_auxClr | apply follows_plainWrite | apply Follows.ite))

theorem follows_shadowWrite {s0 s : State} (h : Follows s0 s) : ∀ x0 x1 x2, Follows s0 (shadowWrite x0 x1 x2 s) := by
  intro x0 x1 x2
  unfold shadowWrite
  dsimp only
  repeat' (first | (with_reducible first | assumption | intro _ | apply Follows.setFlag | apply follows_plainWrite | apply Follows.ite))

theorem follows_capWrite {s0 s : State} (h : Follows s0 s) : ∀ x0 x1 x2, Follows s0 (capWrite x0 x1 x2 s) := by
  intro x0 x1 x2
  unfold capWrite
  dsimp only
  repeat' (first | (with_reducible first | assumption | intro _ | apply Follows.setFld | apply follows_plainWrite | apply Follows.ite))

theorem follows_rplWrite {s0 s : State} (h : Follows s0 s) : ∀ x0 x1 x2, Follows s0 (rplWrite x0 x1 x2 s) := by
  intro x0 x1 x2
  unfold rplWrite
  dsimp only
  repeat' (first | (with_reducible first | assumption | intro _ | apply follows_plainWrite | apply follows_replayAbort | apply follows_fresh | apply follows_replayGo | apply Follows.when | apply Follows.ite))

theorem follows_bankWrite {s0 s : State} (h : Follows s0 s) : ∀ x0 x1 x2, Follows s0 (bankWrite x0 x1 x2 s) := by
  intro x0 x1 x2
  unfold bankWrite
  dsimp only
  repeat' (first | (with_reducible first | assumption | intro _ | apply Follows.setFlag | apply follows_plainWrite | apply Follows.ite))

theorem follows_axisWrite {s0 s : State} (h : Follows s0 s) : ∀ x0 x1 x2, Follows s0 (axisWrite x0 x1 x2 s) := by
  intro x0 x1 x2
  unfold axisWrite
  dsimp only
  repeat' (first | (with_reducible first | assumption | intro _ | apply follows_plainWrite | apply follows_calRequest | apply follows_losAck | apply follows_armGroup | apply follows_shadowWrite | apply follows_outputsMoved | apply follows_tripClear | apply follows_bankSwapReq | apply follows_drvAck | apply follows_capWrite | apply follows_rplWrite | apply follows_bankWrite | apply follows_auxWrite | apply Follows.when | apply Follows.ite))

theorem follows_detStatWrite {s0 s : State} (h : Follows s0 s) : ∀ x0, Follows s0 (detStatWrite x0 s) := by
  intro x0
  unfold detStatWrite
  repeat' (first | (with_reducible first | assumption | intro _ | apply follows_plainWrite))

theorem follows_pcrWrite {s0 s : State} (h : Follows s0 s) : ∀ x0 x1 x2, Follows s0 (pcrWrite x0 x1 x2 s) := by
  intro x0 x1 x2
  unfold pcrWrite
  repeat' (first | (with_reducible first | assumption | intro _ | apply follows_rstCtrl | apply follows_wakeCause | apply follows_plainWrite | apply follows_sleepRequest | apply follows_pd3Ack | apply follows_imgCtrl | apply follows_fifoWord | apply follows_detStatWrite | apply follows_modPort | apply Follows.when | apply Follows.ite))

theorem follows_fldWrite {s0 s : State} (h : Follows s0 s) : ∀ x0 x1, Follows s0 (fldWrite x0 x1 s) := by
  intro x0 x1
  unfold fldWrite
  repeat' (first | (with_reducible first | assumption | intro _ | apply follows_fldRepair | apply follows_plainWrite | apply follows_cutSwapReq | apply Follows.when | apply Follows.ite))

theorem follows_hrwWrite {s0 s : State} (h : Follows s0 s) : ∀ x0 x1, Follows s0 (hrwWrite x0 x1 s) := by
  intro x0 x1
  unfold hrwWrite
  dsimp only
  repeat' (first | (with_reducible first | assumption | intro _ | apply follows_chkHostInit | apply follows_chkHostFeed | apply follows_plainWrite | apply follows_chkConfig | apply follows_scanEndWhy | apply follows_scanGo | apply Follows.when | apply Follows.ite))

theorem follows_safWrite {s0 s : State} (h : Follows s0 s) : ∀ x0 x1 x2, Follows s0 (safWrite x0 x1 x2 s) := by
  intro x0 x1 x2
  unfold safWrite
  dsimp only
  repeat' (first | (with_reducible first | assumption | intro _ | apply follows_doubtAck | apply follows_axstopAck | apply follows_stoAck | apply follows_demandWrite | apply follows_relWrite | apply follows_axstopEnd | apply follows_plainWrite | apply Follows.when | apply Follows.ite) | split)

theorem follows_tenPending {s0 s : State} (h : Follows s0 s) : ∀ x0, Follows s0 (tenPending x0 s) := by
  intro x0
  unfold tenPending
  repeat' (first | (with_reducible first | assumption | intro _ | apply Follows.setFlag))

theorem follows_tenantReset {s0 s : State} (h : Follows s0 s) : ∀ x0, Follows s0 (tenantReset x0 s) := by
  intro x0
  unfold tenantReset
  dsimp only
  repeat' (first | (with_reducible first | assumption | intro _ | apply Follows.setFlag | apply follows_replayAbort | apply follows_trnShow | apply follows_driveOff | apply follows_trnEnd | apply follows_tenPending | apply follows_auxKillNow | apply Follows.each | apply Follows.ite) | split)

theorem follows_tenantRelease {s0 s : State} (h : Follows s0 s) : ∀ x0, Follows s0 (tenantRelease x0 s) := by
  intro x0
  unfold tenantRelease
  dsimp only
  repeat' (first | (with_reducible first | assumption | intro _ | apply Follows.setFlag | apply follows_replayAbort | apply follows_tenPending | apply Follows.ite) | split)

theorem follows_tenCtrl {s0 s : State} (h : Follows s0 s) : ∀ x0 x1, Follows s0 (tenCtrl x0 x1 s) := by
  intro x0 x1
  unfold tenCtrl
  repeat' (first | (with_reducible first | assumption | intro _ | apply follows_tenantReset | apply follows_tenantRelease | apply Follows.ite))

theorem follows_queWrite {s0 s : State} (h : Follows s0 s) : ∀ x0 x1, Follows s0 (queWrite x0 x1 s).2 := by
  intro x0 x1
  unfold queWrite
  dsimp only
  repeat' (first | (with_reducible first | assumption | intro _ | apply Follows.setFld | apply Follows.setFlag | apply follows_setCons | apply follows_bellWrite | apply follows_plainWrite | apply follows_tenCtrl | apply follows_raise | apply Follows.ite) | split)

theorem follows_trlWrite {s0 s : State} (h : Follows s0 s) : ∀ x0 x1, Follows s0 (trlWrite x0 x1 s) := by
  intro x0 x1
  unfold trlWrite
  dsimp only
  repeat' (first | (with_reducible first | assumption | intro _ | apply follows_plainWrite | apply follows_trlAck | apply follows_psClr | apply follows_tileCmd | apply follows_bulkGo | apply Follows.when | apply Follows.ite) | split)

theorem follows_regEffect {s0 s : State} (h : Follows s0 s) : ∀ x0 x1 x2, Follows s0 (regEffect x0 x1 x2 s).2 := by
  intro x0 x1 x2
  unfold regEffect
  repeat' (first | (with_reducible first | assumption | intro _ | apply follows_firedWrite | apply follows_plainWrite | apply follows_pcrWrite | apply follows_axisWrite | apply follows_fldWrite | apply follows_hrwWrite | apply follows_safWrite | apply follows_queWrite | apply follows_trlWrite | apply Follows.ite) | split)

theorem follows_regWrite {s0 s : State} (h : Follows s0 s) : ∀ x0 x1 x2 x3, Follows s0 (regWrite x0 x1 x2 x3 s).2 := by
  intro x0 x1 x2 x3
  unfold regWrite
  dsimp only
  repeat' (first | (with_reducible first | assumption | intro _ | apply follows_regEffect | apply follows_liveWrite | apply Follows.ite) | split)

theorem follows_regRead {s0 s : State} (h : Follows s0 s) : ∀ x0 x1, Follows s0 (regRead x0 x1 s).2 := by
  intro x0 x1
  unfold regRead
  dsimp only
  repeat' (first | (with_reducible first | assumption | intro _ | apply follows_modPort | apply follows_logTake | apply Follows.ite) | split)

/-! ## Ports -/

theorem follows_answer {s0 s : State} (h : Follows s0 s) : ∀ x0 x1 x2, Follows s0 (answer x0 x1 x2 s) := by
  intro x0 x1 x2
  unfold answer
  dsimp only
  repeat' (first | (with_reducible first | assumption | intro _ | apply follows_modPort))

theorem follows_csnHigh {s0 s : State} (h : Follows s0 s) : ∀ x0, Follows s0 (csnHigh x0 s) := by
  intro x0
  unfold csnHigh
  repeat' (first | (with_reducible first | assumption | intro _ | apply follows_modPort))

theorem follows_notBound {s0 s : State} (h : Follows s0 s) : ∀ x0, Follows s0 (notBound x0 s) := by
  intro x0
  unfold notBound
  repeat' (first | (with_reducible first | assumption | intro _ | apply Follows.bump | apply follows_answer))

theorem follows_queRefuse {s0 s : State} (h : Follows s0 s) : ∀ x0 x1, Follows s0 (queRefuse x0 x1 s) := by
  intro x0 x1
  unfold queRefuse
  repeat' (first | (with_reducible first | assumption | intro _ | apply follows_notBound | apply follows_answer | apply Follows.ite))

theorem follows_deqFrame {s0 s : State} (h : Follows s0 s) : ∀ x0 x1 x2 x3, Follows s0 (deqFrame x0 x1 x2 x3 s) := by
  intro x0 x1 x2 x3
  unfold deqFrame
  dsimp only
  repeat' (first | (with_reducible first | assumption | intro _ | apply follows_queHead | apply follows_setCons | apply follows_answer | apply follows_queRefuse | apply Follows.ite))

theorem follows_enqFrame {s0 s : State} (h : Follows s0 s) : ∀ x0 x1 x2, Follows s0 (enqFrame x0 x1 x2 s) := by
  intro x0 x1 x2
  unfold enqFrame
  dsimp only
  repeat' (first | (with_reducible first | assumption | intro _ | apply follows_answer | apply follows_enqDesc | apply follows_queRefuse | apply Follows.ite))

theorem follows_frame {s0 s : State} {x2 : State → State} (hx : ∀ t, Follows s0 t → Follows s0 (x2 t)) (h : Follows s0 s) : ∀ x0 x1, Follows s0 (frame x0 x1 x2 s) := by
  intro x0 x1
  unfold frame
  repeat' (first | with_reducible assumption | with_reducible apply hx | with_reducible apply follows_answer | with_reducible apply Follows.bump | split)

theorem follows_frameShort {s0 s : State} (h : Follows s0 s) : ∀ x0, Follows s0 (frameShort x0 s) := by
  intro x0
  unfold frameShort
  repeat' (first | (with_reducible first | assumption | intro _ | apply Follows.bump | apply Follows.ite))

theorem follows_frameTimeout {s0 s : State} (h : Follows s0 s) : ∀ x0, Follows s0 (frameTimeout x0 s) := by
  intro x0
  unfold frameTimeout
  dsimp only
  repeat' (first | (with_reducible first | assumption | intro _ | apply Follows.setFlag | apply Follows.setBit | apply Follows.bump | apply follows_modPort | apply Follows.ite))

theorem follows_readWords {s0 s : State} (h : Follows s0 s) : ∀ x0 x1, Follows s0 (readWords x0 x1 s).2 := by
  intro x0 x1
  induction x1 generalizing s with
  | nil => exact h
  | cons k l ih => exact ih (follows_regRead h _ _)

theorem follows_readFrame {s0 s : State} (h : Follows s0 s) : ∀ x0 x1 x2, Follows s0 (readFrame x0 x1 x2 s) := by
  intro x0 x1 x2
  unfold readFrame
  dsimp only
  repeat' (first | (with_reducible first | assumption | intro _ | apply follows_answer | apply follows_readWords | apply Follows.ite))

theorem follows_hostRead {s0 s : State} (h : Follows s0 s) : ∀ x0 x1, Follows s0 (hostRead x0 x1 s) := by
  intro x0 x1
  unfold hostRead
  repeat' (first | (with_reducible first | assumption | intro _ | apply follows_frame | apply follows_readFrame))

theorem follows_writeWords {s0 s : State} (h : Follows s0 s) : ∀ x0 x1, Follows s0 (writeWords x0 x1 s).2 := by
  intro x0 x1
  induction x1 generalizing s with
  | nil => exact h
  | cons k l ih =>
    unfold writeWords
    dsimp only
    split
    · exact follows_regWrite h _ _ _ _
    · exact ih (follows_regWrite h _ _ _ _)

theorem follows_writeFrame {s0 s : State} (h : Follows s0 s) : ∀ x0 x1 x2, Follows s0 (writeFrame x0 x1 x2 s) := by
  intro x0 x1 x2
  unfold writeFrame
  dsimp only
  repeat' (first | (with_reducible first | assumption | intro _ | apply follows_answer | apply follows_notBound | apply follows_writeWords | apply Follows.ite))

theorem follows_hostWrite {s0 s : State} (h : Follows s0 s) : ∀ x0 x1 x2, Follows s0 (hostWrite x0 x1 x2 s) := by
  intro x0 x1 x2
  unfold hostWrite
  repeat' (first | (with_reducible first | assumption | intro _ | apply follows_frame | apply follows_writeFrame))

theorem follows_statFrame {s0 s : State} (h : Follows s0 s) : ∀ x0, Follows s0 (statFrame x0 s) := by
  intro x0
  unfold statFrame
  repeat' (first | (with_reducible first | assumption | intro _ | apply follows_answer | apply Follows.ite))

theorem follows_wfetchFrame {s0 s : State} (h : Follows s0 s) : ∀ x0 x1, Follows s0 (wfetchFrame x0 x1 s) := by
  intro x0 x1
  unfold wfetchFrame
  repeat' (first | (with_reducible first | assumption | intro _ | apply follows_answer | apply Follows.ite) | split)

theorem follows_wreqFrame {s0 s : State} (h : Follows s0 s) : ∀ x0 x1 x2, Follows s0 (wreqFrame x0 x1 x2 s) := by
  intro x0 x1 x2
  unfold wreqFrame
  repeat' (first | (with_reducible first | assumption | intro _ | apply follows_answer | apply follows_winAsk | apply follows_modPort | apply Follows.ite) | split)

theorem follows_wwriteFrame {s0 s : State} (h : Follows s0 s) : ∀ x0 x1 x2, Follows s0 (wwriteFrame x0 x1 x2 s) := by
  intro x0 x1 x2
  unfold wwriteFrame
  dsimp only
  repeat' (first | (with_reducible first | assumption | intro _ | apply follows_notBound | apply follows_answer | apply follows_winAsk | apply follows_modPort | apply Follows.ite) | split)

/-! ## Boundary -/

theorem follows_axisCommit {s0 s : State} (h : Follows s0 s) : ∀ x0 x1, Follows s0 (axisCommit x0 s x1) := by
  intro x0 x1
  unfold axisCommit
  dsimp only
  repeat' (first | (with_reducible first | assumption | intro _ | apply Follows.setFld | apply follows_pwmCommit | apply follows_loopCommit | apply follows_setRet | apply follows_capFast | apply follows_earlyRelease | apply follows_headCompute | apply follows_replayStop | apply follows_sectorEvent | apply Follows.ite))

theorem follows_doubtEnd {s0 s : State} (h : Follows s0 s) : ∀ x0, Follows s0 (doubtEnd x0 s) := by
  intro x0
  unfold doubtEnd
  dsimp only
  repeat' (first | (with_reducible first | assumption | exact fun _ h => h | exact fun _ h => Bool.noConfusion h | intro _ | apply Follows.setReg | apply Follows.setBit | apply follows_setRet | apply follows_linkDoubt | apply follows_modSaf))

theorem follows_returnLoad {s0 s : State} (h : Follows s0 s) : ∀ x0, Follows s0 (returnLoad x0 s) := by
  intro x0
  unfold returnLoad
  repeat' (first | (with_reducible first | assumption | intro _ | apply follows_doubtEnd | apply follows_setRet | apply Follows.ite))

theorem follows_loadPoint {s0 s : State} (h : Follows s0 s) : ∀ x0 x1 x2 x3, Follows s0 (loadPoint x0 x1 x2 x3 s) := by
  intro x0 x1 x2 x3
  unfold loadPoint
  dsimp only
  repeat' (first | (with_reducible first | assumption | intro _ | apply follows_modPwm | apply follows_returnLoad | apply follows_headLoad | apply follows_loopLoad | apply follows_pwmLoad | apply follows_obsLoad))

theorem follows_axisLoad {s0 s : State} (h : Follows s0 s) : ∀ x0 x1 x2, Follows s0 (axisLoad x0 x1 x2 s) := by
  intro x0 x1 x2
  unfold axisLoad
  dsimp only
  repeat' (first | (with_reducible first | assumption | intro _ | apply follows_raiseAx | apply follows_loadPoint | apply Follows.ite))

theorem follows_bankSwapLog {s0 s : State} (h : Follows s0 s) : ∀ x0, Follows s0 (bankSwapLog x0 s) := by
  intro x0
  unfold bankSwapLog
  dsimp only
  repeat' (first | (with_reducible first | assumption | intro _ | apply follows_bankSwap | apply follows_inlog | apply Follows.ite))

theorem follows_boundaryClose {s0 s : State} (h : Follows s0 s) : ∀ x0, Follows s0 (boundaryClose x0 s) := by
  intro x0
  unfold boundaryClose
  dsimp only
  repeat' (first | (with_reducible first | assumption | intro _ | apply follows_rotOpen | apply follows_fallowAdvance | apply follows_loopCapture | apply follows_decTake | apply follows_frameClose | apply Follows.each | apply Follows.ite))

theorem follows_tenantEnter {s0 s : State} (h : Follows s0 s) : ∀ x0, Follows s0 (tenantEnter x0 s) := by
  intro x0
  unfold tenantEnter
  dsimp only
  repeat' (first | (with_reducible first | assumption | intro _ | apply Follows.setFlag | apply follows_runsDrop | apply follows_queFlush | apply follows_setRet | apply follows_scansTenant | apply follows_driveOff | apply follows_modLoop | apply follows_modField | apply follows_modTrn | apply Follows.each) | split)

theorem follows_startHere {s0 s : State} (h : Follows s0 s) : ∀ x0, Follows s0 (startHere x0 s) := by
  intro x0
  unfold startHere
  dsimp only
  repeat' (first | (with_reducible first | assumption | intro _ | apply follows_startOnHeadland | apply follows_setRet | apply Follows.ite))

theorem follows_zeroAxes {s0 s : State} (h : Follows s0 s) : Follows s0 (zeroAxes s) := by
  unfold zeroAxes
  dsimp only
  repeat' (first | (with_reducible first | assumption | intro _ | apply follows_modHead | apply follows_startHere | apply follows_axisStart | apply Follows.each | apply Follows.ite))

theorem follows_cutSwapLog {s0 s : State} (h : Follows s0 s) : ∀ x0, Follows s0 (cutSwapLog x0 s) := by
  intro x0
  unfold cutSwapLog
  dsimp only
  repeat' (first | (with_reducible first | assumption | intro _ | apply follows_cutSwap | apply follows_inlog | apply follows_cutReport | apply Follows.ite))

theorem follows_cmdWord {s0 : State} : ∀ p r x, Follows s0 r.2 → Follows s0 (cmdWord p r x).2 := by
  intro p r x h
  exact follows_regWrite h _ _ _ _

theorem follows_cmdApply {s0 s : State} (h : Follows s0 s) : ∀ x0 x1 x2, Follows s0 (cmdApply x0 x1 x2 s).2 := by
  intro x0 x1 x2
  unfold cmdApply
  dsimp only
  apply follows_inlog
  apply Follows.foldl_snd (fun r x h => follows_cmdWord _ r x h)
  dsimp only
  split
  · exact h
  · exact follows_granRead h _ _ _

theorem follows_queVisit {s0 s : State} (h : Follows s0 s) : ∀ x0 x1 x2, Follows s0 (queVisit x0 x1 x2 s) := by
  intro x0 x1
  induction x1 generalizing s with
  | zero => intro x2; exact h
  | succ n ih =>
    intro x2
    have hf := follows_queFetch h x0 (s.queCons x0)
    unfold queVisit
    dsimp only
    repeat' (first | with_reducible assumption | with_reducible apply ih | with_reducible apply follows_returnDesc | with_reducible apply follows_cmdApply | with_reducible apply follows_queConsume | with_reducible apply follows_aliveRef | split)

theorem follows_commandVisit {s0 s : State} (h : Follows s0 s) : Follows s0 (commandVisit s) := by
  unfold commandVisit
  repeat' (first | (with_reducible first | assumption | intro _ | apply follows_queVisit | apply Follows.each | apply Follows.ite))

theorem follows_boundaryInputs {s0 s : State} (h : Follows s0 s) : ∀ x0 x1 x2, Follows s0 (boundaryInputs x0 x1 x2 s) := by
  intro x0 x1 x2
  unfold boundaryInputs
  dsimp only
  repeat' (first | (with_reducible first | assumption | intro _ | apply follows_livePeriods | apply follows_loadPoint | apply follows_tenantEnter | apply follows_zeroAxes | apply follows_bankSwapLog | apply follows_cutSwapLog | apply follows_commandVisit | apply follows_liveBoundary | apply Follows.each | apply Follows.ite))

theorem follows_tenantLeave {s0 s : State} (h : Follows s0 s) : ∀ x0, Follows s0 (tenantLeave x0 s) := by
  intro x0
  unfold tenantLeave
  dsimp only
  repeat' (first | (with_reducible first | assumption | intro _ | apply Follows.setFlag | apply follows_queRestart | apply follows_startHere | apply follows_axisStart | apply follows_setRet | apply Follows.each | apply Follows.ite) | split)

theorem follows_boundaryRest {s0 s : State} (h : Follows s0 s) : ∀ x0, Follows s0 (boundaryRest x0 s) := by
  intro x0
  unfold boundaryRest
  dsimp only
  repeat' (first | (with_reducible first | assumption | intro _ | apply follows_tenantLeave | apply follows_capSlow | apply follows_slowTake | apply follows_cmdDeliver | apply follows_replayStart | apply follows_queIdle | apply follows_tenPending | apply follows_ckptFrame | apply follows_ckptFollow | apply follows_sharePrune | apply follows_linkBoundary | apply follows_snapTake | apply follows_raiseAll | apply follows_stdDue | apply Follows.each | apply Follows.ite))

theorem follows_loadAllServe {s0 s : State} (h : Follows s0 s) : ∀ x0 : Fin 4, Follows s0 (loadAllServe x0 s) := by
  intro x0
  have h' : Follows s0 { s with armed := s.armed &&& ~~~BitVec.ofNat 4 (2 ^ x0.val) } := Follows.mk_same h ..
  unfold loadAllServe
  dsimp only
  split
  · exact h'
  · rename_i hp
    refine h'.setTask _ _ fun hb => ?_
    have := taskBooked_of (s := s) hb (0x40 + x0)
    have hk : taskKind (0x40 + x0) = 0 := by fin_cases x0 <;> rfl
    simp only [taskBooked, hk, Bool.and_eq_true, beq_iff_eq, decide_eq_true_eq] at this ⊢
    refine ⟨?_, ⟨?_, this.2.1.2⟩, this.2.2⟩ <;> omega

theorem follows_commitWindow {s0 s : State} (h : Follows s0 s) : ∀ x0, Follows s0 (commitWindow x0 s) := by
  intro x0
  unfold commitWindow
  dsimp only
  repeat' (first | (with_reducible first | assumption | intro _ | apply follows_axisCommit | apply follows_raiseAll | apply follows_loadAllServe | apply Follows.each | apply Follows.ite))

theorem follows_returnFrame {s0 s : State} (h : Follows s0 s) : ∀ x0, Follows s0 (returnFrame x0 s) := by
  intro x0
  unfold returnFrame
  repeat' (first | (with_reducible first | assumption | intro _ | apply follows_setRet | apply follows_doubtEnd | apply Follows.ite) | split)

theorem follows_frameEnd {s0 s : State} (h : Follows s0 s) : Follows s0 (frameEnd s) := by
  unfold frameEnd
  repeat' (first | (with_reducible first | assumption | intro _ | apply follows_rotClose | apply follows_scrubFrame | apply follows_returnFrame | apply Follows.each))

theorem follows_frameOpen {s0 s : State} (h : Follows s0 s) : Follows s0 (frameOpen s) := by
  unfold frameOpen
  dsimp only
  repeat' (first | (with_reducible first | assumption | exact fun _ h => h | exact fun _ h => Bool.noConfusion h | intro _ | apply Follows.setReg | apply Follows.setFld | apply follows_modSaf | apply follows_reductionFrame | apply follows_modField | apply Follows.each))

theorem keeps_zeroStep (s : State) : ∃ s1, Keeps s s1 ∧ s1.step = 0 ∧ Follows s1 (zeroStep s) := by
  have h : Keeps s ({ s with step := 0, rot := { s.rot with turns := 0 } }.modPow fun p => { p with running := true, zeroPend := false }) :=
    ⟨rfl, rfl, id, le_refl _, id, id⟩
  refine ⟨_, h, rfl, ?_⟩
  unfold zeroStep
  extract_lets r0 s1 s2 s3 s4 s5 s6 s7
  have h2 : Follows s2 s2 := .refl s2
  have h3 : Follows s2 s3 := Follows.ite (h2.setFld _ _) h2
  have h4 : Follows s2 s4 := by
    refine Follows.setFld (follows_modPow h3 _ ?_) _ _
    exact fun _ h => h
  have h5 : Follows s2 s5 := h4.setReg _ _
  have h6 : Follows s2 s6 := Follows.ite h5 (follows_detFlag h5 _)
  have h7 : Follows s2 s7 := h6.each (fun _ _ hx => follows_zeroCommit hx _)
  clear_value s7
  exact follows_windowStart (follows_trnEnd (h7.each (fun _ _ hx => follows_doubtEnd hx _)) _)

/-- Without a boundary to begin, nothing changes. -/
theorem periodBoundary_idle {s : State} (h : s.pow.running = false) (hz : s.pow.zeroPend = false) (x0 x1) : periodBoundary x0 x1 s = s :=
  if_pos (by rw [h, hz]; rfl)

/-- The boundary cycle sets STEP, to 0 in the zero step and to the next number otherwise; all else it does follows. -/
theorem keeps_periodBoundary {s : State} (hr : (s.pow.running || s.pow.zeroPend) = true) (x0 x1) :
    ∃ s1, Keeps s s1 ∧ (s1.pow.running = true → s1.step = if s.pow.zeroPend then 0 else s.step + 1)
      ∧ Follows s1 (periodBoundary x0 x1 s) := by
  have hg : ¬ (!s.pow.running && !s.pow.zeroPend) = true := by
    cases h1 : s.pow.running <;> cases h2 : s.pow.zeroPend <;> simp_all
  unfold periodBoundary
  extract_lets zero last s1 s2 s3 s4 before
  obtain ⟨w, hk, hs, hf⟩ : ∃ w, Keeps s w ∧ (w.pow.running = true → w.step = if zero then 0 else s.step + 1) ∧ Follows w s2 := by
    by_cases hz : zero = true
    · have e1 : s1 = s := if_neg (by simp [last, hz])
      have e2 : s2 = zeroStep s1 := if_pos hz
      obtain ⟨w, h1, h2, h3⟩ := keeps_zeroStep s
      exact ⟨w, h1, fun _ => by rw [h2, if_pos hz], by rw [e2, e1]; exact h3⟩
    · have h1 : Follows s s1 := Follows.ite (follows_frameEnd (.refl s)) (.refl s)
      have e2 : s2 = State.each { s1 with step := s1.step + 1 } allAxes (fun s a => replayStep a s) := if_neg hz
      refine ⟨{ s1 with step := s1.step + 1 }, ⟨h1.pending, h1.part, h1.kept, h1.free, h1.books, h1.rets⟩, fun k => ?_, ?_⟩
      · rw [if_neg hz]; exact congrArg (· + 1) (h1.run k).2
      · rw [e2]; exact (Follows.refl _).each fun _ _ hx => follows_replayStep hx _
  refine ⟨w, hk, hs, ?_⟩
  clear_value s2
  rw [if_neg hg]
  exact follows_boundaryRest (follows_boundaryClose (follows_boundaryInputs
    (Follows.ite (follows_frameOpen (hf.setFld _ _)) (hf.setFld _ _)) _ _ _) _) _

/-! ## PwmRows -/

theorem follows_pinLevels {s0 s : State} (h : Follows s0 s) : ∀ x0 x1 x2, Follows s0 (pinLevels x0 x1 x2 s) := by
  intro x0 x1 x2
  unfold pinLevels
  repeat' (first | (with_reducible first | assumption | intro _ | apply follows_modPwm))

/-! ## SenseRows -/

theorem follows_convEnd {s0 s : State} (h : Follows s0 s) : ∀ x0 x1 x2 x3 x4, Follows s0 (convEnd x0 x1 x2 x3 x4 s) := by
  intro x0 x1 x2 x3 x4
  unfold convEnd
  dsimp only
  repeat' (first | (with_reducible first | assumption | intro _ | apply follows_modSense | apply follows_replaySample | apply follows_headCompute | apply follows_convLatch | apply Follows.ite))

/-! ## PowerRows -/

theorem follows_trnAsk {s0 s : State} (h : Follows s0 s) : ∀ x0, Follows s0 (trnAsk x0 s) := by
  intro x0
  unfold trnAsk
  repeat' (first | (with_reducible first | assumption | intro _ | apply follows_trnShow | apply follows_trnRequest | apply Follows.ite) | split)

theorem follows_trnGo {s0 s : State} (h : Follows s0 s) : ∀ x0, Follows s0 (trnGo x0 s) := by
  intro x0
  unfold trnGo
  repeat' (first | (with_reducible first | assumption | intro _ | apply follows_scanRun | apply follows_siloShow | apply follows_bulkStart | apply follows_pd3Granted) | split)

theorem follows_trnNo {s0 s : State} (h : Follows s0 s) : ∀ x0, Follows s0 (trnNo x0 s) := by
  intro x0
  unfold trnNo
  repeat' (first | (with_reducible first | assumption | intro _ | apply follows_scanRefused | apply follows_siloRefused | apply follows_bulkRefused | apply follows_pd3Fail) | split)

end Sys2Proof.Machine
end

