-- ==== Sys2Proof/Laws/Frames.lean ====
section
/-! SUPPORT. How a frame on the registers passes through updates, and the frames of the shared operations of the safety concept. -/

namespace Sys2Proof.Machine

namespace State

variable {s0 s t : State} {l : List Nat}

theorem regsBut_refl (s : State) (l : List Nat) : s.regsBut s l := fun _ _ => rfl
theorem regsBut.trans {r : State} (h : r.regsBut s l) (h' : s.regsBut t l) : r.regsBut t l := fun k hk => (h' k hk).trans (h k hk)
theorem regsBut.mono {l' : List Nat} (h : s.regsBut t l) (hl : ∀ k ∈ l, k ∈ l') : s.regsBut t l' := fun k hk => h k fun hm => hk (hl k hm)
theorem regsBut.same (h : s0.regsBut s l) (hr : t.regs = s.regs) : s0.regsBut t l := fun k hk => by unfold State.reg at *; rw [hr]; exact h k hk
theorem regsBut.setReg (h : s0.regsBut s l) (k : Nat) (w : Word) (hk : k ∈ l) : s0.regsBut (s.setReg k w) l :=
  h.trans fun j hj => reg_setReg_other _ _ (by rintro rfl; exact hj hk)
theorem regsBut.setFld (h : s0.regsBut s l) (f : Fld) (v : Nat) (hk : f.addr ∈ l) : s0.regsBut (s.setFld f v) l := h.setReg _ _ hk
theorem regsBut.setFlag (h : s0.regsBut s l) (f : Fld) (b : Bool) (hk : f.addr ∈ l) : s0.regsBut (s.setFlag f b) l := h.setReg _ _ hk
theorem regsBut.setBit (h : s0.regsBut s l) (f : Fld) (k : Nat) (b : Bool) (hk : f.addr ∈ l) : s0.regsBut (s.setBit f k b) l := h.setReg _ _ hk
theorem regsBut.bump (h : s0.regsBut s l) (f : Fld) (k : Nat) (hk : f.addr ∈ l) : s0.regsBut (s.bump f k) l := h.setReg _ _ hk
theorem regsBut.ite {c : Prop} [Decidable c] {s t : State} (hs : s0.regsBut s l) (ht : s0.regsBut t l) : s0.regsBut (if c then s else t) l := by
  split <;> assumption
theorem regsBut.each {α : Type} {f : State → α → State} {r : List α} (hf : ∀ x a, a ∈ r → s0.regsBut x l → s0.regsBut (f x a) l)
    (h : s0.regsBut s l) : s0.regsBut (s.each r f) l := by
  unfold State.each
  induction r generalizing s with
  | nil => exact h
  | cons a r ih => exact ih (fun x b hb => hf x b (List.mem_cons_of_mem _ hb)) (hf _ _ List.mem_cons_self h)
/-- Raising events touches the registers of `eventRegs` alone. -/
theorem regsBut.raise (h : s0.regsBut s l) (src pay : Nat) (hl : ∀ k ∈ eventRegs, k ∈ l) : s0.regsBut (raise src pay s) l :=
  h.trans ((served_raise (.refl s) src pay).regs.mono hl)
theorem regsBut.raiseAx (h : s0.regsBut s l) (a : Fin 4) (k pay : Nat) (hl : ∀ k ∈ eventRegs, k ∈ l) : s0.regsBut (raiseAx a k pay s) l :=
  h.raise _ _ hl
theorem regsBut.raiseAll (h : s0.regsBut s l) (evs : List (Nat × Nat)) (early : Bool) (hl : ∀ k ∈ eventRegs, k ∈ l) :
    s0.regsBut (raiseAll evs early s) l := h.trans ((served_raiseAll (.refl s) evs early).regs.mono hl)

/-- A field of a register outside the frame keeps its value. -/
theorem regsBut.fld (h : s.regsBut t l) {f : Fld} (hf : f.addr ∉ l) : t.fld f = s.fld f := by unfold State.fld; rw [h _ hf]
theorem regsBut.flag (h : s.regsBut t l) {f : Fld} (hf : f.addr ∉ l) : t.flag f = s.flag f := by unfold State.flag; rw [h.fld hf]
theorem regsBut.bit (h : s.regsBut t l) {f : Fld} (hf : f.addr ∉ l) (k : Nat) : t.bit f k = s.bit f k := by unfold State.bit; rw [h.fld hf]

end State

end Sys2Proof.Machine
end

