-- ==== Sys2Proof/Laws/Host.lean ====
section
/-! SUPPORT. What a host write of one register word does when it is taken, and what it does when it is not. -/

namespace Sys2Proof.Machine

/-! ## Answers -/

/-- An answer changes nothing but what its port last sent. -/
theorem answer_eq (p : Fin 2) (c : Nat) (l : List Word) (s : State) :
    ∃ r, r.status = 0x80 + 0x40 * (s.flag (F.PCR_HP_STAT_WIN_ERR p) || s.flag (F.PCR_HP_STAT_PORT_ERR p)).toNat + c ∧ r.rdata = l
      ∧ answer p c l s = s.modPort p (fun x => { x with resp := some r }) :=
  ⟨⟨_, _, _⟩, rfl, rfl, rfl⟩

@[simp] theorem answer_reg (p : Fin 2) (c : Nat) (l : List Word) (s : State) (k : Nat) : (answer p c l s).reg k = s.reg k := rfl
@[simp] theorem answer_fld (p : Fin 2) (c : Nat) (l : List Word) (s : State) (f : Fld) : (answer p c l s).fld f = s.fld f := rfl
@[simp] theorem answer_flag (p : Fin 2) (c : Nat) (l : List Word) (s : State) (f : Fld) : (answer p c l s).flag f = s.flag f := rfl
@[simp] theorem answer_bit (p : Fin 2) (c : Nat) (l : List Word) (s : State) (f : Fld) (k : Nat) : (answer p c l s).bit f k = s.bit f k := rfl

@[simp] theorem answer_step (p : Fin 2) (c : Nat) (l : List Word) (s : State) : (answer p c l s).step = s.step := rfl
@[simp] theorem answer_armed (p : Fin 2) (c : Nat) (l : List Word) (s : State) : (answer p c l s).armed = s.armed := rfl
@[simp] theorem answer_pwm (p : Fin 2) (c : Nat) (l : List Word) (s : State) : (answer p c l s).pwm = s.pwm := rfl
@[simp] theorem answer_sense (p : Fin 2) (c : Nat) (l : List Word) (s : State) : (answer p c l s).sense = s.sense := rfl
@[simp] theorem answer_head (p : Fin 2) (c : Nat) (l : List Word) (s : State) : (answer p c l s).head = s.head := rfl
@[simp] theorem answer_loop (p : Fin 2) (c : Nat) (l : List Word) (s : State) : (answer p c l s).loop = s.loop := rfl
@[simp] theorem answer_obs (p : Fin 2) (c : Nat) (l : List Word) (s : State) : (answer p c l s).obs = s.obs := rfl
@[simp] theorem answer_routes (p : Fin 2) (c : Nat) (l : List Word) (s : State) : (answer p c l s).routes = s.routes := rfl
@[simp] theorem answer_tasks (p : Fin 2) (c : Nat) (l : List Word) (s : State) : (answer p c l s).tasks = s.tasks := rfl
@[simp] theorem answer_que (p : Fin 2) (c : Nat) (l : List Word) (s : State) : (answer p c l s).que = s.que := rfl
@[simp] theorem answer_saf (p : Fin 2) (c : Nat) (l : List Word) (s : State) : (answer p c l s).saf = s.saf := rfl
@[simp] theorem answer_scw (p : Fin 2) (c : Nat) (l : List Word) (s : State) : (answer p c l s).scw = s.scw := rfl
@[simp] theorem answer_fuses (p : Fin 2) (c : Nat) (l : List Word) (s : State) : (answer p c l s).fuses = s.fuses := rfl
@[simp] theorem answer_pow (p : Fin 2) (c : Nat) (l : List Word) (s : State) : (answer p c l s).pow = s.pow := rfl
@[simp] theorem answer_trn (p : Fin 2) (c : Nat) (l : List Word) (s : State) : (answer p c l s).trn = s.trn := rfl
@[simp] theorem answer_field (p : Fin 2) (c : Nat) (l : List Word) (s : State) : (answer p c l s).field = s.field := rfl
@[simp] theorem answer_ldr (p : Fin 2) (c : Nat) (l : List Word) (s : State) : (answer p c l s).ldr = s.ldr := rfl
@[simp] theorem answer_hrw (p : Fin 2) (c : Nat) (l : List Word) (s : State) : (answer p c l s).hrw = s.hrw := rfl
@[simp] theorem answer_rot (p : Fin 2) (c : Nat) (l : List Word) (s : State) : (answer p c l s).rot = s.rot := rfl
@[simp] theorem answer_det (p : Fin 2) (c : Nat) (l : List Word) (s : State) : (answer p c l s).det = s.det := rfl
@[simp] theorem answer_aux (p : Fin 2) (c : Nat) (l : List Word) (s : State) : (answer p c l s).aux = s.aux := rfl
@[simp] theorem answer_link (p : Fin 2) (c : Nat) (l : List Word) (s : State) : (answer p c l s).link = s.link := rfl
@[simp] theorem answer_gran (p : Fin 2) (c : Nat) (l : List Word) (s : State) : (answer p c l s).gran = s.gran := rfl
@[simp] theorem answer_plots (p : Fin 2) (c : Nat) (l : List Word) (s : State) : (answer p c l s).plots = s.plots := rfl
@[simp] theorem answer_silo (p : Fin 2) (c : Nat) (l : List Word) (s : State) : (answer p c l s).silo = s.silo := rfl
@[simp] theorem answer_freeIdx (p : Fin 2) (c : Nat) (l : List Word) (s : State) : (answer p c l s).freeIdx = s.freeIdx := rfl
@[simp] theorem answer_pending (p : Fin 2) (c : Nat) (l : List Word) (s : State) : (answer p c l s).pending = s.pending := rfl
@[simp] theorem answer_regs (p : Fin 2) (c : Nat) (l : List Word) (s : State) : (answer p c l s).regs = s.regs := rfl

/-- The port has answered with the status it was given. -/
theorem answer_answered (p : Fin 2) {c : Nat} (h : c < 64) (l : List Word) (s : State) : (answer p c l s).answered p c := by
  obtain ⟨r, hr, -, he⟩ := answer_eq p c l s
  refine ⟨r, by rw [he]; simp, ?_⟩
  rw [hr]
  cases (s.flag (F.PCR_HP_STAT_WIN_ERR p) || s.flag (F.PCR_HP_STAT_PORT_ERR p)) <;> simp <;> omega

/-! ## LIVE declarations -/

/-- Where no declaration covers a register, its write has no LIVE part. -/
theorem liveWrite_none {s : State} {k : Nat} (h : s.ldr.live.all (fun d => homeKey d.addr != homeKey k) = true) (port : Option (Fin 2)) (v : Word) :
    liveWrite port k v s = s := by
  have : s.ldr.live.filter (fun d => homeKey d.addr == homeKey k) = [] := by
    rw [List.filter_eq_nil_iff]
    intro d hd
    simpa using List.all_eq_true.1 h d hd
  simp [liveWrite, State.each, this]

/-! ## Writes that are taken -/

theorem takes_parts {s : State} {p : Fin 2} {k : Nat} {v : Word} (h : s.takes p k v = true) :
    (s.ports.get p).deaf = false ∧ s.regCheck [k] = 0 ∧ s.mayWrite p k v = true ∧ s.deadWord k = false
      ∧ (regDefAt (homeKey k)).isNone = false ∧ s.ldr.live.all (fun d => homeKey d.addr != homeKey k) = true := by
  simp only [State.takes, State.reaches, State.hears, Bool.and_eq_true, beq_iff_eq, Bool.not_eq_true'] at h
  refine ⟨h.1.1.1.1.1, h.1.1.1.1.2, h.1.2, h.1.1.1.2, ?_, h.2⟩
  have := h.1.1.2
  cases hd : regDefAt (homeKey k) <;> simp_all

/-- A write that is taken has the effect of its register, and the port answers with that effect's status. -/
theorem hostWrite_takes {s : State} {p : Fin 2} {k : Nat} {v : Word} (h : s.takes p k v = true)
    (hl : (regEffect p (homeKey k) v s).2.ldr.live.all (fun d => homeKey d.addr != homeKey k) = true)
    (h0 : k = R.PCR_RST_CTRL → (regEffect p (homeKey k) v s).1 = 0) :
    hostWrite p k v s = answer p (regEffect p (homeKey k) v s).1 [] (regEffect p (homeKey k) v s).2 := by
  obtain ⟨hd, hc, hm, hw, hr, -⟩ := takes_parts h
  have hreg : regWrite (some p) p k v s = regEffect p (homeKey k) v s := by
    simp only [regWrite, hw, hr, Bool.or_self, Bool.false_eq_true, if_false, liveWrite_none hl]
  have hws : (wordAddrs k [v].length).zip [v] = [(k, v)] := by simp [wordAddrs]
  have hwr : writeWords p [(k, v)] s = regEffect p (homeKey k) v s := by
    simp only [writeWords, hreg]
    split
    · rename_i hk
      exact Prod.ext (h0 hk.1).symm rfl
    · refine Prod.ext ?_ rfl
      dsimp only
      split
      · rename_i hz; exact hz.symm
      · rfl
  simp only [hostWrite, frame, hd, Bool.false_eq_true, if_false, if_true, writeFrame, hws, List.map_cons, List.map_nil, hc, ne_eq,
    not_true_eq_false, List.all_cons, List.all_nil, hm, Bool.and_self, Bool.not_true, hwr]

/-- The same for an effect that is known and leaves the loader's state as it is. -/
theorem hostWrite_effect {s t : State} {p : Fin 2} {k c : Nat} {v : Word} (h : s.takes p k v = true)
    (he : regEffect p (homeKey k) v s = (c, t)) (hl : t.ldr = s.ldr) (hk : k ≠ R.PCR_RST_CTRL) : hostWrite p k v s = answer p c [] t := by
  rw [hostWrite_takes h (by rw [he, hl]; exact (takes_parts h).2.2.2.2.2) (fun h0 => absurd h0 hk), he]

/-- A port that ignores traffic takes nothing (R328). -/
theorem hostWrite_deaf {s : State} {p : Fin 2} (h : s.hears p = false) (k : Nat) (v : Word) : hostWrite p k v s = s := by
  simp only [State.hears, Bool.not_eq_false'] at h
  simp [hostWrite, frame, h]

end Sys2Proof.Machine
end

