-- ==== Sys2Proof/Laws/NearField.lean ====
section
/-! SUPPORT. `Near` through every operation of the Field, the replay, Harrow, the windows and the link; the number of each lemma says which parts it may change. -/

namespace Sys2Proof.Machine

/-! ## Field -/

theorem near_runDrop {l : Nat} (hl : Sub 0x20001 l) {s0 s : State} (h : Near l s0 s) : ∀ x0, Near l s0 (runDrop x0 s) := by
  intro x0
  unfold runDrop
  dsimp only
  repeat' (first | (with_reducible first | assumption | intro _ | exact hl.of rfl | apply Near.setFlag | apply near_plannedEnd (hl.of rfl) | apply near_modField (hl.of rfl) | apply Near.each))

theorem near_runsDrop {l : Nat} (hl : Sub 0x20001 l) {s0 s : State} (h : Near l s0 s) : ∀ x0, Near l s0 (runsDrop x0 s) := by
  intro x0
  unfold runsDrop
  repeat' (first | (with_reducible first | assumption | intro _ | exact hl.of rfl | apply near_runDrop (hl.of rfl) | apply Near.each | apply Near.ite))

theorem near_bistEnd {l : Nat} (hl : Sub 0x28b125d l) {s0 s : State} (h : Near l s0 s) : ∀ x0, Near l s0 (bistEnd x0 s) := by
  intro x0
  unfold bistEnd
  dsimp only
  repeat' (first | (with_reducible first | assumption | intro _ | exact hl.of rfl | apply Near.setReg | apply Near.setFlag | apply near_plotWrite (hl.of rfl) | apply near_plannedEnd (hl.of rfl) | apply near_countCommit (hl.of rfl) | apply near_raiseDoubt (hl.of rfl) | apply Near.ite) | split)

theorem near_bistStart {l : Nat} (hl : Sub 0x83125d l) {s0 s : State} (h : Near l s0 s) : Near l s0 (bistStart s) := by
  unfold bistStart
  repeat' (first | (with_reducible first | assumption | intro _ | exact hl.of rfl | apply near_plannedStart (hl.of rfl) | apply Near.ite))

theorem near_blockFail {l : Nat} (hl : Sub 0x83125d l) {s0 s : State} (h : Near l s0 s) : ∀ x0 x1 x2, Near l s0 (blockFail x0 x1 x2 s) := by
  intro x0 x1 x2
  unfold blockFail
  dsimp only
  repeat' (first | (with_reducible first | assumption | intro _ | exact hl.of rfl | apply Near.setFld | apply Near.setFlag | apply Near.bump | apply near_raiseDoubt (hl.of rfl) | apply near_detFlag (hl.of rfl)))

theorem near_fallowAdvance {l : Nat} (hl : Sub 0x1 l) {s0 s : State} (h : Near l s0 s) : Near l s0 (fallowAdvance s) := by
  unfold fallowAdvance
  dsimp only
  repeat' (first | (with_reducible first | assumption | intro _ | exact hl.of rfl | apply Near.setFld | apply Near.setFlag | apply Near.each | apply Near.ite))

theorem near_cutRefuse {l : Nat} (hl : Sub 0x20001 l) {s0 s : State} (h : Near l s0 s) : ∀ x0 x1, Near l s0 (cutRefuse x0 x1 s) := by
  intro x0 x1
  unfold cutRefuse
  dsimp only
  repeat' (first | (with_reducible first | assumption | intro _ | exact hl.of rfl | apply Near.setFld | apply Near.setFlag | apply near_modField (hl.of rfl)))

theorem near_sigPromote {l : Nat} (hl : Sub 0x1001 l) {s0 s : State} (h : Near l s0 s) : ∀ x0, Near l s0 (sigPromote x0 s) := by
  intro x0
  unfold sigPromote
  dsimp only
  repeat' (first | (with_reducible first | assumption | intro _ | exact hl.of rfl | apply Near.setFld | apply near_modSaf (hl.of rfl)))

theorem near_cutSwap {l : Nat} (hl : Sub 0x21001 l) {s0 s : State} (h : Near l s0 s) : ∀ x0, Near l s0 (cutSwap x0 s) := by
  intro x0
  unfold cutSwap
  dsimp only
  repeat' (first | (with_reducible first | assumption | intro _ | exact hl.of rfl | apply Near.setFlag | apply near_cutRefuse (hl.of rfl) | apply near_sigPromote (hl.of rfl) | apply Near.each | apply Near.ite))

theorem near_ckptFrame {l : Nat} (hl : Sub 0x1 l) {s0 s : State} (h : Near l s0 s) : Near l s0 (ckptFrame s) := by
  unfold ckptFrame
  repeat' (first | (with_reducible first | assumption | intro _ | exact hl.of rfl | apply Near.setFld | apply Near.each))

theorem near_ckptFollow {l : Nat} (hl : Sub 0x1 l) {s0 s : State} (h : Near l s0 s) : ∀ x0, Near l s0 (ckptFollow x0 s) := by
  intro x0
  unfold ckptFollow
  repeat' (first | (with_reducible first | assumption | intro _ | exact hl.of rfl | apply Near.setFld | apply Near.each))

theorem near_checkpoint {l : Nat} (hl : Sub 0x83125d l) {s0 s : State} (h : Near l s0 s) : Near l s0 (checkpoint s) := by
  unfold checkpoint
  dsimp only
  repeat' (first | (with_reducible first | assumption | intro _ | exact hl.of rfl | apply Near.setReg | apply near_raiseDoubt (hl.of rfl) | apply Near.each | apply Near.foldl | apply Near.foldl_snd | apply Near.ite))

theorem near_cutCheckEnd {l : Nat} (hl : Sub 0x20001 l) {s0 s : State} (h : Near l s0 s) : ∀ x0, Near l s0 (cutCheckEnd x0 s) := by
  intro x0
  unfold cutCheckEnd
  dsimp only
  repeat' (first | (with_reducible first | assumption | intro _ | exact hl.of rfl | apply Near.setFlag | apply near_cutRefuse (hl.of rfl) | apply near_modField (hl.of rfl) | apply Near.ite))

theorem near_spillDone {l : Nat} (hl : Sub 0x20001 l) {s0 s : State} (h : Near l s0 s) : ∀ x0, Near l s0 (spillDone x0 s) := by
  intro x0
  unfold spillDone
  dsimp only
  repeat' (first | (with_reducible first | assumption | intro _ | exact hl.of rfl | apply Near.setFld | apply Near.setFlag | apply near_modField (hl.of rfl) | apply near_countCommit (hl.of rfl) | apply near_plannedEnd (hl.of rfl)))

theorem near_dqsTimeout {l : Nat} (hl : Sub 0x83125d l) {s0 s : State} (h : Near l s0 s) : ∀ x0, Near l s0 (dqsTimeout x0 s) := by
  intro x0
  unfold dqsTimeout
  repeat' (first | (with_reducible first | assumption | intro _ | exact hl.of rfl | apply near_spillDone (hl.of rfl) | apply near_blockFail (hl.of rfl) | apply Near.each) | split)

theorem near_goldenInput {l : Nat} (hl : Sub 0x83125d l) {s0 s : State} (h : Near l s0 s) : Near l s0 (goldenInput s).2 := by
  unfold goldenInput
  dsimp only
  repeat' (first | (with_reducible first | assumption | intro _ | exact hl.of rfl | apply near_granRead (hl.of rfl) | apply Near.foldl | apply Near.foldl_snd))

theorem near_entryInput {l : Nat} (hl : Sub 0x83125d l) {s0 s : State} (h : Near l s0 s) : ∀ x0, Near l s0 (entryInput x0 s).2 := by
  intro x0
  unfold entryInput
  dsimp only
  repeat' (first | (with_reducible first | assumption | intro _ | exact hl.of rfl | apply near_goldenInput (hl.of rfl) | apply near_modField (hl.of rfl) | apply near_obsInput (hl.of rfl) | apply near_windowInput (hl.of rfl) | apply Near.ite) | split)

theorem near_runSeeds {l : Nat} (hl : Sub 0x8000000 l) {s0 s : State} (h : Near l s0 s) : ∀ x0 x1, Near l s0 (runSeeds x0 x1 s).2 := by
  intro x0 x1
  unfold runSeeds
  dsimp only
  repeat' (first | (with_reducible first | assumption | intro _ | exact hl.of rfl | apply near_fresh (hl.of rfl) | apply Near.foldl | apply Near.foldl_snd | apply Near.ite) | split)

theorem near_writeInputs {l : Nat} (hl : Sub 0x20a0000 l) {s0 s : State} (h : Near l s0 s) : ∀ x0 x1 x2, Near l s0 (writeInputs x0 x1 x2 s) := by
  intro x0 x1 x2
  unfold writeInputs
  dsimp only
  repeat' (first | (with_reducible first | assumption | intro _ | exact hl.of rfl | apply near_plotWrite (hl.of rfl)))

theorem near_entryStart {l : Nat} (hl : Sub 0xa8b125d l) {s0 s : State} (h : Near l s0 s) : ∀ x0, Near l s0 (entryStart x0 s) := by
  intro x0
  unfold entryStart
  dsimp only
  repeat' (first | (with_reducible first | assumption | intro _ | exact hl.of rfl | apply Near.setFlag | apply near_plannedStart (hl.of rfl) | apply near_runSeeds (hl.of rfl) | apply near_entryInput (hl.of rfl) | apply near_writeInputs (hl.of rfl) | apply near_modField (hl.of rfl) | apply Near.ite) | split)

theorem near_laneStore {l : Nat} (hl : Sub 0x820000 l) {s0 s : State} (h : Near l s0 s) : ∀ x0 x1 x2 x3, Near l s0 (laneStore x0 x1 x2 x3 s) := by
  intro x0 x1 x2 x3
  unfold laneStore
  repeat' (first | (with_reducible first | assumption | intro _ | exact hl.of rfl | apply near_modLink (hl.of rfl) | apply near_modField (hl.of rfl) | apply Near.ite))

theorem near_opRead {l : Nat} (hl : Sub 0x83125d l) {s0 s : State} (h : Near l s0 s) : ∀ x0 x1 x2 x3 x4, Near l s0 (opRead x0 x1 x2 x3 x4 s).2 := by
  intro x0 x1 x2 x3 x4
  unfold opRead
  repeat' (first | (with_reducible first | assumption | intro _ | exact hl.of rfl | apply near_granRead (hl.of rfl) | apply near_plotRead (hl.of rfl) | apply Near.ite) | split)

theorem near_layerOps {l : Nat} (hl : Sub 0x83125d l) {s0 s : State} (h : Near l s0 s) : ∀ x0 x1 x2 x3, Near l s0 (layerOps x0 x1 x2 x3 s).2 := by
  intro x0 x1 x2 x3
  unfold layerOps
  dsimp only
  repeat' (first | (with_reducible first | assumption | intro _ | exact hl.of rfl | apply near_opRead (hl.of rfl)))

theorem near_layerInputs {l : Nat} (hl : Sub 0x83125d l) {s0 s : State} (h : Near l s0 s) : ∀ x0 x1 x2, Near l s0 (layerInputs x0 x1 x2 s).2 := by
  intro x0 x1 x2
  unfold layerInputs
  dsimp only
  repeat' (first | (with_reducible first | assumption | intro _ | exact hl.of rfl | apply near_plotRead (hl.of rfl) | apply Near.foldl | apply Near.foldl_snd))

theorem near_layerRun {l : Nat} (hl : Sub 0x28b125d l) {s0 s : State} (h : Near l s0 s) : ∀ x0 x1 x2 x3, Near l s0 (layerRun x0 x1 x2 x3 s).2 := by
  intro x0 x1 x2 x3
  unfold layerRun
  dsimp only
  repeat' (first | (with_reducible first | assumption | intro _ | exact hl.of rfl | apply Near.setFlag | apply Near.bump | apply near_layerOps (hl.of rfl) | apply near_layerInputs (hl.of rfl) | apply near_raiseDoubt (hl.of rfl) | apply near_plotWrite (hl.of rfl) | apply Near.ite) | split)

theorem near_layerEnd {l : Nat} (hl : Sub 0x28b125d l) {s0 s : State} (h : Near l s0 s) : ∀ x0 x1, Near l s0 (layerEnd x0 x1 s) := by
  intro x0 x1
  unfold layerEnd
  dsimp only
  repeat' (first | (with_reducible first | assumption | intro _ | exact hl.of rfl | apply near_applyUpsets (hl.of rfl) | apply near_layerRun (hl.of rfl) | apply near_modField (hl.of rfl) | apply Near.ite) | split)

theorem near_runOutputs {l : Nat} (hl : Sub 0x83125d l) {s0 s : State} (h : Near l s0 s) : ∀ x0 x1 x2, Near l s0 (runOutputs x0 x1 x2 s).2 := by
  intro x0 x1 x2
  unfold runOutputs
  dsimp only
  repeat' (first | (with_reducible first | assumption | intro _ | exact hl.of rfl | apply near_plotRead (hl.of rfl) | apply Near.foldl | apply Near.foldl_snd | apply Near.ite) | split)

theorem near_tpStore {l : Nat} (hl : Sub 0x1000 l) {s0 s : State} (h : Near l s0 s) : ∀ x0 x1 x2, Near l s0 (tpStore x0 x1 x2 s) := by
  intro x0 x1 x2
  unfold tpStore
  dsimp only
  repeat' (first | (with_reducible first | assumption | intro _ | exact hl.of rfl | apply near_modSaf (hl.of rfl)))

theorem near_networkCommit {l : Nat} (hl : Sub 0x8312dd l) {s0 s : State} (h : Near l s0 s) : ∀ x0, Near l s0 (networkCommit x0 s) := by
  intro x0
  unfold networkCommit
  dsimp only
  repeat' (first | (with_reducible first | assumption | intro _ | exact hl.of rfl | apply near_runOutputs (hl.of rfl) | apply near_countCommit (hl.of rfl) | apply near_runDrop (hl.of rfl) | apply near_tpStore (hl.of rfl) | apply near_obsCommit (hl.of rfl) | apply near_laneStore (hl.of rfl) | apply Near.ite) | split)

theorem near_prgVerdicts {l : Nat} (hl : Sub 0x10b06dd l) {s0 s : State} (h : Near l s0 s) : Near l s0 (prgVerdicts s) := by
  unfold prgVerdicts
  dsimp only
  repeat' (first | (with_reducible first | assumption | intro _ | exact hl.of rfl | apply near_modField (hl.of rfl) | apply near_verdictsPost (hl.of rfl) | apply Near.ite) | split)

theorem near_siloBlock {l : Nat} (hl : Sub 0x18b125d l) {s0 s : State} (h : Near l s0 s) : ∀ x0 x1, Near l s0 (siloBlock x0 x1 s) := by
  intro x0 x1
  unfold siloBlock
  dsimp only
  repeat' (first | (with_reducible first | assumption | intro _ | exact hl.of rfl | apply near_granWrite (hl.of rfl) | apply near_blockFail (hl.of rfl) | apply near_spillDone (hl.of rfl) | apply near_modField (hl.of rfl) | apply Near.ite) | split)

theorem near_spillStart {l : Nat} (hl : Sub 0x83125d l) {s0 s : State} (h : Near l s0 s) : ∀ x0, Near l s0 (spillStart x0 s) := by
  intro x0
  unfold spillStart
  dsimp only
  repeat' (first | (with_reducible first | assumption | intro _ | exact hl.of rfl | apply Near.setFlag | apply near_plannedStart (hl.of rfl) | apply near_modField (hl.of rfl) | apply Near.ite) | split)

theorem near_tpCompare {l : Nat} (hl : Sub 0x83125d l) {s0 s : State} (h : Near l s0 s) : ∀ x0, Near l s0 (tpCompare x0 s) := by
  intro x0
  unfold tpCompare
  repeat' (first | (with_reducible first | assumption | intro _ | exact hl.of rfl | apply Near.setBit | apply Near.bump | apply near_modSaf (hl.of rfl) | apply near_raiseDoubt (hl.of rfl)) | split)

/-! ## Replay -/

theorem near_capSeq {l : Nat} (hl : Sub 0x1 l) {s0 s : State} (h : Near l s0 s) : ∀ x0, Near l s0 (capSeq x0 s).2 := by
  intro x0
  unfold capSeq
  dsimp only
  repeat' (first | (with_reducible first | assumption | intro _ | exact hl.of rfl | apply Near.setFld))

theorem near_capPost {l : Nat} (hl : Sub 0x10b065d l) {s0 s : State} (h : Near l s0 s) : ∀ x0 x1 x2, Near l s0 (capPost x0 x1 x2 s) := by
  intro x0 x1 x2
  unfold capPost
  dsimp only
  repeat' (first | (with_reducible first | assumption | intro _ | exact hl.of rfl | apply Near.setFlag | apply near_postDesc (hl.of rfl) | apply Near.ite))

theorem near_capFast {l : Nat} (hl : Sub 0x10b065d l) {s0 s : State} (h : Near l s0 s) : ∀ x0 x1, Near l s0 (capFast x0 x1 s) := by
  intro x0 x1
  unfold capFast
  dsimp only
  repeat' (first | (with_reducible first | assumption | intro _ | exact hl.of rfl | apply near_capSeq (hl.of rfl) | apply near_capPost (hl.of rfl) | apply Near.ite))

theorem near_replayStop {l : Nat} (hl : Sub 0x41 l) {s0 s : State} (h : Near l s0 s) : ∀ x0, Near l s0 (replayStop x0 s) := by
  intro x0
  unfold replayStop
  repeat' (first | (with_reducible first | assumption | intro _ | exact hl.of rfl | apply Near.setFld | apply near_loopCapture (hl.of rfl) | apply Near.ite))

theorem near_ditherStart {l : Nat} (hl : Sub 0x8200000 l) {s0 s : State} (h : Near l s0 s) : ∀ x0 x1, Near l s0 (ditherStart x0 x1 s) := by
  intro x0 x1
  unfold ditherStart
  dsimp only
  repeat' (first | (with_reducible first | assumption | intro _ | exact hl.of rfl | apply near_modDet (hl.of rfl) | apply near_fresh (hl.of rfl) | apply Near.ite))

theorem near_axisStart {l : Nat} (hl : Sub 0x82000e9 l) {s0 s : State} (h : Near l s0 s) : ∀ x0 x1, Near l s0 (axisStart x0 x1 s) := by
  intro x0 x1
  unfold axisStart
  repeat' (first | (with_reducible first | assumption | intro _ | exact hl.of rfl | apply near_ditherStart (hl.of rfl) | apply near_headStart (hl.of rfl) | apply near_obsStart (hl.of rfl) | apply near_loopStart (hl.of rfl)))

theorem near_replayLeave {l : Nat} (hl : Sub 0x200061 l) {s0 s : State} (h : Near l s0 s) : ∀ x0, Near l s0 (replayLeave x0 s) := by
  intro x0
  unfold replayLeave
  dsimp only
  repeat' (first | (with_reducible first | assumption | intro _ | exact hl.of rfl | apply Near.setFlag | apply near_modHead (hl.of rfl) | apply near_driveOff (hl.of rfl) | apply near_modDet (hl.of rfl)))

theorem near_replayAbort {l : Nat} (hl : Sub 0x200061 l) {s0 s : State} (h : Near l s0 s) : ∀ x0, Near l s0 (replayAbort x0 s) := by
  intro x0
  unfold replayAbort
  dsimp only
  repeat' (first | (with_reducible first | assumption | intro _ | exact hl.of rfl | apply Near.setFld | apply near_replayLeave (hl.of rfl) | apply Near.ite))

theorem near_replayGo {l : Nat} (hl : Sub 0x200001 l) {s0 s : State} (h : Near l s0 s) : ∀ x0 x1, Near l s0 (replayGo x0 x1 s) := by
  intro x0 x1
  unfold replayGo
  dsimp only
  repeat' (first | (with_reducible first | assumption | intro _ | exact hl.of rfl | apply Near.setFld | apply near_modDet (hl.of rfl) | apply Near.ite))

theorem near_capSlow {l : Nat} (hl : Sub 0x10b065d l) {s0 s : State} (h : Near l s0 s) : ∀ x0, Near l s0 (capSlow x0 s) := by
  intro x0
  unfold capSlow
  dsimp only
  repeat' (first | (with_reducible first | assumption | intro _ | exact hl.of rfl | apply near_capSeq (hl.of rfl) | apply near_capPost (hl.of rfl) | apply Near.ite))

theorem near_replayHead {l : Nat} (hl : Sub 0x83165d l) {s0 s : State} (h : Near l s0 s) : ∀ x0, Near l s0 (replayHead x0 s).2 := by
  intro x0
  unfold replayHead
  dsimp only
  repeat' (first | (with_reducible first | assumption | intro _ | exact hl.of rfl | apply near_queFetch (hl.of rfl) | apply near_queConsume (hl.of rfl) | apply Near.ite) | split)

theorem near_replayFail {l : Nat} (hl : Sub 0x200061 l) {s0 s : State} (h : Near l s0 s) : ∀ x0 x1, Near l s0 (replayFail x0 x1 s) := by
  intro x0 x1
  unfold replayFail
  repeat' (first | (with_reducible first | assumption | intro _ | exact hl.of rfl | apply Near.setFld | apply near_replayLeave (hl.of rfl)))

theorem near_replayTake {l : Nat} (hl : Sub 0xa3167d l) {s0 s : State} (h : Near l s0 s) : ∀ x0 x1 x2, Near l s0 (replayTake x0 x1 x2 s).2 := by
  intro x0 x1 x2
  unfold replayTake
  dsimp only
  repeat' (first | (with_reducible first | assumption | intro _ | exact hl.of rfl | apply near_replayHead (hl.of rfl) | apply near_replayFail (hl.of rfl) | apply near_modDet (hl.of rfl) | apply Near.ite) | split)

theorem near_slowTake {l : Nat} (hl : Sub 0xa3167d l) {s0 s : State} (h : Near l s0 s) : ∀ x0, Near l s0 (slowTake x0 s) := by
  intro x0
  unfold slowTake
  dsimp only
  repeat' (first | (with_reducible first | assumption | intro _ | exact hl.of rfl | apply near_replayTake (hl.of rfl) | apply near_modDet (hl.of rfl) | apply Near.ite) | split)

theorem near_setVstep {l : Nat} (hl : Sub 0x1 l) {s0 s : State} (h : Near l s0 s) : ∀ x0 x1, Near l s0 (setVstep x0 x1 s) := by
  intro x0 x1
  unfold setVstep
  repeat' (first | (with_reducible first | assumption | intro _ | exact hl.of rfl | apply Near.setFld))

theorem near_replayStart {l : Nat} (hl : Sub 0x82000e9 l) {s0 s : State} (h : Near l s0 s) : ∀ x0, Near l s0 (replayStart x0 s) := by
  intro x0
  unfold replayStart
  dsimp only
  repeat' (first | (with_reducible first | assumption | intro _ | exact hl.of rfl | apply Near.setFld | apply Near.setFlag | apply near_setVstep (hl.of rfl) | apply near_axisStart (hl.of rfl) | apply near_modDet (hl.of rfl) | apply near_modHead (hl.of rfl) | apply Near.ite))

theorem near_replaySample {l : Nat} (hl : Sub 0xe3967d l) {s0 s : State} (h : Near l s0 s) : ∀ x0, Near l s0 (replaySample x0 s).1 := by
  intro x0
  unfold replaySample
  dsimp only
  repeat' (first | (with_reducible first | assumption | intro _ | exact hl.of rfl | apply near_replayTake (hl.of rfl) | apply near_modDet (hl.of rfl) | apply near_deliverSet (hl.of rfl) | apply near_kclCheck (hl.of rfl)) | split)

theorem near_replayStep {l : Nat} (hl : Sub 0x1 l) {s0 s : State} (h : Near l s0 s) : ∀ x0, Near l s0 (replayStep x0 s) := by
  intro x0
  unfold replayStep
  repeat' (first | (with_reducible first | assumption | intro _ | exact hl.of rfl | apply near_setVstep (hl.of rfl) | apply Near.ite))

/-! ## Harrow -/

theorem near_alvJudge {l : Nat} (hl : Sub 0x80001 l) {s0 s : State} (h : Near l s0 s) : ∀ x0 x1, Near l s0 (alvJudge x0 x1 s) := by
  intro x0 x1
  unfold alvJudge
  dsimp only
  repeat' (first | (with_reducible first | assumption | intro _ | exact hl.of rfl | apply Near.setFld | apply Near.bump | apply near_modHrw (hl.of rfl) | apply Near.ite) | split)

theorem near_alvRecords {l : Nat} (hl : Sub 0x80001 l) {s0 s : State} (h : Near l s0 s) : ∀ x0 x1 x2 x3, Near l s0 (alvRecords x0 x1 x2 x3 s) := by
  intro x0 x1 x2 x3
  induction x2 generalizing s x3 with
  | zero => exact near_modHrw (hl.of rfl) h _
  | succ n ih =>
    unfold alvRecords
    split
    · exact near_modHrw (hl.of rfl) h _
    · exact ih (near_alvJudge (hl.of rfl) h _ _) _

theorem near_chkFree {l : Nat} (hl : Sub 0x1 l) {s0 s : State} (h : Near l s0 s) : ∀ x0, Near l s0 (chkFree x0 s) := by
  intro x0
  unfold chkFree
  repeat' (first | (with_reducible first | assumption | intro _ | exact hl.of rfl | apply Near.setFld | apply Near.setFlag))

theorem near_setHeld {l : Nat} (hl : Sub 0x80000 l) {s0 s : State} (h : Near l s0 s) : ∀ x0 x1, Near l s0 (setHeld x0 x1 s) := by
  intro x0 x1
  unfold setHeld
  repeat' (first | (with_reducible first | assumption | intro _ | exact hl.of rfl | apply near_modHrw (hl.of rfl)))

theorem near_chkInit {l : Nat} (hl : Sub 0x80001 l) {s0 s : State} (h : Near l s0 s) : ∀ x0 x1, Near l s0 (chkInit x0 x1 s) := by
  intro x0 x1
  unfold chkInit
  dsimp only
  repeat' (first | (with_reducible first | assumption | intro _ | exact hl.of rfl | apply Near.setReg | apply Near.setFld | apply Near.setFlag | apply near_modHrw (hl.of rfl)))

theorem near_stdNext {l : Nat} (hl : Sub 0x80001 l) {s0 s : State} (h : Near l s0 s) : Near l s0 (stdNext s) := by
  unfold stdNext
  dsimp only
  repeat' (first | (with_reducible first | assumption | intro _ | exact hl.of rfl | apply Near.setFld | apply Near.setFlag | apply near_setHeld (hl.of rfl) | apply near_chkInit (hl.of rfl) | apply Near.ite) | split)

theorem near_scanEndWhy {l : Nat} (hl : Sub 0x90001 l) {s0 s : State} (h : Near l s0 s) : ∀ x0 x1, Near l s0 (scanEndWhy x0 x1 s) := by
  intro x0 x1
  unfold scanEndWhy
  dsimp only
  repeat' (first | (with_reducible first | assumption | intro _ | exact hl.of rfl | apply near_chkFree (hl.of rfl) | apply near_stdNext (hl.of rfl) | apply near_setHeld (hl.of rfl) | apply near_trnEnd (hl.of rfl) | apply near_scanStop (hl.of rfl) | apply Near.each | apply Near.ite))

theorem near_stdStop {l : Nat} (hl : Sub 0x80001 l) {s0 s : State} (h : Near l s0 s) : ∀ x0, Near l s0 (stdStop x0 s) := by
  intro x0
  unfold stdStop
  dsimp only
  repeat' (first | (with_reducible first | assumption | intro _ | exact hl.of rfl | apply near_setHeld (hl.of rfl) | apply near_chkFree (hl.of rfl) | apply near_stdNext (hl.of rfl) | apply near_modHrw (hl.of rfl)) | split)

theorem near_scansTenant {l : Nat} (hl : Sub 0x90001 l) {s0 s : State} (h : Near l s0 s) : ∀ x0, Near l s0 (scansTenant x0 s) := by
  intro x0
  unfold scansTenant
  dsimp only
  repeat' (first | (with_reducible first | assumption | intro _ | exact hl.of rfl | apply near_scanEndWhy (hl.of rfl) | apply near_stdStop (hl.of rfl) | apply Near.each | apply Near.ite))

theorem near_chkHost {l : Nat} (hl : Sub 0x1 l) {s0 s : State} {x1 : State → State} (hx : ∀ t, Near l s0 t → Near l s0 (x1 t)) (h : Near l s0 s) : ∀ x0, Near l s0 (chkHost x0 x1 s) := by
  intro x0
  unfold chkHost
  split <;> first | exact h | exact hx _ h | exact h.setFlag _ _

theorem near_chkHostInit {l : Nat} (hl : Sub 0x80001 l) {s0 s : State} (h : Near l s0 s) : ∀ x0, Near l s0 (chkHostInit x0 s) := by
  intro x0
  unfold chkHostInit
  repeat' (first | (with_reducible first | assumption | intro _ | exact hl.of rfl | apply near_chkHost (hl.of rfl) | apply near_chkInit (hl.of rfl)))

theorem near_chkFeed {l : Nat} (hl : Sub 0x80001 l) {s0 s : State} (h : Near l s0 s) : ∀ x0 x1 x2, Near l s0 (chkFeed x0 x1 x2 s) := by
  intro x0 x1 x2
  unfold chkFeed
  dsimp only
  repeat' (first | (with_reducible first | assumption | intro _ | exact hl.of rfl | apply Near.setReg | apply Near.setFld | apply near_modHrw (hl.of rfl) | apply near_alvRecords (hl.of rfl) | apply Near.ite))

theorem near_chkHostFeed {l : Nat} (hl : Sub 0x80001 l) {s0 s : State} (h : Near l s0 s) : ∀ x0 x1, Near l s0 (chkHostFeed x0 x1 s) := by
  intro x0 x1
  unfold chkHostFeed
  repeat' (first | (with_reducible first | assumption | intro _ | exact hl.of rfl | apply Near.setFlag | apply near_chkHost (hl.of rfl) | apply near_chkFeed (hl.of rfl)))

theorem near_chkConfig {l : Nat} (hl : Sub 0x1 l) {s0 s : State} (h : Near l s0 s) : ∀ x0 x1 x2, Near l s0 (chkConfig x0 x1 x2 s) := by
  intro x0 x1 x2
  unfold chkConfig
  dsimp only
  repeat' (first | (with_reducible first | assumption | intro _ | exact hl.of rfl | apply Near.setReg | apply Near.setFlag | apply near_chkHost (hl.of rfl) | apply Near.ite))

theorem near_snapTake {l : Nat} (hl : Sub 0x80000 l) {s0 s : State} (h : Near l s0 s) : Near l s0 (snapTake s) := by
  unfold snapTake
  repeat' (first | (with_reducible first | assumption | intro _ | exact hl.of rfl | apply near_modHrw (hl.of rfl)))

theorem near_stdDue {l : Nat} (hl : Sub 0x80001 l) {s0 s : State} (h : Near l s0 s) : Near l s0 (stdDue s) := by
  unfold stdDue
  dsimp only
  repeat' (first | (with_reducible first | assumption | intro _ | exact hl.of rfl | apply Near.setFlag | apply near_modHrw (hl.of rfl) | apply near_stdNext (hl.of rfl) | apply Near.each | apply Near.ite))

theorem near_chkDone {l : Nat} (hl : Sub 0x1 l) {s0 s : State} (h : Near l s0 s) : ∀ x0, Near l s0 (chkDone x0 s) := by
  intro x0
  unfold chkDone
  repeat' (first | (with_reducible first | assumption | intro _ | exact hl.of rfl | apply Near.setFld | apply Near.setFlag))

theorem near_scansPd3 {l : Nat} (hl : Sub 0x90001 l) {s0 s : State} (h : Near l s0 s) : Near l s0 (scansPd3 s) := by
  unfold scansPd3
  dsimp only
  repeat' (first | (with_reducible first | assumption | intro _ | exact hl.of rfl | apply near_scanEndWhy (hl.of rfl) | apply near_stdStop (hl.of rfl) | apply Near.each | apply Near.ite))

theorem near_scrubFrame {l : Nat} (hl : Sub 0xb025d l) {s0 s : State} (h : Near l s0 s) : Near l s0 (scrubFrame s) := by
  unfold scrubFrame
  extract_lets one r t
  have hr : Near l s0 r.1 := by
    refine Near.foldl_fst (fun x m hx => ?_) _ h
    simp only [one]
    repeat' (first | with_reducible assumption | exact hl.of rfl | with_reducible apply Near.setFld | with_reducible apply Near.setBit | with_reducible apply Near.bump | dsimp only | split)
  have ht : Near l s0 t := near_modHrw (hl.of rfl) hr _
  clear_value t r
  repeat' (first | with_reducible assumption | exact hl.of rfl | with_reducible apply near_raise (hl.of rfl) | with_reducible apply near_irqLatch (hl.of rfl) | split)

theorem near_scanElem {l : Nat} (hl : Sub 0x83125d l) {s0 s : State} (h : Near l s0 s) : ∀ x0 x1 x2 x3, Near l s0 (scanElem x0 x1 x2 x3 s).2 := by
  intro x0 x1 x2 x3
  unfold scanElem
  dsimp only
  repeat' (first | (with_reducible first | assumption | intro _ | exact hl.of rfl | apply Near.setFld | apply Near.setFlag | apply near_granCount (hl.of rfl) | apply near_plotCount (hl.of rfl)) | split)

theorem near_scanElems {l : Nat} (hl : Sub 0x83125d l) {s0 s : State} (h : Near l s0 s) : ∀ x0 x1 x2 x3 x4, Near l s0 (scanElems x0 x1 x2 x3 x4 s).2 := by
  intro x0 x1 x2 x3 x4
  induction x4 generalizing s x3 with
  | zero => exact h
  | succ n ih => exact ih (near_scanElem (hl.of rfl) h _ _ _ _) _

theorem near_scanDone {l : Nat} (hl : Sub 0x8b125d l) {s0 s : State} (h : Near l s0 s) : ∀ x0, Near l s0 (scanDone x0 s) := by
  intro x0
  unfold scanDone
  dsimp only
  repeat' (first | (with_reducible first | assumption | intro _ | exact hl.of rfl | apply Near.setFld | apply near_scanElems (hl.of rfl) | apply near_chkDone (hl.of rfl) | apply near_chkFeed (hl.of rfl) | apply near_scanStop (hl.of rfl) | apply near_stdNext (hl.of rfl) | apply near_setHeld (hl.of rfl) | apply near_trnEnd (hl.of rfl) | apply Near.each | apply Near.ite))

theorem near_scanRefused {l : Nat} (hl : Sub 0x90001 l) {s0 s : State} (h : Near l s0 s) : ∀ x0, Near l s0 (scanRefused x0 s) := by
  intro x0
  unfold scanRefused
  repeat' (first | (with_reducible first | assumption | intro _ | exact hl.of rfl | apply near_scanEndWhy (hl.of rfl)))

theorem near_scanRun {l : Nat} (hl : Sub 0x90001 l) {s0 s : State} (h : Near l s0 s) : ∀ x0, Near l s0 (scanRun x0 s) := by
  intro x0
  unfold scanRun
  dsimp only
  repeat' (first | (with_reducible first | assumption | intro _ | exact hl.of rfl | apply Near.setFld | apply near_scanEndWhy (hl.of rfl) | apply near_setHeld (hl.of rfl) | apply near_chkInit (hl.of rfl) | apply Near.each | apply Near.ite))

theorem near_scanStarved {l : Nat} (hl : Sub 0x8b125d l) {s0 s : State} (h : Near l s0 s) : ∀ x0 x1, Near l s0 (scanStarved x0 x1 s) := by
  intro x0 x1
  unfold scanStarved
  dsimp only
  repeat' (first | (with_reducible first | assumption | intro _ | exact hl.of rfl | apply Near.setFld | apply near_scanElems (hl.of rfl) | apply near_chkFeed (hl.of rfl) | apply near_scanEndWhy (hl.of rfl) | apply Near.each | apply Near.ite))

theorem near_scrubAccess {l : Nat} (hl : Sub 0x80001 l) {s0 s : State} (h : Near l s0 s) : ∀ x0, Near l s0 (scrubAccess x0 s) := by
  intro x0
  unfold scrubAccess
  dsimp only
  repeat' (first | (with_reducible first | assumption | intro _ | exact hl.of rfl | apply Near.setFld | apply Near.setFlag | apply Near.bump | apply near_modHrw (hl.of rfl) | apply Near.ite))

theorem near_scrubWriteBack {l : Nat} (hl : Sub 0xa0001 l) {s0 s : State} (h : Near l s0 s) : ∀ x0, Near l s0 (scrubWriteBack x0 s) := by
  intro x0
  unfold scrubWriteBack
  dsimp only
  repeat' (first | (with_reducible first | assumption | intro _ | exact hl.of rfl | apply Near.bump | apply near_modHrw (hl.of rfl) | apply near_modField (hl.of rfl) | apply Near.ite) | split)

theorem near_stdEnd {l : Nat} (hl : Sub 0x8b125d l) {s0 s : State} (h : Near l s0 s) : Near l s0 (stdEnd s) := by
  unfold stdEnd
  dsimp only
  repeat' (first | (with_reducible first | assumption | intro _ | exact hl.of rfl | apply Near.setFlag | apply near_scanElems (hl.of rfl) | apply near_chkDone (hl.of rfl) | apply near_chkFeed (hl.of rfl) | apply near_modHrw (hl.of rfl) | apply near_setHeld (hl.of rfl) | apply near_raise (hl.of rfl) | apply near_irqLatch (hl.of rfl) | apply near_stdNext (hl.of rfl) | apply Near.ite) | split)

/-! ## Windows -/

theorem near_winWriteFail {l : Nat} (hl : Sub 0x1 l) {s0 s : State} (h : Near l s0 s) : ∀ x0 x1, Near l s0 (winWriteFail x0 x1 s) := by
  intro x0 x1
  unfold winWriteFail
  dsimp only
  repeat' (first | (with_reducible first | assumption | intro _ | exact hl.of rfl | apply Near.setFld | apply Near.setFlag | apply Near.setBit))

theorem near_siloShow {l : Nat} (hl : Sub 0x1 l) {s0 s : State} (h : Near l s0 s) : Near l s0 (siloShow s) := by
  unfold siloShow
  repeat' (first | (with_reducible first | assumption | intro _ | exact hl.of rfl | apply Near.setFlag))

theorem near_siloOver {l : Nat} (hl : Sub 0x30001 l) {s0 s : State} (h : Near l s0 s) : ∀ x0, Near l s0 (siloOver x0 s) := by
  intro x0
  unfold siloOver
  dsimp only
  repeat' (first | (with_reducible first | assumption | intro _ | exact hl.of rfl | apply near_modField (hl.of rfl) | apply near_siloShow (hl.of rfl) | apply near_trnEnd (hl.of rfl)))

theorem near_winFail {l : Nat} (hl : Sub 0x30801 l) {s0 s : State} (h : Near l s0 s) : ∀ x0 x1 x2, Near l s0 (winFail x0 x1 x2 s) := by
  intro x0 x1 x2
  unfold winFail
  dsimp only
  repeat' (first | (with_reducible first | assumption | intro _ | exact hl.of rfl | apply near_modPort (hl.of rfl) | apply near_winWriteFail (hl.of rfl) | apply near_siloOver (hl.of rfl) | apply Near.ite))

theorem near_siloRefused {l : Nat} (hl : Sub 0x30801 l) {s0 s : State} (h : Near l s0 s) : ∀ x0, Near l s0 (siloRefused x0 s) := by
  intro x0
  unfold siloRefused
  repeat' (first | (with_reducible first | assumption | intro _ | exact hl.of rfl | apply near_winFail (hl.of rfl)) | split)

theorem near_siloStart {l : Nat} (hl : Sub 0x20001 l) {s0 s : State} (h : Near l s0 s) : ∀ x0, Near l s0 (siloStart x0 s) := by
  intro x0
  unfold siloStart
  repeat' (first | (with_reducible first | assumption | intro _ | exact hl.of rfl | apply near_siloShow (hl.of rfl) | apply near_modField (hl.of rfl) | apply Near.ite))

theorem near_winAsk {l : Nat} (hl : Sub 0x30801 l) {s0 s : State} (h : Near l s0 s) : ∀ x0 x1 x2, Near l s0 (winAsk x0 x1 x2 s) := by
  intro x0 x1 x2
  unfold winAsk
  repeat' (first | (with_reducible first | assumption | intro _ | exact hl.of rfl | apply Near.setFlag | apply near_winFail (hl.of rfl) | apply near_trnRequest (hl.of rfl) | apply Near.ite) | split)

theorem near_winOffEnd {l : Nat} (hl : Sub 0x30801 l) {s0 s : State} (h : Near l s0 s) : ∀ x0 x1 x2, Near l s0 (winOffEnd x0 x1 x2 s) := by
  intro x0 x1 x2
  unfold winOffEnd
  repeat' (first | (with_reducible first | assumption | intro _ | exact hl.of rfl | apply Near.setFlag | apply near_winFail (hl.of rfl) | apply Near.ite))

theorem near_winReadServe {l : Nat} (hl : Sub 0x831a5d l) {s0 s : State} (h : Near l s0 s) : ∀ x0 x1 x2, Near l s0 (winReadServe x0 x1 x2 s) := by
  intro x0 x1 x2
  unfold winReadServe
  dsimp only
  repeat' (first | (with_reducible first | assumption | intro _ | exact hl.of rfl | apply near_granRead (hl.of rfl) | apply near_winFail (hl.of rfl) | apply near_modPort (hl.of rfl) | apply near_plotRead (hl.of rfl) | apply near_siloOver (hl.of rfl) | apply Near.ite) | split)

theorem near_winWriteServe {l : Nat} (hl : Sub 0x78b1a5d l) {s0 s : State} (h : Near l s0 s) : ∀ x0 x1 x2, Near l s0 (winWriteServe x0 x1 x2 s) := by
  intro x0 x1 x2
  unfold winWriteServe
  dsimp only
  repeat' (first | (with_reducible first | assumption | intro _ | exact hl.of rfl | apply Near.setFlag | apply near_winFail (hl.of rfl) | apply near_modPort (hl.of rfl) | apply near_granCount (hl.of rfl) | apply near_granWrite (hl.of rfl) | apply near_modField (hl.of rfl) | apply near_plotCount (hl.of rfl) | apply near_plotWrite (hl.of rfl) | apply near_siloOver (hl.of rfl) | apply near_siloWrite (hl.of rfl) | apply Near.each | apply Near.ite) | split)

theorem near_winServe {l : Nat} (hl : Sub 0x78b1a5d l) {s0 s : State} (h : Near l s0 s) : ∀ x0 x1, Near l s0 (winServe x0 x1 s) := by
  intro x0 x1
  unfold winServe
  repeat' (first | (with_reducible first | assumption | intro _ | exact hl.of rfl | apply near_winOffEnd (hl.of rfl) | apply near_winWriteServe (hl.of rfl) | apply near_winReadServe (hl.of rfl) | apply Near.ite) | split)

theorem near_winTimeout {l : Nat} (hl : Sub 0x30801 l) {s0 s : State} (h : Near l s0 s) : ∀ x0 x1, Near l s0 (winTimeout x0 x1 s) := by
  intro x0 x1
  unfold winTimeout
  dsimp only
  repeat' (first | (with_reducible first | assumption | intro _ | exact hl.of rfl | apply Near.setFlag | apply near_winFail (hl.of rfl) | apply Near.ite))

/-! ## Tramline -/

theorem near_linkFlush {l : Nat} (hl : Sub 0x800000 l) {s0 s : State} (h : Near l s0 s) : Near l s0 (linkFlush s) := by
  unfold linkFlush
  repeat' (first | (with_reducible first | assumption | intro _ | exact hl.of rfl | apply near_modLink (hl.of rfl)))

theorem near_bulkEnd {l : Nat} (hl : Sub 0x83025d l) {s0 s : State} (h : Near l s0 s) : ∀ x0 x1 x2, Near l s0 (bulkEnd x0 x1 x2 s) := by
  intro x0 x1 x2
  unfold bulkEnd
  dsimp only
  repeat' (first | (with_reducible first | assumption | intro _ | exact hl.of rfl | apply near_trnEnd (hl.of rfl) | apply near_bulkSet (hl.of rfl) | apply near_raise (hl.of rfl) | apply near_modLink (hl.of rfl)))

theorem near_bulkDrop {l : Nat} (hl : Sub 0x83025d l) {s0 s : State} (h : Near l s0 s) : ∀ x0 x1 x2, Near l s0 (bulkDrop x0 x1 x2 s) := by
  intro x0 x1 x2
  unfold bulkDrop
  dsimp only
  repeat' (first | (with_reducible first | assumption | intro _ | exact hl.of rfl | apply near_bulkEnd (hl.of rfl) | apply Near.ite))

theorem near_setTile {l : Nat} (hl : Sub 0x1 l) {s0 s : State} (h : Near l s0 s) : ∀ x0 x1, Near l s0 (setTile x0 x1 s) := by
  intro x0 x1
  unfold setTile
  repeat' (first | (with_reducible first | assumption | intro _ | exact hl.of rfl | apply Near.setFld))

theorem near_tileAudit {l : Nat} (hl : Sub 0x3025d l) {s0 s : State} (h : Near l s0 s) : Near l s0 (tileAudit s) := by
  unfold tileAudit
  dsimp only
  repeat' (first | (with_reducible first | assumption | intro _ | exact hl.of rfl | apply Near.setFld | apply Near.setFlag | apply near_raise (hl.of rfl) | apply Near.ite))

theorem near_evictCheck {l : Nat} (hl : Sub 0x83025d l) {s0 s : State} (h : Near l s0 s) : Near l s0 (evictCheck s) := by
  unfold evictCheck
  repeat' (first | (with_reducible first | assumption | intro _ | exact hl.of rfl | apply near_tileAudit (hl.of rfl) | apply near_setTile (hl.of rfl) | apply near_modLink (hl.of rfl) | apply Near.ite) | split)

theorem near_linkOff {l : Nat} (hl : Sub 0x83025d l) {s0 s : State} (h : Near l s0 s) : ∀ x0, Near l s0 (linkOff x0 s) := by
  intro x0
  unfold linkOff
  dsimp only
  repeat' (first | (with_reducible first | assumption | intro _ | exact hl.of rfl | apply Near.setFld | apply near_linkFlush (hl.of rfl) | apply near_pairOut (hl.of rfl) | apply near_bulkDrop (hl.of rfl) | apply near_setTile (hl.of rfl) | apply near_raise (hl.of rfl) | apply near_evictCheck (hl.of rfl) | apply Near.each | apply Near.ite))

theorem near_trainStart {l : Nat} (hl : Sub 0x800001 l) {s0 s : State} (h : Near l s0 s) : Near l s0 (trainStart s) := by
  unfold trainStart
  dsimp only
  repeat' (first | (with_reducible first | assumption | intro _ | exact hl.of rfl | apply Near.setReg | apply Near.setFld | apply near_linkFlush (hl.of rfl) | apply near_modLink (hl.of rfl)))

theorem near_bookShow {l : Nat} (hl : Sub 0x1 l) {s0 s : State} (h : Near l s0 s) : ∀ x0 x1, Near l s0 (bookShow x0 x1 s) := by
  intro x0 x1
  unfold bookShow
  dsimp only
  repeat' (first | (with_reducible first | assumption | intro _ | exact hl.of rfl | apply Near.setFld))

theorem near_cutAnswer {l : Nat} (hl : Sub 0x800000 l) {s0 s : State} (h : Near l s0 s) : ∀ x0 x1, Near l s0 (cutAnswer x0 x1 s) := by
  intro x0 x1
  unfold cutAnswer
  repeat' (first | (with_reducible first | assumption | intro _ | exact hl.of rfl | apply near_linkQueue (hl.of rfl)))

theorem near_trlAck {l : Nat} (hl : Sub 0x800001 l) {s0 s : State} (h : Near l s0 s) : Near l s0 (trlAck s) := by
  unfold trlAck
  repeat' (first | (with_reducible first | assumption | intro _ | exact hl.of rfl | apply Near.setFlag | apply near_trainStart (hl.of rfl) | apply Near.ite))

theorem near_psClr {l : Nat} (hl : Sub 0x1 l) {s0 s : State} (h : Near l s0 s) : Near l s0 (psClr s) := by
  unfold psClr
  repeat' (first | (with_reducible first | assumption | intro _ | exact hl.of rfl | apply near_pairOut (hl.of rfl) | apply Near.ite))

theorem near_driftAlarm {l : Nat} (hl : Sub 0x3025d l) {s0 s : State} (h : Near l s0 s) : Near l s0 (driftAlarm s) := by
  unfold driftAlarm
  dsimp only
  repeat' (first | (with_reducible first | assumption | intro _ | exact hl.of rfl | apply Near.setFld | apply Near.setFlag | apply near_raise (hl.of rfl) | apply Near.ite))

theorem near_linkDiscipline {l : Nat} (hl : Sub 0x83025d l) {s0 s : State} (h : Near l s0 s) : Near l s0 (linkDiscipline s) := by
  unfold linkDiscipline
  repeat' (first | (with_reducible first | assumption | intro _ | exact hl.of rfl | apply Near.setFld | apply near_modLink (hl.of rfl) | apply near_driftAlarm (hl.of rfl) | apply Near.ite) | split)

theorem near_linkBoundary {l : Nat} (hl : Sub 0x83025d l) {s0 s : State} (h : Near l s0 s) : Near l s0 (linkBoundary s) := by
  unfold linkBoundary
  repeat' (first | (with_reducible first | assumption | intro _ | exact hl.of rfl | apply near_linkDiscipline (hl.of rfl) | apply near_modLink (hl.of rfl)))

theorem near_partFlush {l : Nat} (hl : Sub 0x800000 l) {s0 s : State} (h : Near l s0 s) : Near l s0 (partFlush s) := by
  unfold partFlush
  repeat' (first | (with_reducible first | assumption | intro _ | exact hl.of rfl | apply near_modLink (hl.of rfl)))

theorem near_linkUp {l : Nat} (hl : Sub 0x83025d l) {s0 s : State} (h : Near l s0 s) : Near l s0 (linkUp s) := by
  unfold linkUp
  repeat' (first | (with_reducible first | assumption | intro _ | exact hl.of rfl | apply Near.setFld | apply near_raise (hl.of rfl) | apply near_partFlush (hl.of rfl)))

theorem near_linkJudge {l : Nat} (hl : Sub 0x83025d l) {s0 s : State} (h : Near l s0 s) : Near l s0 (linkJudge s) := by
  unfold linkJudge
  dsimp only
  repeat' (first | (with_reducible first | assumption | intro _ | exact hl.of rfl | apply Near.setFld | apply near_linkOff (hl.of rfl) | apply near_raise (hl.of rfl) | apply near_linkUp (hl.of rfl) | apply Near.ite))

theorem near_linkErr {l : Nat} (hl : Sub 0x800001 l) {s0 s : State} (h : Near l s0 s) : ∀ x0, Near l s0 (linkErr x0 s) := by
  intro x0
  unfold linkErr
  repeat' (first | (with_reducible first | assumption | intro _ | exact hl.of rfl | apply Near.bump | apply near_modLink (hl.of rfl) | apply Near.ite))

theorem near_linkReject {l : Nat} (hl : Sub 0x800001 l) {s0 s : State} (h : Near l s0 s) : Near l s0 (linkReject s) := by
  unfold linkReject
  repeat' (first | (with_reducible first | assumption | intro _ | exact hl.of rfl | apply Near.bump | apply near_linkErr (hl.of rfl)))

theorem near_linkGood {l : Nat} (hl : Sub 0x800001 l) {s0 s : State} (h : Near l s0 s) : Near l s0 (linkGood s) := by
  unfold linkGood
  repeat' (first | (with_reducible first | assumption | intro _ | exact hl.of rfl | apply Near.setFld | apply near_modLink (hl.of rfl)))

theorem near_modVc {l : Nat} (hl : Sub 0x800000 l) {s0 s : State} (h : Near l s0 s) : ∀ x0 x1, Near l s0 (modVc x0 x1 s) := by
  intro x0 x1
  unfold modVc
  repeat' (first | (with_reducible first | assumption | intro _ | exact hl.of rfl | apply near_modLink (hl.of rfl)))

theorem near_linkMissing {l : Nat} (hl : Sub 0x800001 l) {s0 s : State} (h : Near l s0 s) : ∀ x0 x1, Near l s0 (linkMissing x0 x1 s) := by
  intro x0 x1
  unfold linkMissing
  dsimp only
  repeat' (first | (with_reducible first | assumption | intro _ | exact hl.of rfl | apply near_modVc (hl.of rfl) | apply near_linkErr (hl.of rfl) | apply near_cutAnswer (hl.of rfl) | apply near_modLink (hl.of rfl) | apply Near.ite) | split)

theorem near_linkTake {l : Nat} (hl : Sub 0x800001 l) {s0 s : State} (h : Near l s0 s) : ∀ x0 x1 x2, Near l s0 (linkTake x0 x1 x2 s) := by
  intro x0 x1 x2
  unfold linkTake
  dsimp only
  repeat' (first | (with_reducible first | assumption | intro _ | exact hl.of rfl | apply near_linkReject (hl.of rfl) | apply near_linkGood (hl.of rfl) | apply near_linkMissing (hl.of rfl) | apply near_modVc (hl.of rfl) | apply near_modLink (hl.of rfl) | apply Near.ite) | split)

theorem near_linkReceive {l : Nat} (hl : Sub 0x83025d l) {s0 s : State} (h : Near l s0 s) : ∀ x0 x1, Near l s0 (linkReceive x0 x1 s) := by
  intro x0 x1
  unfold linkReceive
  dsimp only
  repeat' (first | (with_reducible first | assumption | intro _ | exact hl.of rfl | apply Near.setFld | apply Near.bump | apply near_linkReject (hl.of rfl) | apply near_linkGood (hl.of rfl) | apply near_modLink (hl.of rfl) | apply near_linkTake (hl.of rfl) | apply near_driftAlarm (hl.of rfl) | apply Near.ite) | split)

theorem near_burstReceived {l : Nat} (hl : Sub 0x83025d l) {s0 s : State} (h : Near l s0 s) : ∀ x0 x1 x2 x3, Near l s0 (burstReceived x0 x1 x2 x3 s) := by
  intro x0 x1 x2 x3
  unfold burstReceived
  dsimp only
  repeat' (first | (with_reducible first | assumption | intro _ | exact hl.of rfl | apply Near.setFld | apply near_modLink (hl.of rfl) | apply near_linkJudge (hl.of rfl) | apply near_linkReceive (hl.of rfl) | apply Near.each | apply Near.ite))

theorem near_cretTake {l : Nat} (hl : Sub 0x800000 l) {s0 s : State} (h : Near l s0 s) : Near l s0 (cretTake s) := by
  unfold cretTake
  dsimp only
  repeat' (first | (with_reducible first | assumption | intro _ | exact hl.of rfl | apply near_modVc (hl.of rfl) | apply Near.each))

theorem near_doubtIn {l : Nat} (hl : Sub 0x800000 l) {s0 s : State} (h : Near l s0 s) : ∀ x0, Near l s0 (doubtIn x0 s) := by
  intro x0
  unfold doubtIn
  repeat' (first | (with_reducible first | assumption | intro _ | exact hl.of rfl | apply near_modLink (hl.of rfl)))

theorem near_tecUpdate {l : Nat} (hl : Sub 0x1 l) {s0 s : State} (h : Near l s0 s) : ∀ x0, Near l s0 (tecUpdate x0 s) := by
  intro x0
  unfold tecUpdate
  repeat' (first | (with_reducible first | assumption | intro _ | exact hl.of rfl | apply Near.setFld))

theorem near_tileCount {l : Nat} (hl : Sub 0x3025d l) {s0 s : State} (h : Near l s0 s) : ∀ x0, Near l s0 (tileCount x0 s) := by
  intro x0
  unfold tileCount
  repeat' (first | (with_reducible first | assumption | intro _ | exact hl.of rfl | apply Near.setFlag | apply near_raise (hl.of rfl) | apply Near.ite))

theorem near_heartbeatIn {l : Nat} (hl : Sub 0x83025d l) {s0 s : State} (h : Near l s0 s) : ∀ x0, Near l s0 (heartbeatIn x0 s) := by
  intro x0
  unfold heartbeatIn
  dsimp only
  repeat' (first | (with_reducible first | assumption | intro _ | exact hl.of rfl | apply Near.setFld | apply Near.setFlag | apply near_linkJudge (hl.of rfl) | apply near_linkReject (hl.of rfl) | apply near_modLink (hl.of rfl) | apply near_linkMissing (hl.of rfl) | apply near_bookShow (hl.of rfl) | apply near_tecUpdate (hl.of rfl) | apply near_tileCount (hl.of rfl) | apply near_linkOff (hl.of rfl) | apply near_raise (hl.of rfl) | apply Near.each | apply Near.ite))

theorem near_laneLoss {l : Nat} (hl : Sub 0x83025d l) {s0 s : State} (h : Near l s0 s) : Near l s0 (laneLoss s) := by
  unfold laneLoss
  repeat' (first | (with_reducible first | assumption | intro _ | exact hl.of rfl | apply Near.setFld | apply near_linkOff (hl.of rfl) | apply Near.ite))

theorem near_linkCret {l : Nat} (hl : Sub 0x800000 l) {s0 s : State} (h : Near l s0 s) : ∀ x0, Near l s0 (linkCret x0 s) := by
  intro x0
  unfold linkCret
  dsimp only
  repeat' (first | (with_reducible first | assumption | intro _ | exact hl.of rfl | apply near_modVc (hl.of rfl) | apply Near.each))

theorem near_linkFree {l : Nat} (hl : Sub 0x800000 l) {s0 s : State} (h : Near l s0 s) : ∀ x0, Near l s0 (linkFree x0 s) := by
  intro x0
  unfold linkFree
  repeat' (first | (with_reducible first | assumption | intro _ | exact hl.of rfl | apply near_modVc (hl.of rfl)))

theorem near_linkPop {l : Nat} (hl : Sub 0x800000 l) {s0 s : State} (h : Near l s0 s) : ∀ x0, Near l s0 (linkPop x0 s).2 := by
  intro x0
  unfold linkPop
  dsimp only
  repeat' (first | (with_reducible first | assumption | intro _ | exact hl.of rfl | apply near_linkCret (hl.of rfl) | apply near_modLink (hl.of rfl) | apply near_linkFree (hl.of rfl) | apply Near.ite) | split)

theorem near_linkHandle {l : Nat} (hl : Sub 0x800000 l) {s0 s : State} {f : List Byte → State → State} (hf : ∀ b t, Near l s0 t → Near l s0 (f b t)) (h : Near l s0 s) : ∀ x0, Near l s0 (linkHandle x0 f s) := by
  intro x0
  have hp := near_linkPop (hl.of rfl) h x0
  unfold linkHandle
  split <;> rename_i he <;> rw [he] at hp
  · exact hp
  · exact hf _ _ hp

theorem near_linkPhase {l : Nat} (hl : Sub 0x83025d l) {s0 s : State} (h : Near l s0 s) : ∀ x0 x1, Near l s0 (linkPhase x0 x1 s) := by
  intro x0 x1
  unfold linkPhase
  dsimp only
  repeat' (first | (with_reducible first | assumption | intro _ | exact hl.of rfl | apply Near.setFld | apply near_linkOff (hl.of rfl) | apply near_modLink (hl.of rfl) | apply near_linkUp (hl.of rfl) | apply Near.ite))

theorem near_noHeartbeat {l : Nat} (hl : Sub 0x83025d l) {s0 s : State} (h : Near l s0 s) : Near l s0 (noHeartbeat s) := by
  unfold noHeartbeat
  repeat' (first | (with_reducible first | assumption | intro _ | exact hl.of rfl | apply near_linkJudge (hl.of rfl) | apply near_linkErr (hl.of rfl)))

theorem near_offReady {l : Nat} (hl : Sub 0x1 l) {s0 s : State} (h : Near l s0 s) : Near l s0 (offReady s) := by
  unfold offReady
  repeat' (first | (with_reducible first | assumption | intro _ | exact hl.of rfl | apply Near.setFld | apply Near.ite))

theorem near_retractIn {l : Nat} (hl : Sub 0x83025d l) {s0 s : State} (h : Near l s0 s) : ∀ x0, Near l s0 (retractIn x0 s) := by
  intro x0
  unfold retractIn
  dsimp only
  repeat' (first | (with_reducible first | assumption | intro _ | exact hl.of rfl | apply near_modLink (hl.of rfl) | apply near_raise (hl.of rfl)))

theorem near_retrainEnd {l : Nat} (hl : Sub 0x83025d l) {s0 s : State} (h : Near l s0 s) : ∀ x0 x1, Near l s0 (retrainEnd x0 x1 s) := by
  intro x0 x1
  unfold retrainEnd
  repeat' (first | (with_reducible first | assumption | intro _ | exact hl.of rfl | apply near_linkJudge (hl.of rfl) | apply near_linkPhase (hl.of rfl) | apply Near.ite))

theorem near_sendFrame {l : Nat} (hl : Sub 0x800000 l) {s0 s : State} (h : Near l s0 s) : ∀ x0 x1, Near l s0 (sendFrame x0 x1 s) := by
  intro x0 x1
  unfold sendFrame
  dsimp only
  repeat' (first | (with_reducible first | assumption | intro _ | exact hl.of rfl | apply near_modLink (hl.of rfl) | apply near_cretTake (hl.of rfl) | apply near_modVc (hl.of rfl) | apply Near.ite))

theorem near_sendHeartbeat {l : Nat} (hl : Sub 0x800000 l) {s0 s : State} (h : Near l s0 s) : Near l s0 (sendHeartbeat s) := by
  unfold sendHeartbeat
  repeat' (first | (with_reducible first | assumption | intro _ | exact hl.of rfl | apply near_modLink (hl.of rfl) | apply near_sendFrame (hl.of rfl) | apply Near.ite))

theorem near_sendVc {l : Nat} (hl : Sub 0x800000 l) {s0 s : State} (h : Near l s0 s) : ∀ x0 x1 x2, Near l s0 (sendVc x0 x1 x2 s) := by
  intro x0 x1 x2
  induction x2 generalizing s with
  | zero => exact h
  | succ n ih =>
    unfold sendVc
    split
    · exact h
    · split
      · exact h
      · exact ih (near_sendFrame (hl.of rfl) (near_modLink (hl.of rfl) h _) _ _)

theorem near_slotStart {l : Nat} (hl : Sub 0x800000 l) {s0 s : State} (h : Near l s0 s) : ∀ x0 x1, Near l s0 (slotStart x0 x1 s) := by
  intro x0 x1
  unfold slotStart
  dsimp only
  repeat' (first | (with_reducible first | assumption | intro _ | exact hl.of rfl | apply near_modLink (hl.of rfl) | apply near_sendHeartbeat (hl.of rfl) | apply near_sendVc (hl.of rfl) | apply near_sendFrame (hl.of rfl) | apply Near.each | apply Near.ite))

theorem near_tileStart {l : Nat} (hl : Sub 0x3025d l) {s0 s : State} (h : Near l s0 s) : Near l s0 (tileStart s) := by
  unfold tileStart
  repeat' (first | (with_reducible first | assumption | intro _ | exact hl.of rfl | apply near_tileAudit (hl.of rfl) | apply near_setTile (hl.of rfl) | apply Near.each | apply Near.ite))

theorem near_trainFail {l : Nat} (hl : Sub 0x83025d l) {s0 s : State} (h : Near l s0 s) : ∀ x0, Near l s0 (trainFail x0 s) := by
  intro x0
  unfold trainFail
  repeat' (first | (with_reducible first | assumption | intro _ | exact hl.of rfl | apply near_linkOff (hl.of rfl)))

theorem near_trainCap {l : Nat} (hl : Sub 0x83025d l) {s0 s : State} (h : Near l s0 s) : ∀ x0 x1 x2 x3 x4 x5, Near l s0 (trainCap x0 x1 x2 x3 x4 x5 s) := by
  intro x0 x1 x2 x3 x4 x5
  unfold trainCap
  dsimp only
  repeat' (first | (with_reducible first | assumption | intro _ | exact hl.of rfl | apply Near.setReg | apply Near.setFld | apply near_modLink (hl.of rfl) | apply near_trainFail (hl.of rfl) | apply Near.ite))

theorem near_trainAdvance {l : Nat} (hl : Sub 0x83025d l) {s0 s : State} (h : Near l s0 s) : ∀ x0, Near l s0 (trainAdvance x0 s) := by
  intro x0
  unfold trainAdvance
  dsimp only
  repeat' (first | (with_reducible first | assumption | intro _ | exact hl.of rfl | apply Near.setFld | apply Near.setFlag | apply near_trainCap (hl.of rfl) | apply near_trainFail (hl.of rfl) | apply near_linkPhase (hl.of rfl) | apply near_tileStart (hl.of rfl) | apply near_modLink (hl.of rfl) | apply Near.ite) | split)

theorem near_trainTmo {l : Nat} (hl : Sub 0x83025d l) {s0 s : State} (h : Near l s0 s) : Near l s0 (trainTmo s) := by
  unfold trainTmo
  repeat' (first | (with_reducible first | assumption | intro _ | exact hl.of rfl | apply near_trainFail (hl.of rfl) | apply Near.ite))

/-! ## Twin -/

theorem near_cutReport {l : Nat} (hl : Sub 0x800000 l) {s0 s : State} (h : Near l s0 s) : ∀ b x0, Near l s0 (cutReport b x0 s) := by
  intro b x0
  unfold cutReport
  repeat' (first | with_reducible assumption | exact hl.of rfl | with_reducible apply near_cutAnswer (hl.of rfl) | split)

theorem near_tileEvict {l : Nat} (hl : Sub 0x83125d l) {s0 s : State} (h : Near l s0 s) : ∀ x0 x1, Near l s0 (tileEvict x0 x1 s) := by
  intro x0 x1
  unfold tileEvict
  dsimp only
  repeat' (first | (with_reducible first | assumption | intro _ | exact hl.of rfl | apply near_granRead (hl.of rfl) | apply near_setTile (hl.of rfl) | apply near_modLink (hl.of rfl) | apply near_tileAudit (hl.of rfl) | apply near_linkQueue (hl.of rfl) | apply Near.ite))

theorem near_tileLoad {l : Nat} (hl : Sub 0x10b025d l) {s0 s : State} (h : Near l s0 s) : ∀ x0 x1, Near l s0 (tileLoad x0 x1 s) := by
  intro x0 x1
  unfold tileLoad
  dsimp only
  repeat' (first | (with_reducible first | assumption | intro _ | exact hl.of rfl | apply Near.setFld | apply near_granWrite (hl.of rfl) | apply near_tileAudit (hl.of rfl) | apply near_setTile (hl.of rfl) | apply Near.ite))

theorem near_tileCmd {l : Nat} (hl : Sub 0x18b125d l) {s0 s : State} (h : Near l s0 s) : ∀ x0 x1, Near l s0 (tileCmd x0 x1 s) := by
  intro x0 x1
  unfold tileCmd
  repeat' (first | (with_reducible first | assumption | intro _ | exact hl.of rfl | apply near_tileEvict (hl.of rfl) | apply near_tileLoad (hl.of rfl) | apply Near.ite) | split)

theorem near_sharePrune {l : Nat} (hl : Sub 0x800000 l) {s0 s : State} (h : Near l s0 s) : Near l s0 (sharePrune s) := by
  unfold sharePrune
  dsimp only
  repeat' (first | (with_reducible first | assumption | intro _ | exact hl.of rfl | apply near_modLink (hl.of rfl) | apply Near.ite))

theorem near_bulkRefused {l : Nat} (hl : Sub 0x83025d l) {s0 s : State} (h : Near l s0 s) : ∀ x0, Near l s0 (bulkRefused x0 s) := by
  intro x0
  unfold bulkRefused
  repeat' (first | (with_reducible first | assumption | intro _ | exact hl.of rfl | apply near_bulkDrop (hl.of rfl)))

theorem near_cutQueue {l : Nat} (hl : Sub 0x800000 l) {s0 s : State} (h : Near l s0 s) : ∀ x0 x1, Near l s0 (cutQueue x0 x1 s) := by
  intro x0
  induction x0 generalizing s with
  | zero => intro x1; exact h
  | succ n ih =>
    intro x1
    unfold cutQueue
    split
    · exact h
    · exact ih (near_linkQueue (hl.of rfl) h _ _ _ _ _) _

theorem near_cutSend {l : Nat} (hl : Sub 0x800000 l) {s0 s : State} (h : Near l s0 s) : ∀ x0, Near l s0 (cutSend x0 s) := by
  intro x0
  unfold cutSend
  dsimp only
  repeat' (first | (with_reducible first | assumption | intro _ | exact hl.of rfl | apply near_cutQueue (hl.of rfl) | apply near_linkQueue (hl.of rfl)))

theorem near_rtfStart {l : Nat} (hl : Sub 0x800000 l) {s0 s : State} (h : Near l s0 s) : ∀ x0, Near l s0 (rtfStart x0 s) := by
  intro x0
  unfold rtfStart
  dsimp only
  repeat' (first | (with_reducible first | assumption | intro _ | exact hl.of rfl | apply near_modLink (hl.of rfl) | apply near_linkQueue (hl.of rfl)))

theorem near_bulkStart {l : Nat} (hl : Sub 0x800001 l) {s0 s : State} (h : Near l s0 s) : ∀ x0, Near l s0 (bulkStart x0 s) := by
  intro x0
  unfold bulkStart
  dsimp only
  repeat' (first | (with_reducible first | assumption | intro _ | exact hl.of rfl | apply near_bulkSet (hl.of rfl) | apply near_cutSend (hl.of rfl) | apply near_rtfStart (hl.of rfl) | apply Near.ite))

theorem near_bulkTimeout {l : Nat} (hl : Sub 0x83025d l) {s0 s : State} (h : Near l s0 s) : ∀ x0, Near l s0 (bulkTimeout x0 s) := by
  intro x0
  unfold bulkTimeout
  repeat' (first | (with_reducible first | assumption | intro _ | exact hl.of rfl | apply near_bulkEnd (hl.of rfl) | apply Near.ite))

theorem near_cutBegin {l : Nat} (hl : Sub 0x800001 l) {s0 s : State} (h : Near l s0 s) : ∀ x0, Near l s0 (cutBegin x0 s) := by
  intro x0
  unfold cutBegin
  dsimp only
  repeat' (first | (with_reducible first | assumption | intro _ | exact hl.of rfl | apply Near.setFld | apply near_cutAnswer (hl.of rfl) | apply near_modLink (hl.of rfl) | apply Near.each | apply Near.ite))

theorem near_cutPut {l : Nat} (hl : Sub 0x30a0000 l) {s0 s : State} (h : Near l s0 s) : ∀ x0 x1 x2, Near l s0 (cutPut x0 x1 x2 s) := by
  intro x0 x1 x2
  unfold cutPut
  dsimp only
  repeat' (first | (with_reducible first | assumption | intro _ | exact hl.of rfl | apply near_granWrite (hl.of rfl) | apply near_plotWrite (hl.of rfl) | apply Near.ite) | split)

theorem near_cutPlace {l : Nat} (hl : Sub 0x30a0000 l) {s0 s : State} (h : Near l s0 s) : ∀ x0 x1 x2, Near l s0 (cutPlace x0 x1 x2 s) := by
  intro x0
  induction x0 generalizing s with
  | nil => intro x1 x2; exact h
  | cons e r ih =>
    intro x1 x2
    unfold cutPlace
    split
    · exact h
    · split
      · exact ih h _ _
      · exact ih (near_cutPut (hl.of rfl) h _ _ _) _ _

theorem near_cutFinish {l : Nat} (hl : Sub 0x38b125d l) {s0 s : State} (h : Near l s0 s) : ∀ x0 x1, Near l s0 (cutFinish x0 x1 s) := by
  intro x0
  induction x0 generalizing s with
  | nil => intro x1; exact h
  | cons e r ih =>
    intro x1
    unfold cutFinish
    dsimp only
    repeat' (first | with_reducible assumption | exact hl.of rfl | with_reducible apply ih | with_reducible apply near_cutPut (hl.of rfl) | with_reducible apply near_granRead (hl.of rfl) | split)

theorem near_cutData {l : Nat} (hl : Sub 0x38b125d l) {s0 s : State} (h : Near l s0 s) : ∀ x0, Near l s0 (cutData x0 s) := by
  intro x0
  unfold cutData
  dsimp only
  repeat' (first | (with_reducible first | assumption | intro _ | exact hl.of rfl | apply near_modLink (hl.of rfl) | apply near_cutAnswer (hl.of rfl) | apply near_cutPlace (hl.of rfl) | apply near_cutSwapReq (hl.of rfl) | apply near_cutFinish (hl.of rfl) | apply Near.ite) | split)

theorem near_cutStat {l : Nat} (hl : Sub 0x83025d l) {s0 s : State} (h : Near l s0 s) : ∀ x0, Near l s0 (cutStat x0 s) := by
  intro x0
  unfold cutStat
  dsimp only
  repeat' (first | (with_reducible first | assumption | intro _ | exact hl.of rfl | apply near_bulkEnd (hl.of rfl) | apply Near.ite) | split)

theorem near_evictWritten {l : Nat} (hl : Sub 0x483025d l) {s0 s : State} (h : Near l s0 s) : Near l s0 (evictWritten s) := by
  unfold evictWritten
  dsimp only
  repeat' (first | (with_reducible first | assumption | intro _ | exact hl.of rfl | apply near_evictCheck (hl.of rfl) | apply near_modLink (hl.of rfl) | apply near_siloWrite (hl.of rfl)) | split)

theorem near_evnAck {l : Nat} (hl : Sub 0x83025d l) {s0 s : State} (h : Near l s0 s) : ∀ x0, Near l s0 (evnAck x0 s) := by
  intro x0
  unfold evnAck
  dsimp only
  repeat' (first | (with_reducible first | assumption | intro _ | exact hl.of rfl | apply near_evictCheck (hl.of rfl) | apply near_modLink (hl.of rfl)))

theorem near_evnIn {l : Nat} (hl : Sub 0x800001 l) {s0 s : State} (h : Near l s0 s) : ∀ x0, Near l s0 (evnIn x0 s) := by
  intro x0
  unfold evnIn
  dsimp only
  repeat' (first | (with_reducible first | assumption | intro _ | exact hl.of rfl | apply near_linkQueue (hl.of rfl) | apply near_setTile (hl.of rfl) | apply Near.ite) | split)

theorem near_reductionFrame {l : Nat} (hl : Sub 0x800000 l) {s0 s : State} (h : Near l s0 s) : Near l s0 (reductionFrame s) := by
  unfold reductionFrame
  repeat' (first | (with_reducible first | assumption | intro _ | exact hl.of rfl | apply near_modLink (hl.of rfl)))

theorem near_partQueue {l : Nat} (hl : Sub 0x800000 l) {s0 s : State} (h : Near l s0 s) : ∀ x0 x1 x2 x3, Near l s0 (partQueue x0 x1 x2 x3 s) := by
  intro x0 x1 x2
  induction x2 generalizing s x1 with
  | zero => intro x3; exact h
  | succ n ih =>
    intro x3
    unfold partQueue
    dsimp only
    split
    · exact h
    · exact ih (near_linkQueue (hl.of rfl) h _ _ _ _ _) _ _

theorem near_partSend {l : Nat} (hl : Sub 0x800000 l) {s0 s : State} (h : Near l s0 s) : ∀ x0, Near l s0 (partSend x0 s) := by
  intro x0
  unfold partSend
  repeat' (first | (with_reducible first | assumption | intro _ | exact hl.of rfl | apply near_partQueue (hl.of rfl) | apply Near.each | apply Near.ite) | split)

theorem near_partialIn {l : Nat} (hl : Sub 0x800000 l) {s0 s : State} (h : Near l s0 s) : ∀ x0, Near l s0 (partialIn x0 s) := by
  intro x0
  unfold partialIn
  dsimp only
  repeat' (first | (with_reducible first | assumption | intro _ | exact hl.of rfl | apply near_modLink (hl.of rfl) | apply Near.ite))

theorem near_reductionSum {l : Nat} (hl : Sub 0x820001 l) {s0 s : State} (h : Near l s0 s) : Near l s0 (reductionSum s) := by
  unfold reductionSum
  dsimp only
  repeat' (first | (with_reducible first | assumption | intro _ | exact hl.of rfl | apply near_detFlag (hl.of rfl) | apply near_modLink (hl.of rfl) | apply near_modField (hl.of rfl) | apply Near.ite) | split)

theorem near_tileQueue {l : Nat} (hl : Sub 0x800000 l) {s0 s : State} (h : Near l s0 s) : ∀ x0 x1 x2 x3 x4, Near l s0 (tileQueue x0 x1 x2 x3 x4 s) := by
  intro x0 x1 x2 x3 x4
  unfold tileQueue
  dsimp only
  repeat' (first | (with_reducible first | assumption | intro _ | exact hl.of rfl | apply near_linkQueue (hl.of rfl) | apply Near.each))

theorem near_rtfReq {l : Nat} (hl : Sub 0x83125d l) {s0 s : State} (h : Near l s0 s) : ∀ x0, Near l s0 (rtfReq x0 s) := by
  intro x0
  unfold rtfReq
  dsimp only
  repeat' (first | (with_reducible first | assumption | intro _ | exact hl.of rfl | apply near_granRead (hl.of rfl) | apply near_tileQueue (hl.of rfl) | apply near_linkQueue (hl.of rfl)) | split)

theorem near_shareCross {l : Nat} (hl : Sub 0x18b06dd l) {s0 s : State} (h : Near l s0 s) : ∀ x0, Near l s0 (shareCross x0 s) := by
  intro x0
  unfold shareCross
  dsimp only
  repeat' (first | (with_reducible first | assumption | intro _ | exact hl.of rfl | apply Near.bump | apply near_modObs (hl.of rfl) | apply near_modLink (hl.of rfl) | apply near_inlog (hl.of rfl) | apply near_detFlag (hl.of rfl) | apply Near.ite) | split)

theorem near_shareQueue {l : Nat} (hl : Sub 0x800000 l) {s0 s : State} (h : Near l s0 s) : ∀ x0, Near l s0 (shareQueue x0 s) := by
  intro x0
  unfold shareQueue
  repeat' (first | (with_reducible first | assumption | intro _ | exact hl.of rfl | apply near_linkQueueAt (hl.of rfl)))

theorem near_shareForm {l : Nat} (hl : Sub 0x800000 l) {s0 s : State} (h : Near l s0 s) : ∀ x0, Near l s0 (shareForm x0 s) := by
  intro x0
  unfold shareForm
  dsimp only
  repeat' (first | (with_reducible first | assumption | intro _ | exact hl.of rfl | apply near_shareQueue (hl.of rfl) | apply near_modLink (hl.of rfl) | apply Near.ite))

theorem near_shareTake {l : Nat} (hl : Sub 0x800001 l) {s0 s : State} (h : Near l s0 s) : ∀ x0 x1, Near l s0 (shareTake x0 x1 s) := by
  intro x0 x1
  unfold shareTake
  dsimp only
  repeat' (first | (with_reducible first | assumption | intro _ | exact hl.of rfl | apply near_detFlag (hl.of rfl) | apply near_modLink (hl.of rfl) | apply Near.ite))

theorem near_shareIn {l : Nat} (hl : Sub 0x800001 l) {s0 s : State} (h : Near l s0 s) : ∀ x0, Near l s0 (shareIn x0 s) := by
  intro x0
  unfold shareIn
  repeat' (first | (with_reducible first | assumption | intro _ | exact hl.of rfl | apply near_shareTake (hl.of rfl)))

theorem near_shareJudge {l : Nat} (hl : Sub 0x800000 l) {s0 s : State} (h : Near l s0 s) : ∀ x0 x1, Near l s0 (shareJudge x0 x1 s) := by
  intro x0 x1
  unfold shareJudge
  dsimp only
  repeat' (first | (with_reducible first | assumption | intro _ | exact hl.of rfl | apply near_modLink (hl.of rfl) | apply near_shareQueue (hl.of rfl) | apply near_linkQueue (hl.of rfl) | apply Near.each | apply Near.ite) | split)

theorem near_tileAbsent {l : Nat} (hl : Sub 0x83025d l) {s0 s : State} (h : Near l s0 s) : ∀ x0, Near l s0 (tileAbsent x0 s) := by
  intro x0
  unfold tileAbsent
  repeat' (first | (with_reducible first | assumption | intro _ | exact hl.of rfl | apply near_bulkEnd (hl.of rfl)) | split)

theorem near_tileData {l : Nat} (hl : Sub 0x18b025d l) {s0 s : State} (h : Near l s0 s) : ∀ x0, Near l s0 (tileData x0 s) := by
  intro x0
  unfold tileData
  dsimp only
  repeat' (first | (with_reducible first | assumption | intro _ | exact hl.of rfl | apply Near.setFld | apply near_granWrite (hl.of rfl) | apply near_bulkEnd (hl.of rfl) | apply near_setTile (hl.of rfl) | apply Near.ite) | split)

end Sys2Proof.Machine
end

