-- ==== Sys2Proof/Laws/NearHost.lean ====
section
/-! SUPPORT. `Near` through every operation of power, Scarecrow, the safety commands, the loader, the host ports and the schedule; the number of each lemma says which parts it may change. -/

namespace Sys2Proof.Machine

/-! ## Power -/

theorem near_setPd {l : Nat} (hl : Sub 0x1 l) {s0 s : State} (h : Near l s0 s) : ∀ x0 x1, Near l s0 (setPd x0 x1 s) := by
  intro x0 x1
  unfold setPd
  repeat' (first | (with_reducible first | assumption | intro _ | exact hl.of rfl | apply Near.setBit))

theorem near_pd4Down {l : Nat} (hl : Sub 0x83025d l) {s0 s : State} (h : Near l s0 s) : Near l s0 (pd4Down s) := by
  unfold pd4Down
  repeat' (first | (with_reducible first | assumption | intro _ | exact hl.of rfl | apply Near.setFld | apply Near.setFlag | apply near_setPd (hl.of rfl) | apply near_linkOff (hl.of rfl) | apply Near.ite))

theorem near_schedStop {l : Nat} (hl : Sub 0x128001 l) {s0 s : State} (h : Near l s0 s) : Near l s0 (schedStop s) := by
  unfold schedStop
  dsimp only
  repeat' (first | (with_reducible first | assumption | intro _ | exact hl.of rfl | apply Near.setFlag | apply near_runsDrop (hl.of rfl) | apply near_modField (hl.of rfl) | apply near_modPow (hl.of rfl) | apply Near.up_rot))

theorem near_setPwr {l : Nat} (hl : Sub 0x1 l) {s0 s : State} (h : Near l s0 s) : ∀ x0, Near l s0 (setPwr x0 s) := by
  intro x0
  unfold setPwr
  repeat' (first | (with_reducible first | assumption | intro _ | exact hl.of rfl | apply Near.setFld))

theorem near_startNext {l : Nat} (hl : Sub 0x800001 l) {s0 s : State} (h : Near l s0 s) : Near l s0 (startNext s) := by
  unfold startNext
  repeat' (first | (with_reducible first | assumption | intro _ | exact hl.of rfl | apply Near.setFlag | apply near_trainStart (hl.of rfl) | apply near_setPd (hl.of rfl) | apply near_setPwr (hl.of rfl) | apply Near.ite))

theorem near_pd3Request {l : Nat} (hl : Sub 0x18000 l) {s0 s : State} (h : Near l s0 s) : Near l s0 (pd3Request s) := by
  unfold pd3Request
  repeat' (first | (with_reducible first | assumption | intro _ | exact hl.of rfl | apply near_trnRequest (hl.of rfl) | apply near_modPow (hl.of rfl)))

theorem near_pd3Begin {l : Nat} (hl : Sub 0x18000 l) {s0 s : State} (h : Near l s0 s) : Near l s0 (pd3Begin s) := by
  unfold pd3Begin
  repeat' (first | (with_reducible first | assumption | intro _ | exact hl.of rfl | apply near_pd3Request (hl.of rfl) | apply near_modPow (hl.of rfl) | apply Near.ite))

theorem near_calAll {l : Nat} (hl : Sub 0x1 l) {s0 s : State} (h : Near l s0 s) : Near l s0 (calAll s) := by
  unfold calAll
  repeat' (first | (with_reducible first | assumption | intro _ | exact hl.of rfl | apply Near.setFlag | apply Near.each | apply Near.ite))

theorem near_powerOnReset {l : Nat} (hl : Sub 0xfffffff l) {s0 s : State} (_ : Near l s0 s) : Near l s0 (powerOnReset s) := by
  exact .any hl _ _

theorem near_fullReset {l : Nat} (hl : Sub 0xfffffff l) {s0 s : State} (_ : Near l s0 s) : ∀ x0, Near l s0 (fullReset x0 s) := by
  intro x0
  exact .any hl _ _

theorem near_fuseReset {l : Nat} (hl : Sub 0xfffffff l) {s0 s : State} (_ : Near l s0 s) : ∀ x0, Near l s0 (fuseReset x0 s) := by
  intro x0
  exact .any hl _ _

theorem near_borReset {l : Nat} (hl : Sub 0xfffffff l) {s0 s : State} (_ : Near l s0 s) : Near l s0 (borReset s) := by
  exact .any hl _ _

theorem near_rstCtrl {l : Nat} (hl : Sub 0xfffffff l) {s0 s : State} (_ : Near l s0 s) : ∀ x0, Near l s0 (rstCtrl x0 s) := by
  intro x0
  exact .any hl _ _

theorem near_wakeStart {l : Nat} (hl : Sub 0x18001 l) {s0 s : State} (h : Near l s0 s) : ∀ x0 x1 x2, Near l s0 (wakeStart x0 x1 x2 s) := by
  intro x0 x1 x2
  unfold wakeStart
  dsimp only
  repeat' (first | (with_reducible first | assumption | intro _ | exact hl.of rfl | apply Near.setFld | apply near_setPd (hl.of rfl) | apply near_setPwr (hl.of rfl) | apply near_modPow (hl.of rfl) | apply near_pd3Begin (hl.of rfl) | apply Near.ite))

theorem near_wakeCause {l : Nat} (hl : Sub 0x18001 l) {s0 s : State} (h : Near l s0 s) : ∀ x0 x1 x2, Near l s0 (wakeCause x0 x1 x2 s) := by
  intro x0 x1 x2
  unfold wakeCause
  repeat' (first | (with_reducible first | assumption | intro _ | exact hl.of rfl | apply Near.setFld | apply near_modPow (hl.of rfl) | apply near_setPwr (hl.of rfl) | apply near_wakeStart (hl.of rfl) | apply Near.ite))

theorem near_sleepRequest {l : Nat} (hl : Sub 0x8001 l) {s0 s : State} (h : Near l s0 s) : Near l s0 (sleepRequest s) := by
  unfold sleepRequest
  dsimp only
  repeat' (first | (with_reducible first | assumption | intro _ | exact hl.of rfl | apply Near.setFld | apply near_modPow (hl.of rfl) | apply near_setPwr (hl.of rfl) | apply Near.ite))

theorem near_pd3Ack {l : Nat} (hl : Sub 0x18000 l) {s0 s : State} (h : Near l s0 s) : Near l s0 (pd3Ack s) := by
  unfold pd3Ack
  dsimp only
  repeat' (first | (with_reducible first | assumption | intro _ | exact hl.of rfl | apply near_modPow (hl.of rfl) | apply near_pd3Request (hl.of rfl) | apply Near.ite))

theorem near_fldRepair {l : Nat} (hl : Sub 0x4000 l) {s0 s : State} (h : Near l s0 s) : ∀ x0, Near l s0 (fldRepair x0 s) := by
  intro v
  unfold fldRepair
  split
  · exact h.up_fuses _ (hl.of rfl)
  · exact h

theorem near_clockFault {l : Nat} (hl : Sub 0xfffffff l) {s0 s : State} (_ : Near l s0 s) : ∀ x0, Near l s0 (clockFault x0 s) := by
  intro x0
  exact .any hl _ _

theorem near_declareZero {l : Nat} (hl : Sub 0x8001 l) {s0 s : State} (h : Near l s0 s) : Near l s0 (declareZero s) := by
  unfold declareZero
  dsimp only
  repeat' (first | (with_reducible first | assumption | intro _ | exact hl.of rfl | apply Near.setFlag | apply near_setPwr (hl.of rfl) | apply near_modPow (hl.of rfl)))

theorem near_needImage {l : Nat} (hl : Sub 0x1 l) {s0 s : State} (h : Near l s0 s) : Near l s0 (needImage s) := by
  unfold needImage
  repeat' (first | (with_reducible first | assumption | intro _ | exact hl.of rfl | apply Near.setFlag | apply Near.each | apply Near.ite))

theorem near_wakeAligned {l : Nat} (hl : Sub 0x808001 l) {s0 s : State} (h : Near l s0 s) : Near l s0 (wakeAligned s) := by
  unfold wakeAligned
  dsimp only
  repeat' (first | (with_reducible first | assumption | intro _ | exact hl.of rfl | apply Near.setFlag | apply near_calAll (hl.of rfl) | apply near_setPd (hl.of rfl) | apply near_trainStart (hl.of rfl) | apply near_modPow (hl.of rfl) | apply near_needImage (hl.of rfl) | apply Near.ite))

theorem near_dividersAligned {l : Nat} (hl : Sub 0x848001 l) {s0 s : State} (h : Near l s0 s) : Near l s0 (dividersAligned s) := by
  unfold dividersAligned
  dsimp only
  repeat' (first | (with_reducible first | assumption | intro _ | exact hl.of rfl | apply Near.setFld | apply Near.setFlag | apply near_wakeAligned (hl.of rfl) | apply near_modPow (hl.of rfl) | apply near_setPwr (hl.of rfl) | apply near_modLdr (hl.of rfl) | apply Near.ite))

theorem near_pd5Down {l : Nat} (hl : Sub 0xb0801 l) {s0 s : State} (h : Near l s0 s) : Near l s0 (pd5Down s) := by
  unfold pd5Down
  dsimp only
  repeat' (first | (with_reducible first | assumption | intro _ | exact hl.of rfl | apply near_stdStop (hl.of rfl) | apply near_scanEndWhy (hl.of rfl) | apply near_winFail (hl.of rfl) | apply near_setPd (hl.of rfl) | apply Near.each | apply Near.ite))

theorem near_pd3Down {l : Nat} (hl : Sub 0x30b8001 l) {s0 s : State} (h : Near l s0 s) : Near l s0 (pd3Down s) := by
  unfold pd3Down
  have h1 := near_scansPd3 (hl.of rfl) (near_setPd (hl.of rfl) (near_plannedEnd (hl.of rfl) (near_runsDrop (hl.of rfl) h (fun e => e.op != 3)) bistIdx) 3 false)
  dsimp only
  exact near_modPow (hl.of rfl) (near_modField (hl.of rfl) (h1.up_mems _ _ (hl.of rfl) (hl.of rfl)) _) _

theorem near_domainsOff {l : Nat} (hl : Sub 0x3db8a5d l) {s0 s : State} (h : Near l s0 s) : Near l s0 (domainsOff s) := by
  unfold domainsOff
  dsimp only
  repeat' (first | (with_reducible first | assumption | intro _ | exact hl.of rfl | apply Near.setFlag | apply near_pd5Down (hl.of rfl) | apply near_pd3Down (hl.of rfl) | apply near_pd4Down (hl.of rfl) | apply near_schedStop (hl.of rfl) | apply near_trnEnd (hl.of rfl) | apply near_setPd (hl.of rfl) | apply near_auxOff (hl.of rfl) | apply near_modSense (hl.of rfl) | apply Near.each))

theorem near_nresetRelease {l : Nat} (hl : Sub 0x48001 l) {s0 s : State} (h : Near l s0 s) : ∀ x0, Near l s0 (nresetRelease x0 s) := by
  intro x0
  unfold nresetRelease
  dsimp only
  repeat' (first | (with_reducible first | assumption | intro _ | exact hl.of rfl | apply Near.setFld | apply near_setPwr (hl.of rfl) | apply near_modPow (hl.of rfl) | apply near_modLdr (hl.of rfl) | apply Near.ite))

theorem near_pd3Release {l : Nat} (hl : Sub 0x10000 l) {s0 s : State} (h : Near l s0 s) : Near l s0 (pd3Release s) := by
  unfold pd3Release
  repeat' (first | (with_reducible first | assumption | intro _ | exact hl.of rfl | apply near_trnEnd (hl.of rfl) | apply Near.ite))

theorem near_pd3Fail {l : Nat} (hl : Sub 0x818001 l) {s0 s : State} (h : Near l s0 s) : Near l s0 (pd3Fail s) := by
  unfold pd3Fail
  dsimp only
  repeat' (first | (with_reducible first | assumption | intro _ | exact hl.of rfl | apply Near.setFlag | apply near_modPow (hl.of rfl) | apply near_startNext (hl.of rfl) | apply near_pd3Release (hl.of rfl)))

theorem near_pd3Good {l : Nat} (hl : Sub 0x818001 l) {s0 s : State} (h : Near l s0 s) : Near l s0 (pd3Good s) := by
  unfold pd3Good
  repeat' (first | (with_reducible first | assumption | intro _ | exact hl.of rfl | apply near_startNext (hl.of rfl) | apply near_pd3Release (hl.of rfl) | apply near_modPow (hl.of rfl) | apply near_setPd (hl.of rfl) | apply Near.ite))

theorem near_pd3Granted {l : Nat} (hl : Sub 0x8000 l) {s0 s : State} (h : Near l s0 s) : Near l s0 (pd3Granted s) := by
  unfold pd3Granted
  repeat' (first | (with_reducible first | assumption | intro _ | exact hl.of rfl | apply near_modPow (hl.of rfl)))

theorem near_pd3Lost {l : Nat} (hl : Sub 0x38b925d l) {s0 s : State} (h : Near l s0 s) : Near l s0 (pd3Lost s) := by
  unfold pd3Lost
  dsimp only
  repeat' (first | (with_reducible first | assumption | intro _ | exact hl.of rfl | apply Near.setFlag | apply near_pd3Fail (hl.of rfl) | apply near_pd3Down (hl.of rfl) | apply near_modPow (hl.of rfl) | apply near_detFlag (hl.of rfl) | apply near_doubtAxes (hl.of rfl) | apply Near.ite))

theorem near_pgoodTimeout {l : Nat} (hl : Sub 0x818001 l) {s0 s : State} (h : Near l s0 s) : Near l s0 (pgoodTimeout s) := by
  unfold pgoodTimeout
  repeat' (first | (with_reducible first | assumption | intro _ | exact hl.of rfl | apply near_pd3Fail (hl.of rfl) | apply Near.ite))

theorem near_pinReset {l : Nat} (hl : Sub 0xfffffff l) {s0 s : State} (_ : Near l s0 s) : Near l s0 (pinReset s) := by
  exact .any hl _ _

theorem near_pllLock {l : Nat} (hl : Sub 0x1 l) {s0 s : State} (h : Near l s0 s) : Near l s0 (pllLock s) := by
  unfold pllLock
  repeat' (first | (with_reducible first | assumption | intro _ | exact hl.of rfl | apply Near.setFlag | apply Near.ite))

theorem near_readyStep {l : Nat} (hl : Sub 0x8001 l) {s0 s : State} (h : Near l s0 s) : Near l s0 (readyStep s) := by
  unfold readyStep
  repeat' (first | (with_reducible first | assumption | intro _ | exact hl.of rfl | apply near_declareZero (hl.of rfl) | apply Near.ite))

theorem near_refDetect {l : Nat} (hl : Sub 0xfffffff l) {s0 s : State} (_ : Near l s0 s) : ∀ x0, Near l s0 (refDetect x0 s) := by
  intro x0
  exact .any hl _ _

theorem near_safePowerOff {l : Nat} (hl : Sub 0xfffffff l) {s0 s : State} (_ : Near l s0 s) : Near l s0 (safePowerOff s) := by
  exact .any hl _ _

theorem near_sleepEntry {l : Nat} (hl : Sub 0x3db8a5d l) {s0 s : State} {x0 : TrnReq → State → State} (hx : ∀ r t, Near l s0 t → Near l s0 (x0 r t)) (h : Near l s0 s) : Near l s0 (sleepEntry x0 s) := by
  unfold sleepEntry
  dsimp only
  have h1 : Near l s0 ((domainsOff (trnShow (s.each s.trn.queue fun s r => trnRefuse x0 r s))).modPow fun p => { p with sleepReq := false }) :=
    near_modPow (hl.of rfl) (near_domainsOff (hl.of rfl) (near_trnShow (hl.of rfl) (h.each (fun _ r ht => near_trnRefuse (hl.of rfl) hx ht r)))) _
  revert h1
  generalize ((domainsOff (trnShow (s.each s.trn.queue fun s r => trnRefuse x0 r s))).modPow fun p => { p with sleepReq := false }) = t
  intro h1
  have h2 : Near l s0 { t with gran := [] } := h1.up_gran _ (hl.of rfl)
  repeat' (first | with_reducible assumption | exact hl.of rfl | with_reducible apply near_setPwr (hl.of rfl) | with_reducible apply near_modField (hl.of rfl) | with_reducible apply near_modPow (hl.of rfl) | split)

theorem near_supplyTrip {l : Nat} (hl : Sub 0xc09041 l) {s0 s : State} (h : Near l s0 s) : ∀ x0, Near l s0 (supplyTrip x0 s) := by
  intro x0
  unfold supplyTrip
  dsimp only
  repeat' (first | (with_reducible first | assumption | intro _ | exact hl.of rfl | apply Near.setFld | apply near_safeDemand (hl.of rfl) | apply near_modPow (hl.of rfl) | apply Near.ite))

theorem near_tlSupplyTrip {l : Nat} (hl : Sub 0x83025d l) {s0 s : State} (h : Near l s0 s) : Near l s0 (tlSupplyTrip s) := by
  unfold tlSupplyTrip
  dsimp only
  repeat' (first | (with_reducible first | assumption | intro _ | exact hl.of rfl | apply Near.setFld | apply Near.setBit | apply near_linkOff (hl.of rfl) | apply Near.ite))

theorem near_wakeComplete {l : Nat} (hl : Sub 0x8001 l) {s0 s : State} (h : Near l s0 s) : Near l s0 (wakeComplete s) := by
  unfold wakeComplete
  repeat' (first | (with_reducible first | assumption | intro _ | exact hl.of rfl | apply near_declareZero (hl.of rfl) | apply Near.ite))

/-! ## Scarecrow -/

theorem near_scanReset {l : Nat} (hl : Sub 0x2000 l) {s0 s : State} (h : Near l s0 s) : Near l s0 (scanReset s) := by
  unfold scanReset
  repeat' (first | (with_reducible first | assumption | intro _ | exact hl.of rfl | apply near_modScw (hl.of rfl)))

theorem near_setRule {l : Nat} (hl : Sub 0x2000 l) {s0 s : State} (h : Near l s0 s) : ∀ x0 x1, Near l s0 (setRule x0 x1 s) := by
  intro x0 x1
  unfold setRule
  repeat' (first | (with_reducible first | assumption | intro _ | exact hl.of rfl | apply near_modScw (hl.of rfl)))

theorem near_firedWrite {l : Nat} (hl : Sub 0x2001 l) {s0 s : State} (h : Near l s0 s) : ∀ x0, Near l s0 (firedWrite x0 s) := by
  intro x0
  unfold firedWrite
  dsimp only
  repeat' (first | (with_reducible first | assumption | intro _ | exact hl.of rfl | apply Near.setReg | apply near_setRule (hl.of rfl) | apply Near.each | apply Near.ite))

theorem near_filtersRun {l : Nat} (hl : Sub 0x2001 l) {s0 s : State} (h : Near l s0 s) : ∀ x0 x1, Near l s0 (filtersRun x0 x1 s).2 := by
  intro x0 x1
  unfold filtersRun
  dsimp only
  repeat' (first | (with_reducible first | assumption | intro _ | exact hl.of rfl | apply Near.setFld | apply near_modScw (hl.of rfl) | apply Near.foldl | apply Near.foldl_snd | apply Near.ite) | split)

theorem near_logTake {l : Nat} (hl : Sub 0x2000 l) {s0 s : State} (h : Near l s0 s) : Near l s0 (logTake s) := by
  unfold logTake
  repeat' (first | (with_reducible first | assumption | intro _ | exact hl.of rfl | apply near_modScw (hl.of rfl)))

theorem near_logPut {l : Nat} (hl : Sub 0x2001 l) {s0 s : State} (h : Near l s0 s) : ∀ x0, Near l s0 (logPut x0 s) := by
  intro x0
  unfold logPut
  repeat' (first | (with_reducible first | assumption | intro _ | exact hl.of rfl | apply Near.bump | apply near_modScw (hl.of rfl) | apply Near.ite))

theorem near_modSpin {l : Nat} (hl : Sub 0x2000 l) {s0 s : State} (h : Near l s0 s) : ∀ x0 x1, Near l s0 (modSpin x0 x1 s) := by
  intro x0 x1
  unfold modSpin
  repeat' (first | (with_reducible first | assumption | intro _ | exact hl.of rfl | apply near_modScw (hl.of rfl)))

theorem near_ruleEval {l : Nat} (hl : Sub 0x2000 l) {s0 s : State} (h : Near l s0 s) : ∀ x0 x1, Near l s0 (ruleEval x0 x1 s).2 := by
  intro x0 x1
  unfold ruleEval
  dsimp only
  repeat' (first | (with_reducible first | assumption | intro _ | exact hl.of rfl | apply near_setRule (hl.of rfl) | apply Near.ite) | split)

theorem near_rulesFire {l : Nat} (hl : Sub 0xc3b25d l) {s0 s : State} (h : Near l s0 s) : ∀ x0, Near l s0 (rulesFire x0 s) := by
  intro x0
  unfold rulesFire
  dsimp only
  repeat' (first | (with_reducible first | assumption | intro _ | exact hl.of rfl | apply Near.setBit | apply near_logPut (hl.of rfl) | apply near_raise (hl.of rfl) | apply near_safeDemand (hl.of rfl) | apply near_wakeCause (hl.of rfl) | apply Near.each | apply Near.ite) | split)

theorem near_rulesRun {l : Nat} (hl : Sub 0x2000 l) {s0 s : State} (h : Near l s0 s) : ∀ x0, Near l s0 (rulesRun x0 s).2 := by
  intro x0
  unfold rulesRun
  dsimp only
  repeat' (first | (with_reducible first | assumption | intro _ | exact hl.of rfl | apply near_ruleEval (hl.of rfl) | apply Near.foldl | apply Near.foldl_snd | apply Near.ite) | split)

theorem near_slotEnd {l : Nat} (hl : Sub 0xc3b25d l) {s0 s : State} (h : Near l s0 s) : ∀ x0, Near l s0 (slotEnd x0 s) := by
  intro x0
  unfold slotEnd
  dsimp only
  repeat' (first | (with_reducible first | assumption | intro _ | exact hl.of rfl | apply Near.setFld | apply near_filtersRun (hl.of rfl) | apply near_rulesRun (hl.of rfl) | apply near_modScw (hl.of rfl) | apply near_rulesFire (hl.of rfl) | apply Near.ite) | split)

theorem near_spinChange {l : Nat} (hl : Sub 0x2001 l) {s0 s : State} (h : Near l s0 s) : ∀ x0 x1 x2 x3, Near l s0 (spinChange x0 x1 x2 x3 s) := by
  intro x0 x1 x2 x3
  unfold spinChange
  dsimp only
  repeat' (first | (with_reducible first | assumption | intro _ | exact hl.of rfl | apply Near.setFld | apply Near.bump | apply near_modSpin (hl.of rfl) | apply Near.ite))

theorem near_spinRestart {l : Nat} (hl : Sub 0x2001 l) {s0 s : State} (h : Near l s0 s) : ∀ x0, Near l s0 (spinRestart x0 s) := by
  intro x0
  unfold spinRestart
  dsimp only
  repeat' (first | (with_reducible first | assumption | intro _ | exact hl.of rfl | apply Near.setFld | apply Near.setFlag | apply near_modSpin (hl.of rfl) | apply Near.ite))

theorem near_spinStill {l : Nat} (hl : Sub 0x2001 l) {s0 s : State} (h : Near l s0 s) : ∀ x0, Near l s0 (spinStill x0 s) := by
  intro x0
  unfold spinStill
  repeat' (first | (with_reducible first | assumption | intro _ | exact hl.of rfl | apply Near.setFld | apply near_modSpin (hl.of rfl) | apply Near.ite))

/-! ## SafeCmd -/

theorem near_axstopEnd {l : Nat} (hl : Sub 0x1001 l) {s0 s : State} (h : Near l s0 s) : ∀ x0, Near l s0 (axstopEnd x0 s) := by
  intro x0
  unfold axstopEnd
  dsimp only
  repeat' (first | (with_reducible first | assumption | intro _ | exact hl.of rfl | apply Near.setBit | apply near_modSaf (hl.of rfl) | apply near_startOnHeadland (hl.of rfl) | apply near_axstopRefresh (hl.of rfl) | apply Near.ite))

theorem near_axstopAck {l : Nat} (hl : Sub 0x1001 l) {s0 s : State} (h : Near l s0 s) : ∀ x0, Near l s0 (axstopAck x0 s) := by
  intro x0
  unfold axstopAck
  dsimp only
  repeat' (first | (with_reducible first | assumption | intro _ | exact hl.of rfl | apply near_modSaf (hl.of rfl) | apply near_axstopEnd (hl.of rfl) | apply Near.each))

theorem near_rotOpen {l : Nat} (hl : Sub 0x100001 l) {s0 s : State} (h : Near l s0 s) : Near l s0 (rotOpen s) := by
  unfold rotOpen
  split
  · exact h
  · extract_lets n i s1 t
    have h1 : Near l s0 s1 := ((h.setFld _ _).setFld _ _).setFld _ _
    clear_value s1
    exact h1.up_rot _ (hl.of rfl)

theorem near_doubtAck {l : Nat} (hl : Sub 0x1001 l) {s0 s : State} (h : Near l s0 s) : ∀ x0, Near l s0 (doubtAck x0 s) := by
  intro x0
  unfold doubtAck
  repeat' (first | (with_reducible first | assumption | intro _ | exact hl.of rfl | apply Near.setReg | apply near_setRet (hl.of rfl) | apply Near.each | apply Near.ite))

theorem near_stoAck {l : Nat} (hl : Sub 0x1001 l) {s0 s : State} (h : Near l s0 s) : Near l s0 (stoAck s) := by
  unfold stoAck
  repeat' (first | (with_reducible first | assumption | intro _ | exact hl.of rfl | apply Near.setFlag | apply near_modSaf (hl.of rfl) | apply Near.ite))

theorem near_demandWrite {l : Nat} (hl : Sub 0xc09041 l) {s0 s : State} (h : Near l s0 s) : ∀ x0, Near l s0 (demandWrite x0 s) := by
  intro x0
  unfold demandWrite
  repeat' (first | (with_reducible first | assumption | intro _ | exact hl.of rfl | apply near_safeDemand (hl.of rfl) | apply Near.ite))

theorem near_relRefuse {l : Nat} (hl : Sub 0x1001 l) {s0 s : State} (h : Near l s0 s) : ∀ x0, Near l s0 (relRefuse x0 s) := by
  intro x0
  unfold relRefuse
  repeat' (first | (with_reducible first | assumption | intro _ | exact hl.of rfl | apply Near.setFld | apply Near.setFlag | apply near_modSaf (hl.of rfl)))

theorem near_relAccept {l : Nat} (hl : Sub 0x19001 l) {s0 s : State} (h : Near l s0 s) : Near l s0 (relAccept s) := by
  unfold relAccept
  dsimp only
  repeat' (first | (with_reducible first | assumption | intro _ | exact hl.of rfl | apply Near.setFld | apply Near.setFlag | apply near_relRefuse (hl.of rfl) | apply near_wakeStart (hl.of rfl) | apply near_pairOut (hl.of rfl)))

theorem near_relWrite {l : Nat} (hl : Sub 0x19001 l) {s0 s : State} (h : Near l s0 s) : ∀ x0 x1, Near l s0 (relWrite x0 x1 s) := by
  intro x0 x1
  unfold relWrite
  repeat' (first | (with_reducible first | assumption | intro _ | exact hl.of rfl | apply Near.setFlag | apply near_relRefuse (hl.of rfl) | apply near_relAccept (hl.of rfl) | apply near_modSaf (hl.of rfl) | apply Near.ite) | split)

theorem near_rotPass {l : Nat} (hl : Sub 0x1 l) {s0 s : State} (h : Near l s0 s) : ∀ x0, Near l s0 (rotPass x0 s) := by
  intro x0
  unfold rotPass
  dsimp only
  repeat' (first | (with_reducible first | assumption | intro _ | exact hl.of rfl | apply Near.setFld))

theorem near_rotClose {l : Nat} (hl : Sub 0x83125d l) {s0 s : State} (h : Near l s0 s) : Near l s0 (rotClose s) := by
  unfold rotClose
  dsimp only
  repeat' (first | (with_reducible first | assumption | intro _ | exact hl.of rfl | apply Near.setFld | apply Near.setBit | apply Near.bump | apply near_rotPass (hl.of rfl) | apply near_raiseDoubt (hl.of rfl) | apply Near.ite))

theorem near_gdenMismatch {l : Nat} (hl : Sub 0xc09041 l) {s0 s : State} (h : Near l s0 s) : Near l s0 (gdenMismatch s) := by
  unfold gdenMismatch
  repeat' (first | (with_reducible first | assumption | intro _ | exact hl.of rfl | apply near_safeDemand (hl.of rfl)))

theorem near_pairIn {l : Nat} (hl : Sub 0xc09041 l) {s0 s : State} (h : Near l s0 s) : ∀ x0, Near l s0 (pairIn x0 s) := by
  intro x0
  unfold pairIn
  dsimp only
  repeat' (first | (with_reducible first | assumption | intro _ | exact hl.of rfl | apply near_modSaf (hl.of rfl) | apply near_safeDemand (hl.of rfl) | apply Near.ite))

theorem near_relTimeout {l : Nat} (hl : Sub 0x1001 l) {s0 s : State} (h : Near l s0 s) : Near l s0 (relTimeout s) := by
  unfold relTimeout
  repeat' (first | (with_reducible first | assumption | intro _ | exact hl.of rfl | apply near_relRefuse (hl.of rfl) | apply Near.ite))

theorem near_rotFail {l : Nat} (hl : Sub 0xc3925d l) {s0 s : State} (h : Near l s0 s) : ∀ x0, Near l s0 (rotFail x0 s) := by
  intro x0
  unfold rotFail
  dsimp only
  repeat' (first | (with_reducible first | assumption | intro _ | exact hl.of rfl | apply Near.setBit | apply near_safeDemand (hl.of rfl) | apply near_raiseDoubt (hl.of rfl) | apply Near.each | apply Near.ite))

theorem near_safeNRead {l : Nat} (hl : Sub 0x83125d l) {s0 s : State} (h : Near l s0 s) : ∀ x0, Near l s0 (safeNRead x0 s) := by
  intro x0
  unfold safeNRead
  dsimp only
  repeat' (first | (with_reducible first | assumption | intro _ | exact hl.of rfl | apply Near.setFlag | apply near_modSaf (hl.of rfl) | apply near_raiseDoubt (hl.of rfl) | apply Near.ite))

theorem near_sliceEnd {l : Nat} (hl : Sub 0xd3925d l) {s0 s : State} (h : Near l s0 s) : ∀ x0, Near l s0 (sliceEnd x0 s) := by
  intro x0
  unfold sliceEnd
  split
  · exact h
  · extract_lets r0 s1
    have h1 : Near l s0 s1 := h.up_rot _ (hl.of rfl)
    clear_value s1
    exact Near.ite (near_rotPass (hl.of rfl) h1 _) (near_rotFail (hl.of rfl) ((h1.setFld _ _).setFld _ _) _)

theorem near_sliceStart {l : Nat} (hl : Sub 0x100000 l) {s0 s : State} (h : Near l s0 s) : ∀ x0 x1 x2, Near l s0 (sliceStart x0 x1 x2 s) := by
  intro x0 x1 x2
  have h1 : ∀ r, Near l s0 { s with rot := r } := fun _ => h.up_rot _ (hl.of rfl)
  unfold sliceStart
  split
  · exact h
  · split
    · exact h
    · exact Near.ite (h1 _) h

theorem near_stoCount {l : Nat} (hl : Sub 0x1001 l) {s0 s : State} (h : Near l s0 s) : ∀ x0 x1, Near l s0 (stoCount x0 x1 s) := by
  intro x0 x1
  unfold stoCount
  repeat' (first | (with_reducible first | assumption | intro _ | exact hl.of rfl | apply Near.setFld | apply Near.bump | apply near_modSaf (hl.of rfl) | apply Near.ite))

theorem near_stoEnd {l : Nat} (hl : Sub 0x41 l) {s0 s : State} (h : Near l s0 s) : Near l s0 (stoEnd s) := by
  unfold stoEnd
  dsimp only
  repeat' (first | (with_reducible first | assumption | intro _ | exact hl.of rfl | apply Near.setFlag | apply near_axstopRefresh (hl.of rfl) | apply near_modLoop (hl.of rfl) | apply Near.each))

theorem near_stoLatch {l : Nat} (hl : Sub 0x1001 l) {s0 s : State} (h : Near l s0 s) : ∀ x0 x1, Near l s0 (stoLatch x0 x1 s) := by
  intro x0 x1
  unfold stoLatch
  dsimp only
  repeat' (first | (with_reducible first | assumption | intro _ | exact hl.of rfl | apply Near.setFlag | apply near_modSaf (hl.of rfl) | apply Near.ite))

theorem near_stoStop {l : Nat} (hl : Sub 0x401041 l) {s0 s : State} (h : Near l s0 s) : ∀ x0 x1, Near l s0 (stoStop x0 x1 s) := by
  intro x0 x1
  unfold stoStop
  dsimp only
  repeat' (first | (with_reducible first | assumption | intro _ | exact hl.of rfl | apply Near.setFlag | apply near_modSaf (hl.of rfl) | apply near_driveOff (hl.of rfl) | apply near_auxKillNow (hl.of rfl) | apply near_axstopRefresh (hl.of rfl) | apply Near.each | apply Near.ite))

theorem near_stoTick {l : Nat} (hl : Sub 0x401041 l) {s0 s : State} (h : Near l s0 s) : ∀ x0 x1, Near l s0 (stoTick x0 x1 s) := by
  intro x0 x1
  unfold stoTick
  dsimp only
  repeat' (first | (with_reducible first | assumption | intro _ | exact hl.of rfl | apply Near.setFlag | apply near_stoStop (hl.of rfl) | apply near_modSaf (hl.of rfl) | apply near_stoLatch (hl.of rfl) | apply near_stoCount (hl.of rfl) | apply near_stoEnd (hl.of rfl) | apply Near.ite))

/-! ## Image -/

theorem near_placeBlobs {l : Nat} (hl : Sub 0x50a0000 l) {s0 s : State} (h : Near l s0 s) : ∀ x0 x1, Near l s0 (placeBlobs x0 x1 s) := by
  intro x0 x1
  unfold placeBlobs
  repeat' (first | (with_reducible first | assumption | intro _ | exact hl.of rfl | apply near_granWrite (hl.of rfl) | apply near_siloWrite (hl.of rfl) | apply Near.each | apply Near.ite) | split)

theorem near_loadImg {l : Nat} (hl : Sub 0x1 l) {s0 s : State} (h : Near l s0 s) : ∀ x0 x1, Near l s0 (loadImg x0 x1 s) := by
  intro x0 x1
  unfold loadImg
  dsimp only
  repeat' (first | (with_reducible first | assumption | intro _ | exact hl.of rfl | apply Near.setReg))

theorem near_loadRegsets {l : Nat} (hl : Sub 0x1 l) {s0 s : State} (h : Near l s0 s) : ∀ x0 x1, Near l s0 (loadRegsets x0 x1 s) := by
  intro x0 x1
  unfold loadRegsets
  repeat' (first | (with_reducible first | assumption | intro _ | exact hl.of rfl | apply near_loadImg (hl.of rfl) | apply Near.each))

theorem near_clearImg {l : Nat} (hl : Sub 0x1 l) {s0 s : State} (h : Near l s0 s) : ∀ x0, Near l s0 (clearImg x0 s) := by
  intro x0
  unfold clearImg
  repeat' (first | (with_reducible first | assumption | intro _ | exact hl.of rfl | apply Near.setReg | apply Near.each | apply Near.ite))

theorem near_rotCond {l : Nat} (hl : Sub 0x1 l) {s0 s : State} (h : Near l s0 s) : Near l s0 (rotCond s) := by
  unfold rotCond
  dsimp only
  repeat' (first | (with_reducible first | assumption | intro _ | exact hl.of rfl | apply Near.setFld | apply Near.setFlag))

theorem near_putWords {l : Nat} (hl : Sub 0x1 l) {s0 s : State} (h : Near l s0 s) : ∀ x0 x1, Near l s0 (putWords x0 x1 s) := by
  intro x0 x1
  unfold putWords
  repeat' (first | (with_reducible first | assumption | intro _ | exact hl.of rfl | apply Near.setReg | apply Near.foldl | apply Near.foldl_snd))

theorem near_loadGraph {l : Nat} (hl : Sub 0x1 l) {s0 s : State} (h : Near l s0 s) : ∀ x0 x1, Near l s0 (loadGraph x0 x1 s) := by
  intro x0 x1
  unfold loadGraph
  dsimp only
  repeat' (first | (with_reducible first | assumption | intro _ | exact hl.of rfl | apply Near.setFld | apply Near.setFlag | apply near_putWords (hl.of rfl)))

theorem near_loadAxis {l : Nat} (hl : Sub 0x1 l) {s0 s : State} (h : Near l s0 s) : ∀ x0 x1, Near l s0 (loadAxis x0 x1 s) := by
  intro x0 x1
  unfold loadAxis
  dsimp only
  repeat' (first | (with_reducible first | assumption | intro _ | exact hl.of rfl | apply Near.setFld | apply near_loadGraph (hl.of rfl) | apply near_mlimUpdate (hl.of rfl)))

theorem near_loadDerived {l : Nat} (hl : Sub 0x1 l) {s0 s : State} (h : Near l s0 s) : ∀ x0, Near l s0 (loadDerived x0 s) := by
  intro x0
  unfold loadDerived
  dsimp only
  repeat' (first | (with_reducible first | assumption | intro _ | exact hl.of rfl | apply Near.setFld | apply Near.setFlag | apply near_rotCond (hl.of rfl) | apply near_loadAxis (hl.of rfl) | apply Near.each | apply Near.ite))

theorem near_loadSigs {l : Nat} (hl : Sub 0x1 l) {s0 s : State} (h : Near l s0 s) : ∀ x0 x1, Near l s0 (loadSigs x0 x1 s) := by
  intro x0 x1
  unfold loadSigs
  dsimp only
  repeat' (first | (with_reducible first | assumption | intro _ | exact hl.of rfl | apply Near.setFld | apply Near.each | apply Near.ite))

theorem near_loadCuts {l : Nat} (hl : Sub 0x20001 l) {s0 s : State} (h : Near l s0 s) : ∀ x0, Near l s0 (loadCuts x0 s) := by
  intro x0
  unfold loadCuts
  dsimp only
  repeat' (first | (with_reducible first | assumption | intro _ | exact hl.of rfl | apply Near.setFld | apply Near.setFlag | apply near_modField (hl.of rfl) | apply Near.each))

theorem near_loadQueue {l : Nat} (hl : Sub 0x1 l) {s0 s : State} (h : Near l s0 s) : ∀ x0, Near l s0 (loadQueue x0 s) := by
  intro x0
  unfold loadQueue
  dsimp only
  repeat' (first | (with_reducible first | assumption | intro _ | exact hl.of rfl | apply Near.setFld | apply Near.setFlag))

theorem near_loadTables {l : Nat} (hl : Sub 0x860101 l) {s0 s : State} (h : Near l s0 s) : ∀ x0, Near l s0 (loadTables x0 s) := by
  intro x0
  unfold loadTables
  dsimp only
  repeat' (first | (with_reducible first | assumption | intro _ | exact hl.of rfl | apply near_modField (hl.of rfl) | apply near_loadSigs (hl.of rfl) | apply near_loadCuts (hl.of rfl) | apply near_putWords (hl.of rfl) | apply near_loadQueue (hl.of rfl) | apply near_modLdr (hl.of rfl) | apply near_modLink (hl.of rfl) | apply Near.each | apply Near.up_routes))

theorem near_configure {l : Nat} (hl : Sub 0x860101 l) {s0 s : State} (h : Near l s0 s) : ∀ x0, Near l s0 (configure x0 s) := by
  intro x0
  unfold configure
  dsimp only
  repeat' (first | (with_reducible first | assumption | intro _ | exact hl.of rfl | apply Near.setFld | apply Near.setFlag | apply near_loadRegsets (hl.of rfl) | apply near_clearImg (hl.of rfl) | apply near_modLdr (hl.of rfl) | apply near_loadDerived (hl.of rfl) | apply near_loadTables (hl.of rfl)))

theorem near_configureTenant {l : Nat} (hl : Sub 0x60001 l) {s0 s : State} (h : Near l s0 s) : ∀ x0 x1, Near l s0 (configureTenant x0 x1 s) := by
  intro x0 x1
  unfold configureTenant
  dsimp only
  repeat' (first | (with_reducible first | assumption | intro _ | exact hl.of rfl | apply Near.setReg | apply near_loadRegsets (hl.of rfl) | apply near_clearImg (hl.of rfl) | apply near_modField (hl.of rfl) | apply near_loadAxis (hl.of rfl) | apply near_loadSigs (hl.of rfl) | apply near_loadCuts (hl.of rfl) | apply near_modLdr (hl.of rfl) | apply Near.each))

theorem near_fillPlots {l : Nat} (hl : Sub 0x20a0000 l) {s0 s : State} (h : Near l s0 s) : ∀ x0 x1, Near l s0 (fillPlots x0 x1 s) := by
  intro x0 x1
  unfold fillPlots
  repeat' (first | (with_reducible first | assumption | intro _ | exact hl.of rfl | apply near_plotWrite (hl.of rfl) | apply Near.each | apply Near.ite) | split)

theorem near_refill {l : Nat} (hl : Sub 0x10a0000 l) {s0 s : State} (h : Near l s0 s) : ∀ x0 x1, Near l s0 (refill x0 x1 s) := by
  intro x0 x1
  unfold refill
  dsimp only
  repeat' (first | (with_reducible first | assumption | intro _ | exact hl.of rfl | apply near_granWrite (hl.of rfl)) | split)

theorem near_refillRetained {l : Nat} (hl : Sub 0x10a0000 l) {s0 s : State} (h : Near l s0 s) : ∀ x0, Near l s0 (refillRetained x0 s) := by
  intro x0
  unfold refillRetained
  repeat' (first | (with_reducible first | assumption | intro _ | exact hl.of rfl | apply near_refill (hl.of rfl) | apply Near.each))

theorem near_restoreGran {l : Nat} (hl : Sub 0x10a0000 l) {s0 s : State} (h : Near l s0 s) : ∀ x0, Near l s0 (restoreGran x0 s) := by
  intro x0
  unfold restoreGran
  dsimp only
  repeat' (first | (with_reducible first | assumption | intro _ | exact hl.of rfl | apply near_refill (hl.of rfl) | apply Near.each))

/-! ## Loader -/

theorem near_applyFull {l : Nat} (hl : Sub 0x5dfa75d l) {s0 s : State} (h : Near l s0 s) : Near l s0 (applyFull s) := by
  unfold applyFull
  dsimp only
  repeat' (first | (with_reducible first | assumption | intro _ | exact hl.of rfl | apply Near.setFld | apply Near.setFlag | apply near_auxOff (hl.of rfl) | apply near_pd4Down (hl.of rfl) | apply near_schedStop (hl.of rfl) | apply near_placeBlobs (hl.of rfl) | apply near_configure (hl.of rfl) | apply near_modLdr (hl.of rfl) | apply near_modPow (hl.of rfl) | apply near_setPd (hl.of rfl) | apply near_setPwr (hl.of rfl) | apply near_modLoop (hl.of rfl) | apply near_queRestart (hl.of rfl) | apply near_startNext (hl.of rfl) | apply near_pd3Begin (hl.of rfl) | apply near_calAll (hl.of rfl) | apply near_scanReset (hl.of rfl) | apply near_trnStart (hl.of rfl) | apply Near.each | apply Near.ite))

theorem near_applyTenant {l : Nat} (hl : Sub 0x70e0001 l) {s0 s : State} (h : Near l s0 s) : ∀ x0, Near l s0 (applyTenant x0 s) := by
  intro x0
  unfold applyTenant
  dsimp only
  repeat' (first | (with_reducible first | assumption | intro _ | exact hl.of rfl | apply Near.setFld | apply Near.setFlag | apply Near.setBit | apply near_placeBlobs (hl.of rfl) | apply near_configureTenant (hl.of rfl) | apply near_fillPlots (hl.of rfl) | apply near_modLdr (hl.of rfl) | apply Near.ite))

theorem near_imageGone {l : Nat} (hl : Sub 0xd7a35d l) {s0 s : State} (h : Near l s0 s) : Near l s0 (imageGone s) := by
  unfold imageGone
  dsimp only
  repeat' (first | (with_reducible first | assumption | intro _ | exact hl.of rfl | apply Near.setFlag | apply near_auxOff (hl.of rfl) | apply near_pd4Down (hl.of rfl) | apply near_schedStop (hl.of rfl) | apply near_scanReset (hl.of rfl) | apply near_clearImg (hl.of rfl) | apply near_modField (hl.of rfl) | apply near_modLdr (hl.of rfl) | apply Near.up_routes))

theorem near_loadFailed {l : Nat} (hl : Sub 0xd7a35d l) {s0 s : State} (h : Near l s0 s) : ∀ x0 x1 x2, Near l s0 (loadFailed x0 x1 x2 s) := by
  intro x0 x1 x2
  unfold loadFailed
  dsimp only
  repeat' (first | (with_reducible first | assumption | intro _ | exact hl.of rfl | apply Near.setReg | apply Near.setFld | apply Near.setFlag | apply Near.setBit | apply near_modLdr (hl.of rfl) | apply near_setPwr (hl.of rfl) | apply near_imageGone (hl.of rfl) | apply near_tenFault (hl.of rfl) | apply Near.ite))

theorem near_loadStop {l : Nat} (hl : Sub 0xd7a35d l) {s0 s : State} (h : Near l s0 s) : ∀ x0, Near l s0 (loadStop x0 s) := by
  intro x0
  unfold loadStop
  dsimp only
  repeat' (first | (with_reducible first | assumption | intro _ | exact hl.of rfl | apply near_loadFailed (hl.of rfl)))

theorem near_loadAbort {l : Nat} (hl : Sub 0xd7a35d l) {s0 s : State} (h : Near l s0 s) : Near l s0 (loadAbort s) := by
  unfold loadAbort
  repeat' (first | (with_reducible first | assumption | intro _ | exact hl.of rfl | apply near_loadStop (hl.of rfl) | apply Near.ite))

theorem near_loadStart {l : Nat} (hl : Sub 0x40001 l) {s0 s : State} (h : Near l s0 s) : ∀ x0, Near l s0 (loadStart x0 s) := by
  intro x0
  unfold loadStart
  dsimp only
  repeat' (first | (with_reducible first | assumption | intro _ | exact hl.of rfl | apply Near.setReg | apply Near.setFld | apply Near.setFlag | apply near_modLdr (hl.of rfl) | apply near_setPwr (hl.of rfl) | apply Near.ite))

theorem near_sealWrite {l : Nat} (hl : Sub 0x40001 l) {s0 s : State} (h : Near l s0 s) : Near l s0 (sealWrite s) := by
  unfold sealWrite
  repeat' (first | (with_reducible first | assumption | intro _ | exact hl.of rfl | apply Near.setFlag | apply near_modLdr (hl.of rfl) | apply Near.ite))

theorem near_imgCtrl {l : Nat} (hl : Sub 0xd7a35d l) {s0 s : State} (h : Near l s0 s) : ∀ x0 x1, Near l s0 (imgCtrl x0 x1 s) := by
  intro x0 x1
  unfold imgCtrl
  dsimp only
  repeat' (first | (with_reducible first | assumption | intro _ | exact hl.of rfl | apply Near.setFld | apply Near.setFlag | apply near_loadAbort (hl.of rfl) | apply near_loadStart (hl.of rfl) | apply near_sealWrite (hl.of rfl) | apply Near.when | apply Near.ite))

theorem near_loadFind {l : Nat} (hl : Sub 0xd7a35d l) {s0 s : State} (h : Near l s0 s) : ∀ x0, Near l s0 (loadFind x0 s) := by
  intro x0
  unfold loadFind
  repeat' (first | (with_reducible first | assumption | intro _ | exact hl.of rfl | apply near_loadFailed (hl.of rfl) | apply near_loadStop (hl.of rfl)) | split)

theorem near_loadVerdict {l : Nat} (hl : Sub 0xd7a35d l) {s0 s : State} (h : Near l s0 s) : ∀ x0, Near l s0 (loadVerdict x0 s) := by
  intro x0
  unfold loadVerdict
  dsimp only
  repeat' (first | (with_reducible first | assumption | intro _ | exact hl.of rfl | apply Near.setFld | apply near_modLdr (hl.of rfl) | apply near_loadFind (hl.of rfl) | apply near_loadFailed (hl.of rfl)) | split)

theorem near_loadCheck {l : Nat} (hl : Sub 0xd7a35d l) {s0 s : State} (h : Near l s0 s) : ∀ x0, Near l s0 (loadCheck x0 s) := by
  intro x0
  unfold loadCheck
  dsimp only
  repeat' (first | (with_reducible first | assumption | intro _ | exact hl.of rfl | apply near_loadFind (hl.of rfl) | apply near_loadVerdict (hl.of rfl) | apply Near.ite) | split)

theorem near_fifoWord {l : Nat} (hl : Sub 0xd7a35d l) {s0 s : State} (h : Near l s0 s) : ∀ x0 x1, Near l s0 (fifoWord x0 x1 s) := by
  intro x0 x1
  unfold fifoWord
  repeat' (first | (with_reducible first | assumption | intro _ | exact hl.of rfl | apply near_loadCheck (hl.of rfl) | apply near_modLdr (hl.of rfl) | apply Near.ite))

theorem near_imageApply {l : Nat} (hl : Sub 0x7dfa75d l) {s0 s : State} (h : Near l s0 s) : Near l s0 (imageApply s) := by
  unfold imageApply
  dsimp only
  repeat' (first | (with_reducible first | assumption | intro _ | exact hl.of rfl | apply near_applyTenant (hl.of rfl) | apply near_applyFull (hl.of rfl) | apply Near.ite) | split)

theorem near_loadStall {l : Nat} (hl : Sub 0xd7a35d l) {s0 s : State} (h : Near l s0 s) : Near l s0 (loadStall s) := by
  unfold loadStall
  repeat' (first | (with_reducible first | assumption | intro _ | exact hl.of rfl | apply near_loadStop (hl.of rfl) | apply Near.ite))

theorem near_plotFillEnd {l : Nat} (hl : Sub 0x38a8001 l) {s0 s : State} (h : Near l s0 s) : Near l s0 (plotFillEnd s) := by
  unfold plotFillEnd
  dsimp only
  repeat' (first | (with_reducible first | assumption | intro _ | exact hl.of rfl | apply near_fillPlots (hl.of rfl) | apply near_refillRetained (hl.of rfl) | apply near_startNext (hl.of rfl) | apply near_modPow (hl.of rfl) | apply Near.ite))

theorem near_restoreEnd {l : Nat} (hl : Sub 0x10a8001 l) {s0 s : State} (h : Near l s0 s) : ∀ x0, Near l s0 (restoreEnd x0 s) := by
  intro x0
  unfold restoreEnd
  repeat' (first | (with_reducible first | assumption | intro _ | exact hl.of rfl | apply near_modPow (hl.of rfl) | apply near_restoreGran (hl.of rfl) | apply near_needImage (hl.of rfl) | apply Near.ite))

theorem near_siloLoadEnd {l : Nat} (hl : Sub 0x4d7a35d l) {s0 s : State} (h : Near l s0 s) : ∀ x0, Near l s0 (siloLoadEnd x0 s) := by
  intro x0
  unfold siloLoadEnd
  dsimp only
  repeat' (first | (with_reducible first | assumption | intro _ | exact hl.of rfl | apply near_siloWrite (hl.of rfl) | apply near_loadCheck (hl.of rfl) | apply near_modLdr (hl.of rfl) | apply Near.ite))

/-! ## Live -/

theorem near_liveRefuse {l : Nat} (hl : Sub 0x1 l) {s0 s : State} (h : Near l s0 s) : Near l s0 (liveRefuse s) := by
  unfold liveRefuse
  repeat' (first | (with_reducible first | assumption | intro _ | exact hl.of rfl | apply Near.setFlag | apply Near.bump))

theorem near_perStore {l : Nat} (hl : Sub 0x9 l) {s0 s : State} (h : Near l s0 s) : ∀ x0 x1, Near l s0 (perStore x0 x1 s) := by
  intro x0 x1
  unfold perStore
  dsimp only
  repeat' (first | (with_reducible first | assumption | intro _ | exact hl.of rfl | apply Near.setFld | apply near_mlimUpdate (hl.of rfl) | apply near_modPwm (hl.of rfl)))

theorem near_livePeriods {l : Nat} (hl : Sub 0x10f065d l) {s0 s : State} (h : Near l s0 s) : Near l s0 (livePeriods s) := by
  unfold livePeriods
  dsimp only
  repeat' (first | (with_reducible first | assumption | intro _ | exact hl.of rfl | apply near_modLdr (hl.of rfl) | apply near_inlog (hl.of rfl) | apply near_liveRefuse (hl.of rfl) | apply near_perStore (hl.of rfl) | apply Near.each | apply Near.ite) | split)

theorem near_liveStore {l : Nat} (hl : Sub 0x1 l) {s0 s : State} (h : Near l s0 s) : ∀ x0 x1 x2, Near l s0 (liveStore x0 x1 x2 s) := by
  intro x0 x1 x2
  unfold liveStore
  dsimp only
  repeat' (first | (with_reducible first | assumption | intro _ | exact hl.of rfl | apply Near.setReg | apply near_mlimUpdate (hl.of rfl) | apply Near.each | apply Near.ite))

theorem near_liveField {l : Nat} (hl : Sub 0x10f065d l) {s0 s : State} (h : Near l s0 s) : ∀ x0 x1 x2, Near l s0 (liveField x0 x1 s x2) := by
  intro x0 x1 x2
  unfold liveField
  dsimp only
  repeat' (first | (with_reducible first | assumption | intro _ | exact hl.of rfl | apply near_liveRefuse (hl.of rfl) | apply near_liveStore (hl.of rfl) | apply near_inlog (hl.of rfl) | apply near_modLdr (hl.of rfl) | apply Near.ite))

theorem near_liveWrite {l : Nat} (hl : Sub 0x10f065d l) {s0 s : State} (h : Near l s0 s) : ∀ x0 x1 x2, Near l s0 (liveWrite x0 x1 x2 s) := by
  intro x0 x1 x2
  unfold liveWrite
  repeat' (first | (with_reducible first | assumption | intro _ | exact hl.of rfl | apply near_liveField (hl.of rfl) | apply Near.each))

theorem near_liveBoundary {l : Nat} (hl : Sub 0x10f065d l) {s0 s : State} (h : Near l s0 s) : Near l s0 (liveBoundary s) := by
  unfold liveBoundary
  dsimp only
  repeat' (first | (with_reducible first | assumption | intro _ | exact hl.of rfl | apply near_modLdr (hl.of rfl) | apply near_inlog (hl.of rfl) | apply near_liveStore (hl.of rfl) | apply Near.each))

/-! ## AuxOut -/

theorem near_auxClr {l : Nat} (hl : Sub 0x400000 l) {s0 s : State} (h : Near l s0 s) : ∀ x0, Near l s0 (auxClr x0 s) := by
  intro x0
  unfold auxClr
  repeat' (first | (with_reducible first | assumption | intro _ | exact hl.of rfl | apply near_modAux (hl.of rfl)))

theorem near_auxPair {l : Nat} (hl : Sub 0x1 l) {s0 s : State} (h : Near l s0 s) : ∀ x0, Near l s0 (auxPair x0 s) := by
  intro x0
  unfold auxPair
  dsimp only
  repeat' (first | (with_reducible first | assumption | intro _ | exact hl.of rfl | apply Near.setBit | apply Near.ite))

theorem near_auxDecision {l : Nat} (hl : Sub 0x400001 l) {s0 s : State} (h : Near l s0 s) : Near l s0 (auxDecision s) := by
  unfold auxDecision
  dsimp only
  repeat' (first | (with_reducible first | assumption | intro _ | exact hl.of rfl | apply near_auxOff (hl.of rfl) | apply near_auxKillNow (hl.of rfl) | apply near_modAux (hl.of rfl) | apply near_auxPair (hl.of rfl) | apply Near.each | apply Near.ite))

theorem near_auxSet {l : Nat} (hl : Sub 0x400001 l) {s0 s : State} (h : Near l s0 s) : ∀ x0, Near l s0 (auxSet x0 s) := by
  intro x0
  unfold auxSet
  dsimp only
  repeat' (first | (with_reducible first | assumption | intro _ | exact hl.of rfl | apply Near.setBit | apply near_modAux (hl.of rfl) | apply Near.each))

theorem near_hallChange {l : Nat} (hl : Sub 0x3025d l) {s0 s : State} (h : Near l s0 s) : ∀ x0 x1, Near l s0 (hallChange x0 x1 s) := by
  intro x0 x1
  unfold hallChange
  repeat' (first | (with_reducible first | assumption | intro _ | exact hl.of rfl | apply Near.setFld | apply near_raiseAx (hl.of rfl) | apply Near.ite))

theorem near_offDelayEnd {l : Nat} (hl : Sub 0x1 l) {s0 s : State} (h : Near l s0 s) : ∀ x0, Near l s0 (offDelayEnd x0 s) := by
  intro x0
  unfold offDelayEnd
  repeat' (first | (with_reducible first | assumption | intro _ | exact hl.of rfl | apply Near.setBit | apply Near.ite))

/-! ## HostRegs -/

theorem near_plainWrite {l : Nat} (hl : Sub 0x1 l) {s0 s : State} (h : Near l s0 s) : ∀ x0 x1, Near l s0 (plainWrite x0 x1 s) := by
  intro x0 x1
  unfold plainWrite
  repeat' (first | (with_reducible first | assumption | intro _ | exact hl.of rfl | apply Near.setReg))

theorem near_auxWrite {l : Nat} (hl : Sub 0x400001 l) {s0 s : State} (h : Near l s0 s) : ∀ x0 x1, Near l s0 (auxWrite x0 x1 s) := by
  intro x0 x1
  unfold auxWrite
  repeat' (first | (with_reducible first | assumption | intro _ | exact hl.of rfl | apply near_auxSet (hl.of rfl) | apply near_auxClr (hl.of rfl) | apply near_plainWrite (hl.of rfl) | apply Near.ite))

theorem near_shadowWrite {l : Nat} (hl : Sub 0x1 l) {s0 s : State} (h : Near l s0 s) : ∀ x0 x1 x2, Near l s0 (shadowWrite x0 x1 x2 s) := by
  intro x0 x1 x2
  unfold shadowWrite
  dsimp only
  repeat' (first | (with_reducible first | assumption | intro _ | exact hl.of rfl | apply Near.setFlag | apply near_plainWrite (hl.of rfl) | apply Near.ite))

theorem near_capWrite {l : Nat} (hl : Sub 0x1 l) {s0 s : State} (h : Near l s0 s) : ∀ x0 x1 x2, Near l s0 (capWrite x0 x1 x2 s) := by
  intro x0 x1 x2
  unfold capWrite
  dsimp only
  repeat' (first | (with_reducible first | assumption | intro _ | exact hl.of rfl | apply Near.setFld | apply near_plainWrite (hl.of rfl) | apply Near.ite))

theorem near_rplWrite {l : Nat} (hl : Sub 0x8200061 l) {s0 s : State} (h : Near l s0 s) : ∀ x0 x1 x2, Near l s0 (rplWrite x0 x1 x2 s) := by
  intro x0 x1 x2
  unfold rplWrite
  dsimp only
  repeat' (first | (with_reducible first | assumption | intro _ | exact hl.of rfl | apply near_plainWrite (hl.of rfl) | apply near_replayAbort (hl.of rfl) | apply near_fresh (hl.of rfl) | apply near_replayGo (hl.of rfl) | apply Near.when | apply Near.ite))

theorem near_bankWrite {l : Nat} (hl : Sub 0x1 l) {s0 s : State} (h : Near l s0 s) : ∀ x0 x1 x2, Near l s0 (bankWrite x0 x1 x2 s) := by
  intro x0 x1 x2
  unfold bankWrite
  dsimp only
  repeat' (first | (with_reducible first | assumption | intro _ | exact hl.of rfl | apply Near.setFlag | apply near_plainWrite (hl.of rfl) | apply Near.ite))

theorem near_axisWrite {l : Nat} (hl : Sub 0x860007d l) {s0 s : State} (h : Near l s0 s) : ∀ x0 x1 x2, Near l s0 (axisWrite x0 x1 x2 s) := by
  intro x0 x1 x2
  unfold axisWrite
  dsimp only
  repeat' (first | (with_reducible first | assumption | intro _ | exact hl.of rfl | apply near_plainWrite (hl.of rfl) | apply near_calRequest (hl.of rfl) | apply near_losAck (hl.of rfl) | apply near_armGroup (hl.of rfl) | apply near_shadowWrite (hl.of rfl) | apply near_outputsMoved (hl.of rfl) | apply near_tripClear (hl.of rfl) | apply near_bankSwapReq (hl.of rfl) | apply near_drvAck (hl.of rfl) | apply near_capWrite (hl.of rfl) | apply near_rplWrite (hl.of rfl) | apply near_bankWrite (hl.of rfl) | apply near_auxWrite (hl.of rfl) | apply Near.when | apply Near.ite))

theorem near_detStatWrite {l : Nat} (hl : Sub 0x1 l) {s0 s : State} (h : Near l s0 s) : ∀ x0, Near l s0 (detStatWrite x0 s) := by
  intro x0
  unfold detStatWrite
  repeat' (first | (with_reducible first | assumption | intro _ | exact hl.of rfl | apply near_plainWrite (hl.of rfl)))

theorem near_pcrWrite {l : Nat} (hl : Sub 0xfffffff l) {s0 s : State} (_ : Near l s0 s) : ∀ x0 x1 x2, Near l s0 (pcrWrite x0 x1 x2 s) := by
  intro x0 x1 x2
  exact .any hl _ _

theorem near_fldWrite {l : Nat} (hl : Sub 0x24001 l) {s0 s : State} (h : Near l s0 s) : ∀ x0 x1, Near l s0 (fldWrite x0 x1 s) := by
  intro x0 x1
  unfold fldWrite
  repeat' (first | (with_reducible first | assumption | intro _ | exact hl.of rfl | apply near_fldRepair (hl.of rfl) | apply near_plainWrite (hl.of rfl) | apply near_cutSwapReq (hl.of rfl) | apply Near.when | apply Near.ite))

theorem near_hrwWrite {l : Nat} (hl : Sub 0x90001 l) {s0 s : State} (h : Near l s0 s) : ∀ x0 x1, Near l s0 (hrwWrite x0 x1 s) := by
  intro x0 x1
  unfold hrwWrite
  dsimp only
  repeat' (first | (with_reducible first | assumption | intro _ | exact hl.of rfl | apply near_chkHostInit (hl.of rfl) | apply near_chkHostFeed (hl.of rfl) | apply near_plainWrite (hl.of rfl) | apply near_chkConfig (hl.of rfl) | apply near_scanEndWhy (hl.of rfl) | apply near_scanGo (hl.of rfl) | apply Near.when | apply Near.ite))

theorem near_safWrite {l : Nat} (hl : Sub 0xc19041 l) {s0 s : State} (h : Near l s0 s) : ∀ x0 x1 x2, Near l s0 (safWrite x0 x1 x2 s) := by
  intro x0 x1 x2
  unfold safWrite
  dsimp only
  repeat' (first | (with_reducible first | assumption | intro _ | exact hl.of rfl | apply near_doubtAck (hl.of rfl) | apply near_axstopAck (hl.of rfl) | apply near_stoAck (hl.of rfl) | apply near_demandWrite (hl.of rfl) | apply near_relWrite (hl.of rfl) | apply near_axstopEnd (hl.of rfl) | apply near_plainWrite (hl.of rfl) | apply Near.when | apply Near.ite) | split)

theorem near_tenPending {l : Nat} (hl : Sub 0x1 l) {s0 s : State} (h : Near l s0 s) : ∀ x0, Near l s0 (tenPending x0 s) := by
  intro x0
  unfold tenPending
  repeat' (first | (with_reducible first | assumption | intro _ | exact hl.of rfl | apply Near.setFlag))

theorem near_tenantReset {l : Nat} (hl : Sub 0x610061 l) {s0 s : State} (h : Near l s0 s) : ∀ x0, Near l s0 (tenantReset x0 s) := by
  intro x0
  unfold tenantReset
  dsimp only
  repeat' (first | (with_reducible first | assumption | intro _ | exact hl.of rfl | apply Near.setFlag | apply near_replayAbort (hl.of rfl) | apply near_trnShow (hl.of rfl) | apply near_driveOff (hl.of rfl) | apply near_trnEnd (hl.of rfl) | apply near_tenPending (hl.of rfl) | apply near_auxKillNow (hl.of rfl) | apply Near.each | apply Near.ite) | split)

theorem near_tenantRelease {l : Nat} (hl : Sub 0x200061 l) {s0 s : State} (h : Near l s0 s) : ∀ x0, Near l s0 (tenantRelease x0 s) := by
  intro x0
  unfold tenantRelease
  dsimp only
  repeat' (first | (with_reducible first | assumption | intro _ | exact hl.of rfl | apply Near.setFlag | apply near_replayAbort (hl.of rfl) | apply near_tenPending (hl.of rfl) | apply Near.ite) | split)

theorem near_tenCtrl {l : Nat} (hl : Sub 0x610061 l) {s0 s : State} (h : Near l s0 s) : ∀ x0 x1, Near l s0 (tenCtrl x0 x1 s) := by
  intro x0 x1
  unfold tenCtrl
  repeat' (first | (with_reducible first | assumption | intro _ | exact hl.of rfl | apply near_tenantReset (hl.of rfl) | apply near_tenantRelease (hl.of rfl) | apply Near.ite))

theorem near_queWrite {l : Nat} (hl : Sub 0x63067d l) {s0 s : State} (h : Near l s0 s) : ∀ x0 x1, Near l s0 (queWrite x0 x1 s).2 := by
  intro x0 x1
  unfold queWrite
  dsimp only
  repeat' (first | (with_reducible first | assumption | intro _ | exact hl.of rfl | apply Near.setFld | apply Near.setFlag | apply near_setCons (hl.of rfl) | apply near_bellWrite (hl.of rfl) | apply near_plainWrite (hl.of rfl) | apply near_tenCtrl (hl.of rfl) | apply near_raise (hl.of rfl) | apply Near.ite) | split)

theorem near_trlWrite {l : Nat} (hl : Sub 0x18b125d l) {s0 s : State} (h : Near l s0 s) : ∀ x0 x1, Near l s0 (trlWrite x0 x1 s) := by
  intro x0 x1
  unfold trlWrite
  dsimp only
  repeat' (first | (with_reducible first | assumption | intro _ | exact hl.of rfl | apply near_plainWrite (hl.of rfl) | apply near_trlAck (hl.of rfl) | apply near_psClr (hl.of rfl) | apply near_tileCmd (hl.of rfl) | apply near_bulkGo (hl.of rfl) | apply Near.when | apply Near.ite) | split)

theorem near_regEffect {l : Nat} (hl : Sub 0xfffffff l) {s0 s : State} (_ : Near l s0 s) : ∀ x0 x1 x2, Near l s0 (regEffect x0 x1 x2 s).2 := by
  intro x0 x1 x2
  exact .any hl _ _

theorem near_regWrite {l : Nat} (hl : Sub 0xfffffff l) {s0 s : State} (_ : Near l s0 s) : ∀ x0 x1 x2 x3, Near l s0 (regWrite x0 x1 x2 x3 s).2 := by
  intro x0 x1 x2 x3
  exact .any hl _ _

theorem near_regRead {l : Nat} (hl : Sub 0x2800 l) {s0 s : State} (h : Near l s0 s) : ∀ x0 x1, Near l s0 (regRead x0 x1 s).2 := by
  intro x0 x1
  unfold regRead
  dsimp only
  repeat' (first | (with_reducible first | assumption | intro _ | exact hl.of rfl | apply near_modPort (hl.of rfl) | apply near_logTake (hl.of rfl) | apply Near.ite) | split)

/-! ## Ports -/

theorem near_answer {l : Nat} (hl : Sub 0x800 l) {s0 s : State} (h : Near l s0 s) : ∀ x0 x1 x2, Near l s0 (answer x0 x1 x2 s) := by
  intro x0 x1 x2
  unfold answer
  dsimp only
  repeat' (first | (with_reducible first | assumption | intro _ | exact hl.of rfl | apply near_modPort (hl.of rfl)))

theorem near_csnHigh {l : Nat} (hl : Sub 0x800 l) {s0 s : State} (h : Near l s0 s) : ∀ x0, Near l s0 (csnHigh x0 s) := by
  intro x0
  unfold csnHigh
  repeat' (first | (with_reducible first | assumption | intro _ | exact hl.of rfl | apply near_modPort (hl.of rfl)))

theorem near_notBound {l : Nat} (hl : Sub 0x801 l) {s0 s : State} (h : Near l s0 s) : ∀ x0, Near l s0 (notBound x0 s) := by
  intro x0
  unfold notBound
  repeat' (first | (with_reducible first | assumption | intro _ | exact hl.of rfl | apply Near.bump | apply near_answer (hl.of rfl)))

theorem near_queRefuse {l : Nat} (hl : Sub 0x801 l) {s0 s : State} (h : Near l s0 s) : ∀ x0 x1, Near l s0 (queRefuse x0 x1 s) := by
  intro x0 x1
  unfold queRefuse
  repeat' (first | (with_reducible first | assumption | intro _ | exact hl.of rfl | apply near_notBound (hl.of rfl) | apply near_answer (hl.of rfl) | apply Near.ite))

theorem near_deqFrame {l : Nat} (hl : Sub 0x831e5d l) {s0 s : State} (h : Near l s0 s) : ∀ x0 x1 x2 x3, Near l s0 (deqFrame x0 x1 x2 x3 s) := by
  intro x0 x1 x2 x3
  unfold deqFrame
  dsimp only
  repeat' (first | (with_reducible first | assumption | intro _ | exact hl.of rfl | apply near_queHead (hl.of rfl) | apply near_setCons (hl.of rfl) | apply near_answer (hl.of rfl) | apply near_queRefuse (hl.of rfl) | apply Near.ite))

theorem near_enqFrame {l : Nat} (hl : Sub 0x10b0e5d l) {s0 s : State} (h : Near l s0 s) : ∀ x0 x1 x2, Near l s0 (enqFrame x0 x1 x2 s) := by
  intro x0 x1 x2
  unfold enqFrame
  dsimp only
  repeat' (first | (with_reducible first | assumption | intro _ | exact hl.of rfl | apply near_answer (hl.of rfl) | apply near_enqDesc (hl.of rfl) | apply near_queRefuse (hl.of rfl) | apply Near.ite))

theorem near_frame {l : Nat} (hl : Sub 0x801 l) {s0 s : State} {x2 : State → State} (hx : ∀ t, Near l s0 t → Near l s0 (x2 t)) (h : Near l s0 s) : ∀ x0 x1, Near l s0 (frame x0 x1 x2 s) := by
  intro x0 x1
  unfold frame
  repeat' (first | with_reducible assumption | exact hl.of rfl | with_reducible apply hx | with_reducible apply near_answer (hl.of rfl) | with_reducible apply Near.bump | split)

theorem near_frameShort {l : Nat} (hl : Sub 0x1 l) {s0 s : State} (h : Near l s0 s) : ∀ x0, Near l s0 (frameShort x0 s) := by
  intro x0
  unfold frameShort
  repeat' (first | (with_reducible first | assumption | intro _ | exact hl.of rfl | apply Near.bump | apply Near.ite))

theorem near_frameTimeout {l : Nat} (hl : Sub 0x801 l) {s0 s : State} (h : Near l s0 s) : ∀ x0, Near l s0 (frameTimeout x0 s) := by
  intro x0
  unfold frameTimeout
  dsimp only
  repeat' (first | (with_reducible first | assumption | intro _ | exact hl.of rfl | apply Near.setFlag | apply Near.setBit | apply Near.bump | apply near_modPort (hl.of rfl) | apply Near.ite))

theorem near_readWords {l : Nat} (hl : Sub 0x2800 l) {s0 s : State} (h : Near l s0 s) : ∀ x0 x1, Near l s0 (readWords x0 x1 s).2 := by
  intro x0 x1
  induction x1 generalizing s with
  | nil => exact h
  | cons k q ih => exact ih (near_regRead (hl.of rfl) h _ _)

theorem near_readFrame {l : Nat} (hl : Sub 0x2800 l) {s0 s : State} (h : Near l s0 s) : ∀ x0 x1 x2, Near l s0 (readFrame x0 x1 x2 s) := by
  intro x0 x1 x2
  unfold readFrame
  dsimp only
  repeat' (first | (with_reducible first | assumption | intro _ | exact hl.of rfl | apply near_answer (hl.of rfl) | apply near_readWords (hl.of rfl) | apply Near.ite))

theorem near_hostRead {l : Nat} (hl : Sub 0x2801 l) {s0 s : State} (h : Near l s0 s) : ∀ x0 x1, Near l s0 (hostRead x0 x1 s) := by
  intro x0 x1
  unfold hostRead
  repeat' (first | (with_reducible first | assumption | intro _ | exact hl.of rfl | apply near_frame (hl.of rfl) | apply near_readFrame (hl.of rfl)))

theorem near_writeWords {l : Nat} (hl : Sub 0xfffffff l) {s0 s : State} (h : Near l s0 s) : ∀ x0 x1, Near l s0 (writeWords x0 x1 s).2 := by
  intro x0 x1
  induction x1 generalizing s with
  | nil => exact h
  | cons k q ih =>
    unfold writeWords
    dsimp only
    split
    · exact near_regWrite (hl.of rfl) h _ _ _ _
    · exact ih (near_regWrite (hl.of rfl) h _ _ _ _)

theorem near_writeFrame {l : Nat} (hl : Sub 0xfffffff l) {s0 s : State} (_ : Near l s0 s) : ∀ x0 x1 x2, Near l s0 (writeFrame x0 x1 x2 s) := by
  intro x0 x1 x2
  exact .any hl _ _

theorem near_hostWrite {l : Nat} (hl : Sub 0xfffffff l) {s0 s : State} (_ : Near l s0 s) : ∀ x0 x1 x2, Near l s0 (hostWrite x0 x1 x2 s) := by
  intro x0 x1 x2
  exact .any hl _ _

theorem near_statFrame {l : Nat} (hl : Sub 0x800 l) {s0 s : State} (h : Near l s0 s) : ∀ x0, Near l s0 (statFrame x0 s) := by
  intro x0
  unfold statFrame
  repeat' (first | (with_reducible first | assumption | intro _ | exact hl.of rfl | apply near_answer (hl.of rfl) | apply Near.ite))

theorem near_wfetchFrame {l : Nat} (hl : Sub 0x800 l) {s0 s : State} (h : Near l s0 s) : ∀ x0 x1, Near l s0 (wfetchFrame x0 x1 s) := by
  intro x0 x1
  unfold wfetchFrame
  repeat' (first | (with_reducible first | assumption | intro _ | exact hl.of rfl | apply near_answer (hl.of rfl) | apply Near.ite) | split)

theorem near_wreqFrame {l : Nat} (hl : Sub 0x30801 l) {s0 s : State} (h : Near l s0 s) : ∀ x0 x1 x2, Near l s0 (wreqFrame x0 x1 x2 s) := by
  intro x0 x1 x2
  unfold wreqFrame
  repeat' (first | (with_reducible first | assumption | intro _ | exact hl.of rfl | apply near_answer (hl.of rfl) | apply near_winAsk (hl.of rfl) | apply near_modPort (hl.of rfl) | apply Near.ite) | split)

theorem near_wwriteFrame {l : Nat} (hl : Sub 0x30801 l) {s0 s : State} (h : Near l s0 s) : ∀ x0 x1 x2, Near l s0 (wwriteFrame x0 x1 x2 s) := by
  intro x0 x1 x2
  unfold wwriteFrame
  dsimp only
  repeat' (first | (with_reducible first | assumption | intro _ | exact hl.of rfl | apply near_notBound (hl.of rfl) | apply near_answer (hl.of rfl) | apply near_winAsk (hl.of rfl) | apply near_modPort (hl.of rfl) | apply Near.ite) | split)

/-! ## Boundary -/

theorem near_axisCommit {l : Nat} (hl : Sub 0x1eb967d l) {s0 s : State} (h : Near l s0 s) : ∀ x0 x1, Near l s0 (axisCommit x0 s x1) := by
  intro x0 x1
  unfold axisCommit
  dsimp only
  repeat' (first | (with_reducible first | assumption | intro _ | exact hl.of rfl | apply Near.setFld | apply near_pwmCommit (hl.of rfl) | apply near_loopCommit (hl.of rfl) | apply near_setRet (hl.of rfl) | apply near_capFast (hl.of rfl) | apply near_earlyRelease (hl.of rfl) | apply near_headCompute (hl.of rfl) | apply near_replayStop (hl.of rfl) | apply near_sectorEvent (hl.of rfl) | apply Near.ite))

theorem near_doubtEnd {l : Nat} (hl : Sub 0x801001 l) {s0 s : State} (h : Near l s0 s) : ∀ x0, Near l s0 (doubtEnd x0 s) := by
  intro x0
  unfold doubtEnd
  dsimp only
  repeat' (first | (with_reducible first | assumption | intro _ | exact hl.of rfl | apply Near.setReg | apply Near.setBit | apply near_setRet (hl.of rfl) | apply near_linkDoubt (hl.of rfl) | apply near_modSaf (hl.of rfl)))

theorem near_returnLoad {l : Nat} (hl : Sub 0x801001 l) {s0 s : State} (h : Near l s0 s) : ∀ x0, Near l s0 (returnLoad x0 s) := by
  intro x0
  unfold returnLoad
  repeat' (first | (with_reducible first | assumption | intro _ | exact hl.of rfl | apply near_doubtEnd (hl.of rfl) | apply near_setRet (hl.of rfl) | apply Near.ite))

theorem near_loadPoint {l : Nat} (hl : Sub 0x8312fd l) {s0 s : State} (h : Near l s0 s) : ∀ x0 x1 x2 x3, Near l s0 (loadPoint x0 x1 x2 x3 s) := by
  intro x0 x1 x2 x3
  unfold loadPoint
  dsimp only
  repeat' (first | (with_reducible first | assumption | intro _ | exact hl.of rfl | apply near_modPwm (hl.of rfl) | apply near_returnLoad (hl.of rfl) | apply near_headLoad (hl.of rfl) | apply near_loopLoad (hl.of rfl) | apply near_pwmLoad (hl.of rfl) | apply near_obsLoad (hl.of rfl)))

theorem near_axisLoad {l : Nat} (hl : Sub 0x8312fd l) {s0 s : State} (h : Near l s0 s) : ∀ x0 x1 x2, Near l s0 (axisLoad x0 x1 x2 s) := by
  intro x0 x1 x2
  unfold axisLoad
  dsimp only
  repeat' (first | (with_reducible first | assumption | intro _ | exact hl.of rfl | apply near_raiseAx (hl.of rfl) | apply near_loadPoint (hl.of rfl) | apply Near.ite))

theorem near_bankSwapLog {l : Nat} (hl : Sub 0x10b065d l) {s0 s : State} (h : Near l s0 s) : ∀ x0, Near l s0 (bankSwapLog x0 s) := by
  intro x0
  unfold bankSwapLog
  dsimp only
  repeat' (first | (with_reducible first | assumption | intro _ | exact hl.of rfl | apply near_bankSwap (hl.of rfl) | apply near_inlog (hl.of rfl) | apply Near.ite))

theorem near_boundaryClose {l : Nat} (hl : Sub 0x11a00c1 l) {s0 s : State} (h : Near l s0 s) : ∀ x0, Near l s0 (boundaryClose x0 s) := by
  intro x0
  unfold boundaryClose
  dsimp only
  repeat' (first | (with_reducible first | assumption | intro _ | exact hl.of rfl | apply near_rotOpen (hl.of rfl) | apply near_fallowAdvance (hl.of rfl) | apply near_loopCapture (hl.of rfl) | apply near_decTake (hl.of rfl) | apply near_frameClose (hl.of rfl) | apply Near.each | apply Near.ite))

theorem near_tenantEnter {l : Nat} (hl : Sub 0xb1441 l) {s0 s : State} (h : Near l s0 s) : ∀ x0, Near l s0 (tenantEnter x0 s) := by
  intro x0
  unfold tenantEnter
  dsimp only
  repeat' (first | (with_reducible first | assumption | intro _ | exact hl.of rfl | apply Near.setFlag | apply near_runsDrop (hl.of rfl) | apply near_queFlush (hl.of rfl) | apply near_setRet (hl.of rfl) | apply near_scansTenant (hl.of rfl) | apply near_driveOff (hl.of rfl) | apply near_modLoop (hl.of rfl) | apply near_modField (hl.of rfl) | apply near_modTrn (hl.of rfl) | apply Near.each) | split)

theorem near_startHere {l : Nat} (hl : Sub 0x1000 l) {s0 s : State} (h : Near l s0 s) : ∀ x0, Near l s0 (startHere x0 s) := by
  intro x0
  unfold startHere
  dsimp only
  repeat' (first | (with_reducible first | assumption | intro _ | exact hl.of rfl | apply near_startOnHeadland (hl.of rfl) | apply near_setRet (hl.of rfl) | apply Near.ite))

theorem near_zeroAxes {l : Nat} (hl : Sub 0x82010e9 l) {s0 s : State} (h : Near l s0 s) : Near l s0 (zeroAxes s) := by
  unfold zeroAxes
  dsimp only
  repeat' (first | (with_reducible first | assumption | intro _ | exact hl.of rfl | apply near_modHead (hl.of rfl) | apply near_startHere (hl.of rfl) | apply near_axisStart (hl.of rfl) | apply Near.each | apply Near.ite))

theorem near_cutSwapLog {l : Nat} (hl : Sub 0x18b165d l) {s0 s : State} (h : Near l s0 s) : ∀ x0, Near l s0 (cutSwapLog x0 s) := by
  intro x0
  unfold cutSwapLog
  dsimp only
  repeat' (first | (with_reducible first | assumption | intro _ | exact hl.of rfl | apply near_cutSwap (hl.of rfl) | apply near_inlog (hl.of rfl) | apply near_cutReport (hl.of rfl) | apply Near.ite))

theorem near_cmdWord {l : Nat} (hl : Sub 0xfffffff l) {s0 : State} : ∀ p r x, Near l s0 r.2 → Near l s0 (cmdWord p r x).2 := by
  intro p r x h
  exact near_regWrite (hl.of rfl) h _ _ _ _

theorem near_cmdApply {l : Nat} (hl : Sub 0xfffffff l) {s0 s : State} (h : Near l s0 s) : ∀ x0 x1 x2, Near l s0 (cmdApply x0 x1 x2 s).2 := by
  intro x0 x1 x2
  unfold cmdApply
  dsimp only
  apply near_inlog (hl.of rfl)
  apply Near.foldl_snd (fun r x h => near_cmdWord (hl.of rfl) _ r x h)
  dsimp only
  split
  · exact h
  · exact near_granRead (hl.of rfl) h _ _ _

theorem near_queVisit {l : Nat} (hl : Sub 0xfffffff l) {s0 s : State} (h : Near l s0 s) : ∀ x0 x1 x2, Near l s0 (queVisit x0 x1 x2 s) := by
  intro x0 x1
  induction x1 generalizing s with
  | zero => intro x2; exact h
  | succ n ih =>
    intro x2
    have hf := near_queFetch (hl.of rfl) h x0 (s.queCons x0)
    unfold queVisit
    dsimp only
    repeat' (first | with_reducible assumption | exact hl.of rfl | with_reducible apply ih | with_reducible apply near_returnDesc (hl.of rfl) | with_reducible apply near_cmdApply (hl.of rfl) | with_reducible apply near_queConsume (hl.of rfl) | with_reducible apply near_aliveRef (hl.of rfl) | split)

theorem near_commandVisit {l : Nat} (hl : Sub 0xfffffff l) {s0 s : State} (_ : Near l s0 s) : Near l s0 (commandVisit s) := by
  exact .any hl _ _

theorem near_boundaryInputs {l : Nat} (hl : Sub 0xfffffff l) {s0 s : State} (_ : Near l s0 s) : ∀ x0 x1 x2, Near l s0 (boundaryInputs x0 x1 x2 s) := by
  intro x0 x1 x2
  exact .any hl _ _

theorem near_tenantLeave {l : Nat} (hl : Sub 0x82014e9 l) {s0 s : State} (h : Near l s0 s) : ∀ x0, Near l s0 (tenantLeave x0 s) := by
  intro x0
  unfold tenantLeave
  dsimp only
  repeat' (first | (with_reducible first | assumption | intro _ | exact hl.of rfl | apply Near.setFlag | apply near_queRestart (hl.of rfl) | apply near_startHere (hl.of rfl) | apply near_axisStart (hl.of rfl) | apply near_setRet (hl.of rfl) | apply Near.each | apply Near.ite) | split)

theorem near_boundaryRest {l : Nat} (hl : Sub 0x9ab16fd l) {s0 s : State} (h : Near l s0 s) : ∀ x0, Near l s0 (boundaryRest x0 s) := by
  intro x0
  unfold boundaryRest
  dsimp only
  repeat' (first | (with_reducible first | assumption | intro _ | exact hl.of rfl | apply near_tenantLeave (hl.of rfl) | apply near_capSlow (hl.of rfl) | apply near_slowTake (hl.of rfl) | apply near_cmdDeliver (hl.of rfl) | apply near_replayStart (hl.of rfl) | apply near_queIdle (hl.of rfl) | apply near_tenPending (hl.of rfl) | apply near_ckptFrame (hl.of rfl) | apply near_ckptFollow (hl.of rfl) | apply near_sharePrune (hl.of rfl) | apply near_linkBoundary (hl.of rfl) | apply near_snapTake (hl.of rfl) | apply near_raiseAll (hl.of rfl) | apply near_stdDue (hl.of rfl) | apply Near.each | apply Near.ite))

theorem near_loadAllServe {l : Nat} (hl : Sub 0x204 l) {s0 s : State} (h : Near l s0 s) : ∀ x0, Near l s0 (loadAllServe x0 s) := by
  intro x0
  have h' : ∀ v, Near l s0 { s with armed := v } := fun _ => h.up_armed _ (hl.of rfl)
  unfold loadAllServe
  dsimp only
  split
  · exact h' _
  · exact (h' _).setTask _ _ (hl.of rfl)

theorem near_commitWindow {l : Nat} (hl : Sub 0x1eb967d l) {s0 s : State} (h : Near l s0 s) : ∀ x0, Near l s0 (commitWindow x0 s) := by
  intro x0
  unfold commitWindow
  dsimp only
  repeat' (first | (with_reducible first | assumption | intro _ | exact hl.of rfl | apply near_axisCommit (hl.of rfl) | apply near_raiseAll (hl.of rfl) | apply near_loadAllServe (hl.of rfl) | apply Near.each | apply Near.ite))

theorem near_returnFrame {l : Nat} (hl : Sub 0x801001 l) {s0 s : State} (h : Near l s0 s) : ∀ x0, Near l s0 (returnFrame x0 s) := by
  intro x0
  unfold returnFrame
  repeat' (first | (with_reducible first | assumption | intro _ | exact hl.of rfl | apply near_setRet (hl.of rfl) | apply near_doubtEnd (hl.of rfl) | apply Near.ite) | split)

theorem near_frameEnd {l : Nat} (hl : Sub 0x8b125d l) {s0 s : State} (h : Near l s0 s) : Near l s0 (frameEnd s) := by
  unfold frameEnd
  repeat' (first | (with_reducible first | assumption | intro _ | exact hl.of rfl | apply near_rotClose (hl.of rfl) | apply near_scrubFrame (hl.of rfl) | apply near_returnFrame (hl.of rfl) | apply Near.each))

theorem near_frameOpen {l : Nat} (hl : Sub 0x821001 l) {s0 s : State} (h : Near l s0 s) : Near l s0 (frameOpen s) := by
  unfold frameOpen
  dsimp only
  repeat' (first | (with_reducible first | assumption | intro _ | exact hl.of rfl | apply Near.setReg | apply Near.setFld | apply near_modSaf (hl.of rfl) | apply near_reductionFrame (hl.of rfl) | apply near_modField (hl.of rfl) | apply Near.each))

theorem near_zeroStep {l : Nat} (hl : Sub 0x93908b l) {s0 s : State} (h : Near l s0 s) : Near l s0 (zeroStep s) := by
  unfold zeroStep
  extract_lets r0 s1 s2 s3 s4 s5 s6 s7
  have h1 : Near l s0 s1 := h.up_begin _ _ (hl.of rfl) (hl.of rfl)
  have h2 : Near l s0 s2 := near_modPow (hl.of rfl) h1 _
  have h3 : Near l s0 s3 := Near.ite (h2.setFld _ _) h2
  have h4 : Near l s0 s4 := (near_modPow (hl.of rfl) h3 _).setFld _ _
  have h5 : Near l s0 s5 := h4.setReg _ _
  have h6 : Near l s0 s6 := Near.ite h5 (near_detFlag (hl.of rfl) h5 _)
  have h7 : Near l s0 s7 := h6.each (fun _ _ hx => near_zeroCommit (hl.of rfl) hx _)
  clear_value s7
  exact near_windowStart (hl.of rfl) (near_trnEnd (hl.of rfl) (h7.each (fun _ _ hx => near_doubtEnd (hl.of rfl) hx _)) _)

theorem near_periodBoundary {l : Nat} (hl : Sub 0xfffffff l) {s0 s : State} (_ : Near l s0 s) : ∀ x0 x1, Near l s0 (periodBoundary x0 x1 s) := by
  intro x0 x1
  exact .any hl _ _

/-! ## PwmRows -/

theorem near_pinLevels {l : Nat} (hl : Sub 0x8 l) {s0 s : State} (h : Near l s0 s) : ∀ x0 x1 x2, Near l s0 (pinLevels x0 x1 x2 s) := by
  intro x0 x1 x2
  unfold pinLevels
  repeat' (first | (with_reducible first | assumption | intro _ | exact hl.of rfl | apply near_modPwm (hl.of rfl)))

/-! ## SenseRows -/

theorem near_convEnd {l : Nat} (hl : Sub 0xe3967d l) {s0 s : State} (h : Near l s0 s) : ∀ x0 x1 x2 x3 x4, Near l s0 (convEnd x0 x1 x2 x3 x4 s) := by
  intro x0 x1 x2 x3 x4
  unfold convEnd
  dsimp only
  repeat' (first | (with_reducible first | assumption | intro _ | exact hl.of rfl | apply near_modSense (hl.of rfl) | apply near_replaySample (hl.of rfl) | apply near_headCompute (hl.of rfl) | apply near_convLatch (hl.of rfl) | apply Near.ite))

/-! ## PowerRows -/

theorem near_trnAsk {l : Nat} (hl : Sub 0x10001 l) {s0 s : State} (h : Near l s0 s) : ∀ x0, Near l s0 (trnAsk x0 s) := by
  intro x0
  unfold trnAsk
  repeat' (first | (with_reducible first | assumption | intro _ | exact hl.of rfl | apply near_trnShow (hl.of rfl) | apply near_trnRequest (hl.of rfl) | apply Near.ite) | split)

theorem near_trnGo {l : Nat} (hl : Sub 0x898001 l) {s0 s : State} (h : Near l s0 s) : ∀ x0, Near l s0 (trnGo x0 s) := by
  intro x0
  unfold trnGo
  repeat' (first | (with_reducible first | assumption | intro _ | exact hl.of rfl | apply near_scanRun (hl.of rfl) | apply near_siloShow (hl.of rfl) | apply near_bulkStart (hl.of rfl) | apply near_pd3Granted (hl.of rfl)) | split)

theorem near_trnNo {l : Nat} (hl : Sub 0x8b8a5d l) {s0 s : State} (h : Near l s0 s) : ∀ x0, Near l s0 (trnNo x0 s) := by
  intro x0
  unfold trnNo
  repeat' (first | (with_reducible first | assumption | intro _ | exact hl.of rfl | apply near_scanRefused (hl.of rfl) | apply near_siloRefused (hl.of rfl) | apply near_bulkRefused (hl.of rfl) | apply near_pd3Fail (hl.of rfl)) | split)

end Sys2Proof.Machine
end

