-- ==== Sys2Proof/Laws/Writes.lean ====
section
/-! SUPPORT. What a write of each register that commands name does: the branch of `regEffect` it takes. -/

namespace Sys2Proof.Machine

variable (p : Fin 2) (v : Word) (s : State)

theorem effect_snsCal (a : Fin 4) : regEffect p (homeKey (R.SNS_CAL a)) v s = (0, (plainWrite (R.SNS_CAL a) v s).when (v.getLsbD 0) (calRequest a)) := by
  fin_cases a <;> rfl
theorem effect_pwmLoad (a : Fin 4) : regEffect p (homeKey (R.PWM_LOAD a)) v s
    = (0, (plainWrite (R.PWM_LOAD a) v s).when (v.getLsbD 0) (armGroup (s.fld (F.PWM_CTRL_GROUP a)))) := by
  fin_cases a <;> rfl
theorem effect_tripClr (a : Fin 4) : regEffect p (homeKey (R.PWM_TRIP_CLR a)) v s = (0, s.when (v.getLsbD 0) (tripClear a)) := by
  fin_cases a <;> rfl
theorem effect_drvCtrl (a : Fin 4) : regEffect p (homeKey (R.LPE_DRV_CTRL a)) v s = (0, (plainWrite (R.LPE_DRV_CTRL a) v s).when (v.getLsbD 1) (drvAck a)) := by
  fin_cases a <;> rfl
theorem effect_bankCtrl (a : Fin 4) : regEffect p (homeKey (R.LPE_BANK_CTRL a)) v s
    = (0, (plainWrite (R.LPE_BANK_CTRL a) v s).when (v.getLsbD 0) (bankSwapReq a)) := by
  fin_cases a <;> rfl
theorem effect_fldRepair : regEffect p (homeKey R.FLD_REPAIR) v s = (0, fldRepair v s) := rfl
theorem effect_csetCtrl (c : Fin 32) : regEffect p (homeKey (R.FLD_CSET_CTRL c)) v s
    = (0, (plainWrite (R.FLD_CSET_CTRL c) v s).when (v.getLsbD 0) (cutSwapReq c false)) := by
  fin_cases c <;> rfl
theorem effect_fldCtrl : regEffect p (homeKey R.PCR_FLD_CTRL) v s = (0, (plainWrite R.PCR_FLD_CTRL v s).when (v.getLsbD 30) pd3Ack) := rfl
theorem effect_safAck : regEffect p (homeKey R.SAF_ACK) v s
    = (0, (axstopAck (fieldGet v 8 4) (doubtAck (fieldGet v 0 5) s)).when (v.getLsbD 16) stoAck) := rfl
theorem effect_safDemand : regEffect p (homeKey R.SAF_DEMAND) v s = (0, demandWrite v s) := rfl
theorem effect_safRel : regEffect p (homeKey R.SAF_REL) v s = (0, relWrite p v s) := rfl
theorem effect_rstCtrl : regEffect p (homeKey R.PCR_RST_CTRL) v s = (0, rstCtrl v s) := rfl
theorem effect_sleep : regEffect p (homeKey R.PCR_SLEEP) v s = (0, (plainWrite R.PCR_SLEEP v s).when (v.getLsbD 0) sleepRequest) := rfl
theorem effect_wakeHost : regEffect p (homeKey R.PCR_WAKE_HOST) v s = (0, s.when (v.getLsbD 0) (wakeCause 3 0 false)) := rfl
theorem effect_imgCtrl : regEffect p (homeKey R.PCR_IMG_CTRL) v s = (0, imgCtrl p v s) := rfl
theorem effect_imgFifo : regEffect p (homeKey R.PCR_IMG_FIFO) v s = (0, fifoWord p v s) := rfl
theorem effect_fired : regEffect p (homeKey R.SCW_FIRED) v s = (0, firedWrite v s) := rfl
theorem effect_queDb (n : Fin 64) : regEffect p (homeKey (R.QUE_DB n)) v s =
    if !s.queRole n false then (0xB, s) else if s.inReset (s.queTenant n) then (0xC, s)
    else if s.bellOk n (fieldGet v 0 16) then (0, bellWrite n (fieldGet v 0 16) s) else (0xD, s.setFlag (F.QUE_STAT_REFUSED n) true) := by
  fin_cases n <;> rfl
theorem effect_queCons (n : Fin 64) : regEffect p (homeKey (R.QUE_CONS n)) v s =
    if s.consOk n (fieldGet v 0 16) then (0, setCons n (fieldGet v 0 16) s) else (0xD, s.setFlag (F.QUE_STAT_REFUSED n) true) := by
  fin_cases n <;> rfl
theorem effect_tenCtrl (t : Fin 5) : regEffect p (homeKey (R.QUE_TEN_CTRL t)) v s = (0, tenCtrl t v s) := by
  fin_cases t <;> rfl
theorem effect_swtrig : regEffect p (homeKey R.SQR_SWTRIG) v s = (0, raise (Ev.sw (fieldGet v 16 4)) (fieldGet v 0 16) s) := rfl
theorem effect_hrwCtrl (c : Fin 4) : regEffect p (homeKey (R.HRW_CH_CTRL c)) v s
    = (0, (s.when (v.getLsbD 1 && s.chBusy c) (scanEndWhy c 6)).when (v.getLsbD 0) (scanGo c)) := by
  fin_cases c <;> rfl
theorem effect_chkCtrl (n : Fin 8) : regEffect p (homeKey (R.CHK_CTRL n)) v s = (0, s.when (v.getLsbD 0) (chkHostInit n)) := by
  fin_cases n <;> rfl
theorem effect_chkDin (n : Fin 8) : regEffect p (homeKey (R.CHK_DIN n)) v s = (0, chkHostFeed n (leBytes 4 v.toNat) s) := by
  fin_cases n <;> rfl
theorem effect_chkDin1 (n : Fin 8) : regEffect p (homeKey (R.CHK_DIN1 n)) v s = (0, chkHostFeed n (leBytes 1 v.toNat) s) := by
  fin_cases n <;> rfl
theorem effect_rplCtrl (a : Fin 4) : regEffect p (homeKey (R.LPE_RPL_CTRL a)) v s = (0, rplWrite a (R.LPE_RPL_CTRL a) v s) := by
  fin_cases a <;> rfl
theorem effect_tileCmd : regEffect p (homeKey R.TRL_TILE_CMD) v s = (0, tileCmd (fieldGet v 30 2) (fieldGet v 0 16) s) := rfl
theorem effect_trlCtrl : regEffect p (homeKey R.TRL_CTRL) v s
    = (0, ((plainWrite R.TRL_CTRL v s).when (fieldGet v 24 8 == 0x7E && v.getLsbD 8) trlAck).when (v.getLsbD 1) psClr) := rfl
theorem effect_bulkCtrl (i : Fin 8) : regEffect p (homeKey (R.TRL_BULK_CTRL i)) v s = (0, s.when (v.getLsbD 0) (bulkGo i)) := by
  fin_cases i <;> rfl
theorem effect_auxSet : regEffect p (homeKey R.AUX_SET) v s = (0, auxSet (fieldGet v 0 8) s) := rfl
theorem effect_auxClr : regEffect p (homeKey R.AUX_CLR) v s = (0, auxClr (fieldGet v 0 8) s) := rfl

end Sys2Proof.Machine
end

