-- ==== Sys2Proof/Tests/Slice0.lean ====
section
/-! SUPPORT. The model's own tests: an ill-formed command for each check of well-formedness, worked examples of the manual, and
for each statement of the certificates a state and operands that meet its hypotheses.  Expected values are the manual's. -/

open Sys2Proof Sys2Proof.Machine

namespace Sys2Proof.Tests

-- One theorem after the other: each waits for the kernel's check of those before it, and would hold a thread meanwhile.
set_option Elab.async false

/-! ## Builders -/

/-- `s` with the fields of `l` written in turn. -/
def put (s : State) (l : List (Fld × Nat)) : State := l.foldl (fun s e => s.setFld e.1 e.2) s

/-- `s` with the registers of `l` written in turn. -/
def putReg (s : State) (l : List (Nat × Word)) : State := l.foldl (fun s e => s.setReg e.1 e.2) s

/-- A block with every domain on, four configured axes, every tenant bound to both ports, and the schedule running. -/
def on : State :=
  put { State.reset with ldr := { applied := true, axes := 15 }, pow := { running := true } }
    ([(F.PCR_PWR_STATE_STATE, 7), (F.PCR_PWR_STATE_READY, 1), (F.PCR_PWR_STATE_PD_ON, 63), (F.PCR_SCHED_TS_LCLK, 20000)]
      ++ (List.range 5).map (fun k => (F.QUE_TEN_CTRL_PORTS k, 3)) ++ (List.range 4).map (fun a => (F.PWM_PER_PER a, 10000)))

/-- The state after a command, reset where it stops. -/
def nxt (i : Instr) (s : State) : State := match exec i s with
  | .next t => t
  | _ => State.reset

/-- The command answers a next state. -/
def goes (i : Instr) (s : State) : Bool := match exec i s with
  | .next _ => true
  | _ => false

/-! ## Well-formedness: one command that each check refuses -/

theorem test_wf_calibration_needs_twelve_groups : (Instr.offsetCalibrationEnd 0 []).wf = false := by decide
theorem test_wf_calibration_needs_64_codes : (Instr.offsetCalibrationEnd 0 (List.replicate 12 [0#14])).wf = false := by decide
theorem test_wf_upset_of_the_granary : (Instr.layerEnd 0 [⟨false, 0x100000, false⟩]).wf = false
    ∧ (Instr.layerEnd 0 [⟨false, 0xFFFFF, false⟩]).wf = true := by decide
theorem test_wf_upset_of_a_plot_store : (Instr.scanEnd 0 [⟨true, 0x80000, true⟩]).wf = false
    ∧ (Instr.scrubAccess 0 [⟨true, 0x7FFFF, true⟩]).wf = true := by decide
theorem test_wf_upset_of_a_window : (Instr.windowAccessServed 0 true [⟨true, 0x80000, true⟩]).wf = false
    ∧ (Instr.standingCheckEnd [⟨true, 0x80000, true⟩]).wf = false := by decide
theorem test_wf_silo_unit : (Instr.unplannedSiloAccess 8).wf = false ∧ (Instr.unplannedSiloAccess 7).wf = true := by decide
theorem test_wf_turnstile_scan : (Instr.turnstileRequest (.scan 4)).wf = false ∧ (Instr.turnstileRequest (.scan 3)).wf = true := by decide
theorem test_wf_turnstile_silo_and_bulk : (Instr.turnstileTimeout (.silo 8)).wf = false ∧ (Instr.turnstileTimeout (.bulk 8)).wf = false := by
  decide
theorem test_wf_address : (Instr.registerWrite 0 0x100000000 0).wf = false ∧ (Instr.liveWrite 0 0x100000000 0).wf = false
    ∧ (Instr.wfetch 0 true 0x100000000).wf = false ∧ (Instr.registerWrite 0 0xFFFFFFFF 0).wf = true := by decide
theorem test_wf_write_count : (Instr.write 0 true 0 []).wf = false ∧ (Instr.wwrite 0 true 0 (List.replicate 65 0)).wf = false
    ∧ (Instr.write 0 true 0 (List.replicate 64 0)).wf = true := by decide
theorem test_wf_read_count : (Instr.read 0 true 0 0).wf = false ∧ (Instr.wreq 0 true 0 65).wf = false
    ∧ (Instr.read 0 true 0 1).wf = true := by decide
theorem test_wf_queue_frame : (Instr.enq 0 true 0 []).wf = false ∧ (Instr.deq 0 true 0 64).wf = false
    ∧ (Instr.peek 0 true 0x100000000 7).wf = false ∧ (Instr.peek 0 true 0 63).wf = true := by decide
theorem test_wf_training : (Instr.trainingAdvance (.cap 0 [] 0 0 false 0)).wf = false
    ∧ (Instr.trainingAdvance (.cap 0 (List.replicate 8 0) 0 0 false 0)).wf = true := by decide
theorem test_wf_burst : (Instr.burstReceived 0 0 0 [⟨[], true⟩]).wf = false := by decide
theorem test_ill_formed_faults : exec (.unplannedSiloAccess 8) State.reset = .fault (.illFormed "UNPLANNED_SILO_ACCESS") := rfl

/-! ## The queue of commands -/

theorem test_step_idles : step State.reset = .next State.reset := rfl
theorem wit_a_step_answers : (match step { on with pending := [.safDemand 0, .wake] } with
    | .next t => t.pending == [.wake]
    | _ => false) = true := by decide +kernel
theorem wit_well_formed : (Instr.wake).wf = true ∧ (Instr.unplannedSiloAccess 8).wf = false := by decide
theorem wit_invariants : on.kept = true ∧ on.booked = true ∧ on.placed = true ∧ goes (.safDemand 0) on = true := by decide +kernel
theorem wit_invariants_at_reset : State.reset.kept = true ∧ State.reset.booked = true ∧ State.reset.placed = true := by decide +kernel
theorem wit_the_schedule_runs_on : (nxt .offReady on).pow.running = true ∧ goes .offReady on = true ∧ on.pow.running = true := by
  decide +kernel
theorem wit_no_boundary : State.reset.pow.running = false ∧ State.reset.pow.zeroPend = false := by decide
theorem wit_a_boundary : (on.pow.running || on.pow.zeroPend) = true ∧ (nxt (.schedulePeriodBoundary 0 0) on).pow.running = true
    ∧ (nxt (.schedulePeriodBoundary 0 0) on).step = 1 := by decide +kernel
theorem wit_the_zero_step : (nxt (.schedulePeriodBoundary 0 0) { on with step := 7, pow := { zeroPend := true } }).pow.running = true
    ∧ (nxt (.schedulePeriodBoundary 0 0) { on with step := 7, pow := { zeroPend := true } }).step = 0 := by decide +kernel
/-- Chapter 01: 0 follows 0xFFFF_FFFF_FFFF. -/
theorem test_step_wraps : (nxt (.schedulePeriodBoundary 0 0) { on with step := 0xFFFFFFFFFFFF }).step = 0 := by decide +kernel
theorem wit_an_untouched_part : Part.gran ∉ touches .pllLock ∧ goes .pllLock on = true := by decide +kernel
theorem wit_a_taken_write : asWrite (.stoAck 0) = some (0, R.SAF_ACK, 0x00010000#32) ∧ on.takes 0 R.SAF_ACK 0x00010000#32 = true
    ∧ goes (.stoAck 0) on = true ∧ Part.gran ∉ takenParts (.stoAck 0) := by decide +kernel

/-! ## The PWM unit -/

theorem wit_the_pairs : ∀ k < 3, on.halted 0 = false := by decide +kernel
theorem wit_low_without_an_image : State.reset.halted 3 = false ∧ State.reset.applied = false := by decide +kernel
theorem wit_low_unconfigured : ({ on with ldr := { applied := true, axes := 7 } } : State).axisConf 3 = false := by decide +kernel
theorem wit_low_in_reset : (put on [(F.QUE_TEN_CTRL_IN_RESET 0, 1)]).inReset 0 = true ∧ (put on [(F.QUE_TEN_CTRL_IN_RESET 0, 1)]).halted 0 = false := by
  decide +kernel

/-- Axis 0 with its NFLT input enabled. -/
def onNflt : State := put on [(F.PWM_TRIP_CFG_NFLT_EN 0, 1)]

theorem wit_an_nflt_trip : (onNflt.modPwm 0 (fun p => { p with nflt := true })).nfltTrips 0 = true
    ∧ (onNflt.pwm.get 0).tripPer = false := by decide +kernel
theorem wit_an_overcurrent_trip : (on.modPwm 0 (fun p => { p with oc := 1#3 })).ocTrips 0 = true ∧ (on.pwm.get 0).tripPer = false := by
  decide +kernel
theorem wit_a_trip_of_all_eight : (put on [(F.PWM_TRIP_CFG_X_TRIP 0, 1)]).flag (F.PWM_TRIP_CFG_X_TRIP 0) = true := by decide +kernel
theorem wit_a_trip_in_a_debug_halt : (put on [(F.PWM_STAT_HALTED 0, 1)]).halted 0 = true
    ∧ ((put on [(F.PWM_STAT_HALTED 0, 1)]).modPwm 0 (fun p => { p with oc := 4#3 })).ocTrips 0 = true := by decide +kernel
theorem wit_a_second_trip_of_the_period :
    (((put on [(F.PWM_TRIP_STAT_TRIPPED 0, 1)]).modPwm 0 (fun p => { p with tripPer := true })).pwm.get 0).tripPer = true
    ∧ ((put on [(F.PWM_TRIP_STAT_TRIPPED 0, 1)]).modPwm 0 (fun p => { p with tripPer := true })).flag (F.PWM_TRIP_STAT_TRIPPED 0) = true := by
  decide +kernel
theorem wit_a_blanked_trip_unblanked : on.halted 0 = false
    ∧ (on.modPwm 0 (fun p => { p with nflt := false, oc := 1#3, blank := p.blank &&& ~~~BitVec.ofNat 4 (2 ^ (3 : Fin 4).val) })).ocTrips 0 = true := by
  decide +kernel
theorem wit_a_trip_clear : onNflt.takes 0 (R.PWM_TRIP_CLR 0) 1#32 = true ∧ onNflt.flag (F.PWM_TRIP_CFG_NFLT_EN 0) = true
    ∧ on.flag (F.PWM_TRIP_CFG_NFLT_EN 0) = false := by decide +kernel
theorem test_a_trip_clears_no_count_while_active : (nxt (.tripClr 0 0 true 0) onNflt).flag (F.PWM_STAT_CLR_REJ 0) = true
    ∧ (nxt (.tripClr 0 0 true 0) on).flag (F.PWM_STAT_CLR_REJ 0) = false := by decide +kernel

/-- Axis 0 with an enabled trigger 3 at cycle 100 in its active set, and one with PRE = 1 in the shadow. -/
def onTrig : State := (putReg on [(R.PWM_TRIG 0 3, 0xC0000064#32)]).modPwm 0 (fun p =>
  { p with active := { p.active with trig := [0#32, 0#32, 0#32, 0x80000064#32], per := 10000 } })

theorem wit_a_trigger : onTrig.halted 0 = false ∧ onTrig.axisConf 0 = true ∧ (onTrig.pwm.get 0).active.trig.getD (3 : Fin 4) 0 = 0x80000064#32
    ∧ (0x80000064#32).getLsbD 31 = true ∧ (0x80000064#32).getLsbD 30 = false := by decide +kernel
theorem wit_an_early_trigger : onTrig.reg (R.PWM_TRIG 0 3) = 0xC0000064#32 ∧ (0xC0000064#32).getLsbD 30 = true
    ∧ (on.reg (R.PWM_TRIG 0 0)).getLsbD 31 = false := by decide +kernel
theorem test_an_early_trigger_comes_a_period_before : (nxt (.trig 0 3 true) onTrig).fld (F.PWM_CNT_CNT 0) = 9900 := by decide +kernel
theorem wit_a_timer_channel : (put on [(F.PWM_TCH_A_MODE 0 3, 3)]).fld (F.PWM_TCH_A_MODE 0 3) = 3 ∧ on.fld (F.PWM_TCH_A_MODE 0 0) = 0
    ∧ (put on [(F.PWM_TCH_A_MODE 0 3, 3)]).halted 0 = false ∧ on.axisConf 0 = true := by decide +kernel
theorem wit_no_jtag_lock : on.fuses.jtagLock = false ∧ on.axisPresent 3 = true := by decide +kernel
theorem wit_an_edge : on.halted 2 = false ∧ on.axisConf 2 = true := by decide +kernel
theorem wit_a_load_request : on.takes 1 (R.PWM_LOAD 3) (0#32 ||| 1#32) = true ∧ on.fld (F.PWM_CTRL_GROUP 3) = 0 := by decide +kernel
theorem wit_a_commit : on.timed 0 = true ∧ on.inGroup 0 0 = true ∧ ({ on with armed := 1#4 } : State).armed.getLsbD (0 : Fin 4) = true
    ∧ on.armed.getLsbD (0 : Fin 4) = false := by decide +kernel
theorem wit_a_load_point : on.timed 3 = true ∧ (on.pwm.get 3).perIdx + 1 < on.perPerStep 3 := by decide +kernel

/-! ## The checkpoint and the Sense front end -/

theorem wit_a_checkpoint : on.pow.running = true ∧ (put on [(F.SAF_CKPT_EXP_EXP 4, 1)]).fld (F.SAF_CKPT_CNT_CNT 4) ≠ (put on [(F.SAF_CKPT_EXP_EXP 4, 1)]).fld (F.SAF_CKPT_EXP_EXP 4)
    ∧ on.axisConf 0 = true ∧ on.inReset 0 = false ∧ on.fld (F.SAF_CKPT_CNT_CNT 0) = on.fld (F.SAF_CKPT_EXP_EXP 0) := by decide +kernel
theorem test_a_missed_commit_is_doubt : (nxt .endOfFrameCheckpoint (put on [(F.SAF_CKPT_EXP_EXP 4, 1)])).fld F.SAF_STAT_DOUBT = 16
    ∧ (nxt .endOfFrameCheckpoint (put on [(F.SAF_CKPT_EXP_EXP 4, 1)])).fld F.SAF_CKPT_LAST_MISS = 16 := by decide +kernel

/-- Axis 0 with its three shunt converters running. -/
def onConv : State := on.modSense 0 (fun n => { n with conv := 7 })

theorem wit_a_sample_set : onConv.replayRuns 0 = false ∧ onConv.replayDone 0 = false ∧ (onConv.sense.get 0).conv &&& 7#4 = 7#4
    ∧ (onConv.sense.get 0).early = false := by decide +kernel
theorem wit_an_early_sample_set : ((onConv.modSense 0 (fun n => { n with early := true })).sense.get 0).early = true
    ∧ ((onConv.modSense 0 (fun n => { n with early := true })).sense.get 0).earlyOk = none := by decide +kernel
/-- R99 and Table SNS-4: a leg without its window takes the negative sum of the others, 100 and 200 here, with WIN and REC. -/
theorem test_a_leg_is_reconstructed : (onConv.makeSet 0 false ⟨false, false, 100⟩ ⟨false, false, 200⟩ ⟨true, false, 0⟩).1.getD 2 0
    = 0x5000FED4#32 := by decide +kernel
theorem wit_a_slow_item : ((on.modSense 0 (fun n => { n with slow := true })).sense.get 0).slow = true ∧ (on.sense.get 0).slow = false := by decide +kernel
theorem wit_a_slow_command_item : (on.sense.get 0).cmd.getLsbD 30 = false ∧ on.fld (F.SNS_CMD_CFG_FORM 0) = 0
    ∧ on.flag (F.SNS_CMD_CFG_LIVEZERO 0) = false
    ∧ (put on [(F.SNS_CMD_CFG_LIVEZERO 0, 1), (F.SNS_CMD_RANGE_LO 0, 40), (F.SNS_CMD_RANGE_HI 0, 40)]).fld (F.SNS_CMD_RANGE_HI 0) = 4 * (10#14).toNat := by
  decide +kernel
theorem wit_a_calibration_request : on.takes 0 (R.SNS_CAL 0) (0#32 ||| 1#32) = true ∧ on.gates 0 &&& 0x3F#8 = 0
    ∧ (on.modPwm 0 (fun p => { p with out := 1 })).takes 0 (R.SNS_CAL 0) (0#32 ||| 1#32) = true := by decide +kernel
theorem wit_a_calibration_ends : (Instr.offsetCalibrationEnd 0 (List.replicate 12 (List.replicate 64 5#14))).wf = true
    ∧ (put on [(F.SNS_CAL_BUSY 0, 1)]).flag (F.SNS_CAL_BUSY 0) = true
    ∧ (List.replicate 12 (List.replicate 64 5#14)).all calOk = true
    ∧ (List.replicate 12 (List.replicate 64 127#14)).all calOk = true ∧ (List.replicate 12 (List.replicate 64 128#14)).all calOk = false := by
  decide +kernel
theorem wit_a_switch_node_edge : (put on [(F.SNS_SWN_CFG_DLY_WIN 0, 60)]).fld (F.SNS_SWN_CFG_DLY_WIN 0) = 60 := by decide +kernel
/-- R106: the edge of the last cycle of the window is measured, the next is not. -/
theorem test_the_window_of_an_edge : (nxt (.switchNodeEdge 0 1 true 60) (put on [(F.SNS_SWN_CFG_DLY_WIN 0, 60)])).flag (F.SNS_SWN_DLY_MISS_LH 0 1) = false
    ∧ (nxt (.switchNodeEdge 0 1 true 61) (put on [(F.SNS_SWN_CFG_DLY_WIN 0, 60)])).flag (F.SNS_SWN_DLY_MISS_LH 0 1) = true := by decide +kernel

/-- Axis 0 with its command pin in form `f` and periods from 100 to 200 cycles. -/
def onCmd (f : Nat) : State := put on [(F.SNS_CMD_CFG_FORM 0, f), (F.SNS_CMD_PMIN_PMIN 0, 100), (F.SNS_CMD_PMAX_PMAX 0, 200)]

theorem wit_a_duty_in_range : (onCmd 1).fld (F.SNS_CMD_CFG_FORM 0) = 1 ∧ (onCmd 1).fld (F.SNS_CMD_PMIN_PMIN 0) ≤ 100
    ∧ 200 ≤ (onCmd 1).fld (F.SNS_CMD_PMAX_PMAX 0) ∧ ((onCmd 1).sense.get 0).cmd.getLsbD 30 = false := by decide +kernel
theorem wit_a_duty_out_of_range : 99 < (onCmd 1).fld (F.SNS_CMD_PMIN_PMIN 0) ∧ (onCmd 1).fld (F.SNS_CMD_PMAX_PMAX 0) < 201
    ∧ (onCmd 2).fld (F.SNS_CMD_CFG_FORM 0) = 2 ∧ 99 < (onCmd 2).fld (F.SNS_CMD_PMIN_PMIN 0) ∧ (onCmd 3).fld (F.SNS_CMD_CFG_FORM 0) = 3 := by decide +kernel
theorem test_a_full_duty_is_65535 : bitsOf ((nxt (.commandMeasurement 0 (.duty 200 200)) (onCmd 1)).sense.get 0).cmd.toNat 0 16 = 65535 := by decide +kernel
theorem wit_a_loss_of_signal : on.flag (F.SNS_CMD_CFG_LIVEZERO 0) = false ∧ (onCmd 1).fld (F.SNS_CMD_CFG_FORM 0) ≠ 0 := by decide +kernel

/-! ## The Loop Engine, the sequencer and replay -/

/-- Axis 0 with its pass enabled and no graph entry. -/
def onLoop : State := put on [(F.LPE_CTRL_EN 0, 1)]

/-- Axis 0 with one graph entry, GAIN of two words that hold 0. -/
def onGraph : State := put onLoop [(F.LPE_CTRL_N_BLK 0, 1)]

theorem wit_no_pattern : on.halted 0 = false ∧ on.axisRuns 0 = true ∧ (on.sense.get 0).cmd.getLsbD 30 = false ∧ (on.loop.get 0).patPend = none
    ∧ (State.reset.axisRuns 0 = false) := by decide +kernel
theorem wit_a_pattern : ((on.modLoop 0 (fun l => { l with patPend := some 3 })).loop.get 0).patPend = some 3 := by decide +kernel
theorem test_a_pattern_is_raised_two_cycles_before_the_end : (nxt (.drvMask 0) (on.modLoop 0 (fun l => { l with patPend := some 3 }))).fld (F.PWM_CNT_CNT 0) = 9998 := by
  decide +kernel
theorem wit_a_pass : onLoop.halted 0 = false ∧ onLoop.axisRuns 0 = true ∧ onLoop.flag (F.LPE_CTRL_EN 0) = true
    ∧ (passRun 0 false 0 none onLoop).2.ended = false ∧ on.flag (F.LPE_CTRL_EN 0) = false := by decide +kernel
/-- Axis 0 with DUTY of two signals that read 0 and a bus signal of the host's. -/
def onDuty : State := putReg (put onGraph [(F.PWM_CTRL_HOST_SRC 0, 1)]) [(R.LPE_GRAPH 0 0, 0x8080000B#32), (R.LPE_GRAPH 0 1, 0x00000081#32)]

theorem wit_a_pass_with_a_set : (passRun 0 true 0 none (onDuty.modLoop 0 (fun l => { l with sigs := [(0x81, 0x41400000#32)] }))).2.set.isSome = true
    ∧ onDuty.fld (F.PWM_CTRL_HOST_SRC 0) = 1 := by decide +kernel
theorem wit_a_pass_that_ends : (passRun 0 true 1 (some 0) onGraph).2.ended = true := by decide +kernel
theorem wit_a_swap_request : on.takes 0 (R.LPE_BANK_CTRL 0) (0#32 ||| 1#32) = true ∧ on.flag (F.LPE_BANK_CTRL_LOCK 0) = false
    ∧ on.flag (F.LPE_BANK_CTRL_PENDING 0) = false ∧ (on.loop.get 0).check = false := by decide +kernel

/-- Axis 0 with a guard check that runs. -/
def onGuard : State := on.modLoop 0 (fun l => { l with check := true })

theorem wit_a_guard_that_passes : (onGuard.loop.get 0).check = true ∧ onGuard.guardFail 0 = none
    ∧ (onGuard.exact && onGuard.tagLate 0 (onGuard.bankTag 0)) = false := by decide +kernel
theorem wit_a_guard_that_fails : (putReg onGuard [(R.LPE_BANK_B 0 255, 0x3F800000#32)]).guardFail 0 = some (255, 1)
    ∧ (putReg onGuard [(R.LPE_BANK_B 0 0, 0x7FC00000#32)]).guardFail 0 = some (0, 2) := by decide +kernel
theorem wit_a_late_tag : (put onGuard [(F.PCR_SCHED_MODE_EXACT, 1)]).guardFail 0 = none ∧ (put onGuard [(F.PCR_SCHED_MODE_EXACT, 1)]).exact = true
    ∧ (put onGuard [(F.PCR_SCHED_MODE_EXACT, 1)]).tagLate 0 ((put onGuard [(F.PCR_SCHED_MODE_EXACT, 1)]).bankTag 0) = true := by decide +kernel

/-- Axis 0 held in tenant reset. -/
def onHeld : State := put on [(F.QUE_TEN_CTRL_IN_RESET 0, 1), (F.QUE_TEN_CTRL_RST 0, 1)]

theorem wit_a_replay : onHeld.takes 0 (R.LPE_RPL_CTRL 0) (0#32 &&& 0xFFFFFFFD#32 ||| 1#32) = true
    ∧ (onHeld.axisConf 0 && onHeld.inReset 0 && onHeld.flag (F.QUE_TEN_CTRL_RST 0)) = true ∧ onHeld.fld (F.LPE_RPL_STAT_STATE 0) = 0 := by decide +kernel
theorem wit_a_replay_refused : (on.axisConf 0 && on.inReset 0 && on.flag (F.QUE_TEN_CTRL_RST 0)) = false
    ∧ (put onHeld [(F.LPE_RPL_STAT_STATE 0, 3)]).fld (F.LPE_RPL_STAT_STATE 0) = 3 := by decide +kernel
theorem wit_a_replay_abort : on.takes 1 (R.LPE_RPL_CTRL 3) (0#32 &&& 0xFFFFFFFE#32 ||| 2#32) = true := by decide +kernel
theorem wit_a_drive_acknowledge : on.takes 0 (R.LPE_DRV_CTRL 0) (0#32 ||| 2#32) = true
    ∧ ((on.modLoop 0 (fun l => { l with start := { l.start with seq := { l.start.seq with state := 10 } } })).seqNow 0).state = 10 := by decide +kernel

/-! ## The Field, the granary, the plot stores and the silo -/

/-- A layer of 16 inputs and 16 outputs, batch 1, of network 0. -/
def lay : Layer :=
  { net := 0, op := 0, act := 0, src := 0, inW := 16, outW := 16, batch := 1, rank := 0, clLo := -128, clHi := 127, opAddr := 0, opBytes := 0,
    xin := 0, xout := 1, rqMul := 0 }

/-- A schedule entry of kind `op` for T[0] on plot 0, network 0. -/
def ent (op : Nat) : SchedEntry := { plot := 0, op := op, net := 0, rep := true, guard := false, tenant := 0, start := 0, len := 100 }

/-- A block whose schedule has the entries of `l`, with network 0 and one spill entry of two blocks. -/
def onSched (l : List SchedEntry) : State :=
  on.modField (fun f => { f with sched := l, layers := [lay], fallow := [0], spills := [⟨0, 0x1000, 2, 0⟩] })

theorem wit_a_run_entry : (onSched [ent 1]).field.sched[0]? = some (ent 1) ∧ (onSched [ent 1]).pow.running = true ∧ (onSched [ent 1]).pd 3 = true
    ∧ (onSched [ent 1]).entryLive (ent 1) = true ∧ (onSched [ent 1]).entryPlot (ent 1) = some 0 ∧ (onSched [ent 1]).netLayers 0 = lay :: [] := by
  decide +kernel
theorem wit_a_test_plot_entry : (onSched [ent 2]).entryLive (ent 2) = true ∧ (ent 2).op = 2 := by decide +kernel
theorem wit_an_entry_that_does_nothing : (ent 3).op ≠ 1 ∧ (ent 3).op ≠ 2
    ∧ (put (onSched [ent 1]) [(F.QUE_TEN_CTRL_IN_RESET 0, 1)]).entryLive (ent 1) = false := by decide +kernel

/-- Network 0 runs on plot 0, with `n` layers ended. -/
def onRun (n : Nat) : State :=
  (onSched [ent 1]).modField (fun f => { f with runs := [⟨0, 0, 0, n, List.replicate 16 0#64, []⟩] })

theorem wit_a_layer_ends : (Instr.layerEnd 0 []).wf = true ∧ (onRun 0).field.runs.find? (fun r => r.entry == 0) = some ⟨0, 0, 0, 0, List.replicate 16 0#64, []⟩
    ∧ ((onRun 0).netLayers 0)[0]? = some lay ∧ (onRun 0).partialLayer 0 0 0 = false := by decide +kernel
theorem wit_a_network_ends : (onRun 1).field.runs.find? (fun r => r.entry == 0) = some ⟨0, 0, 0, 1, List.replicate 16 0#64, []⟩
    ∧ ((onRun 1).netLayers 0).getLast? = some lay ∧ ((onRun 1).netLayers 0).length ≤ 1 := by decide +kernel
theorem wit_a_planned_transfer : (onSched [ent 3]).spillOf (ent 3) = some ⟨0, 0x1000, 2, 0⟩ ∧ (onSched [ent 3]).pd 5 = true
    ∧ (onSched [ent 3]).entryLive (ent 3) = true := by decide +kernel

/-- The planned transfer of schedule entry 0 with `n` blocks done. -/
def onSpill (n : Nat) : State := (onSched [ent 3]).modField (fun f => { f with spillRuns := [⟨0, n⟩] })

theorem wit_a_block : (onSpill 0).field.spillRuns.find? (fun r => r.entry == 0) = some ⟨0, 0⟩ ∧ (⟨0, 0x1000, 2, 0⟩ : SpillEntry).blkBytes = 512
    ∧ (onSpill 1).field.spillRuns.find? (fun r => r.entry == 0) = some ⟨0, 1⟩ := by decide +kernel
theorem test_the_last_block_counts_the_transfer : (nxt (.siloBlockEnd 0 []) (onSpill 1)).fld F.SIL_XFER_COUNT = 1
    ∧ (nxt (.siloBlockEnd 0 []) (onSpill 1)).fld F.SIL_ERR_ADDR_ADDR = 516 ∧ (nxt (.siloBlockEnd 0 []) (onSpill 0)).fld F.SIL_XFER_COUNT = 0 := by
  decide +kernel
theorem wit_a_fallow_bist : ((onSched []).pow.running && (onSched []).pd 3 && (onSched []).fallowPlot.isSome) = true
    ∧ (on.pow.running && on.pd 3 && on.fallowPlot.isSome) = false := by decide +kernel
theorem wit_a_fallow_bist_ends : ((nxt .fallowBistStart (onSched [])).field.planned.any (fun x => x.1 == bistIdx)) = true
    ∧ (nxt .fallowBistStart (onSched [])).fallowPlot = some 0 := by decide +kernel
theorem wit_a_cutting_swap : on.takes 0 (R.FLD_CSET_CTRL 31) (0#32 ||| 1#32) = true ∧ on.flag (F.FLD_CSET_CTRL_LOCK 31) = false
    ∧ on.flag (F.FLD_CSET_CTRL_PENDING 31) = false ∧ on.field.csetChk.contains 31 = false := by decide +kernel

/-- The check of cutting set 0 runs, over the entries of `l`. -/
def onCut (l : List CutEntry) : State := (onSched []).modField (fun f => { f with csetChk := [0], cuts := l })

/-- A DENSE8 cutting of layer 0 of network 0 whose stock takes the bytes of the layer. -/
def cut (n : Nat) : CutEntry := { tenant := 0, net := 0, layer := 0, kind := 4, cset := 0, addr := 0, alt := 0, bytes := n, stock := 0 }

theorem wit_a_cutting_check : (onCut []).field.csetChk.contains 0 = true
    ∧ ((onCut [cut 1]).csetEntries 0).all (fun e => ((onCut [cut 1]).cutLayer e).any (fun l => cutSizeOk l e ((onCut [cut 1]).cutBytes e true))) = false
    ∧ crc32c (((onCut []).csetEntries 0).flatMap (fun e => (onCut []).cutBytes e true)) = (onCut []).fld (F.FLD_CSET_CRC_CRC 0) := by decide +kernel
theorem wit_a_cutting_check_by_crc : crc32c (((onCut []).csetEntries 0).flatMap (fun e => (onCut []).cutBytes e true)) ≠ (put (onCut []) [(F.FLD_CSET_CRC_CRC 0, 1)]).fld (F.FLD_CSET_CRC_CRC 0)
    ∧ (put (onCut []) [(F.PCR_SCHED_MODE_EXACT, 1)]).tagLate 0 0 = true := by decide +kernel
theorem wit_a_repair : (put on [(F.PCR_PWR_STATE_STATE, 3)]).takes 0 R.FLD_REPAIR 0x5C000003#32 = true ∧ fieldGet 0x5C000003#32 24 8 = 0x5C
    ∧ (put on [(F.PCR_PWR_STATE_STATE, 3)]).pwr = 3 := by decide +kernel

/-- Port 0 with a posted window write of four bytes, and port 1 with a window read of four. -/
def onWin : State :=
  (on.modPort 0 (fun p => { p with wr := some (0x1000008, [1#8, 2#8, 3#8, 4#8]) })).modPort 1 (fun p => { p with rd := some ⟨0x200000C, 4, none, false⟩ })

theorem wit_a_window_write : (Instr.windowAccessServed 0 true []).wf = true ∧ (onWin.ports.get 0).wr = some (0x1000008, [1#8, 2#8, 3#8, 4#8])
    ∧ onWin.winTarget 0x1000008 4 = some (.gran 8) ∧ winClear onWin true 4 (.gran 8) = true ∧ onWin.winMayServe 0 true (.gran 8) = true := by
  decide +kernel
theorem wit_a_window_read : onWin.winPend 1 = some ⟨0x200000C, 4, none, false⟩ ∧ onWin.winTarget 0x200000C 4 = some (.plot 0 12)
    ∧ winClear onWin false 4 (.plot 0 12) = true ∧ onWin.winMayServe 1 false (.plot 0 12) = true := by decide +kernel
theorem wit_a_window_timeout : (onWin.ports.get 0).wr.isSome = true ∧ (onWin.winPend 1).isSome = true := by decide +kernel
theorem wit_an_unplanned_access :
    let s := on.modTrn (fun t => { t with grants := [⟨.silo 3, 4, 1, 0⟩] })
    (s.siloReady 3 && s.field.spillRuns.isEmpty && s.field.siloAcc.isNone && s.pd 5) = true ∧ on.siloReady 3 = false := by decide +kernel

/-- Network 0 with a test-plot entry and the output `o` of its run. -/
def onTp (o : List Byte) : State := (onSched [ent 2]).modSaf (fun f => { f with tp := [(0, ⟨[(0, o)], false⟩)] })

theorem wit_a_test_plot_passes : (put (onTp [49, 50, 51, 52, 53, 54, 55, 56, 57]) [(F.SAF_TPSIG_SIG 0, 0xE3069283)]).tpJudge 0 = some (0, some true) := by
  decide +kernel
theorem wit_a_test_plot_fails : (onTp []).tpJudge 0 = some (0, some false) ∧ on.tpJudge 0 = none
    ∧ ((onTp []).modSaf (fun f => { f with tp := [(0, ⟨[], true⟩)] })).tpJudge 0 = some (0, none) := by decide +kernel

/-- The outputs of a one-lane PRG network are complete. -/
def onPrg : State :=
  (onSched [{ ent 1 with plot := 0x80, tenant := 4 }]).modField (fun f => { f with prgOut := [(0, [1#32])] })

theorem wit_a_verdict : onPrg.twin = false ∧ onPrg.prgOutputs = some [1] ∧ on.prgOutputs = none := by decide +kernel

/-! ## The safety concept -/

theorem wit_a_doubt_acknowledge : on.placed = true ∧ on.takes 0 R.SAF_ACK (word (31#5).toNat) = true ∧ (31#5).getLsbD (4 : Fin 5) = true
    ∧ (put on [(F.SAF_STAT_DOUBT, 16)]).bit F.SAF_STAT_DOUBT (4 : Fin 5) = true ∧ on.bit F.SAF_STAT_DOUBT (0 : Fin 5) = false := by decide +kernel
theorem wit_an_axstop_acknowledge : on.takes 1 R.SAF_ACK (word (256 * (8#4).toNat)) = true
    ∧ (on.modSaf (fun f => { f with hstop := 8 })).saf.hstop.getLsbD (3 : Fin 4) = true ∧ on.fld (F.SAF_HCAUSE_CAUSE 3) = 0
    ∧ (put on [(F.SAF_HCAUSE_CAUSE 3, 1)]).fld (F.SAF_HCAUSE_CAUSE 3) ≠ 0 := by decide +kernel
theorem wit_an_sto_acknowledge : on.takes 0 R.SAF_ACK 0x00010000#32 = true ∧ on.flag F.SAF_STAT_STO_DISC_FAULT = false
    ∧ (put on [(F.SAF_STAT_STO_DISC_FAULT, 1)]).flag F.SAF_STAT_STO_DISC_FAULT = true
    ∧ (on.modSaf (fun f => { f with stoSeq := 2 })).saf.stoSeq = 2 := by decide +kernel
theorem wit_a_demand : on.takes 0 R.SAF_DEMAND 0xD5000001#32 = true ∧ on.flag F.SAF_STAT_SAFE = false
    ∧ (put on [(F.SAF_STAT_SAFE, 1)]).flag F.SAF_STAT_SAFE = true ∧ on.anyHalted = false := by decide +kernel
theorem wit_twin_and_standalone : ({ on with ldr := { applied := true, axes := 15, twin := true } } : State).twin = true ∧ on.twin = false := by
  decide +kernel
theorem wit_a_supply_trip : (1#4).getLsbD 0 = true ∧ (1#4 : BitVec 4) ≠ 0 := by decide
theorem wit_a_clock_fault : (put on [(F.PCR_CLK_STATUS_PLL_LOCK, 1)]).flag F.PCR_CLK_STATUS_PLL_LOCK = true
    ∧ on.flag F.PCR_CLK_STATUS_PLL_LOCK = false ∧ (put on [(F.PCR_PWR_STATE_STATE, 2)]).pwr = 2 ∧ (put on [(F.PCR_PWR_STATE_STATE, 11)]).pwr = 11 := by
  decide +kernel
/-- Table SAF-4: the host's demand is cause bit 3. -/
theorem test_a_demand_records_its_cause : (nxt (.safDemand 0) on).fld F.SAF_CAUSE_CAUSE = 8 := by decide +kernel

/-- The safe state, powered off. -/
def onSafe : State := put on [(F.SAF_STAT_SAFE, 1), (F.PCR_PWR_STATE_STATE, 12), (F.PCR_PWR_STATE_PD_ON, 1)]

theorem wit_a_release : onSafe.takes 0 R.SAF_REL 0x3C000001#32 = true ∧ onSafe.flag F.SAF_STAT_SAFE = true ∧ onSafe.relWhy = 0
    ∧ onSafe.flag F.SAF_CFG_DUAL_REL = false ∧ onSafe.pwr = 12 := by decide +kernel
theorem wit_a_refused_release : (onSafe.modSaf (fun f => { f with resetOnly := true })).relWhy ≠ 0 ∧ on.flag F.SAF_STAT_SAFE = false := by decide +kernel
theorem wit_a_dual_release : (put onSafe [(F.SAF_CFG_DUAL_REL, 1)]).flag F.SAF_CFG_DUAL_REL = true
    ∧ (onSafe.modSaf (fun f => { f with relPort := some 1 })).saf.relPort = some 1 ∧ on.saf.relPort.isSome = false := by decide +kernel
theorem wit_a_power_off : (put on [(F.SAF_STAT_SAFE, 1)]).pwr = 7 ∧ on.pow.clkReset = false
    ∧ (on.modPow (fun p => { p with clkReset := true })).pow.clkReset = true := by decide +kernel
theorem wit_an_sto_demand : (true || false) = true ∧ on.axisConf 0 = true ∧ on.halted 0 = false := by decide +kernel
theorem wit_an_sto_tick : (put on [(F.SAF_CFG_STO_D, 3), (F.SAF_STO_COUNT, 2)]).fld F.SAF_CFG_STO_D = 3
    ∧ (on.modSaf (fun f => { f with stoCount := true })).saf.stoCount = true ∧ on.saf.stoCount = false := by decide +kernel
/-- R268: the count reaches D = 3 at this tick. -/
theorem test_a_discrepancy_faults_at_its_limit :
    (nxt (.stoTick true false) ((put on [(F.SAF_CFG_STO_D, 3), (F.SAF_STO_COUNT, 2)]).modSaf (fun f => { f with stoCount := true }))).flag F.SAF_STAT_STO_DISC_FAULT = true
    ∧ (nxt (.stoTick true false) ((put on [(F.SAF_CFG_STO_D, 4), (F.SAF_STO_COUNT, 2)]).modSaf (fun f => { f with stoCount := true }))).flag F.SAF_STAT_STO_DISC_FAULT = false := by
  decide +kernel
theorem wit_an_sto_stop_ends : (put on [(F.SAF_STAT_STO_STOP, 1)]).flag F.SAF_STAT_STO_STOP = true
    ∧ (nxt (.stoTick true true) (put on [(F.SAF_STAT_STO_STOP, 1)])).flag F.SAF_STAT_STO_STOP = false := by decide +kernel
theorem wit_a_safe_n_level : on.enables.getLsbD 6 = true ∧ State.reset.enables.getLsbD 6 = false := by decide +kernel

/-- Rotation enabled, with a slice of checker 0 of 100 cycles in window 3 only. -/
def onRot : State :=
  (put on [(F.ROT_CTRL_EN, 1)]).modLdr (fun l => { l with slices := [⟨0, 100, [0xFFFFFFFF, 0xFFFFFFFF, 0xFFFFFFFF, 5]⟩] })

theorem wit_a_slice : onRot.sliceOf onRot.rotChk = some ⟨0, 100, [0xFFFFFFFF, 0xFFFFFFFF, 0xFFFFFFFF, 5]⟩ ∧ onRot.flag F.ROT_CTRL_EN = true
    ∧ onRot.rot.done = false ∧ onRot.rot.active = none ∧ onRot.pow.running = true ∧ onRot.rotUnitFree = true := by decide +kernel
theorem test_a_slice_needs_its_gap : (nxt (.rotationSliceStart 3 true 132) onRot).rot.active = some 0
    ∧ (nxt (.rotationSliceStart 3 true 131) onRot).rot.active = none ∧ (nxt (.rotationSliceStart 2 true 132) onRot).rot.active = none := by
  decide +kernel
theorem wit_a_slice_ends : ({ onRot with rot := { active := some 23 } } : State).rot.active = some 23 ∧ onRot.rot.active = none := by decide +kernel
theorem wit_the_classes_of_checkers : (List.range 24).any (fun c => chkClass c == 0) = true ∧ (List.range 24).any (fun c => chkClass c == 1) = true
    ∧ (List.range 24).any (fun c => chkClass c == 2) = true ∧ on.axisRuns 0 = true := by decide +kernel

/-! ## Power, clocks, resets and the Turnstile -/

theorem wit_a_host_reset : on.takes 1 R.PCR_RST_CTRL 0xA5000001#32 = true
    ∧ (on.modPow (fun p => { p with borReset := true })).pow.borReset = true ∧ on.pow.borReset = false := by decide +kernel
theorem wit_the_first_steps : State.reset.pow.nreset = false ∧ (nxt (.nresetRelease 0) State.reset).pwr = 1
    ∧ (nxt (.nresetRelease 0) State.reset).pow.nreset = true := by decide +kernel
theorem wit_the_pll_locks : (nxt (.referenceDetection (some true)) (nxt (.nresetRelease 0) State.reset)).pwr = 2
    ∧ (nxt (.referenceDetection (some true)) (nxt (.nresetRelease 0) State.reset)).pow.refDone = true := by decide +kernel

/-- The start sequence up to the PLL's lock. -/
def locked : State := nxt .pllLock (nxt (.referenceDetection (some true)) (nxt (.nresetRelease 3) State.reset))

theorem wit_the_dividers_align : locked.flag F.PCR_CLK_STATUS_PLL_LOCK = true ∧ locked.flag F.PCR_CLK_STATUS_ALIGNED = false ∧ locked.pow.waking = false
    ∧ (nxt .dividerAlignment locked).pwr = 3 ∧ locked.fld F.PCR_BOOT_BOOTSEL = 3 := by decide +kernel

/-- A wake with its PLL locked, of an image whose restore takes `n` bytes. -/
def waking (n : Nat) : State :=
  (put on [(F.PCR_PWR_STATE_STATE, 11), (F.PCR_CLK_STATUS_PLL_LOCK, 1), (F.PCR_RESTORE_BYTES_BYTES, n)]).modPow (fun p => { p with waking := true, running := false })

theorem wit_a_wake_aligns : (waking 0).flag F.PCR_CLK_STATUS_ALIGNED = false ∧ (waking 0).applied = true ∧ (waking 0).fld F.PCR_RESTORE_BYTES_BYTES = 0
    ∧ (waking 8).fld F.PCR_RESTORE_BYTES_BYTES ≠ 0 ∧ (waking 8).pow.fromSilo = false ∧ (waking 0).pwr = 11 := by decide +kernel
theorem wit_ready : (((put on [(F.PCR_PWR_STATE_STATE, 5), (F.PCR_PWR_STATE_PD_ON, 0x37)]).modPow (fun p => { p with pd3Done := true })).startDone) = true
    ∧ on.startDone = false := by decide +kernel
theorem wit_pd3_comes_up : (on.modPow (fun p => { p with pd3Wait := true })).pow.pd3Wait = true ∧ on.pow.pd3Wait = false := by decide +kernel
theorem wit_pd3_is_lost : on.pd 3 = true ∧ on.pow.running = true ∧ on.axisConf 0 = true ∧ State.reset.pd 3 = false := by decide +kernel
theorem wit_pd3_is_acknowledged :
    let s := (put on [(F.PCR_PWR_STATE_PD_ON, 0x37), (F.FLD_CTRL_PLOTS_USED, 1)]).modPow (fun p => { p with needAck := true })
    s.takes 0 R.PCR_FLD_CTRL (0#32 ||| 0x40000000#32) = true ∧ s.pow.needAck = true ∧ s.applied = true ∧ s.pd 2 = true ∧ s.namesPlots = true
    ∧ s.pd 3 = false ∧ s.trnHas .pd3 = false ∧ on.pow.needAck = false := by decide +kernel
theorem wit_a_sleep_request : on.takes 0 R.PCR_SLEEP (0#32 ||| 1#32) = true ∧ on.pwr ≠ 8 ∧ on.sleepWhy = 0 ∧ (put on [(F.PCR_PWR_STATE_STATE, 6)]).sleepWhy = 4
    ∧ (on.modTrn (fun t => { t with grants := [⟨.pd3, 4, 1, 0⟩] })).sleepWhy = 2 := by decide +kernel

/-- Sleep entry has been accepted. -/
def sleepy : State := (put on [(F.PCR_PWR_STATE_STATE, 8)]).modPow (fun p => { p with sleepReq := true })

theorem wit_a_sleep_entry : sleepy.pwr = 8 ∧ sleepy.pow.sleepReq = true ∧ (put sleepy [(F.PCR_SLEEP_RET, 0)]).flag F.PCR_SLEEP_RET = false
    ∧ (put sleepy [(F.PCR_SLEEP_MODE, 1)]).flag F.PCR_SLEEP_MODE = true ∧ (put on [(F.PCR_PWR_STATE_STATE, 10)]).pwr = 10 := by decide +kernel
/-- Chapter 03, "Sleep and wake": deep sleep is state 10, watch sleep 9. -/
theorem test_the_two_sleeps : (nxt .sleepEntry sleepy).pwr = 9 ∧ (nxt .sleepEntry (put sleepy [(F.PCR_SLEEP_MODE, 1)])).pwr = 10
    ∧ (nxt .wake (nxt .sleepEntry sleepy)).pwr = 11 := by decide +kernel
theorem wit_a_host_wake : on.takes 1 R.PCR_WAKE_HOST 1#32 = true := by decide +kernel
theorem wit_a_restore_ends :
    let s := put ((waking 8).modPow (fun p => { p with fromSilo := true })) [(F.PCR_CLK_STATUS_ALIGNED, 1)]
    s.pwr = 11 ∧ s.pow.waking = true ∧ s.pow.restDone = false ∧ s.pow.fromSilo = true ∧ s.flag F.PCR_CLK_STATUS_ALIGNED = true
    ∧ s.flag F.PCR_WAKE_NEED_IMAGE = false := by decide +kernel
theorem wit_a_wake_completes :
    let s := put ((waking 0).modPow (fun p => { p with restDone := true })) [(F.PCR_CLK_STATUS_ALIGNED, 1)]
    s.pwr = 11 ∧ s.pow.waking = true ∧ s.flag F.PCR_CLK_STATUS_ALIGNED = true ∧ s.pow.restDone = true ∧ s.calRuns = false
    ∧ s.flag F.PCR_WAKE_NEED_IMAGE = false := by decide +kernel

/-- POOL 40 with 10 tokens granted, 5 returning and 5 that end, and a scan that waits for 3. -/
def books : State :=
  (put on [(F.TRN_POOL_POOL, 40), (F.TRN_AUDIT_FREE, 20), (F.TRN_AUDIT_RETURNING, 5), (F.TRN_COST_HARROW, 3), (F.HRW_CH_STAT_STATE 3, 1)]).modTrn
    (fun t => { t with grants := [⟨.pd3, 4, 10, 0⟩], ended := 5 })

theorem wit_the_books_balance : tokens books = books.fld F.TRN_POOL_POOL ∧ goes .turnstileEdge books = true
    ∧ tokens (nxt .turnstileEdge (nxt (.turnstileRequest (.scan 3)) books)) = 40 := by decide +kernel
theorem wit_a_turnstile_request : (TrnWho.scan 3).wf = true ∧ books.trnNeeds (.scan 3) = some (4, 3) ∧ books.trnNeeds (.scan 0) = none
    ∧ (books.trnHas (.scan 3) || books.inReset 4) = false := by decide +kernel
theorem wit_an_edge_with_nothing_waiting : books.trn.queue = []
    ∧ (nxt .turnstileEdge books).fld F.TRN_AUDIT_FREE = 25 ∧ (nxt .turnstileEdge books).flag F.TRN_STATUS_AUDIT_ERR = false
    ∧ (nxt .turnstileEdge (put books [(F.TRN_POOL_POOL, 41)])).flag F.TRN_STATUS_AUDIT_ERR = true := by decide +kernel
theorem wit_a_turnstile_timeout : (nxt (.turnstileRequest (.scan 3)) books).trn.queue.find? (fun r => r.who = .scan 3) = some ⟨.scan 3, 4, 3, 0⟩
    ∧ books.trn.queue.find? (fun r => r.who = .scan 3) = none := by decide +kernel

/-! ## The loader -/

/-- Port 0 owns a host load of target 7 with the bytes `bs`. -/
def onLoad (bs : List Byte) : State :=
  put (on.modLdr (fun l => { l with loading := true, bytes := bs })) [(F.PCR_IMG_STATUS_OWNER, 0), (F.PCR_IMG_STATUS_TARGET, 7), (F.PCR_IMG_STATUS_STATE, 1)]

theorem wit_a_start : State.reset.takes 0 R.PCR_IMG_CTRL (0x70#32 ||| 1#32) = false
    ∧ (put on [(F.PCR_PWR_STATE_STATE, 3)]).takes 0 R.PCR_IMG_CTRL (0x30#32 ||| 1#32) = true ∧ (0x30#32).getLsbD 1 = false ∧ (0x30#32).getLsbD 2 = false
    ∧ fieldGet 0x30#32 4 3 = 3 ∧ on.mayStart 0 3 = true ∧ on.mayStart 0 7 = false := by decide +kernel
theorem wit_an_abort : (onLoad []).takes 0 R.PCR_IMG_CTRL (0#32 &&& 0xFFFFFFFE#32 ||| 2#32) = true ∧ (onLoad []).ldr.loading = true
    ∧ (onLoad []).ldr.siloBoot = false ∧ (onLoad []).fld F.PCR_IMG_STATUS_OWNER = 0 ∧ (put (onLoad []) [(F.PCR_IMG_STATUS_OWNER, 1)]).fld F.PCR_IMG_STATUS_OWNER ≠ 0 := by
  decide +kernel
theorem wit_a_seal : (onLoad []).takes 1 R.PCR_IMG_CTRL (0#32 &&& 0xFFFFFFFC#32 ||| 4#32) = true ∧ on.ldr.loading = false := by decide +kernel
theorem wit_a_stall : ((onLoad [1]).ldr.loading && !(onLoad [1]).ldr.fromSilo && !(onLoad [1]).ldr.ready && !(onLoad [1]).ldr.bytes.isEmpty) = true
    ∧ ((onLoad []).ldr.loading && !(onLoad []).ldr.fromSilo && !(onLoad []).ldr.ready && !(onLoad []).ldr.bytes.isEmpty) = false := by decide +kernel
theorem wit_a_fifo_word : (onLoad []).takes 0 R.PCR_IMG_FIFO 0#32 = true
    ∧ ((onLoad []).ldr.loading && !(onLoad []).ldr.fromSilo && !(onLoad []).ldr.ready && (onLoad []).fld F.PCR_IMG_STATUS_OWNER == (0 : Fin 2).val) = true
    ∧ ((onLoad []).ldr.loading && !(onLoad []).ldr.fromSilo && !(onLoad []).ldr.ready && (onLoad []).fld F.PCR_IMG_STATUS_OWNER == (1 : Fin 2).val) = false := by
  decide +kernel
theorem wit_a_header_that_fails : ((List.replicate 252 0#8 ++ leBytes 4 0).length = 256)
    ∧ (firstFinding (stage1 on.fuses.partno none (List.replicate 256 0#8))).map (fun f => f.code) = some 1 := by decide +kernel
theorem wit_a_silo_load : ((onLoad []).modLdr (fun l => { l with fromSilo := true })).ldr.fromSilo = true ∧ (onLoad []).ldr.ready = false
    ∧ (firstFinding (stage1 on.fuses.partno (some 0x10000000) (List.replicate 256 0#8))).isSome = true := by decide +kernel
theorem wit_an_apply : (on.modLdr (fun l => { l with ready := true })).ldr.ready = true ∧ on.ldr.ready = false
    ∧ 4 ≤ (put on [(F.PCR_IMG_STATUS_TARGET, 7)]).fld F.PCR_IMG_STATUS_TARGET ∧ (put on [(F.PCR_IMG_STATUS_TARGET, 3)]).fld F.PCR_IMG_STATUS_TARGET = (3 : Fin 4).val := by decide +kernel
theorem wit_a_plot_store_fill : ((put on [(F.PCR_PWR_STATE_STATE, 5)]).applied && (put on [(F.PCR_PWR_STATE_STATE, 5)]).pd 3
    && !(put on [(F.PCR_PWR_STATE_STATE, 5)]).pow.fillDone && ((put on [(F.PCR_PWR_STATE_STATE, 5)]).pwr == 5 || (put on [(F.PCR_PWR_STATE_STATE, 5)]).pwr == 11)) = true
    ∧ on.pwr = 7 := by decide +kernel

/-- An image that declares THRESH of rule 31 LIVE from 10 to 20, and the low half of KCL_THR of axis 0. -/
def onLive : State := on.modLdr (fun l => { l with live := [⟨R.SCW_RULE_B 31, 0xFFFF, 10, 20, 7⟩, ⟨R.SNS_KCL 0, 0xFF, 0, 255, 0⟩] })

theorem wit_a_live_write : (Instr.liveWrite 0 (R.SCW_RULE_B 31) 20#32).wf = true ∧ onLive.reaches 0 (R.SCW_RULE_B 31) = true
    ∧ onLive.mayWrite 0 (R.SCW_RULE_B 31) 20#32 = true
    ∧ onLive.ldr.live.filter (fun d => homeKey d.addr == homeKey (R.SCW_RULE_B 31)) = [⟨R.SCW_RULE_B 31, 0xFFFF, 10, 20, 7⟩]
    ∧ onLive.liveTakes ⟨R.SCW_RULE_B 31, 0xFFFF, 10, 20, 7⟩ 20#32 = true ∧ onLive.liveTakes ⟨R.SCW_RULE_B 31, 0xFFFF, 10, 20, 7⟩ 21#32 = false
    ∧ (regEffect 0 (homeKey (R.SCW_RULE_B 31)) 20#32 onLive).1 = 0 ∧ (regEffect 0 (homeKey (R.SCW_RULE_B 31)) 20#32 onLive).2.ldr = onLive.ldr := by
  decide +kernel
theorem wit_a_live_write_that_waits : onLive.reaches 0 (R.SNS_KCL 0) = true ∧ onLive.mayWrite 0 (R.SNS_KCL 0) 5#32 = true
    ∧ onLive.ldr.live.filter (fun d => homeKey d.addr == homeKey (R.SNS_KCL 0)) = [⟨R.SNS_KCL 0, 0xFF, 0, 255, 0⟩]
    ∧ onLive.liveTakes ⟨R.SNS_KCL 0, 0xFF, 0, 255, 0⟩ 5#32 = true ∧ ¬(R.SCW_RULE_B 0 ≤ R.SNS_KCL 0 ∧ R.SNS_KCL 0 ≤ R.SCW_RULE_B 31)
    ∧ (regEffect 0 (homeKey (R.SNS_KCL 0)) 5#32 onLive).1 = 0 ∧ (regEffect 0 (homeKey (R.SNS_KCL 0)) 5#32 onLive).2.ldr = onLive.ldr := by decide +kernel

/-! ## Scarecrow -/

/-- The scan of chapter 04's example with rule 0 of it armed in RUN too, two crossings counted: CMD_A in slot 0 is the next sample. -/
def onScw : State :=
  (put on [(F.SCW_SCAN_N_SLOT, 4), (F.SCW_SLOT_CHAN 0, 12), (F.SCW_SLOT_CHAN 1, 0), (F.SCW_SLOT_CHAN 2, 4), (F.SCW_SLOT_CHAN 3, 5),
    (F.SCW_RULE_A_EN 0, 1), (F.SCW_RULE_A_SRC 0, 12), (F.SCW_RULE_A_KIND 0, 0), (F.SCW_RULE_A_PERSIST 0, 3), (F.SCW_RULE_A_ARM 0, 7),
    (F.SCW_RULE_A_ACTION 0, 16), (F.SCW_RULE_B_THRESH 0, 0x2380)]).modScw (fun w => { w with rules := [(0, { cnt := 2 })] })

/-- The same with rule 0 of kind `k` and side `b`. -/
def onAbsent (b : Bool) : State := (put onScw [(F.SCW_RULE_A_KIND 0, 2)]).modScw (fun w => { w with rules := [(0, { cnt := 2, side := some b })] })

theorem wit_a_slot : onScw.applied = true ∧ onScw.pwr ≠ 10 ∧ slotConverts onScw = true ∧ State.reset.applied = false := by decide +kernel
theorem wit_a_filter_takes : filtDue (put onScw [(F.SCW_FILT_EN 0, 1), (F.SCW_FILT_CHAN 0, 12), (F.SCW_FILT_EN 1, 1), (F.SCW_FILT_CHAIN 1, 1)]) 12 1 = true
    ∧ filtDue onScw 12 0 = false := by decide +kernel
theorem wit_a_rule_evaluates : sourceDue onScw 12 = true ∧ onScw.flag (F.SCW_RULE_A_EN 0) = true ∧ onScw.fld (F.SCW_RULE_A_KIND 0) ≠ 3
    ∧ (onScw.fld (F.SCW_RULE_A_ARM 0)).testBit onScw.armBit = true ∧ (onScw.rule 0).fired = false ∧ sourceDue onScw 0 = false := by decide +kernel
theorem wit_a_rule_out_of_its_state : ((put onScw [(F.SCW_RULE_A_ARM 0, 2)]).fld (F.SCW_RULE_A_ARM 0)).testBit onScw.armBit = false := by decide +kernel
theorem wit_an_absent_rule : (onAbsent true).fld (F.SCW_RULE_A_KIND 0) = 2 ∧ ((onAbsent true).rule 0).side = some (!decide (0x2380 < 0))
    ∧ ((onAbsent false).rule 0).side ≠ some (!decide (0x2380 < 0)) := by decide +kernel
/-- Chapter 04's example: 142 codes are the threshold, 143 cross it, and the third crossing fires; R80: an ABSENT rule's crossing restarts it. -/
theorem test_the_third_crossing_fires : fires onScw (nxt (.slotEnd 143) onScw) 0 = true ∧ fires onScw (nxt (.slotEnd 142) onScw) 0 = false
    ∧ (nxt (.slotEnd 143) onScw).scw.log.map (fun e => (e.rule, e.value)) = [(0, 0x23C0)]
    ∧ fires (onAbsent false) (nxt (.slotEnd 143) (onAbsent false)) 0 = false ∧ fires (onAbsent false) (nxt (.slotEnd 142) (onAbsent false)) 0 = true := by
  decide +kernel
theorem wit_a_rule_that_stops : (put onScw [(F.SCW_RULE_A_ACTION 0, 8)]).fld (F.SCW_RULE_A_ACTION 0) = 8
    ∧ fires (put onScw [(F.SCW_RULE_A_ACTION 0, 8)]) (nxt (.slotEnd 143) (put onScw [(F.SCW_RULE_A_ACTION 0, 8)])) 0 = true := by decide +kernel
theorem wit_a_rule_that_wakes :
    let s := put onScw [(F.SCW_RULE_A_ACTION 0, 1), (F.PCR_PWR_STATE_STATE, 9)]
    s.pwr = 9 ∧ fires s (nxt (.slotEnd 143) s) 0 = true ∧ (nxt (.slotEnd 143) s).pwr = 11 := by decide +kernel

/-- The reverse rotation of chapter 04's example after six transitions of 33 333 ticks. -/
def onSpin : State := on.modScw (fun w => { w with spin := Quad.all { code := 5, run := 6, dir := 2, ivals := [33333, 33334, 33333, 33333, 33334], timed := true } })

theorem wit_a_spin_transition : onSpin.spinOn 0 = true ∧ State.reset.spinOn 0 = false ∧ (onSpin.scw.spin.get 0).timed = true
    ∧ 5 ≤ (onSpin.scw.spin.get 0).ivals.length ∧ ((onSpin.scw.spin.get 0).run != 0 && (onSpin.scw.spin.get 0).dir != 2) = false
    ∧ ((onSpin.scw.spin.get 0).run != 0 && (onSpin.scw.spin.get 0).dir != 1) = true := by decide +kernel
/-- Table SCW-10: six intervals of 200 000 ticks in all are SPD 200, and SPIN_VEL reads 0x7F38. -/
theorem test_a_reverse_speed : (nxt (.spinTransition 0 5 4 33333) onSpin).fld (F.SCW_SPIN_SPD 0) = 200
    ∧ (nxt (.spinTransition 0 5 4 33333) (put onSpin [(F.SCW_SPIN_DIR 0, 2)])).spinVel 0 = 0x7F38
    ∧ (nxt (.spinTransition 0 5 5 33333) onSpin).fld (F.SCW_SPIN_GLITCH 0) = 1 := by decide +kernel
theorem wit_a_still_timeout : (put on [(F.SCW_SPIN_CFG_STILL 0, 1000)]).fld (F.SCW_SPIN_CFG_STILL 0) ≠ 0 ∧ (put on [(F.SCW_SPIN_CFG_STILL 0, 0)]).fld (F.SCW_SPIN_CFG_STILL 0) = 0 := by
  decide +kernel
theorem wit_a_tracker_restart : (put on [(F.SCW_SPIN_HOLD 0, 1)]).flag (F.SCW_SPIN_HOLD 0) = true ∧ (put on [(F.SCW_SPIN_HOLD 0, 1)]).gates 0 &&& 0x3F#8 = 0
    ∧ on.flag (F.SCW_SPIN_HOLD 0) = false := by decide +kernel
theorem wit_a_log_read : on.reaches 0 R.SCW_LOG_TIME = true ∧ on.takes 0 R.SCW_FIRED 0xFFFFFFFF#32 = true ∧ (0xFFFFFFFF#32).getLsbD 31 = true := by
  decide +kernel

/-! ## The host ports -/

theorem wit_a_failed_frame : (Instr.stat 0 false).wf = true ∧ frameOf 0 false (.stat 0 false) ∧ on.hears 0 = true :=
  ⟨rfl, .inr (.inr (.inl rfl)), rfl⟩
theorem wit_a_deaf_port : frameOf 1 true (.stat 1 true) ∧ (on.modPort 1 (fun p => { p with deaf := true })).hears 1 = false :=
  ⟨.inr (.inr (.inl rfl)), rfl⟩
/-- R384 and chapter 19's example: a READ that names an unmapped word answers BAD_ADDR, one below it OK. -/
theorem test_a_read_across_the_edge : ((nxt (.read 0 true 0x2FFFC 2) on).ports.get 0).resp.map (fun r => r.status % 64) = some 3
    ∧ ((nxt (.read 0 true 0x20238 4) on).ports.get 0).resp.map (fun r => r.status % 64) = some 0 := by decide +kernel
theorem wit_an_unmapped_word : (Instr.read 0 true 0x2FFFC 2).wf = true ∧ 0x30000 ∈ wordAddrs 0x2FFFC 2 ∧ mapped 0x30000 = false := by decide +kernel
/-- Chapter 19's example: in watch sleep SCW_SCAN and SCW_TICK answer, SAF_COND answers PD_OFF. -/
theorem wit_a_domain_that_is_off : (∀ k ∈ wordAddrs 0x340300 1, k % 4 = 0 ∧ mapped k = true)
    ∧ (put on [(F.PCR_PWR_STATE_PD_ON, 1)]).regOff 0x340300 = true ∧ (put on [(F.PCR_PWR_STATE_PD_ON, 1)]).regOff 0x10004 = false
    ∧ (put on [(F.PCR_PWR_STATE_PD_ON, 1)]).regOff 0x10350 = false := by decide +kernel
theorem wit_an_unbound_port :
    let s := put on [(F.QUE_TEN_CTRL_PORTS 0, 1)]
    s.regCheck (wordAddrs (R.PWM_RISE 0 0) 1) = 0 ∧ s.mayWrite 1 (R.PWM_RISE 0 0) 0#32 = false ∧ s.mayWrite 0 (R.PWM_RISE 0 0) 0#32 = true := by decide +kernel
theorem wit_a_write_that_stores : (Instr.write 0 true (R.FLD_CSET_CRC 0) [5#32, 6#32]).wf = true ∧ on.regCheck (wordAddrs (R.FLD_CSET_CRC 0) 2) = 0
    ∧ ∀ x ∈ (wordAddrs (R.FLD_CSET_CRC 0) 2).zip [5#32, 6#32], on.mayWrite 0 x.1 x.2 = true ∧ on.deadWord x.1 = false ∧ (regDefAt (homeKey x.1)).isSome = true := by
  decide +kernel
theorem wit_a_register_that_stores : storesOnly on 0 (R.FLD_CSET_CRC 0) ∧ storesOnly on 0 (R.FLD_CSET_STEP_LO 0) := by
  refine ⟨⟨fun u v => ?_, fun d h => nomatch h⟩, fun u v => ?_, fun d h => nomatch h⟩ <;>
    simp [regEffect, fldWrite, homeKey, R.FLD_CSET_CRC, R.FLD_CSET_STEP_LO, R.SCW_FIRED, R.FLD_REPAIR]
theorem wit_an_offset_without_a_register : (regDefAt (homeKey 0x20244)).isNone = true ∧ on.regCheck [0x20244] = 0 ∧ on.mayWrite 0 0x20244 1#32 = true
    ∧ (Instr.registerWrite 0 0x20244 1).wf = true := by decide +kernel
theorem wit_the_three_reads : on.reaches 0 R.PCR_STEP_LO = true ∧ on.reaches 1 (R.SQR_AUD_A 191) = true ∧ on.regOff (R.PCR_HP_STAT 0) = false
    ∧ on.takes 1 R.PCR_DET_LIVE_STEP_LO 7#32 = true := by decide +kernel
theorem wit_a_plain_read : (Instr.read 0 true (R.PWM_RISE 0 0) 64).wf = true ∧ on.regCheck (wordAddrs (R.PWM_RISE 0 0) 64) = 0
    ∧ ∀ k ∈ wordAddrs (R.PWM_RISE 0 0) 64, k ≠ R.PCR_STEP_LO ∧ k ≠ R.SCW_LOG_TIME ∧ ¬(0x386000 ≤ k ∧ k < 0x386600 ∧ k % 8 = 0) := by decide +kernel
theorem wit_a_window_frame : (Instr.wwrite 0 true 0x1000000 [1#32]).wf = true ∧ on.winCheck 0x1000000 1 = (0, some (.gran 0)) ∧ on.bound 0 4 = true
    ∧ on.winCheck 0x1000002 1 = (3, none) ∧ (put on [(F.QUE_TEN_CTRL_PORTS 4, 0)]).bound 0 4 = false := by decide +kernel
theorem wit_a_busy_window : onWin.hears 0 = true ∧ (onWin.ports.get 0).wr.isSome = true ∧ (onWin.winPend 1).isSome = true ∧ (on.ports.get 0).wr = none
    ∧ on.winPend 0 = none := by decide +kernel
theorem wit_a_silo_window :
    let s := put on [(F.FLD_SILO_CFG_PRESENT 1, 1), (F.FLD_SILO_CFG_SIZE 1, 26)]
    s.winCheck 0x1BFFFFFC 1 = (0, some (.silo 1 0xBFFFFFC)) ∧ s.winCheck 0x1C000000 1 = (3, none) ∧ s.flag (F.FLD_SILO_CFG_PSRAM 1) = false := by
  decide +kernel
/-- Chapter 19's example. -/
theorem test_addresses : R.PWM_FALL 1 5 = 0x14406C ∧ R.OBS_VERD 3 2 = 0x1D0718 ∧ homeKey 0x154030 = R.AUX_SET ∧ R.PCR_LIVE_REJ = 0x20240
    ∧ on.winTarget 0x21F8010 4 = some (.plot 7 0x38010) := by decide +kernel
theorem wit_a_window_fetch : (Instr.wfetch 1 true 0x200000C).wf = true ∧ (0x200000C : Nat) % 4 = 0 ∧ on.pd 2 = true := by decide +kernel

/-! ## Queues, tenants and the Square -/

/-- Queue 2 of T[1], H2Z, and queue 3, Z2H, both of depth 16, with `k` descriptors in each. -/
def onQue (k : Nat) : State :=
  put on ([2, 3].flatMap (fun n => [(F.QUE_CFG_EN n, 1), (F.QUE_CFG_ROLE n, n - 2), (F.QUE_CFG_TENANT n, 1), (F.QUE_CFG_LOG2_DEPTH n, 4),
    (F.QUE_CONS_CONS n, 0xFFFC), (F.QUE_PROD_PROD n, (0xFFFC + k) % 65536), (F.QUE_BASE_BASE n, 0x12200)]))

theorem wit_an_enq : queOpen (onQue 15) 0 2 false ∧ (onQue 15).queOcc 2 < (onQue 15).queDepth 2 ∧ (onQue 15).hears 0 = true := by
  unfold queOpen
  decide +kernel
theorem wit_a_deq : queOpen (onQue 16) 1 3 true ∧ (onQue 16).queOcc 3 ≠ 0 := by
  unfold queOpen
  decide +kernel
theorem wit_a_refused_request : (onQue 16).queCheck 0 2 false = 9 ∧ (onQue 0).queCheck 0 3 true = 0xA ∧ (onQue 0).queCheck 0 64 true = 3
    ∧ (onQue 0).queCheck 0 3 false = 0xB ∧ (Instr.enq 0 true 2 (List.replicate 8 0)).wf = true := by decide +kernel
/-- Chapter 16's example: PROD goes from 0xFFFF to 0x0000, and the occupancy is 4. -/
theorem test_the_ring_wraps : (nxt (.enq 0 true 2 (List.replicate 8 0)) (onQue 3)).queProd 2 = 0
    ∧ (nxt (.enq 0 true 2 (List.replicate 8 0)) (onQue 3)).queOcc 2 = 4 := by decide +kernel
theorem wit_a_doorbell : (onQue 3).takes 0 (R.QUE_DB 2) 0x0000000C#32 = true ∧ (onQue 3).queOcc 2 ≤ (onQue 3).queDepth 2
    ∧ (onQue 3).queRole 2 false = true ∧ (onQue 3).inReset ((onQue 3).queTenant 2) = false ∧ (12 + 65536 - (onQue 3).queProd 2) % 65536 ≤ 16 - 3
    ∧ (onQue 3).queRole 3 false = false := by decide +kernel
/-- R312: an index up to the free slots is accepted, the next is refused. -/
theorem test_a_doorbell_beyond_the_ring : (nxt (.queDb 0 2 0x0000000C#32) (onQue 3)).queProd 2 = 12
    ∧ (nxt (.queDb 0 2 0x0000000D#32) (onQue 3)).flag (F.QUE_STAT_REFUSED 2) = true := by decide +kernel
theorem wit_a_cons_write : (onQue 3).takes 1 (R.QUE_CONS 3) 0xFFFF#32 = true ∧ (onQue 3).queRole 3 true = true
    ∧ (0xFFFF + 65536 - (onQue 3).queCons 3) % 65536 ≤ (onQue 3).queOcc 3 := by decide +kernel
theorem wit_a_waiting_doorbell : (nxt (.queDb 0 2 0#32) (onQue 3)).que.waiting.find? (fun w => w.1 == 2) = some (2, 0)
    ∧ (onQue 3).que.staging = [] ∧ (onQue 3).que.waiting.find? (fun w => w.1 == 2) = none := by decide +kernel
theorem wit_the_rings : (onQue 16).queOcc 2 ≤ (onQue 16).queDepth 2 ∧ goes (.deq 0 true 3 7) (onQue 16) = true
    ∧ (nxt (.deq 0 true 3 7) (onQue 16)).queOcc 3 = 15 := by decide +kernel
theorem wit_a_queue_timeout : (put (onQue 1) [(F.QUE_TMO_TMO 2, 5), (F.QUE_TMO_IDLE 2, 5)]).fld (F.QUE_TMO_TMO 2) = 5
    ∧ ¬(put (onQue 1) [(F.QUE_TMO_TMO 2, 5), (F.QUE_TMO_IDLE 2, 5)]).fld (F.QUE_TMO_IDLE 2) < 5
    ∧ (put (onQue 1) [(F.QUE_TMO_TMO 2, 5), (F.QUE_TMO_IDLE 2, 4)]).fld (F.QUE_TMO_IDLE 2) < 5 := by decide +kernel

/-- QUE_DB[3] holds one event of SW[0]. -/
def onEvent (k : Nat) : State := (onQue k).setTask 0x83 { pend := 1, rcv := 1, evs := [(0xB0, 7)] }

theorem wit_an_event_post : ((onEvent 0).task (0x80 + (3 : Fin 64).val)).evs = (0xB0, 7) :: [] ∧ (onEvent 0).queTakes 3 = true
    ∧ (onEvent 16).queDepth 3 ≤ (onEvent 16).queOcc 3 ∧ (onEvent 0).queOcc 3 < (onEvent 0).queDepth 3 ∧ on.queTakes 3 = false := by decide +kernel
theorem test_a_full_queue_takes_no_event : (nxt (.queueEventPost 3) (onEvent 16)).flag (F.QUE_STAT_OVF 3) = true
    ∧ (nxt (.queueEventPost 3) (onEvent 15)).queOcc 3 = 16 := by decide +kernel
theorem wit_a_tenant_reset : on.takes 0 (R.QUE_TEN_CTRL 4) 0x6B000100#32 = true ∧ on.takes 1 (R.QUE_TEN_CTRL 0) 0x6B000000#32 = true
    ∧ on.linkHold = false := by decide +kernel
theorem wit_a_software_trigger : on.takes 0 R.SQR_SWTRIG 0x000F0007#32 = true ∧ fieldGet 0x000F0007#32 16 4 = 15
    ∧ (on.task 0x80).pend + on.routeCount (Ev.sw 15) 0x80 ≤ 15 ∧ on.inReset (on.fld (F.QUE_CFG_TENANT 0)) = false
    ∧ (put on [(F.QUE_TEN_CTRL_IN_RESET 0, 1)]).inReset (on.fld (F.QUE_CFG_TENANT 0)) = true := by decide +kernel
theorem wit_an_overflow_service : ((on.setTask 0x14 { pend := 1, rcv := 1, ovf := some 5 }).task (0x10 * (1 : Fin 4).val + 4)).ovf = some 5
    ∧ (on.task 0x14).ovf = none := by decide +kernel

/-! ## Harrow and the check units -/

theorem wit_a_check_unit : on.takes 0 (R.CHK_CTRL 7) 1#32 = true ∧ on.takes 1 (R.CHK_DIN 0) 0x34333231#32 = true ∧ on.takes 0 (R.CHK_DIN1 0) (word (0x39#8).toNat) = true
    ∧ on.chkOwned 0 = false ∧ (put on [(F.CHK_STAT_OWNER 0, 2)]).chkOwned 0 = true := by decide +kernel
theorem wit_a_check_configuration : R.CHK_REC 0 ∈ [R.CHK_CFG (0 : Fin 8), R.CHK_POLY_LO 0, R.CHK_POLY_HI 0, R.CHK_INIT_LO 0, R.CHK_INIT_HI 0, R.CHK_XOR_LO 0, R.CHK_XOR_HI 0, R.CHK_REC 0]
    ∧ on.takes 0 (R.CHK_CFG 0) 0x80000000#32 = true ∧ on.takes 0 (R.CHK_REC 0) 0#32 = true := by decide +kernel
/-- R297: widths 3 and 64 are taken, 2 and 65 refused. -/
theorem test_the_widths_of_mode_p : (∀ w ∈ [3, 64], (((on.setFlag (F.CHK_CFG_MODE 0) true).setFld (F.CHK_CFG_WIDTH 0) w |>.reg (R.CHK_CFG 0))
      |> fun v => (nxt (.registerWrite 0 (R.CHK_CFG 0) v) on).flag (F.CHK_STAT_CFG_ERR 0)) = false)
    ∧ ∀ w ∈ [2, 65], (((on.setFlag (F.CHK_CFG_MODE 0) true).setFld (F.CHK_CFG_WIDTH 0) w |>.reg (R.CHK_CFG 0))
      |> fun v => (nxt (.registerWrite 0 (R.CHK_CFG 0) v) on).flag (F.CHK_STAT_CFG_ERR 0)) = true := by decide +kernel

/-- Unit 2 in Mode P of chapter 15's example, after its first eight bytes. -/
def onChk : State :=
  (put on [(F.CHK_CFG_MODE 2, 1), (F.CHK_CFG_WIDTH 2, 16), (F.CHK_CFG_REFIN 2, 1), (F.CHK_CFG_REFOUT 2, 1), (F.CHK_POLY_LO_POLY 2, 0x8005)]).modHrw
    (fun h => { h with crc := [(2, crcFold ⟨16, 0x8005, 0, true, true, 0⟩ 0 [49, 50, 51, 52, 53, 54, 55, 56])] })

/-- Chapter 15's example: "123456789" gives 0xBB3D, and in Mode F with FSEL 3 0xE3069283. -/
theorem test_a_check_value : (nxt (.chkDin1 0 2 0x39) onChk).reg (R.CHK_RES_LO 2) = 0xBB3D#32
    ∧ crc32c [49, 50, 51, 52, 53, 54, 55, 56, 57] = 0xE3069283 := by decide +kernel
theorem wit_a_scan : on.takes 0 (R.HRW_CH_CTRL 3) 1#32 = true ∧ on.chBusy 3 = false ∧ (put on [(F.HRW_CH_COUNT_COUNT 3, 1)]).scanBad 0 0 0 0 1 0 = false
    ∧ on.scanBad 0 0 0 0 0 0 = true ∧ on.chkOwned 0 = false ∧ (List.range 8).any (fun i => on.flag (F.SAF_STD_CFG_EN i)) = false := by decide +kernel
theorem wit_a_scan_abort : on.takes 1 (R.HRW_CH_CTRL 0) 2#32 = true ∧ (put on [(F.HRW_CH_STAT_STATE 0, 1)]).chBusy 0 = true := by decide +kernel

/-- Channel 0 scans the queue ring of chapter 15's example: 16 records of 32 bytes into unit 1 with its alive check. -/
def onScan : State :=
  ({ put on [(F.CHK_CFG_MODE 1, 0), (F.CHK_CFG_FSEL 1, 3), (F.CHK_CFG_ALV_EN 1, 1), (F.CHK_CFG_ALV_HI 1, 1), (F.CHK_REC_ALV_OFF 1, 30), (F.CHK_REC_REC_LEN 1, 32),
    (F.HRW_CH_CFG_ELEM 0, 3), (F.HRW_CH_CFG_UNIT 0, 1), (F.HRW_CH_START_START 0, 0x12000), (F.HRW_CH_COUNT_COUNT 0, 16), (F.HRW_CH_STAT_STATE 0, 2),
    (F.CHK_STAT_OWNER 1, 2), (F.CHK_ALV_FIRST 1, 0xFFFF)] with
    gran := ((List.range 16).zip [3, 4, 5, 6, 7, 7, 8, 9, 10, 12, 13, 14, 15, 0, 1, 2]).filterMap (fun (x : Nat × Nat) =>
      if x.2 = 0 then none else some (0x12000 + 32 * x.1 + 30, BitVec.ofNat 8 (16 * x.2))) }).modHrw
    (fun h => { h with crc := [(1, 0xFFFFFFFF)] })

theorem wit_a_scan_ends : upsetsWf [] = true ∧ onScan.fld (F.HRW_CH_STAT_STATE 0) = 2 ∧ on.fld (F.HRW_CH_STAT_STATE 0) ≠ 2
    ∧ onScan.fld (F.CHK_STAT_OWNER (1 : Fin 8)) = 2 ∧ onScan.fld (F.CHK_STAT_CH (1 : Fin 8)) = (0 : Fin 4).val ∧ memGet onScan.gran 0x1201E = 0x30#8 := by decide +kernel
/-- Chapter 15's example: record 5 repeats, record 9 jumps, and F to 0 is in order. -/
theorem test_the_alive_counters_of_a_ring : (alvRecords 1 1 16 [0x30, 0x40, 0x50, 0x60, 0x70, 0x70, 0x80, 0x90, 0xA0, 0xC0, 0xD0, 0xE0, 0xF0, 0x00, 0x10, 0x20]
    (put on [(F.CHK_CFG_ALV_HI 1, 1), (F.CHK_ALV_FIRST 1, 0xFFFF)])).reg (R.CHK_ALV 1) = 0x01010005#32 := by decide +kernel
theorem wit_a_standing_check : ((put on [(F.CHK_STAT_OWNER 0, 3)]).modHrw (fun h => { h with std := [7] })).stdRuns = some 7 ∧ on.stdRuns = none := by
  decide +kernel
theorem wit_a_scrub : on.flag F.HRW_CTRL_SCRUB_EN = true ∧ on.scrubOn 31 = true ∧ State.reset.scrubOn 0 = false
    ∧ (put on [(F.HRW_CTRL_SCRUB_EN, 0)]).flag F.HRW_CTRL_SCRUB_EN = false := by decide +kernel
theorem test_scrub_wraps : SMap.get 0 (nxt (.scrubAccess 31 []) (on.modHrw (fun h => { h with ptr := [(31, 32767)] }))).hrw.ptr 31 = 0
    ∧ SMap.get 0 (nxt (.scrubAccess 0 []) (on.modHrw (fun h => { h with ptr := [(0, 32767)] }))).hrw.ptr 0 = 32768 := by decide +kernel
theorem wit_a_scrub_write_back : (on.modHrw (fun h => { h with wback := [(3, 5)] })).hrw.wback.find? (fun e => e.1 == (3 : Fin 32).val) = some (3, 5)
    ∧ on.hrw.wback.find? (fun e => e.1 == 0) = none ∧ on.scrubOn 3 = true := by decide +kernel

/-! ## Aux outputs and Hall inputs -/

/-- Pair 1 of chapter 18's example, with the fan LSD[3] running. -/
def onAux : State :=
  put on [(F.AUX_PAIR_POLICY 1, 2), (F.AUX_PAIR_BUDGET 1, 25), (F.AUX_PAIR_ILOAD_ODD 1, 12), (F.AUX_PAIR_ILOAD_EVEN 1, 8), (F.AUX_LSD_EN 2, 1), (F.AUX_LSD_EN 3, 1),
    (F.AUX_LSD_OWNER 2, 1), (F.AUX_LSD_OWNER 3, 4), (F.AUX_REQ_REQ, 8), (F.AUX_STAT_LSD_ON, 8), (F.AUX_STAT_HSD_ON, 2)]

theorem wit_an_aux_set : onAux.takes 0 R.AUX_SET (word (4#8).toNat) = true ∧ onAux.takes 1 R.AUX_CLR (word (255#8).toNat) = true
    ∧ onAux.auxKilled 2 = false ∧ onAux.flag (F.AUX_LSD_EN 2) = true ∧ onAux.flag (F.AUX_LSD_EN 0) = false := by decide +kernel
theorem wit_an_aux_decision : onAux.anyHalted = false ∧ onAux.flag F.PCR_PWR_STATE_READY = true ∧ State.reset.flag F.PCR_PWR_STATE_READY = false
    ∧ (put on [(F.PWM_STAT_HALTED 0, 1)]).anyHalted = true ∧ onAux.auxKilled 3 = false
    ∧ (put onAux [(F.SAF_STAT_SAFE, 1)]).auxKilled 3 = true := by decide +kernel

/-- The brake LSD[2] is requested, and tick n decides. -/
def auxTick : State := nxt .auxDecision (nxt (.auxSet 0 4) onAux)

/-- Table AUX-5: at tick n the fan is dropped with DROPPED bit 3; the off-delay ends; one tick later AUX_STAT reads 0x02040000. -/
theorem test_the_brake_drops_the_fan : auxTick.reg R.AUX_FLAG = 0x800#32 ∧ auxTick.bit F.AUX_STAT_DELAY 1 = true ∧ auxTick.bit F.AUX_STAT_LSD_ON 3 = false
    ∧ (nxt .auxDecision (nxt (.offDelayEnd 1) (nxt .auxDecision auxTick))).reg R.AUX_STAT = 0x02040000#32 := by decide +kernel
theorem wit_an_off_delay : (put on [(F.AUX_STAT_DELAY, 2)]).bit F.AUX_STAT_DELAY (1 : Fin 4) = true ∧ on.anyHalted = false
    ∧ on.bit F.AUX_STAT_DELAY (0 : Fin 4) = false := by decide +kernel
theorem wit_a_hall_code : (put on [(F.AUX_HALL_EN 3, 1)]).flag (F.AUX_HALL_EN 3) = true ∧ (put on [(F.AUX_HALL_EN 3, 1)]).fld (F.AUX_HALL_CODE 3) ≠ (5#3).toNat
    ∧ on.flag (F.AUX_HALL_EN 0) = false := by decide +kernel

/-! ## Tramline -/

/-- Twin mode: this chip is east, the link in state `st`, with a tile of each chip, this chip's RESIDENT and the twin's VALID here. -/
def onLink (st : Nat) : State :=
  (put { on with ldr := { applied := true, axes := 15, twin := true } }
    [(F.TRL_STAT_STATE, st), (F.TRL_STAT_ROLE, 1), (F.TRL_CFG_SLOT_MAP, 0x0020), (F.TRL_TILE_ST_STATE 0, 1), (F.TRL_TILE_ST_STATE 1, 8), (F.TRL_TILE_ST_GEN 0, 6)]).modLink
    (fun l => { l with
      vcs := ⟨{ txc := 4 }, { txc := 16 }, { txc := 32 }, { txc := 64 }⟩, latch := ⟨{ txc := 4 }, { txc := 16 }, { txc := 32 }, { txc := 64 }⟩
      rxExp := 300, tiles := [⟨7, 0, 0x1000, 0x40000⟩, ⟨9, 1, 0x2000, 0⟩] })

/-- A frame of TYPE `typ` with the payload `pay`. -/
def fr (typ : Nat) (pay : List Byte) (seq : Nat := 0) : List Byte :=
  frameBytes ((frameVc typ).getD 0) ⟨typ, true, true, 3, (pay ++ List.replicate 48 0#8).take 48⟩ seq 0

/-- The link in UP, with frames that wait for their handling. -/
def onRx (l : List (List Byte)) : State := (onLink 7).modLink (fun k => { k with rx := l })

theorem wit_training : (TrainStep.cap 0 (List.replicate 8 0) 0 0 false 0).wf = true ∧ (TrainStep.lock).wf = true
    ∧ (onLink 4).fld F.TRL_STAT_STATE = trainLeaves (.cap 0 (List.replicate 8 0) 0 0 false 0) ∧ (onLink 1).training = true ∧ (onLink 7).linkLive = true
    ∧ (onLink 9).fld F.TRL_STAT_STATE = 9 ∧ (onLink 0).training = false ∧ (onLink 10).linkLive = false := by decide +kernel
theorem wit_an_election : (put (onLink 5) [(F.TRL_STAT_ROLE, 0)]).elected [(3, 3), (4, 2)] = some 1
    ∧ ((put (onLink 5) [(F.TRL_STAT_ROLE, 0)]).modPow (fun p => { p with running := false })).elected [(3, 3)] = none := by decide +kernel
/-- R346: the higher nonce is the east, and equal nonces are drawn again. -/
theorem test_nonces_elect : ((put (onLink 5) [(F.TRL_STAT_ROLE, 0)]).modPow (fun p => { p with running := false })).elected [(3, 3), (4, 2)] = some 1
    ∧ ((put (onLink 5) [(F.TRL_STAT_ROLE, 0)]).modPow (fun p => { p with running := false })).elected [(3, 4)] = some 2 := by decide +kernel
theorem wit_an_acknowledged_training : (onLink 11).takes 0 R.TRL_CTRL (0#32 &&& 0x00FFFFFF#32 ||| 0x7E000100#32) = true
    ∧ (onLink 11).fld F.TRL_STAT_STATE = 11 ∧ (onLink 7).fld F.TRL_STAT_STATE ≠ 11 := by decide +kernel
theorem wit_the_error_counters : max ((put (onLink 7) [(F.TRL_ERR_REC, 88)]).fld F.TRL_ERR_TEC) (min 0xFF ((put (onLink 7) [(F.TRL_ERR_REC, 88)]).fld F.TRL_ERR_REC + 8)) = 96
    ∧ max ((put (onLink 7) [(F.TRL_ERR_REC, 184)]).fld F.TRL_ERR_TEC) (min 0xFF ((put (onLink 7) [(F.TRL_ERR_REC, 184)]).fld F.TRL_ERR_REC + 8)) = 192
    ∧ (onLink 8).fld F.TRL_STAT_STATE = 8 ∧ min 0xFF ((onLink 8).fld F.TRL_ERR_REC + 8) < 96 ∧ (onLink 10).fld F.TRL_STAT_STATE = 10 := by decide +kernel
/-- Table TRL-7: at 96 the link is PASSIVE, at 192 off with cause 7. -/
theorem test_the_counters_move_the_link : (nxt .slot0WithoutHeartbeat (put (onLink 7) [(F.TRL_ERR_REC, 87)])).fld F.TRL_STAT_STATE = 7
    ∧ (nxt .slot0WithoutHeartbeat (put (onLink 7) [(F.TRL_ERR_REC, 88)])).fld F.TRL_STAT_STATE = 8
    ∧ (nxt .slot0WithoutHeartbeat (put (onLink 8) [(F.TRL_ERR_REC, 184)])).fld F.TRL_STAT_STATE = 10
    ∧ (nxt .slot0WithoutHeartbeat (put (onLink 8) [(F.TRL_ERR_REC, 184)])).fld F.TRL_STAT_CAUSE = 7 := by decide +kernel
theorem wit_a_link_off : noRouteTo (onLink 7) 0 ∧ (put (onLink 7) [(F.TRL_BULK_STAT_STATE 0, 2)]).fld (F.TRL_BULK_STAT_STATE 0) = 2 ∧ (onLink 7).tileState 1 = 8
    ∧ ((onLink 7).modLink (fun l => { l with txq := l.txq.set 0 [⟨4, true, true, 0, []⟩] })).twin = true := by
  unfold noRouteTo
  decide +kernel
theorem wit_a_pair_safe_clear : (put (onLink 7) [(F.SAF_STAT_SAFE, 1)]).flag F.SAF_STAT_SAFE = true
    ∧ (onLink 7).takes 1 R.TRL_CTRL (0#32 &&& 0x00FFFFFF#32 ||| 2#32) = true := by decide +kernel

/-- Chapter 17's example: a burst has at most 42 frames with TS = 20 000. -/
theorem test_the_longest_burst : (onLink 7).burstMax = 42 := by decide +kernel
theorem wit_a_slot_start : (onLink 7).linkLive = true ∧ ((0 : Fin 16) = 0 ∧ ((onLink 7).link.vcs.get 0).txc ≠ 0) ∧ ((onLink 7).fld F.TRL_CFG_SLOT_MAP).testBit (5 : Fin 16) = true
    ∧ ((onLink 7).fld F.TRL_CFG_SLOT_MAP).testBit (0 : Fin 16) = false := by decide +kernel
/-- R340: with nothing to send a NULL frame goes, without a credit; slot 0 begins with a HEARTBEAT for one credit. -/
theorem test_the_first_frame_of_a_slot : (nxt (.slotStart 1 0 0 0 0) (onLink 7)).link.burst.map frType = [0]
    ∧ ((nxt (.slotStart 1 0 0 0 0) (onLink 7)).link.vcs.get 0).txc = 4 ∧ (nxt (.slotStart 0 0 0 0 0) (onLink 7)).link.burst.map frType = [1]
    ∧ ((nxt (.slotStart 0 0 0 0 0) (onLink 7)).link.vcs.get 0).txc = 3 := by decide +kernel
theorem wit_a_burst : (Instr.burstReceived 5 6274 0 [⟨fr 2 [], true⟩]).wf = true
    ∧ (-1250 : Int) ≤ 25 * (6274 : Nat) - (25 * ((5 : Fin 16).val * ((onLink 7).fld F.PCR_SCHED_TS_LCLK / 16) : Nat) + 2 * ((onLink 7).link.rxExp : Int))
    ∧ (onLink 7).fld F.TRL_STAT_STATE = 7 ∧ (onLink 7).fld F.TRL_ERR_TEC < 96 ∧ frameOk ⟨fr 2 [], false⟩ = false := by decide +kernel
theorem wit_an_accepted_frame : frameOk ⟨fr 2 [], true⟩ = true ∧ frType (fr 2 []) ≠ 0 ∧ frameVc (frType (fr 2 [])) = some 0
    ∧ (frSeq (fr 2 []) + 65536 - ((onLink 7).link.vcs.get 0).acct % 65536) % 65536 = 0 := by decide +kernel
theorem wit_a_missing_frame : (frSeq (fr 2 [] 3) + 65536 - ((onLink 7).link.vcs.get 0).acct % 65536) % 65536 = 3 ∧ (onLink 7).fld F.TRL_ERR_REC + 8 * 3 < 96 := by decide +kernel
theorem wit_a_null_frame : frameOk ⟨fr 0 [], true⟩ = true ∧ frType (fr 0 []) = 0 ∧ (put (onLink 7) [(F.TRL_ERR_LATE_RUN, 3)]).fld F.TRL_ERR_LATE_RUN = 3 := by decide +kernel
/-- Chapter 17's example: with RX_EXP 300 UI the window of slot 5 is 6224 to 6324 LCLK cycles. -/
theorem test_the_arrival_window : (onLink 7).burstOnTime 5 6224 = true ∧ (onLink 7).burstOnTime 5 6223 = false ∧ (onLink 7).burstOnTime 5 6324 = true
    ∧ (onLink 7).burstOnTime 5 6325 = false := by decide +kernel

theorem wit_the_fronts : frontFrame (onRx [fr 0 []]) 0 (fr 0 []) ∧ frontFrame (onRx [fr 2 [5]]) 2 (fr 2 [5]) ∧ frontFrame (onRx [fr 3 []]) 3 (fr 3 [])
    ∧ frontFrame (onRx [fr 4 []]) 4 (fr 4 []) ∧ frontFrame (onRx [fr 1 []]) 1 (fr 1 []) ∧ frontFrame (onRx [fr 0x10 []]) 0x10 (fr 0x10 [])
    ∧ frontFrame (onRx [fr 0x20 []]) 0x20 (fr 0x20 []) := by
  unfold frontFrame
  decide +kernel
theorem wit_the_fronts_of_bulk : frontFrame (onRx [fr 0x30 []]) 0x30 (fr 0x30 []) ∧ frontFrame (onRx [fr 0x31 []]) 0x31 (fr 0x31 [])
    ∧ frontFrame (onRx [fr 0x33 [3, 1]]) 0x33 (fr 0x33 [3, 1]) ∧ frontFrame (onRx [fr 0x34 [7]]) 0x34 (fr 0x34 [7]) ∧ frontFrame (onRx [fr 0x35 [9]]) 0x35 (fr 0x35 [9])
    ∧ frontFrame (onRx [fr 0x36 [9]]) 0x36 (fr 0x36 [9]) ∧ frontFrame (onRx [fr 0x37 [7]]) 0x37 (fr 0x37 [7]) ∧ frontFrame (onRx [fr 0x38 [9]]) 0x38 (fr 0x38 [9]) := by
  unfold frontFrame
  decide +kernel
theorem wit_no_front : ¬ ∃ b, frontFrame (onRx []) 2 b := fun ⟨_, h, _⟩ => nomatch h
theorem wit_a_heartbeat : (linkPop 1 (onRx [fr 1 []])).1 = some (fr 1 []) ∧ (onLink 7).link.ofsSet = false ∧ (onLink 7).bookOk (fr 1 []) 0 = true
    ∧ (∀ v : Fin 4, (onLink 7).bookOk (fr 1 []) v = true) ∧ (onLink 7).bookOk (fr 1 [1]) 0 = false := by decide +kernel
theorem wit_a_heartbeat_that_disagrees :
    let s := (onRx [fr 1 []]).modLink (fun l => { l with ofsSet := true })
    s.link.ofsSet = true ∧ (frStep (fr 1 []) + 2 ^ 48 - s.stepN) % 2 ^ 48 ≠ s.linkOfs := by decide +kernel
/-- Table TRL-4 and R345: STEP_OFS is the twin's STEP less the local one. -/
theorem test_a_heartbeat_sets_the_offset : (nxt .heartbeat (onRx [fr 1 []])).linkOfs = 3 ∧ (nxt .heartbeat (onRx [fr 1 []])).fld F.TRL_STAT_STATE = 7
    ∧ (nxt .heartbeat (onRx [fr 1 [1]])).fld F.TRL_STAT_CAUSE = 8 := by decide +kernel
theorem test_a_safe_frame : (nxt .safe (onRx [fr 4 []])).fld F.SAF_CAUSE_CAUSE = 0x100 := by decide +kernel

/-- PRG of one lane waits for its sum: layer 0 of network 0 has one output. -/
def onSum : State := onPrg.modLink (fun l => { l with redWait := true, parts := [⟨0, 0, 0, [0x3F800000#32]⟩] })

theorem wit_a_sum : onSum.link.redWait = true ∧ onSum.prgLast.isSome = true ∧ (onLink 7).prgLast = none ∧ (onLink 7).link.redWait = false := by decide +kernel
theorem wit_a_record_that_is_late :
    let s := put (onLink 7) [(F.PCR_SCHED_MODE_EXACT, 1)]
    s.exact = true ∧ (recordAt { s with step := 5000 } (fr 0x10 [1, 2]) 12).map (fun r => decide (r.step + 2 * s.K < 5000)) = some true
    ∧ recordAt s (fr 0x10 [0xFF]) 12 = none := by decide +kernel

theorem wit_a_bulk_go : (onLink 7).takes 0 (R.TRL_BULK_CTRL 0) (0#32 ||| 1#32) = true ∧ (onLink 7).bulkRange 0 = true
    ∧ (put (onLink 7) [(F.FLD_CSET_CTRL_VALID 0, 1)]).bulkRange 0 = false
    ∧ (put (onLink 7) [(F.TRL_BULK_CFG_KIND 0, 1), (F.TRL_BULK_CFG_TILE 0, 9)]).bulkRange 0 = false := by decide +kernel
theorem wit_a_bulk_timeout : (put (onLink 7) [(F.TRL_BULK_STAT_STATE 1, 2)]).fld (F.TRL_BULK_STAT_STATE (1 : Fin 8)) = 2
    ∧ (onLink 7).fld (F.TRL_BULK_STAT_STATE (1 : Fin 8)) ≠ 2 := by decide +kernel
theorem wit_a_cutting_answer : (List.range 8).find? (fun i => (put (onLink 7) [(F.TRL_BULK_STAT_STATE 1, 2), (F.TRL_BULK_CFG_CSET 1, 3)]).fld (F.TRL_BULK_STAT_STATE i) == 2
    && (put (onLink 7) [(F.TRL_BULK_STAT_STATE 1, 2), (F.TRL_BULK_CFG_CSET 1, 3)]).fld (F.TRL_BULK_CFG_KIND i) == 0
    && (put (onLink 7) [(F.TRL_BULK_STAT_STATE 1, 2), (F.TRL_BULK_CFG_CSET 1, 3)]).fld (F.TRL_BULK_CFG_CSET i) == leAt (fr 0x33 [3, 1]) 12 1) = some 1 := by decide +kernel
theorem wit_a_cutting_message : (onLink 7).cutClosed 0 = false ∧ (put (onLink 7) [(F.FLD_CSET_CTRL_LOCK 0, 1)]).cutClosed 0 = true
    ∧ frLast (fr 0x31 []) = true := by decide +kernel

/-- A cutting message of set 0, one entry with a flat copy in the granary. -/
def onMsg : State :=
  (onCut [{ tenant := 0, net := 0, layer := 0, kind := 0, cset := 0, addr := 0x800, alt := 0x900, bytes := 48, stock := 0 }]).modLink
    (fun l => { l with cut := some ⟨0, 48, []⟩, rx := [fr 0x31 [1, 2, 3]] })

theorem wit_a_flat_copy : (onMsg.csetEntries 0).length = 1 ∧ ((onMsg.csetEntries 0).all fun e => (onMsg.cutLayer e).isSome && !onMsg.cutExpands e && decide (0 + 48 ≤ e.bytes)) = true
    ∧ onMsg.cutClosed 0 = false ∧ frontFrame onMsg 0x31 (fr 0x31 [1, 2, 3]) := by
  unfold frontFrame
  decide +kernel

/-- The eviction of tile 7 is under way. -/
def onEvict : State := (setTile 0 2 (onRx [fr 0x37 [7]])).modLink (fun l => { l with evict := some ⟨0, true, false, [1, 2]⟩ })

theorem wit_the_tiles : (onLink 7).tileMine 7 = some (0, ⟨7, 0, 0x1000, 0x40000⟩) ∧ (onLink 7).tileMine 9 = none ∧ (onLink 7).tileOf 9 = some (1, ⟨9, 1, 0x2000, 0⟩)
    ∧ (onLink 7).takes 0 R.TRL_TILE_CMD 0x40000007#32 = true ∧ fieldGet 0x40000007#32 30 2 = 1 ∧ (onLink 7).tileState 0 = 1 ∧ (onLink 7).link.evict = none
    ∧ (onLink 7).takes 1 R.TRL_TILE_CMD 0x80000007#32 = true ∧ (setTile 0 3 (onLink 7)).tileState 0 = 3 := by decide +kernel
theorem wit_an_eviction : onEvict.link.evict = some ⟨0, true, false, [1, 2]⟩ ∧ (onEvict.link.tiles[(0 : Nat)]?).any (fun e => e.tile == leAt (fr 0x37 [7]) 12 2) = true
    ∧ (onEvict.link.tiles[(0 : Nat)]?).any (fun e => e.tile == leAt (fr 0x37 [9]) 12 2) = false := by decide +kernel
/-- R361: with the silo write ended, the acknowledgement makes the tile SILO. -/
theorem test_an_eviction_ends : (nxt .evnAck onEvict).tileState 0 = 3 ∧ (nxt .evictionSiloWriteEnd onEvict).tileState 0 = 2
    ∧ (nxt .evnAck (onEvict.modLink (fun l => { l with evict := some ⟨0, false, false, [1, 2]⟩ }))).tileState 0 = 2 := by decide +kernel
theorem wit_a_fetch :
    let s := (onRx [fr 0x35 [9]]).modLink (fun l => { l with fetches := [⟨0, 2, 9⟩] })
    s.link.fetches.find? (fun f => f.id == leAt (fr 0x35 [9]) 19 1 && f.tile == leAt (fr 0x35 [9]) 12 2) = some ⟨0, 2, 9⟩ ∧ s.tileOf (leAt (fr 0x35 [9]) 12 2) ≠ none
    ∧ frLast (fr 0x35 [9]) = true := by decide +kernel
theorem wit_absent_and_evicted : (⟨9, 1, 0x2000, 0⟩ : TileEnt).owner ≠ (onLink 7).roleBit ∧ (⟨7, 0, 0x1000, 0x40000⟩ : TileEnt).owner = (onLink 7).roleBit
    ∧ [(⟨4, 2, 9⟩ : Fetch)].find? (fun f => f.id == leAt (fr 0x38 [9, 0, 0, 0, 4]) 16 1 && f.tile == leAt (fr 0x38 [9, 0, 0, 0, 4]) 12 2) = some ⟨4, 2, 9⟩ := by decide +kernel
/-- R363: an eviction notice makes the borrowed copy STALE. -/
theorem test_a_notice_makes_the_copy_stale : (nxt .evn (onRx [fr 0x36 [9]])).tileState 1 = 9
    ∧ ((nxt .evn (onRx [fr 0x36 [9]])).link.txq.get 3).map (fun f => f.typ) = [0x37] := by decide +kernel

/-! ## Worked numbers -/

/-- Chapter 05's example: M_LIM 0.896 is 58 720. -/
theorem test_the_modulation_limit :
    (put on [(F.PWM_PER_PER 0, 20000), (F.SNS_CFG_N_ACQ_SH 0, 16), (F.SNS_CFG_GAIN 0, 1), (F.PWM_DT_CFG_DT_MAX 0, 6400)]).mlim 0 = 58720 := by decide +kernel
/-- Chapter 06's example: the high sides fall 115 840 fine units into the period of 4000 LCLK cycles. -/
theorem test_the_anchor : (put on [(F.PWM_PER_PER 0, 4000), (F.SNS_CFG_GAIN 0, 1), (F.PWM_DT_CFG_DT_MAX 0, 2560)]).anchor 0 = 115840 := by decide +kernel
/-- Table PWM-11. -/
theorem test_the_compares : placeDuty 4000 115840 100015 = (0x110001EE#32, 0x00000E24#32) ∧ placeDuty 4000 115840 40017 = (0x0F000941#32, 0x00000E24#32)
    ∧ placeDuty 4000 115840 51968 = (0x000007CC#32, 0x00000E24#32) := by decide +kernel
/-- Chapter 12's example: codes 1200, −400 and −800 give β = 0x4366F0AB. -/
theorem test_the_currents_transform : (clarke (fpOfNat 1200) (fpNeg (fpOfNat 400)) (fpNeg (fpOfNat 800))).2 = 0x4366F0AB#32 := by decide +kernel
/-- Table SNS-9: 125 000 cycles high of 400 000 are VALUE 20 480. -/
theorem test_a_duty_command :
    bitsOf ((cmdMeasure 0 (.duty 125000 400000) (putReg (put on [(F.SNS_CMD_CFG_FORM 0, 1)]) [(R.SNS_CMD_PMIN 0, 200000#32), (R.SNS_CMD_PMAX 0, 800000#32)])).sense.get 0).cmd.toNat 0 16
      = 20480 := by decide +kernel
/-- Chapter 01's example: STEP 1234 lies at position 14 of its frame. -/
theorem test_the_position_in_the_frame : ({ put on [(F.PCR_SCHED_K, 20)] with step := 1234 } : State).perInFrame = 14 := by decide +kernel

end Sys2Proof.Tests
end

section
/-! The actions of the rules that fire (R83 to R85): a safety demand, a wake, an event and the log write registers of their own,
and leave the scan and the counters of the rules as they are. -/

namespace Sys2Proof.Machine

namespace State

variable {s0 s : State} {l : List Nat}

theorem regsBut.modSaf (h : s0.regsBut s l) (f : SafSt → SafSt) : s0.regsBut (s.modSaf f) l := h.same rfl
theorem regsBut.modPow (h : s0.regsBut s l) (f : PowSt → PowSt) : s0.regsBut (s.modPow f) l := h.same rfl
theorem regsBut.modScw (h : s0.regsBut s l) (f : ScwSt → ScwSt) : s0.regsBut (s.modScw f) l := h.same rfl

end State

theorem regsBut_driveOff (a : Fin 4) (s : State) : s.regsBut (driveOff a s) safeRegs := by
  have hk : R.LPE_DRV_STAT a ∈ safeRegs := by fin_cases a <;> decide
  unfold driveOff
  extract_lets off run s1
  have h1 : s.regsBut s1 safeRegs := (State.regsBut_refl s _).same rfl
  clear_value s1
  exact ((h1.setFld (F.LPE_DRV_STAT_STATE a) 0 hk).setFld (F.LPE_DRV_STAT_FAULT a) 0 hk).setFlag (F.LPE_DRV_STAT_INJ_ON a) false hk

theorem regsBut_auxKillOne (j : Nat) (s : State) : s.regsBut (auxKillOne j s) safeRegs := by
  unfold auxKillOne
  extract_lets due s1 s2
  have h1 : s.regsBut s1 safeRegs :=
    (((State.regsBut_refl s _).setBit F.AUX_REQ_REQ j false (by decide)).setBit F.AUX_STAT_LSD_ON j false (by decide)).setBit
      F.AUX_FLAG_KILLED j true (by decide)
  clear_value s1
  have h2 : s.regsBut s2 safeRegs := h1.same rfl
  clear_value s2
  exact .ite (.ite (h2.setBit F.AUX_STAT_DELAY (j / 2) false (by decide)) h2) (State.regsBut_refl s _)

theorem regsBut_auxKillNow (s : State) : s.regsBut (auxKillNow s) safeRegs := by
  unfold auxKillNow
  refine .ite (State.regsBut_refl s _) (.each (fun x j _ hx => ?_) (State.regsBut_refl s _))
  split
  · exact hx.trans (regsBut_auxKillOne j x)
  · exact hx

theorem linkQueue_regs (v : Fin 4) (typ : Nat) (first last : Bool) (pay : List Byte) (s : State) :
    (linkQueue v typ first last pay s).regs = s.regs := by
  unfold linkQueue linkQueueAt
  split <;> rfl

/-- The entry into the safe state, up to the frame that it queues for the twin. -/
theorem regsBut_enterSafe {s0 s : State} (h : s0.regsBut s safeRegs) (n : Nat) (f : SafSt → SafSt) (g : PowSt → PowSt) :
    s0.regsBut (auxKillNow ((((((s.setFld F.SAF_CAUSE_CAUSE n).setFlag F.SAF_STAT_SAFE true).each allAxes
      (fun s a => driveOff a s)).modSaf f).setFld F.SAF_REL_STAT_HALF 0).modPow g)) safeRegs := by
  have hoff : s0.regsBut (((s.setFld F.SAF_CAUSE_CAUSE n).setFlag F.SAF_STAT_SAFE true).each allAxes (fun s a => driveOff a s)) safeRegs :=
    ((h.setFld _ _ (by decide)).setFlag _ _ (by decide)).each fun x a _ hx => hx.trans (regsBut_driveOff a x)
  exact .trans (((hoff.modSaf f).setFld F.SAF_REL_STAT_HALF 0 (by decide)).modPow g) (regsBut_auxKillNow _)

theorem regsBut_safeDemand (c : Nat) (s : State) : s.regsBut (safeDemand c s) safeRegs := by
  unfold safeDemand
  dsimp only
  have h0 : s.regsBut (if c = 1 ∨ c = 2 then s.modSaf (fun f => { f with resetOnly := true }) else s) safeRegs :=
    .ite ((State.regsBut_refl s _).same rfl) (State.regsBut_refl s _)
  refine .ite (h0.setBit _ _ _ (by decide)) (.ite ?_ (regsBut_enterSafe h0 _ _ _))
  exact ((regsBut_enterSafe h0 _ _ _).setFlag F.TRL_STAT_PS_O _ (by decide)).same (linkQueue_regs ..)

/-- The registers of a wake. -/
def wakeRegs : List Nat := [R.PCR_WAKE, R.PCR_SLEEP, R.PCR_PWR_STATE]

theorem pd3Begin_regs (s : State) : (pd3Begin s).regs = s.regs := by
  unfold pd3Begin
  split <;> rfl

theorem regsBut_wakeStart (src rule : Nat) (noPd3 : Bool) (s : State) : s.regsBut (wakeStart src rule noPd3 s) wakeRegs := by
  have h2 : s.regsBut (setPd 5 true (setPd 2 true (setPwr 11 ((s.setFld F.PCR_WAKE_SRC src).setFld F.PCR_WAKE_RULE rule)))) wakeRegs :=
    (((((State.regsBut_refl s _).setFld _ _ (by decide)).setFld _ _ (by decide)).setFld F.PCR_PWR_STATE_STATE 11 (by decide)).setBit
      F.PCR_PWR_STATE_PD_ON 2 true (by decide)).setBit F.PCR_PWR_STATE_PD_ON 5 true (by decide)
  unfold wakeStart
  dsimp only
  exact .ite (h2.same (pd3Begin_regs _)) (h2.same rfl)

theorem regsBut_wakeCause (src rule : Nat) (noPd3 : Bool) (s : State) : s.regsBut (wakeCause src rule noPd3 s) wakeRegs := by
  have h0 := State.regsBut_refl s wakeRegs
  unfold wakeCause
  refine .ite ?_ (.ite (regsBut_wakeStart _ _ _ _) h0)
  exact ((h0.setFld F.PCR_SLEEP_REJ 3 (by decide)).setFld F.PCR_PWR_STATE_STATE 7 (by decide)).same rfl

/-- The registers that the actions of rules may write. -/
def actRegs : List Nat := [R.SCW_FIRED, R.SCW_LOG_STAT, R.PCR_WAKE, R.PCR_SLEEP, R.PCR_PWR_STATE] ++ safeRegs ++ eventRegs

theorem actRegs_apart : ∀ k ∈ actRegs, k < 0x10100 ∨ 0x10190 ≤ k := by decide

/-- `t` differs from `s` by actions of rules: neither the scan nor the counters of the rules change. -/
structure Acted (s t : State) : Prop where
  regs : s.regsBut t actRegs
  rules : t.scw.rules = s.scw.rules
  slot : t.scw.slot = s.scw.slot

namespace Acted

variable {s t u : State}

theorem refl (s : State) : Acted s s := ⟨State.regsBut_refl s _, rfl, rfl⟩

theorem trans (h : Acted s t) (h' : Acted t u) : Acted s u :=
  ⟨h.regs.trans h'.regs, h'.rules.trans h.rules, h'.slot.trans h.slot⟩

/-- Actions that leave Scarecrow as it is. -/
theorem of_scw (hr : s.regsBut t actRegs) (h : t.scw = s.scw) : Acted s t := ⟨hr, by rw [h], by rw [h]⟩

theorem each {α : Type} {f : State → α → State} (hf : ∀ x a, Acted x (f x a)) (l : List α) (s : State) : Acted s (s.each l f) := by
  unfold State.each
  induction l generalizing s with
  | nil => exact refl s
  | cons a l ih => exact (hf s a).trans (ih _)

end Acted

theorem acted_raise (src pay : Nat) (s : State) : Acted s (raise src pay s) :=
  .of_scw ((served_raise (.refl s) src pay).regs.mono (by simp +contextual [actRegs]))
    ((near_raise (l := 0x3025d) rfl (.refl _ s) src pay).same .scw rfl)

theorem acted_safeDemand (c : Nat) (s : State) : Acted s (safeDemand c s) :=
  .of_scw ((regsBut_safeDemand c s).mono (by simp +contextual [actRegs]))
    ((near_safeDemand (l := 0xc09041) rfl (.refl _ s) c).same .scw rfl)

theorem acted_wakeCause (src rule : Nat) (noPd3 : Bool) (s : State) : Acted s (wakeCause src rule noPd3 s) :=
  .of_scw ((regsBut_wakeCause src rule noPd3 s).mono (by decide))
    ((near_wakeCause (l := 0x18001) rfl (.refl _ s) src rule noPd3).same .scw rfl)

theorem acted_logPut (e : LogEntry) (s : State) : Acted s (logPut e s) := by
  unfold logPut
  split
  · exact ⟨(State.regsBut_refl s _).same rfl, rfl, rfl⟩
  · exact .of_scw ((State.regsBut_refl s _).bump _ _ (by decide)) rfl

theorem acted_rulesFire (l : List (Nat × Nat)) (s : State) : Acted s (rulesFire l s) := by
  unfold rulesFire
  extract_lets acts safe s' s1
  have h1 : Acted s s1 := .each (fun x e => by
    extract_lets x1 x2
    have hx1 : Acted x x1 := .of_scw ((State.regsBut_refl x _).setBit _ _ _ (by decide)) rfl
    have hx2 : Acted x x2 := by
      unfold x2
      split
      · exact hx1.trans (acted_logPut ..)
      · exact hx1
    split
    · exact hx2.trans (acted_raise ..)
    · exact hx2) l s
  clear_value s1
  split
  · exact h1.trans (acted_safeDemand 0 s1)
  · split
    · exact h1
    · split
      · exact h1
      · exact h1.trans (acted_wakeCause ..)

end Sys2Proof.Machine
end

section
/-! The filters in a tick (R77): each unit of `filtersRun` by itself, and what the units below a bound have done. -/

namespace Sys2Proof.Machine

/-! ## The filters -/

/-- Filter unit `i` takes the output of the unit before it. -/
def State.filtChained (s : State) (i : Nat) : Bool := s.flag (F.SCW_FILT_CHAIN i) && i != 0

/-- The value at the input of filter unit `i` where its channel has just taken `v`. -/
def State.filtInput (s : State) (v i : Nat) : Nat := if s.filtChained i then s.fld (F.SCW_FVAL_VALUE (i - 1)) else v

/-- The taps of filter unit `i` once it has taken `x`. -/
def State.filtTaps (s : State) (i x : Nat) : List Int :=
  filtStep (s.flag (F.SCW_FILT_TYPE i)) (s.fld (F.SCW_FILT_SHIFT i)) x (s.scw.filt.getD i {}).taps

/-- The value of filter unit `i` once it has taken `x`. -/
def State.filtValue (s : State) (i x : Nat) : Nat := wrapBits 16 (filtOut (s.flag (F.SCW_FILT_TYPE i)) (s.filtTaps i x))

/-- One unit of `filtersRun`. -/
def filtUnit (chan v : Nat) (x : List Nat × State) (i : Nat) : List Nat × State :=
  if x.2.flag (F.SCW_FILT_EN i)
      && (if x.2.filtChained i then x.1.contains (0x18 + i - 1) else x.2.fld (F.SCW_FILT_CHAN i) == chan) then
    (x.1 ++ [0x18 + i],
      (x.2.modScw (fun w => { w with filt := setAt w.filt i ⟨x.2.filtTaps i (x.2.filtInput v i)⟩ })).setFld (F.SCW_FVAL_VALUE i)
        (x.2.filtValue i (x.2.filtInput v i)))
  else x

theorem filtersRun_eq_foldl (chan v : Nat) (s : State) :
    filtersRun chan v s = (List.range 4).foldl (filtUnit chan v) ([chan], s) := rfl

theorem wrapBits_lt (w : Nat) (v : Int) : wrapBits w v < 2 ^ w := by
  have hp : (0 : Int) < 2 ^ w := by positivity
  have h0 := Int.emod_nonneg v hp.ne'
  have h1 := Int.emod_lt_of_pos v hp
  unfold wrapBits
  zify
  omega

theorem wrapBits_of_lt {w n : Nat} (h : n < 2 ^ w) : wrapBits w (n : Int) = n := by
  unfold wrapBits
  rw [Int.emod_eq_of_lt (by positivity) (by exact_mod_cast h), Int.toNat_natCast]

/-- R77: the first value passes; an IIR moves by the shifted difference, an MA8 is the mean of the last eight values. -/
theorem State.filtValue_eq (s : State) (i : Nat) {x : Nat} (hx : x < 2 ^ 16) :
    s.filtValue i x =
      if s.flag (F.SCW_FILT_TYPE i) = true then
        (match (s.scw.filt.getD i {}).taps with
         | [] => x
         | _ => wrapBits 16 (((x : Int) :: (s.scw.filt.getD i {}).taps.take 7).foldl (· + ·) 0 / 8))
      else match (s.scw.filt.getD i {}).taps with
        | [] => x
        | y :: _ => wrapBits 16 (y + (x - y) / 2 ^ s.fld (F.SCW_FILT_SHIFT i)) := by
  unfold State.filtValue State.filtTaps
  generalize (s.scw.filt.getD i {}).taps = taps
  cases s.flag (F.SCW_FILT_TYPE i)
  case false =>
    cases taps with
    | nil => simp [filtOut, filtStep, wrapBits_of_lt hx]
    | cons y r => simp [filtOut, filtStep, wrapBits_of_lt (wrapBits_lt 16 _)]
  case true =>
    cases taps with
    | nil =>
      have h8 : (List.replicate 8 (x : Int)).foldl (· + ·) 0 / 8 = (x : Int) := by
        simp only [List.replicate, List.foldl_cons, List.foldl_nil]
        omega
      simp only [filtOut, filtStep, if_true, h8, wrapBits_of_lt hx]
    | cons y r => simp [filtOut, filtStep]

theorem filtDue_eq (s : State) (c i : Nat) :
    filtDue s c i = (s.flag (F.SCW_FILT_EN i) && if s.filtChained i then filtDue s c (i - 1) else s.fld (F.SCW_FILT_CHAN i) == c) := by
  cases i <;> simp [filtDue, State.filtChained]

/-- What the filter units below `n` leave of `s` in the tick in which channel `chan` takes `v`: `x` holds the sources updated so far
and the state. -/
structure Filtered (chan v n : Nat) (s : State) (x : List Nat × State) : Prop where
  regs : s.regsBut x.2 ((List.range n).map R.SCW_FVAL)
  scw : ∃ l, x.2.scw = { s.scw with filt := l } ∧ ∀ i, n ≤ i → l.getD i {} = s.scw.filt.getD i {}
  upd : ∀ k, k ∈ x.1 ↔ k = chan ∨ ∃ i < n, k = 0x18 + i ∧ filtDue s chan i = true
  val : ∀ i < n, x.2.fld (F.SCW_FVAL_VALUE i) =
    if filtDue s chan i then s.filtValue i (x.2.filtInput v i) else s.fld (F.SCW_FVAL_VALUE i)

namespace Filtered

variable {chan v n : Nat} {s : State} {x : List Nat × State}

theorem init (chan v : Nat) (s : State) : Filtered chan v 0 s ([chan], s) where
  regs := State.regsBut_refl s _
  scw := ⟨_, rfl, fun _ _ => rfl⟩
  upd := by simp
  val := by simp

/-- The configuration of a unit lies apart from the filters' values. -/
theorem filt_apart (n i : Nat) (hi : i < 4) : R.SCW_FILT i ∉ (List.range n).map R.SCW_FVAL := by
  simp [R.SCW_FILT, R.SCW_FVAL]
  omega

theorem chained (h : Filtered chan v n s x) {i : Nat} (hi : i < 4) : x.2.filtChained i = s.filtChained i := by
  unfold State.filtChained
  rw [h.regs.flag (filt_apart n i hi)]

/-- The unit whose turn it is takes a value where `filtDue` says so. -/
theorem due (h : Filtered chan v n s x) (hc : chan < 0x18) (hn : n < 4) :
    (x.2.flag (F.SCW_FILT_EN n)
      && (if x.2.filtChained n then x.1.contains (0x18 + n - 1) else x.2.fld (F.SCW_FILT_CHAN n) == chan)) = filtDue s chan n := by
  rw [filtDue_eq, h.chained hn, h.regs.flag (filt_apart n n hn), h.regs.fld (f := F.SCW_FILT_CHAN n) (filt_apart n n hn)]
  congr 1
  split
  · rename_i hch
    have hn0 : n ≠ 0 := by simp [State.filtChained] at hch; exact hch.2
    rw [Bool.eq_iff_iff, List.contains_iff_mem, h.upd]
    constructor
    · rintro (hk | ⟨i, hi, hk, hd⟩)
      · omega
      · rwa [show n - 1 = i by omega]
    · exact fun hd => .inr ⟨n - 1, by omega, by omega, hd⟩
  · rfl

theorem filtValue_eq (h : Filtered chan v n s x) (hn : n < 4) (i : Nat) : x.2.filtValue n i = s.filtValue n i := by
  obtain ⟨l, hl, hs⟩ := h.scw
  unfold State.filtValue State.filtTaps
  rw [h.regs.flag (filt_apart n n hn), h.regs.fld (f := F.SCW_FILT_SHIFT n) (filt_apart n n hn), hl, hs n le_rfl]

/-- A later write of unit `n` leaves the input of the units up to `n`. -/
theorem input_setFld (s : State) (v n w : Nat) {i : Nat} (hi : i ≤ n) :
    (s.setFld (F.SCW_FVAL_VALUE n) w).filtInput v i = s.filtInput v i := by
  unfold State.filtInput State.filtChained State.flag
  rw [State.fld_setFld_other s (g := F.SCW_FILT_CHAIN i) w (by simp [F.SCW_FILT_CHAIN, F.SCW_FVAL_VALUE, R.SCW_FILT, R.SCW_FVAL]; omega)]
  split
  · rename_i h
    have hi0 : i ≠ 0 := by simp at h; exact h.2
    exact State.fld_setFld_other s w (by simp [F.SCW_FVAL_VALUE, R.SCW_FVAL]; omega)
  · rfl

theorem step (h : Filtered chan v n s x) (hc : chan < 0x18) (hn : n < 4) : Filtered chan v (n + 1) s (filtUnit chan v x n) := by
  have hsub : ∀ k ∈ (List.range n).map R.SCW_FVAL, k ∈ (List.range (n + 1)).map R.SCW_FVAL := by
    simp only [List.mem_map, List.mem_range]
    rintro k ⟨i, hi, rfl⟩
    exact ⟨i, by omega, rfl⟩
  have hmem : R.SCW_FVAL n ∈ (List.range (n + 1)).map R.SCW_FVAL := List.mem_map.2 ⟨n, by simp, rfl⟩
  have hold : x.2.fld (F.SCW_FVAL_VALUE n) = s.fld (F.SCW_FVAL_VALUE n) :=
    h.regs.fld (by simp [F.SCW_FVAL_VALUE, R.SCW_FVAL])
  have hupd : ∀ k, (k ∈ x.1 ∨ k = 0x18 + n ∧ filtDue s chan n = true)
      ↔ k = chan ∨ ∃ i < n + 1, k = 0x18 + i ∧ filtDue s chan i = true := by
    intro k
    rw [h.upd, or_assoc]
    simp only [Nat.lt_succ_iff_lt_or_eq, or_and_right, exists_or, exists_eq_left]
  unfold filtUnit
  rw [h.due hc hn]
  cases hd : filtDue s chan n
  case false =>
    refine ⟨h.regs.mono hsub, ?_, fun k => by simpa [hd] using hupd k, fun i hi => ?_⟩
    · obtain ⟨l, hl, hs⟩ := h.scw
      exact ⟨l, hl, fun i hi => hs i (by omega)⟩
    · rcases Nat.lt_succ_iff_lt_or_eq.1 hi with hi | rfl
      · exact h.val i hi
      · simpa [hd] using hold
  case true =>
    refine ⟨((h.regs.mono hsub).modScw _).setFld _ _ hmem, ?_, fun k => by simpa [hd] using hupd k, fun i hi => ?_⟩
    · obtain ⟨l, hl, hs⟩ := h.scw
      refine ⟨l.set n ⟨x.2.filtTaps n (x.2.filtInput v n)⟩, by simp [hl, setAt], fun i hi => ?_⟩
      rw [← hs i (by omega), List.getD_eq_getElem?_getD, List.getElem?_set_ne (by omega), ← List.getD_eq_getElem?_getD]
    · rw [if_pos rfl, input_setFld _ v n _ (by omega)]
      rcases Nat.lt_succ_iff_lt_or_eq.1 hi with hi | rfl
      · rw [State.fld_setFld_other _ _ (by simp [F.SCW_FVAL_VALUE, R.SCW_FVAL]; omega)]
        exact h.val i hi
      · rw [State.fld_setFld_same _ _ (by simp [F.SCW_FVAL_VALUE]), hd, if_pos rfl, h.filtValue_eq hn]
        exact Nat.mod_eq_of_lt (wrapBits_lt 16 _)

theorem foldl_range (chan v : Nat) (s : State) (hc : chan < 0x18) {n : Nat} (hn : n ≤ 4) :
    Filtered chan v n s ((List.range n).foldl (filtUnit chan v) ([chan], s)) := by
  induction n with
  | zero => exact init chan v s
  | succ n ih =>
    rw [List.range_succ, List.foldl_append]
    exact (ih (by omega)).step hc hn

end Filtered

/-- R77: the filters run in order, each that is due in the tick taking its value. -/
theorem filtered_filtersRun (chan v : Nat) (s : State) (hc : chan < 0x18) : Filtered chan v 4 s (filtersRun chan v s) :=
  Filtered.foldl_range chan v s hc le_rfl

end Sys2Proof.Machine
end

section
/-! The rules in a tick (R79 to R81): a rule changes its own counters alone, by laws of their own for each kind. -/

namespace Sys2Proof.Machine

/-! ## The rules -/

/-- The counters of rule `r` once it has evaluated the value `v`. -/
def State.ruleNext (s : State) (r v : Nat) : RuleSt :=
  if (!s.flag (F.SCW_RULE_A_EN r) || s.fld (F.SCW_RULE_A_KIND r) == 3) = true then s.rule r
  else if (s.fld (F.SCW_RULE_A_ARM r)).testBit s.armBit = false then { fired := (s.rule r).fired, back := (s.rule r).back }
  else if s.fld (F.SCW_RULE_A_KIND r) = 2 then
    (ruleAbsent (decide (s.fld (F.SCW_RULE_B_THRESH r) < v)) (max 1 (s.fld (F.SCW_RULE_A_PERSIST r))) (s.rule r)).1
  else
    (ruleLevel (if s.fld (F.SCW_RULE_A_KIND r) = 0 then decide (s.fld (F.SCW_RULE_B_THRESH r) < v)
        else decide (v < s.fld (F.SCW_RULE_B_THRESH r)))
      (max 1 (s.fld (F.SCW_RULE_A_PERSIST r))) (s.fld (F.SCW_RULE_B_REARM r)) (s.rule r)).1

/-- The state with other counters of the rules. -/
def State.withRules (s : State) (m : SMap RuleSt) : State := s.modScw (fun w => { w with rules := m })

theorem rule_withRules_put (s : State) (m : SMap RuleSt) (r j : Nat) (q : RuleSt) :
    (s.withRules (SMap.put {} m r q)).rule j = if j = r then q else (s.withRules m).rule j := SMap.get_put ..

/-- An evaluation changes the counters of its rule alone. -/
theorem ruleEval_eq (r v : Nat) (s : State) :
    ∃ m, (ruleEval r v s).2 = s.withRules m ∧ ∀ j, (s.withRules m).rule j = if j = r then s.ruleNext r v else s.rule j := by
  have hput : ∀ q, s.ruleNext r v = q → ∀ j, (s.withRules (SMap.put {} s.scw.rules r q)).rule j = if j = r then s.ruleNext r v else s.rule j :=
    fun q hq j => by rw [rule_withRules_put, hq]; rfl
  unfold ruleEval
  dsimp only
  split
  · rename_i h
    refine ⟨s.scw.rules, rfl, fun j => ?_⟩
    rw [State.ruleNext, if_pos h]
    split
    · rename_i hj; rw [hj]; rfl
    · rfl
  · rename_i h
    split
    · rename_i ha
      exact ⟨_, rfl, hput _ (by rw [State.ruleNext, if_neg h, if_pos (by simpa using ha)])⟩
    · rename_i ha
      refine ⟨_, rfl, hput _ ?_⟩
      rw [State.ruleNext, if_neg h, if_neg (by simpa using ha)]
      split <;> rfl

/-- One rule of `rulesRun`. -/
def ruleTurn (upd : List Nat) (x : List (Nat × Nat) × State) (r : Nat) : List (Nat × Nat) × State :=
  let src := x.2.fld (F.SCW_RULE_A_SRC r)
  if upd.contains src then
    let v := x.2.ruleSource src
    let y := ruleEval r v x.2
    (if y.1 then x.1 ++ [(r, v)] else x.1, y.2)
  else x

theorem rulesRun_eq_foldl (upd : List Nat) (s : State) : rulesRun upd s = (List.range 32).foldl (ruleTurn upd) ([], s) := rfl

/-- The counters of rule `r` after a tick that updates the sources `upd`. -/
def State.ruleAfter (s : State) (upd : List Nat) (r : Nat) : RuleSt :=
  if upd.contains (s.fld (F.SCW_RULE_A_SRC r)) = true then s.ruleNext r (s.ruleSource (s.fld (F.SCW_RULE_A_SRC r))) else s.rule r

/-- A rule's turn changes the counters of that rule alone. -/
theorem ruleTurn_eq (upd : List Nat) (x : List (Nat × Nat) × State) (r : Nat) :
    ∃ m, (ruleTurn upd x r).2 = x.2.withRules m
      ∧ ∀ j, (x.2.withRules m).rule j = if j = r then x.2.ruleAfter upd r else x.2.rule j := by
  unfold ruleTurn State.ruleAfter
  dsimp only
  split
  · exact ruleEval_eq ..
  · refine ⟨x.2.scw.rules, rfl, fun j => ?_⟩
    split
    · rename_i hj; rw [hj]; rfl
    · rfl

/-- What rule `r` does depends on no other rule's counters. -/
theorem ruleAfter_withRules (s : State) (m : SMap RuleSt) (upd : List Nat) (r : Nat) (h : (s.withRules m).rule r = s.rule r) :
    (s.withRules m).ruleAfter upd r = s.ruleAfter upd r := by
  unfold State.ruleAfter State.ruleNext
  rw [h]
  rfl

theorem ruleTurns_eq (upd : List Nat) (s : State) (n : Nat) :
    ∃ m, ((List.range n).foldl (ruleTurn upd) ([], s)).2 = s.withRules m
      ∧ ∀ j, (s.withRules m).rule j = if j < n then s.ruleAfter upd j else s.rule j := by
  induction n with
  | zero => exact ⟨s.scw.rules, rfl, fun j => rfl⟩
  | succ n ih =>
    obtain ⟨m, hm, hr⟩ := ih
    rw [List.range_succ, List.foldl_append]
    obtain ⟨m', hm', hr'⟩ := ruleTurn_eq upd ((List.range n).foldl (ruleTurn upd) ([], s)) n
    rw [hm] at hm' hr'
    refine ⟨m', hm', fun j => (hr' j).trans ?_⟩
    rw [ruleAfter_withRules s m upd n (by rw [hr, if_neg (by omega)]), hr]
    rcases Nat.lt_trichotomy j n with h | rfl | h
    · rw [if_neg (by omega), if_pos h, if_pos (by omega)]
    · rw [if_pos rfl, if_pos (by omega)]
    · rw [if_neg (by omega), if_neg (by omega), if_neg (by omega)]

theorem rulesRun_eq (upd : List Nat) (s : State) :
    ∃ m, (rulesRun upd s).2 = s.withRules m ∧ ∀ r < 32, (s.withRules m).rule r = s.ruleAfter upd r := by
  obtain ⟨m, hm, hr⟩ := ruleTurns_eq upd s 32
  exact ⟨m, hm, fun r h => by rw [hr, if_pos h]⟩

/-! ## Laws of one rule -/

section

variable {s : State} {r : Nat}

theorem ruleNext_off (h : s.flag (F.SCW_RULE_A_EN r) = false ∨ s.fld (F.SCW_RULE_A_KIND r) = 3) (v : Nat) : s.ruleNext r v = s.rule r :=
  if_pos (by simpa using h)

theorem ruleNext_unarmed (he : s.flag (F.SCW_RULE_A_EN r) = true) (hk : s.fld (F.SCW_RULE_A_KIND r) ≠ 3)
    (ha : (s.fld (F.SCW_RULE_A_ARM r)).testBit s.armBit = false) (v : Nat) :
    s.ruleNext r v = { fired := (s.rule r).fired, back := (s.rule r).back } := by
  rw [State.ruleNext, if_neg (by simp [he, hk]), if_pos ha]

theorem ruleNext_absent (he : s.flag (F.SCW_RULE_A_EN r) = true) (hk : s.fld (F.SCW_RULE_A_KIND r) = 2)
    (ha : (s.fld (F.SCW_RULE_A_ARM r)).testBit s.armBit ≠ false) (v : Nat) :
    s.ruleNext r v
      = (ruleAbsent (decide (s.fld (F.SCW_RULE_B_THRESH r) < v)) (max 1 (s.fld (F.SCW_RULE_A_PERSIST r))) (s.rule r)).1 := by
  rw [State.ruleNext, if_neg (by simp [he, hk]), if_neg ha, if_pos hk]

theorem ruleNext_level (he : s.flag (F.SCW_RULE_A_EN r) = true) (hk : s.fld (F.SCW_RULE_A_KIND r) ≠ 3)
    (hk2 : s.fld (F.SCW_RULE_A_KIND r) ≠ 2) (ha : (s.fld (F.SCW_RULE_A_ARM r)).testBit s.armBit ≠ false) (v : Nat) :
    s.ruleNext r v = (ruleLevel (decide (if s.fld (F.SCW_RULE_A_KIND r) = 0 then s.fld (F.SCW_RULE_B_THRESH r) < v
        else v < s.fld (F.SCW_RULE_B_THRESH r)))
      (max 1 (s.fld (F.SCW_RULE_A_PERSIST r))) (s.fld (F.SCW_RULE_B_REARM r)) (s.rule r)).1 := by
  rw [State.ruleNext, if_neg (by simp [he, hk]), if_neg ha, if_neg hk2]
  split <;> rfl

end

section

variable (p n : Nat) (q : RuleSt) (b : Bool)

/-- R80: a value on the other side than the one before is a crossing. -/
theorem ruleAbsent_crossing (h : q.side = some (!b)) : (ruleAbsent b p q).1 = { side := some b } := by
  cases b <;> simp [ruleAbsent, h]

/-- R80, R81: without a crossing the value counts. -/
theorem ruleAbsent_counts (h : q.side ≠ some (!b)) :
    (ruleAbsent b p q).1.side = some b ∧ (ruleAbsent b p q).1.fired = (q.fired || decide (p ≤ q.cnt + 1))
      ∧ (q.fired = false → (ruleAbsent b p q).1.cnt = if p ≤ q.cnt + 1 then 0 else q.cnt + 1) := by
  have hside : (q.side.isSome && q.side != some b) = false := by
    cases hq : q.side with
    | none => rfl
    | some c => cases b <;> cases c <;> simp_all
  unfold ruleAbsent
  rw [hside]
  cases hf : q.fired
  case true => simp
  case false => by_cases hp : p ≤ q.cnt + 1 <;> simp [hp]

/-- R79: a value beyond the threshold counts, and the count that reaches PERSIST fires; any other value clears the count. -/
theorem ruleLevel_counts (h : q.fired = false) (beyond : Prop) [Decidable beyond] :
    if beyond then
      (ruleLevel (decide beyond) p n q).1.fired = decide (p ≤ q.cnt + 1)
        ∧ (q.cnt + 1 < p → (ruleLevel (decide beyond) p n q).1.cnt = q.cnt + 1)
    else (ruleLevel (decide beyond) p n q).1.fired = false ∧ (ruleLevel (decide beyond) p n q).1.cnt = 0 := by
  by_cases hb : beyond
  · by_cases hp : p ≤ q.cnt + 1
    · simp [ruleLevel, h, hb, hp, hp.not_gt]
    · simp [ruleLevel, h, hb, hp]
  · simp [ruleLevel, h, hb]

/-- Chapter 04, "Rules": a LEVEL rule that has fired is rearmed by REARM values alone, and by none where REARM is 0. -/
theorem ruleLevel_rearmed (h : q.fired = true) (ht : (ruleLevel b p n q).1.fired = false) : n ≠ 0 ∧ n ≤ q.back + 1 := by
  by_contra hn
  cases b <;> simp [ruleLevel, h, hn] at ht

end

end Sys2Proof.Machine
end

section
/-! The end of a slot: the conversion, the filters, the rules, and the actions of those that fire, one after another. -/

namespace Sys2Proof.Machine

/-! ## The end of a slot -/

/-- The channel of the slot that ends. -/
def State.slotChan (s : State) : Nat := s.fld (F.SCW_SLOT_CHAN s.scw.slot)

/-- The value that a conversion gives the channel of the slot that ends. -/
def State.slotValue (s : State) (code : Nat) : Nat := if s.axisPresent (chanAxis s.slotChan) then code % 1024 * 64 else 0

/-- The slot's channel and the filters take their values: the sources updated, and the state. -/
def slotTake (code : Nat) (s : State) : List Nat × State :=
  if slotConverts s then
    filtersRun s.slotChan (s.slotValue code) (s.setFld (F.SCW_VAL_VALUE s.slotChan) (s.slotValue code))
  else ([], s)

/-- The sources that the rules of the tick evaluate. -/
def slotSources (code : Nat) (s : State) : List Nat :=
  if decide (s.nSlot ≤ s.scw.slot + 1) then (slotTake code s).1 ++ (List.range 8).map (fun k => 0x1C + k) else (slotTake code s).1

/-- The state that the rules of the tick find. -/
def slotScan (code : Nat) (s : State) : State :=
  (slotTake code s).2.modScw (fun w => { w with slot := if decide (s.nSlot ≤ s.scw.slot + 1) then 0 else s.scw.slot + 1 })

theorem slotEnd_off {s : State} (h : s.scwOn = false) (code : Nat) : slotEnd code s = s := by
  simp [slotEnd, h]

theorem slotEnd_on {s : State} (h : s.scwOn = true) (code : Nat) :
    slotEnd code s =
      if (rulesRun (slotSources code s) (slotScan code s)).1.isEmpty then (rulesRun (slotSources code s) (slotScan code s)).2
      else rulesFire (rulesRun (slotSources code s) (slotScan code s)).1 (rulesRun (slotSources code s) (slotScan code s)).2 := by
  have hconv : (!(List.range s.scw.slot).any (fun k => s.fld (F.SCW_SLOT_CHAN k) == s.slotChan) && decide (s.slotChan < 24))
      = slotConverts s := by
    rw [List.not_any_eq_all_not]
    rfl
  unfold slotEnd slotSources slotScan slotTake
  rw [← hconv, h]
  rfl

/-- The rules that fire act; no more happens after the rules' turn. -/
theorem slotEnd_spec {s : State} (h : s.scwOn = true) (code : Nat) :
    ∃ m, (∀ r < 32, ((slotScan code s).withRules m).rule r = (slotScan code s).ruleAfter (slotSources code s) r)
      ∧ Acted ((slotScan code s).withRules m) (slotEnd code s) := by
  obtain ⟨m, hm, hr⟩ := rulesRun_eq (slotSources code s) (slotScan code s)
  refine ⟨m, hr, ?_⟩
  rw [slotEnd_on h, ← hm]
  split
  · exact .refl _
  · exact acted_rulesFire ..

/-! ## What the slot's channel and the filters leave -/

theorem slotChan_lt (s : State) : s.slotChan < 32 := State.fld_lt s (F.SCW_SLOT_CHAN s.scw.slot)

theorem slotValue_lt (s : State) (code : Nat) : s.slotValue code < 2 ^ 16 := by
  unfold State.slotValue
  split <;> omega

theorem slotConverts_chan {s : State} (h : slotConverts s = true) : s.slotChan < 24 := by
  unfold slotConverts at h
  exact of_decide_eq_true (Bool.and_eq_true_iff.1 h).2

/-- The registers that a conversion and the filters may write. -/
def valueRegs (s : State) : List Nat := R.SCW_VAL s.slotChan :: (List.range 4).map R.SCW_FVAL

/-- The registers of the channels' and filters' values lie together. -/
theorem valueRegs_place {s : State} {k : Nat} (h : k ∈ valueRegs s) : 0x10100 ≤ k ∧ k < 0x10190 := by
  have hc := slotChan_lt s
  obtain rfl | ⟨i, hi, rfl⟩ : k = R.SCW_VAL s.slotChan ∨ ∃ i < 4, R.SCW_FVAL i = k := by simpa [valueRegs] using h
  · simp only [R.SCW_VAL]; omega
  · simp only [R.SCW_FVAL]; omega

theorem slotRegs_eq (s : State) : slotRegs s = valueRegs s ++ actRegs := rfl

theorem regsBut_slotTake (code : Nat) (s : State) : s.regsBut (slotTake code s).2 (valueRegs s) := by
  unfold slotTake
  split
  · rename_i h
    exact ((State.regsBut_refl s _).setFld _ _ (by simp [valueRegs, F.SCW_VAL_VALUE])).trans
      ((filtered_filtersRun s.slotChan _ _ (slotConverts_chan h)).regs.mono (by simp +contextual [valueRegs]))
  · exact State.regsBut_refl s _

section

variable (s : State) (v : Nat) {k : Nat} (hk : k < 24)
include hk

/-- A conversion leaves what is not a channel's value. -/
theorem fld_setVal {f : Fld} (hf : f.addr < 0x10100 ∨ 0x10180 ≤ f.addr) : (s.setFld (F.SCW_VAL_VALUE k) v).fld f = s.fld f :=
  State.fld_setFld_other s v (by simp only [F.SCW_VAL_VALUE, R.SCW_VAL]; omega)

theorem fld_filt_setVal {i : Nat} (hi : i < 4) (lo w : Nat) :
    (s.setFld (F.SCW_VAL_VALUE k) v).fld ⟨R.SCW_FILT i, lo, w⟩ = s.fld ⟨R.SCW_FILT i, lo, w⟩ :=
  fld_setVal s v hk (.inl (by simp only [R.SCW_FILT]; omega))

theorem filtDue_setVal (c : Nat) {i : Nat} (hi : i < 4) : filtDue (s.setFld (F.SCW_VAL_VALUE k) v) c i = filtDue s c i := by
  induction i with
  | zero =>
    unfold filtDue State.flag F.SCW_FILT_EN F.SCW_FILT_CHAN
    rw [fld_filt_setVal s v hk hi, fld_filt_setVal s v hk hi]
  | succ i ih =>
    unfold filtDue State.flag F.SCW_FILT_EN F.SCW_FILT_CHAN F.SCW_FILT_CHAIN
    rw [fld_filt_setVal s v hk hi, fld_filt_setVal s v hk hi, fld_filt_setVal s v hk hi, ih (by omega)]

theorem filtValue_setVal {i : Nat} (hi : i < 4) (x : Nat) : (s.setFld (F.SCW_VAL_VALUE k) v).filtValue i x = s.filtValue i x := by
  unfold State.filtValue State.filtTaps State.flag F.SCW_FILT_TYPE F.SCW_FILT_SHIFT
  rw [fld_filt_setVal s v hk hi, fld_filt_setVal s v hk hi, State.setFld_scw]

end

theorem filtered_slotTake {s : State} (h : slotConverts s = true) (code : Nat) :
    Filtered s.slotChan (s.slotValue code) 4 (s.setFld (F.SCW_VAL_VALUE s.slotChan) (s.slotValue code)) (slotTake code s) := by
  rw [slotTake, if_pos h]
  exact filtered_filtersRun _ _ _ (slotConverts_chan h)

theorem slotTake_off {s : State} (h : slotConverts s = false) (code : Nat) : slotTake code s = ([], s) := by
  rw [slotTake, if_neg (by simp [h])]

/-- R77, R78, R91: the channel takes its conversion. -/
theorem val_slotTake (code : Nat) (s : State) {k : Nat} (hk : k < 24) :
    (slotTake code s).2.fld (F.SCW_VAL_VALUE k) =
      if slotConverts s = true ∧ k = s.slotChan then s.slotValue code else s.fld (F.SCW_VAL_VALUE k) := by
  cases h : slotConverts s
  case false => simp [slotTake_off h]
  case true =>
    rw [(filtered_slotTake h code).regs.fld (by simp [F.SCW_VAL_VALUE, R.SCW_VAL, R.SCW_FVAL]; omega)]
    split
    · rename_i hc
      rw [hc.2, State.fld_setFld_same _ _ (by simp [F.SCW_VAL_VALUE])]
      exact Nat.mod_eq_of_lt (slotValue_lt s code)
    · rename_i hc
      exact State.fld_setFld_other _ _ (by simp [F.SCW_VAL_VALUE, R.SCW_VAL] at hc ⊢; omega)

/-- R77: the filters that the channel feeds take theirs. -/
theorem fval_slotTake (code : Nat) (s : State) {i : Nat} (hi : i < 4) :
    (slotTake code s).2.fld (F.SCW_FVAL_VALUE i) =
      if (slotConverts s && filtDue s s.slotChan i) = true then s.filtValue i ((slotTake code s).2.filtInput (s.slotValue code) i)
      else s.fld (F.SCW_FVAL_VALUE i) := by
  cases h : slotConverts s
  case false => simp [slotTake_off h]
  case true =>
    have hc := slotConverts_chan h
    rw [(filtered_slotTake h code).val i hi, filtDue_setVal s _ hc _ hi, filtValue_setVal s _ hc hi, Bool.true_and,
      fld_setVal s _ hc (.inr (by simp only [F.SCW_FVAL_VALUE, R.SCW_FVAL]; omega))]

/-- The sources that have a new value when the slot ends. -/
theorem slotSources_contains (code : Nat) (s : State) (src : Nat) : (slotSources code s).contains src = sourceDue s src := by
  have htake : src ∈ (slotTake code s).1 ↔ slotConverts s = true ∧ (src = s.slotChan
      ∨ 0x18 ≤ src ∧ src < 0x1C ∧ filtDue s s.slotChan (src - 0x18) = true) := by
    cases h : slotConverts s
    case false => simp [slotTake_off h]
    case true =>
      rw [(filtered_slotTake h code).upd]
      simp only [true_and]
      refine or_congr_right ⟨?_, ?_⟩
      · rintro ⟨i, hi, rfl, hd⟩
        rw [filtDue_setVal s _ (slotConverts_chan h) _ hi] at hd
        exact ⟨by omega, by omega, by rwa [Nat.add_sub_cancel_left]⟩
      · rintro ⟨h1, h2, hd⟩
        refine ⟨src - 0x18, by omega, by omega, ?_⟩
        rwa [filtDue_setVal s _ (slotConverts_chan h) _ (by omega)]
  have hspin : src ∈ (List.range 8).map (fun k => 0x1C + k) ↔ 0x1C ≤ src ∧ src < 0x24 := by
    simp only [List.mem_map, List.mem_range]
    exact ⟨by rintro ⟨i, hi, rfl⟩; omega, fun hs => ⟨src - 0x1C, by omega, by omega⟩⟩
  rw [Bool.eq_iff_iff, List.contains_iff_mem]
  unfold slotSources sourceDue
  split
  · rename_i hl
    rw [List.mem_append, htake, hspin]
    simp [hl, State.slotChan, and_assoc]
  · rename_i hl
    rw [htake]
    simp [hl, State.slotChan, and_assoc]

theorem scw_slotTake (code : Nat) (s : State) : ∃ l, (slotTake code s).2.scw = { s.scw with filt := l } := by
  cases h : slotConverts s
  case false => exact ⟨s.scw.filt, by rw [slotTake_off h]⟩
  case true =>
    obtain ⟨l, hl, -⟩ := (filtered_slotTake h code).scw
    exact ⟨l, hl⟩

theorem fuses_slotTake (code : Nat) (s : State) : (slotTake code s).2.fuses = s.fuses := by
  unfold slotTake
  split
  · exact (near_filtersRun (l := 0x2001) rfl ((Near.refl _ s).setFld _ _ rfl) _ _).same .fuses rfl
  · rfl

/-! ## What the rules see -/

theorem axisPresent_slotScan (code : Nat) (s : State) (a : Nat) : (slotScan code s).axisPresent a = s.axisPresent a :=
  congrArg (fun f : Fuses => f.axes.getLsbD a) (fuses_slotTake code s)

theorem regsBut_slotScan (code : Nat) (s : State) : s.regsBut (slotScan code s) (valueRegs s) := (regsBut_slotTake code s).modScw _

/-- A field outside the channels' and filters' values. -/
theorem fld_slotScan (code : Nat) (s : State) {f : Fld} (hf : f.addr < 0x10100 ∨ 0x10190 ≤ f.addr) :
    (slotScan code s).fld f = s.fld f :=
  (regsBut_slotScan code s).fld fun h => by have := valueRegs_place h; omega

theorem spinVel_slotScan (code : Nat) (s : State) (a : Nat) : (slotScan code s).spinVel a = s.spinVel a := by
  unfold State.spinVel
  rw [axisPresent_slotScan, fld_slotScan, fld_slotScan]
  all_goals simp only [F.SCW_SPIN_DIR, F.SCW_SPIN_SPD, R.SCW_SPIN]; omega

theorem spinDir_slotScan (code : Nat) (s : State) (a : Nat) : (slotScan code s).spinDir a = s.spinDir a := by
  unfold State.spinDir
  rw [axisPresent_slotScan, fld_slotScan]
  simp only [F.SCW_SPIN_DIR, R.SCW_SPIN]; omega

theorem rule_slotScan (code : Nat) (s : State) (r : Nat) : (slotScan code s).rule r = s.rule r := by
  obtain ⟨l, hl⟩ := scw_slotTake code s
  exact congrArg (fun w : ScwSt => SMap.get {} w.rules r) hl

theorem armBit_slotScan (code : Nat) (s : State) : (slotScan code s).armBit = s.armBit := by
  unfold State.armBit State.flag State.pwr
  rw [fld_slotScan code s (f := F.SAF_STAT_SAFE) (by decide), fld_slotScan code s (f := F.PCR_PWR_STATE_STATE) (by decide)]

theorem ruleNext_slotScan (code : Nat) (s : State) (r v : Nat) : (slotScan code s).ruleNext r v = s.ruleNext r v := by
  have hf : ∀ f : Fld, R.SCW_RULE_A 0 ≤ f.addr → (slotScan code s).fld f = s.fld f := fun f hf =>
    fld_slotScan code s (.inr (le_trans (by decide) hf))
  have hA : R.SCW_RULE_A 0 ≤ R.SCW_RULE_A r := by simp only [R.SCW_RULE_A]; omega
  have hB : R.SCW_RULE_A 0 ≤ R.SCW_RULE_B r := by simp only [R.SCW_RULE_A, R.SCW_RULE_B]; omega
  unfold State.ruleNext State.flag
  rw [rule_slotScan, armBit_slotScan, hf (F.SCW_RULE_A_EN r) hA, hf (F.SCW_RULE_A_KIND r) hA, hf (F.SCW_RULE_A_ARM r) hA,
    hf (F.SCW_RULE_A_PERSIST r) hA, hf (F.SCW_RULE_B_THRESH r) hB, hf (F.SCW_RULE_B_REARM r) hB]

/-! ## What the end of a slot leaves -/

section

variable {s : State} (h : s.scwOn = true) (code : Nat)
include h

theorem slot_slotEnd : (slotEnd code s).scw.slot = if s.nSlot ≤ s.scw.slot + 1 then 0 else s.scw.slot + 1 := by
  obtain ⟨m, -, ha⟩ := slotEnd_spec h code
  rw [ha.slot]
  simp [State.withRules, slotScan, State.modScw]

theorem regsBut_slotEnd : s.regsBut (slotEnd code s) (valueRegs s ++ actRegs) := by
  obtain ⟨m, -, ha⟩ := slotEnd_spec h code
  exact (((regsBut_slotScan code s).modScw _).mono (by simp +contextual)).trans (ha.regs.mono (by simp +contextual))

/-- No action of a rule changes the values just taken. -/
theorem fld_slotEnd_value {f : Fld} (hf : 0x10100 ≤ f.addr ∧ f.addr < 0x10190) : (slotEnd code s).fld f = (slotTake code s).2.fld f := by
  obtain ⟨m, -, ha⟩ := slotEnd_spec h code
  rw [ha.regs.fld fun hm => by have := actRegs_apart _ hm; omega]
  rfl

theorem val_slotEnd {k : Nat} (hk : k < 24) : (slotEnd code s).fld (F.SCW_VAL_VALUE k) =
    if slotConverts s = true ∧ k = s.slotChan then s.slotValue code else s.fld (F.SCW_VAL_VALUE k) := by
  rw [fld_slotEnd_value h code (by simp only [F.SCW_VAL_VALUE, R.SCW_VAL]; omega), val_slotTake code s hk]

theorem fld_slotEnd_fval {i : Nat} (hi : i < 4) :
    (slotEnd code s).fld (F.SCW_FVAL_VALUE i) = (slotTake code s).2.fld (F.SCW_FVAL_VALUE i) :=
  fld_slotEnd_value h code (by simp only [F.SCW_FVAL_VALUE, R.SCW_FVAL]; omega)

/-- The input of a unit, as the registers show it after the slot's end. -/
theorem filtInput_slotEnd (hc : slotConverts s = true) {i : Nat} (hi : i < 4) :
    (slotTake code s).2.filtInput (s.slotValue code) i =
      (slotEnd code s).fld (if 0 < i ∧ s.flag (F.SCW_FILT_CHAIN i) = true then F.SCW_FVAL_VALUE (i - 1)
        else F.SCW_VAL_VALUE s.slotChan) := by
  have hchain : (slotTake code s).2.filtChained i = true ↔ 0 < i ∧ s.flag (F.SCW_FILT_CHAIN i) = true := by
    unfold State.filtChained
    rw [(regsBut_slotTake code s).flag fun hm => by
      have := valueRegs_place hm
      simp only [F.SCW_FILT_CHAIN, R.SCW_FILT] at this
      omega]
    simp [Nat.pos_iff_ne_zero, and_comm]
  unfold State.filtInput
  rw [ite_congr (propext hchain) (fun _ => rfl) (fun _ => rfl)]
  split
  · exact (fld_slotEnd_fval h code (by omega)).symm
  · rw [val_slotEnd h code (slotConverts_chan hc), if_pos ⟨hc, rfl⟩]

theorem fval_slotEnd {i : Nat} (hi : i < 4) : (slotEnd code s).fld (F.SCW_FVAL_VALUE i) =
    if (slotConverts s && filtDue s s.slotChan i) = true then
      s.filtValue i ((slotEnd code s).fld (if 0 < i ∧ s.flag (F.SCW_FILT_CHAIN i) = true then F.SCW_FVAL_VALUE (i - 1)
        else F.SCW_VAL_VALUE s.slotChan))
    else s.fld (F.SCW_FVAL_VALUE i) := by
  rw [fld_slotEnd_fval h code hi, fval_slotTake code s hi]
  refine if_ctx_congr Iff.rfl (fun hd => ?_) (fun _ => rfl)
  rw [filtInput_slotEnd h code (Bool.and_eq_true_iff.1 hd).1 hi]

/-- R77 to R81: rule `r` evaluates its source where that has a new value. -/
theorem rule_slotEnd {r : Nat} (hr : r < 32) : (slotEnd code s).rule r =
    if sourceDue s (s.fld (F.SCW_RULE_A_SRC r)) = true then
      s.ruleNext r ((slotScan code s).ruleSource (s.fld (F.SCW_RULE_A_SRC r)))
    else s.rule r := by
  obtain ⟨m, hm, ha⟩ := slotEnd_spec h code
  have hrule : (slotEnd code s).rule r = ((slotScan code s).withRules m).rule r := by unfold State.rule; rw [ha.rules]
  rw [hrule, hm r hr, State.ruleAfter, ruleNext_slotScan, rule_slotScan, slotSources_contains,
    fld_slotScan code s (by simp only [F.SCW_RULE_A_SRC, R.SCW_RULE_A]; omega)]

/-- The value that a rule takes, as the registers show it after the slot's end. -/
theorem ruleSource_slotEnd (src : Nat) : (slotScan code s).ruleSource src =
    if src < 0x18 then (slotEnd code s).fld (F.SCW_VAL_VALUE src)
    else if src < 0x1C then (slotEnd code s).fld (F.SCW_FVAL_VALUE (src - 0x18))
    else if src < 0x20 then s.spinVel (src - 0x1C) else s.spinDir (src - 0x20) := by
  unfold State.ruleSource
  rw [spinVel_slotScan, spinDir_slotScan]
  split
  · exact (fld_slotEnd_value h code (by simp only [F.SCW_VAL_VALUE, R.SCW_VAL]; omega)).symm
  · split
    · exact (fld_slotEnd_fval h code (by omega)).symm
    · rfl

end

/-- Settles O43: a slot's end is its conversion, the filters, the rules and then what the rules that fire do, which touches neither
values nor counters. -/
theorem slotsFilterAndRulesFire : Obligations.SlotsFilterAndRulesFire := by
  unfold Obligations.SlotsFilterAndRulesFire
  refine ⟨?_, ?_⟩
  · rintro s code c rfl
    split
    · rename_i hon
      have h : s.scwOn = true := by simp [State.scwOn, hon]
      have hcode : s.slotValue code.toNat = if s.axisPresent (chanAxis s.slotChan) = true then code.toNat * 64 else 0 := by
        rw [State.slotValue, Nat.mod_eq_of_lt code.isLt]
      refine ⟨slotEnd code.toNat s, rfl, slot_slotEnd h _, fun k hk => ?_, ?_, ?_⟩
      · rw [val_slotEnd h _ hk, hcode]
        rfl
      · rintro i hi taps rfl
        have hf := fval_slotEnd h code.toNat hi
        split
        · rename_i hd
          rw [hf]
          exact if_neg (by simp [State.slotChan, hd])
        · rename_i hd
          rintro x rfl
          rw [hf, if_pos (by simpa [State.slotChan] using hd)]
          exact s.filtValue_eq i (by split <;> exact State.fld_lt _ _)
      · exact slotRegs_eq s ▸ regsBut_slotEnd h code.toNat
    · rename_i hoff
      exact congrArg _ (slotEnd_off (by simpa [State.scwOn] using hoff) _)
  · intro s code happ hpwr
    have h : s.scwOn = true := by simp [State.scwOn, happ, hpwr]
    refine ⟨slotEnd code.toNat s, rfl, ?_⟩
    rintro r src v th p q hr rfl rfl rfl rfl rfl
    rw [← ruleSource_slotEnd h code.toNat, rule_slotEnd h code.toNat hr]
    generalize (slotScan code.toNat s).ruleSource (s.fld (F.SCW_RULE_A_SRC r)) = v
    refine ⟨fun hoff => ?_, fun hdue hen hkind => ?_⟩
    · split
      · rename_i hdue
        exact ruleNext_off (hoff.resolve_left (by simp [hdue])) v
      · rfl
    · rw [if_pos hdue]
      split
      · rename_i harm
        exact ruleNext_unarmed hen hkind harm v
      · rename_i harm
        split
        · rename_i habs
          rw [ruleNext_absent hen habs harm]
          exact ⟨ruleAbsent_crossing _ _ _, ruleAbsent_counts _ _ _⟩
        · rename_i hlevel
          rw [ruleNext_level hen hkind hlevel harm]
          exact ⟨fun hf => ruleLevel_counts _ _ _ hf _, ruleLevel_rearmed _ _ _ _⟩

end Sys2Proof.Machine
end

section
/-! The switch-node measurement of one leg and one direction (R106): its two fields of SNS_SWN_DLY, the delays it hands to the
dead-time adaptation, and what an edge and a miss do to them. -/

namespace Sys2Proof.Machine

/-- The MISS field of a leg's measurement in the direction `lh`. -/
def F.swnMiss (a : Fin 4) (l : Fin 3) (lh : Bool) : Fld := if lh then F.SNS_SWN_DLY_MISS_LH a l else F.SNS_SWN_DLY_MISS_HL a l

/-- The delay field of a leg's measurement in the direction `lh`. -/
def F.swnDly (a : Fin 4) (l : Fin 3) (lh : Bool) : Fld := if lh then F.SNS_SWN_DLY_DLY_LH a l else F.SNS_SWN_DLY_DLY_HL a l

/-- The delays delivered for the direction `lh`, by leg, the newest first. -/
def PwmAx.delays (lh : Bool) (p : PwmAx) : List (List Nat) := if lh then p.dlyLH else p.dlyHL

/-- Leg `l` is handed the delay `d` of the direction `lh`. -/
def PwmAx.pushDelay (l : Fin 3) (lh : Bool) (d : Nat) (p : PwmAx) : PwmAx :=
  if lh then { p with dlyLH := p.dlyLH.set l ((d :: p.dlyLH.getD l []).take 8) }
  else { p with dlyHL := p.dlyHL.set l ((d :: p.dlyHL.getD l []).take 8) }

theorem PwmAx.delays_pushDelay (l : Fin 3) (lh : Bool) (d : Nat) (p : PwmAx) :
    (p.pushDelay l lh d).delays lh = (p.delays lh).set l ((d :: (p.delays lh).getD l []).take 8) := by
  cases lh <;> rfl

section

variable (a : Fin 4) (l : Fin 3) (lh : Bool)

@[simp] theorem F.swnMiss_addr : (F.swnMiss a l lh).addr = R.SNS_SWN_DLY a l := by cases lh <;> rfl

@[simp] theorem F.swnDly_addr : (F.swnDly a l lh).addr = R.SNS_SWN_DLY a l := by cases lh <;> rfl

@[simp] theorem F.swnMiss_width : (F.swnMiss a l lh).width = 1 := by cases lh <;> rfl

@[simp] theorem F.swnDly_width : (F.swnDly a l lh).width = 12 := by cases lh <;> rfl

theorem F.swnMiss_fits : (F.swnMiss a l lh).lo + (F.swnMiss a l lh).width ≤ 32 := by
  cases lh <;> simp [F.swnMiss, F.SNS_SWN_DLY_MISS_LH, F.SNS_SWN_DLY_MISS_HL]

theorem F.swnDly_fits : (F.swnDly a l lh).lo + (F.swnDly a l lh).width ≤ 32 := by
  cases lh <;> simp [F.swnDly, F.SNS_SWN_DLY_DLY_LH, F.SNS_SWN_DLY_DLY_HL]

/-- Table SNS-7: in each direction the MISS bit lies above the delay. -/
theorem F.swnDly_below_swnMiss : (F.swnDly a l lh).lo + (F.swnDly a l lh).width ≤ (F.swnMiss a l lh).lo := by
  cases lh <;> simp [F.swnMiss, F.swnDly, F.SNS_SWN_DLY_MISS_LH, F.SNS_SWN_DLY_MISS_HL, F.SNS_SWN_DLY_DLY_LH, F.SNS_SWN_DLY_DLY_HL]

/-! ## What an edge and a miss do -/

variable (s : State) {d : Nat}

theorem swnMiss_eq : swnMiss a l lh s = s.setFlag (F.swnMiss a l lh) true := rfl

theorem swnEdge_late (h : s.fld (F.SNS_SWN_CFG_DLY_WIN a) < d) : swnEdge a l lh d s = swnMiss a l lh s := if_pos h

theorem swnEdge_inTime (h : d ≤ s.fld (F.SNS_SWN_CFG_DLY_WIN a)) :
    swnEdge a l lh d s =
      ((s.setFlag (F.swnMiss a l lh) false).setFld (F.swnDly a l lh) d).modPwm a (PwmAx.pushDelay l lh d) := by
  rw [swnEdge, if_neg h.not_gt]
  cases lh <;> rfl

/-- R106: a miss sets MISS and delivers no value. -/
theorem swnMiss_spec :
    (swnMiss a l lh s).flag (F.swnMiss a l lh) = true ∧ (swnMiss a l lh s).fld (F.swnDly a l lh) = s.fld (F.swnDly a l lh)
      ∧ (swnMiss a l lh s).pwm = s.pwm ∧ s.regsBut (swnMiss a l lh s) [R.SNS_SWN_DLY a l] := by
  rw [swnMiss_eq]
  refine ⟨?miss, ?delay, s.setFlag_pwm _ _, ?frame⟩
  case miss => exact s.flag_setFlag_same true (F.swnMiss_fits a l lh) (by simp)
  case delay => exact s.fld_setFld_apart _ (.inl (F.swnDly_below_swnMiss a l lh))
  case frame => exact (s.regsBut_refl _).setFlag _ _ (by simp)

/-- R106: an edge within DLY_WIN delivers its delay, which the field holds whole, and shows no miss. -/
theorem swnEdge_spec (h : d ≤ s.fld (F.SNS_SWN_CFG_DLY_WIN a)) :
    (swnEdge a l lh d s).flag (F.swnMiss a l lh) = false ∧ (swnEdge a l lh d s).fld (F.swnDly a l lh) = d
      ∧ ((swnEdge a l lh d s).pwm.get a).delays lh =
          ((s.pwm.get a).delays lh).set l ((d :: ((s.pwm.get a).delays lh).getD l []).take 8)
      ∧ s.regsBut (swnEdge a l lh d s) [R.SNS_SWN_DLY a l] := by
  have hd : d < 2 ^ 12 := h.trans_lt (s.fld_lt (F.SNS_SWN_CFG_DLY_WIN a))
  rw [swnEdge_inTime a l lh s h]
  refine ⟨?miss, ?delay, ?handed, ?frame⟩
  case miss =>
    rw [State.modPwm_flag, State.flag, State.fld_setFld_apart _ _ (.inr (F.swnDly_below_swnMiss a l lh))]
    exact s.flag_setFlag_same false (F.swnMiss_fits a l lh) (by simp)
  case delay =>
    rw [State.modPwm_fld, State.fld_setFld_same _ _ (F.swnDly_fits a l lh), F.swnDly_width, Nat.mod_eq_of_lt hd]
  case handed =>
    rw [State.modPwm_pwm, Quad.get_set, if_pos rfl]
    exact PwmAx.delays_pushDelay l lh d _
  case frame =>
    exact (((s.regsBut_refl _).setFlag _ _ (by simp)).setFld _ _ (by simp)).same (State.modPwm_regs ..)

end

/-- Settles O18: an edge within DLY_WIN is measured, and a later one is the miss that no edge is. -/
theorem switchNodeEdgesWithinTheWindowAreMeasured : Obligations.SwitchNodeEdgesWithinTheWindowAreMeasured := by
  unfold Obligations.SwitchNodeEdgesWithinTheWindowAreMeasured
  intro s a l lh miss dly q hflds hq
  obtain ⟨rfl, rfl⟩ : miss = F.swnMiss a l lh ∧ dly = F.swnDly a l lh := by
    cases lh <;> exact Prod.mk.inj hflds
  obtain rfl : q = fun s => (s.pwm.get a).delays lh := funext hq
  refine ⟨fun d hd => ⟨swnEdge a l lh d s, rfl, swnEdge_spec a l lh s hd⟩, ?_⟩
  rintro i (rfl | ⟨d, hd, rfl⟩)
  · exact ⟨swnMiss a l lh s, rfl, swnMiss_spec a l lh s⟩
  · exact ⟨swnMiss a l lh s, congrArg _ (swnEdge_late a l lh s hd), swnMiss_spec a l lh s⟩

end Sys2Proof.Machine
end

section
/-! The check units at the host's hands (R296 to R299): what INIT, bytes and a configuration do to a unit that has no owner, and
that a unit with an owner ignores all three. -/

namespace Sys2Proof.Machine

/-! ## Host writes that reach a unit -/

theorem chk_ne_rstCtrl {k : Nat} (h : R.CHK_CFG 0 ≤ k) : k ≠ R.PCR_RST_CTRL := by
  rintro rfl
  exact absurd h (by decide)

/-- A write of a configuration register of unit `n` goes to `chkConfig`. -/
theorem effect_chkConfig (p : Fin 2) (v : Word) (s : State) {n k : Nat} (hn : n < 8) (hlo : R.CHK_CFG n ≤ k) (hhi : k ≤ R.CHK_REC n) :
    regEffect p (homeKey k) v s = (0, chkConfig n k (s.plainWord k v) s) := by
  simp only [R.CHK_CFG, R.CHK_REC] at hlo hhi
  have hunit : (k - R.CHK_CFG 0) / 0x40 = n := by simp only [R.CHK_CFG]; omega
  have hhome : homeKey k = k := if_neg (by omega)
  have hblock : regEffect p k v s = (0, hrwWrite k v s) := by
    simp (disch := omega) only [regEffect, R.SCW_FIRED, if_neg, dif_neg, if_pos]
  have hreg : hrwWrite k v s = chkConfig n k (s.plainWord k v) s := by
    simp only [hrwWrite, hunit, R.CHK_CTRL, R.CHK_DIN, R.CHK_DIN1, R.CHK_STAT, R.CHK_REC]
    simp (disch := omega) only [R.CHK_CFG, if_neg, if_pos]
  rw [hhome, hblock, hreg]

theorem leBytes_one (b : Byte) : leBytes 1 (word b.toNat).toNat = [b] := by
  have hw : (word b.toNat).toNat = b.toNat := Nat.mod_eq_of_lt (b.isLt.trans (by decide))
  rw [hw]
  simp [leBytes]

/-! ## A unit with an owner -/

section

variable {s : State} {n : Nat}

theorem chkHost_owned (h : s.chkOwned n = true) (f : State → State) : chkHost n f s = s.setFlag (F.CHK_STAT_COLL n) true := if_pos h

theorem chkHost_free (h : s.chkOwned n = false) (f : State → State) : chkHost n f s = f s := if_neg (by simp [h])

theorem setColl_spec (s : State) (n : Nat) :
    (s.setFlag (F.CHK_STAT_COLL n) true).flag (F.CHK_STAT_COLL n) = true ∧ (s.setFlag (F.CHK_STAT_COLL n) true).hrw = s.hrw
      ∧ s.regsBut (s.setFlag (F.CHK_STAT_COLL n) true) [R.CHK_STAT n] :=
  ⟨s.flag_setFlag_same true (by simp [F.CHK_STAT_COLL]) (by simp [F.CHK_STAT_COLL]), s.setFlag_hrw _ _,
    (s.regsBut_refl _).setFlag _ _ (by simp [F.CHK_STAT_COLL])⟩

/-- R299: a host write that is taken sets COLL where the unit has an owner, and has its effect `f` where it has none. -/
theorem completes_chkHost {i : Instr} {p : Fin 2} {k : Nat} {v : Word} {f : State → State} {P : State → Prop}
    (hi : exec i s = .next (hostWrite p k v s)) (ht : s.takes p k v = true) (he : regEffect p (homeKey k) v s = (0, chkHost n f s))
    (hk : R.CHK_CFG 0 ≤ k) (hl : (f s).ldr = s.ldr)
    (howned : s.chkOwned n = true → P (answer p 0 [] (s.setFlag (F.CHK_STAT_COLL n) true)))
    (hfree : s.chkOwned n = false → P (answer p 0 [] (f s))) : Completes i s P := by
  cases ho : s.chkOwned n
  · rw [chkHost_free ho] at he
    exact ⟨_, hi.trans (congrArg _ (hostWrite_effect ht he hl (chk_ne_rstCtrl hk))), hfree ho⟩
  · rw [chkHost_owned ho] at he
    exact ⟨_, hi.trans (congrArg _ (hostWrite_effect ht he (s.setFlag_ldr _ _) (chk_ne_rstCtrl hk))), howned ho⟩

end

/-! ## Parameters -/

/-- The parameters of a unit are those of its configuration registers, and no register above them changes them. -/
theorem chkParams_frame {s t : State} {l : List Nat} (h : s.regsBut t l) {n : Nat} (hl : ∀ k ∈ l, R.CHK_REC n < k) (std : Bool) :
    t.chkParams n std = s.chkParams n std := by
  have hreg : ∀ k ≤ R.CHK_REC n, t.reg k = s.reg k := fun k hk => h k fun hm => absurd (hl k hm) (by omega)
  have hcfg : t.reg (R.CHK_CFG n) = s.reg (R.CHK_CFG n) := hreg _ (by simp [R.CHK_CFG, R.CHK_REC])
  unfold State.chkParams State.flag State.fld State.reg64 F.CHK_CFG_MODE F.CHK_CFG_WIDTH F.CHK_CFG_REFIN F.CHK_CFG_REFOUT F.CHK_CFG_FSEL
  rw [hcfg, hreg (R.CHK_POLY_LO n) (by simp [R.CHK_POLY_LO, R.CHK_REC]),
    hreg (R.CHK_POLY_HI n) (by simp [R.CHK_POLY_HI, R.CHK_REC]), hreg (R.CHK_INIT_LO n) (by simp [R.CHK_INIT_LO, R.CHK_REC]),
    hreg (R.CHK_INIT_HI n) (by simp [R.CHK_INIT_HI, R.CHK_REC]), hreg (R.CHK_XOR_LO n) (by simp [R.CHK_XOR_LO, R.CHK_REC]),
    hreg (R.CHK_XOR_HI n) (by simp [R.CHK_XOR_HI, R.CHK_REC])]

/-! ## INIT -/

/-- The registers of unit `n` as INIT leaves them. -/
def chkCleared (n : Nat) (s : State) : State :=
  ((s.setFld (F.CHK_BYTES_BYTES n) 0).setReg (R.CHK_ALV n) 0x0000FFFF#32).setFlag (F.CHK_STAT_DONE n) false

section

variable (n : Nat) (s : State)

theorem regsBut_chkCleared : s.regsBut (chkCleared n s) [R.CHK_STAT n, R.CHK_BYTES n, R.CHK_ALV n] :=
  (((s.regsBut_refl _).setFld _ _ (by simp [F.CHK_BYTES_BYTES])).setReg _ _ (by simp)).setFlag _ _ (by simp [F.CHK_STAT_DONE])

theorem chkCleared_done : (chkCleared n s).flag (F.CHK_STAT_DONE n) = false :=
  State.flag_setFlag_same _ _ (by simp [F.CHK_STAT_DONE]) (by simp [F.CHK_STAT_DONE])

theorem chkCleared_bytes : (chkCleared n s).fld (F.CHK_BYTES_BYTES n) = 0 := by
  rw [chkCleared, State.setFlag, State.fld_setFld_other _ _ (by simp [F.CHK_BYTES_BYTES, F.CHK_STAT_DONE, R.CHK_BYTES, R.CHK_STAT]),
    State.fld_setReg_other _ _ (by simp [F.CHK_BYTES_BYTES, R.CHK_BYTES, R.CHK_ALV]),
    State.fld_setFld_same _ _ (by simp [F.CHK_BYTES_BYTES]), Nat.zero_mod]

theorem chkCleared_alv : (chkCleared n s).reg (R.CHK_ALV n) = 0x0000FFFF#32 := by
  rw [chkCleared, State.reg_setFlag_other _ _ (by simp [F.CHK_STAT_DONE, R.CHK_STAT, R.CHK_ALV]), State.reg_setReg_same]

theorem chkInit_crc (std : Bool) : SMap.get 0 (chkInit n std s).hrw.crc n = (s.chkParams n std).init := by
  have hp : (chkCleared n s).chkParams n std = s.chkParams n std :=
    chkParams_frame (regsBut_chkCleared n s) (by simp [R.CHK_REC, R.CHK_STAT, R.CHK_BYTES, R.CHK_ALV]) std
  rw [← hp]
  exact (SMap.get_put ..).trans (if_pos rfl)

theorem chkInit_ldr (std : Bool) : (chkInit n std s).ldr = s.ldr :=
  (near_chkInit (l := 0x80001) rfl (.refl _ s) n std).same .ldr rfl

/-- R296, R298: what INIT clears and loads. -/
theorem chkInit_spec (std : Bool) :
    (chkInit n std s).flag (F.CHK_STAT_DONE n) = false ∧ (chkInit n std s).fld (F.CHK_BYTES_BYTES n) = 0
      ∧ (chkInit n std s).fld (F.CHK_ALV_FIRST n) = 0xFFFF ∧ (chkInit n std s).fld (F.CHK_ALV_REPEAT n) = 0
      ∧ (chkInit n std s).fld (F.CHK_ALV_JUMP n) = 0 ∧ SMap.get 0 (chkInit n std s).hrw.crc n = (s.chkParams n std).init
      ∧ s.regsBut (chkInit n std s) [R.CHK_STAT n, R.CHK_BYTES n, R.CHK_ALV n] := by
  have halv : ∀ lo w, (chkInit n std s).fld ⟨R.CHK_ALV n, lo, w⟩ = fieldGet 0x0000FFFF#32 lo w := fun lo w =>
    congrArg (fun r => fieldGet r lo w) (chkCleared_alv n s)
  exact ⟨chkCleared_done n s, chkCleared_bytes n s, halv 0 16, halv 16 8, halv 24 8, chkInit_crc n s std,
    (regsBut_chkCleared n s).same rfl⟩

end

/-! ## Bytes -/

/-- `t` differs from `s` by alive results of unit `n`: its running value stays. -/
structure AlvOnly (n : Nat) (s t : State) : Prop where
  regs : s.regsBut t [R.CHK_ALV n]
  crc : t.hrw.crc = s.hrw.crc

theorem AlvOnly.trans {n : Nat} {s t u : State} (h : AlvOnly n s t) (h' : AlvOnly n t u) : AlvOnly n s u :=
  ⟨h.regs.trans h'.regs, h'.crc.trans h.crc⟩

theorem alvOnly_alvJudge (n : Nat) (r : List Byte) (s : State) : AlvOnly n s (alvJudge n r s) := by
  have hmem : R.CHK_ALV n ∈ [R.CHK_ALV n] := List.mem_singleton_self _
  have hrefl := s.regsBut_refl [R.CHK_ALV n]
  unfold alvJudge
  extract_lets b c i next s1
  cases SMap.get none s.hrw.alvRef n with
  | none => exact ⟨hrefl.same rfl, rfl⟩
  | some q =>
    dsimp only
    split
    · exact ⟨hrefl.same rfl, rfl⟩
    · have h1 : AlvOnly n s s1 := by
        unfold s1
        split
        · exact ⟨hrefl.setFld _ _ hmem, rfl⟩
        · exact ⟨hrefl, rfl⟩
      exact h1.trans ⟨((s1.regsBut_refl _).bump _ _ (by split <;> exact hmem)).same rfl, rfl⟩

theorem alvOnly_alvRecords (n len f : Nat) (bs : List Byte) (s : State) : AlvOnly n s (alvRecords n len f bs s) := by
  induction f generalizing bs s with
  | zero => exact ⟨(s.regsBut_refl _).same rfl, rfl⟩
  | succ f ih =>
    unfold alvRecords
    split
    · exact ⟨(s.regsBut_refl _).same rfl, rfl⟩
    · exact (alvOnly_alvJudge ..).trans (ih ..)

/-- R296, R298: the running value takes the bytes, the alive check sees them where it is on, then count and result are written. -/
theorem chkFeed_eq (n : Nat) (std : Bool) (bs : List Byte) (s : State) :
    ∃ u, s.regsBut u (if s.flag (F.CHK_CFG_ALV_EN n) then [R.CHK_ALV n] else [])
      ∧ SMap.get 0 u.hrw.crc n = crcFold (s.chkParams n std) (SMap.get 0 s.hrw.crc n) bs
      ∧ chkFeed n std bs s = ((u.setFld (F.CHK_BYTES_BYTES n) (u.fld (F.CHK_BYTES_BYTES n) + bs.length)).setReg (R.CHK_RES_LO n)
          (word (crcResult (s.chkParams n std) (SMap.get 0 u.hrw.crc n)))).setReg (R.CHK_RES_HI n)
          (word (crcResult (s.chkParams n std) (SMap.get 0 u.hrw.crc n) / 2 ^ 32)) := by
  unfold chkFeed
  extract_lets q c s1 buf s2 s3 r
  have hs1 : SMap.get 0 s1.hrw.crc n = c := (SMap.get_put ..).trans (if_pos rfl)
  have hu : s.regsBut s2 (if s.flag (F.CHK_CFG_ALV_EN n) then [R.CHK_ALV n] else []) ∧ s2.hrw.crc = s1.hrw.crc := by
    cases ha : s.flag (F.CHK_CFG_ALV_EN n)
    · have h2 : s2 = s1 := if_neg (by rw [State.modHrw_flag, ha]; decide)
      rw [h2]
      exact ⟨(s.regsBut_refl _).same rfl, rfl⟩
    · have hrec : s2 = alvRecords n (s1.fld (F.CHK_REC_REC_LEN n)) buf.length buf s1 := if_pos ha
      have h2 : AlvOnly n s1 s2 := hrec ▸ alvOnly_alvRecords ..
      exact ⟨((s.regsBut_refl _).same (t := s1) rfl).trans h2.regs, h2.crc⟩
  have hcrc : SMap.get 0 s2.hrw.crc n = c := by rw [hu.2, hs1]
  exact ⟨s2, hu.1, hcrc, by rw [hcrc]⟩

/-- The bytes reach a unit that serves the host, and its result follows. -/
def chkServe (n : Nat) (bs : List Byte) (s : State) : State := (chkFeed n false bs s).setFlag (F.CHK_STAT_DONE n) true

section

variable (n : Nat) (bs : List Byte) (s : State)

theorem chkHostFeed_eq : chkHostFeed n bs s = chkHost n (chkServe n bs) s := rfl

theorem chkServe_ldr : (chkServe n bs s).ldr = s.ldr :=
  ((near_chkFeed (l := 0x80001) rfl (.refl _ s) n false bs).setFlag _ _ rfl).same .ldr rfl

/-- R296: what bytes leave of a unit that serves the host. -/
theorem chkServe_spec {q : CrcParams} {c : Nat} (hq : q = s.chkParams n false) (hc : c = crcFold q (SMap.get 0 s.hrw.crc n) bs) :
    (chkServe n bs s).reg (R.CHK_RES_LO n) = word (crcResult q c)
      ∧ (chkServe n bs s).reg (R.CHK_RES_HI n) = word (crcResult q c / 2 ^ 32)
      ∧ (chkServe n bs s).flag (F.CHK_STAT_DONE n) = true ∧ SMap.get 0 (chkServe n bs s).hrw.crc n = c
      ∧ (chkServe n bs s).fld (F.CHK_BYTES_BYTES n) = (s.fld (F.CHK_BYTES_BYTES n) + bs.length) % 2 ^ 32
      ∧ s.regsBut (chkServe n bs s) ([R.CHK_RES_LO n, R.CHK_RES_HI n, R.CHK_STAT n, R.CHK_BYTES n]
          ++ if s.flag (F.CHK_CFG_ALV_EN n) then [R.CHK_ALV n] else []) := by
  obtain ⟨u, hregs, hcrc, hfeed⟩ := chkFeed_eq n false bs s
  rw [← hq, ← hc] at hcrc
  rw [← hq, hcrc] at hfeed
  have hbytes : u.fld (F.CHK_BYTES_BYTES n) = s.fld (F.CHK_BYTES_BYTES n) := hregs.fld (by
    split <;> simp [F.CHK_BYTES_BYTES, R.CHK_BYTES, R.CHK_ALV])
  rw [chkServe, hfeed]
  refine ⟨?low, ?high, ?done, hcrc, ?bytes, ?frame⟩
  case low =>
    rw [State.reg_setFlag_other _ _ (by simp [F.CHK_STAT_DONE, R.CHK_STAT, R.CHK_RES_LO]),
      State.reg_setReg_other _ _ (by simp [R.CHK_RES_LO, R.CHK_RES_HI]), State.reg_setReg_same]
  case high =>
    rw [State.reg_setFlag_other _ _ (by simp [F.CHK_STAT_DONE, R.CHK_STAT, R.CHK_RES_HI]), State.reg_setReg_same]
  case done => exact State.flag_setFlag_same _ _ (by simp [F.CHK_STAT_DONE]) (by simp [F.CHK_STAT_DONE])
  case bytes =>
    rw [State.setFlag, State.fld_setFld_other _ _ (by simp [F.CHK_STAT_DONE, F.CHK_BYTES_BYTES, R.CHK_STAT, R.CHK_BYTES]),
      State.fld_setReg_other _ _ (by simp [F.CHK_BYTES_BYTES, R.CHK_BYTES, R.CHK_RES_HI]),
      State.fld_setReg_other _ _ (by simp [F.CHK_BYTES_BYTES, R.CHK_BYTES, R.CHK_RES_LO]),
      State.fld_setFld_same _ _ (by simp [F.CHK_BYTES_BYTES]), hbytes]
    rfl
  case frame =>
    have hu := hregs.mono fun k hk => List.mem_append_right [R.CHK_RES_LO n, R.CHK_RES_HI n, R.CHK_STAT n, R.CHK_BYTES n] hk
    exact (((hu.setFld _ _ (by simp [F.CHK_BYTES_BYTES])).setReg _ _ (by simp)).setReg _ _ (by simp)).setFlag _ _
      (by simp [F.CHK_STAT_DONE])

end

/-! ## Configuration -/

/-- R297: the configurations that are refused in Mode P. -/
theorem chkModeOk_eq_false {u : State} {n : Nat} : u.chkModeOk n = false ↔
    u.flag (F.CHK_CFG_MODE n) = true ∧ (u.fld (F.CHK_CFG_WIDTH n) < 3 ∨ 64 < u.fld (F.CHK_CFG_WIDTH n)
      ∨ 2 ^ u.fld (F.CHK_CFG_WIDTH n) ≤ max (u.reg64 (R.CHK_POLY_LO n) (R.CHK_POLY_HI n))
          (max (u.reg64 (R.CHK_INIT_LO n) (R.CHK_INIT_HI n)) (u.reg64 (R.CHK_XOR_LO n) (R.CHK_XOR_HI n)))) := by
  cases hm : u.flag (F.CHK_CFG_MODE n)
  · simp [State.chkModeOk, hm]
  · simp only [State.chkModeOk, State.chkParams, hm, Bool.not_true, Bool.false_or, Bool.false_eq_true, if_false, if_true,
      Bool.and_eq_false_iff, decide_eq_false_iff_not, not_and_or, not_le, not_lt, le_max_iff, true_and, or_assoc]

/-- The configuration in the registers of unit `n`, after a write of its register `k`, is one that R297 or R298 forbids. -/
def State.chkRefused (u : State) (n k : Nat) : Bool :=
  !u.chkModeOk n || (k == R.CHK_REC n && decide (u.fld (F.CHK_REC_REC_LEN n) < u.fld (F.CHK_REC_ALV_OFF n) + 1))

theorem chkRefused_iff {u : State} {n k : Nat} : u.chkRefused n k = true ↔
    (u.flag (F.CHK_CFG_MODE n) = true ∧ (u.fld (F.CHK_CFG_WIDTH n) < 3 ∨ 64 < u.fld (F.CHK_CFG_WIDTH n)
      ∨ 2 ^ u.fld (F.CHK_CFG_WIDTH n) ≤ max (u.reg64 (R.CHK_POLY_LO n) (R.CHK_POLY_HI n))
          (max (u.reg64 (R.CHK_INIT_LO n) (R.CHK_INIT_HI n)) (u.reg64 (R.CHK_XOR_LO n) (R.CHK_XOR_HI n)))))
      ∨ (k = R.CHK_REC n ∧ u.fld (F.CHK_REC_REC_LEN n) < u.fld (F.CHK_REC_ALV_OFF n) + 1) := by
  rw [← chkModeOk_eq_false]
  simp only [State.chkRefused, Bool.or_eq_true, Bool.not_eq_true', Bool.and_eq_true, beq_iff_eq, decide_eq_true_eq]

/-- A write of `w` to the configuration register `k`, on a unit that has no owner. -/
def chkConfigFree (n k : Nat) (w : Word) (s : State) : State :=
  if (s.setReg k w).chkRefused n k then s.setFlag (F.CHK_STAT_CFG_ERR n) true else s.setReg k w

theorem chkConfig_eq (n k : Nat) (w : Word) (s : State) : chkConfig n k w s = chkHost n (chkConfigFree n k w) s := rfl

theorem chkConfigFree_ldr (n k : Nat) (w : Word) (s : State) : (chkConfigFree n k w s).ldr = s.ldr := by
  unfold chkConfigFree
  split <;> rfl

/-- R297, R298: a refused configuration sets CFG_ERR alone, and any other stands in its register. -/
theorem chkConfigFree_spec (n k : Nat) (w : Word) (s : State) :
    if (s.setReg k w).chkRefused n k = true then
      (chkConfigFree n k w s).flag (F.CHK_STAT_CFG_ERR n) = true ∧ s.regsBut (chkConfigFree n k w s) [R.CHK_STAT n]
    else (chkConfigFree n k w s).reg k = w ∧ s.regsBut (chkConfigFree n k w s) [k] := by
  unfold chkConfigFree
  split
  · exact ⟨s.flag_setFlag_same true (by simp [F.CHK_STAT_CFG_ERR]) (by simp [F.CHK_STAT_CFG_ERR]),
      (s.regsBut_refl _).setFlag _ _ (by simp [F.CHK_STAT_CFG_ERR])⟩
  · exact ⟨s.reg_setReg_same k w, (s.regsBut_refl _).setReg _ _ (by simp)⟩

/-- The configuration registers lie together, in front of CHK_CTRL. -/
theorem chkConfig_regs_place {n k : Nat} (h : k ∈ [R.CHK_CFG n, R.CHK_POLY_LO n, R.CHK_POLY_HI n, R.CHK_INIT_LO n, R.CHK_INIT_HI n,
    R.CHK_XOR_LO n, R.CHK_XOR_HI n, R.CHK_REC n]) : R.CHK_CFG n ≤ k ∧ k ≤ R.CHK_REC n := by
  simp only [R.CHK_CFG, R.CHK_POLY_LO, R.CHK_POLY_HI, R.CHK_INIT_LO, R.CHK_INIT_HI, R.CHK_XOR_LO, R.CHK_XOR_HI, R.CHK_REC,
    List.mem_cons, List.not_mem_nil, or_false] at h ⊢
  omega

/-! ## The writes, one by one -/

/-- A write of CHK_DIN or CHK_DIN1 feeds its bytes to the unit. -/
theorem exec_chkBytes {i : Instr} {p : Fin 2} {n : Fin 8} {k : Nat} {v : Word} {bs : List Byte}
    (h : i = .chkDin p n v ∧ k = R.CHK_DIN n ∧ bs = leBytes 4 v.toNat
      ∨ ∃ b : Byte, i = .chkDin1 p n b ∧ k = R.CHK_DIN1 n ∧ v = word b.toNat ∧ bs = [b]) (s : State) :
    exec i s = .next (hostWrite p k v s) ∧ R.CHK_CFG 0 ≤ k ∧ regEffect p (homeKey k) v s = (0, chkHost n (chkServe n bs) s) := by
  rcases h with ⟨rfl, rfl, rfl⟩ | ⟨b, rfl, rfl, rfl, rfl⟩
  · exact ⟨rfl, by simp only [R.CHK_CFG, R.CHK_DIN]; omega, by rw [effect_chkDin, chkHostFeed_eq]⟩
  · exact ⟨rfl, by simp only [R.CHK_CFG, R.CHK_DIN1]; omega, by rw [effect_chkDin1, leBytes_one, chkHostFeed_eq]⟩

theorem exec_registerWrite {p : Fin 2} {k : Nat} {v : Word} {s : State} (h : k < 2 ^ 32) :
    exec (.registerWrite p k v) s = .next (hostWrite p k v s) := if_pos (decide_eq_true h)

/-- Settles O52: each write reaches its unit, which ignores it where it has an owner, and else does what its own law says. -/
theorem checkUnitsComputeTheirResult : Obligations.CheckUnitsComputeTheirResult := by
  unfold Obligations.CheckUnitsComputeTheirResult
  intro s p n q hq
  subst hq
  refine ⟨fun ht => ?init, fun i k v bs c hi ht hc => ?bytes, fun v w k u hk ht hw hu => ?config⟩
  case init =>
    refine completes_chkHost rfl ht (effect_chkCtrl p 1#32 s n) (by simp only [R.CHK_CFG, R.CHK_CTRL]; omega)
      (chkInit_ldr n s false) (fun howned => ?_) (fun hfree => ?_)
    · rw [if_pos howned]
      exact setColl_spec s n
    · rw [if_neg (by simp [hfree])]
      exact chkInit_spec n s false
  case bytes =>
    obtain ⟨hx, hplace, he⟩ := exec_chkBytes hi s
    refine completes_chkHost hx ht he hplace (chkServe_ldr n bs s) (fun howned => ?_) (fun hfree => ?_)
    · rw [if_pos howned]
      exact setColl_spec s n
    · rw [if_neg (by simp [hfree])]
      exact chkServe_spec n bs s rfl hc
  case config =>
    obtain ⟨hlo, hhi⟩ := chkConfig_regs_place hk
    have hplace : R.CHK_CFG 0 ≤ k ∧ k < 2 ^ 32 := by
      simp only [R.CHK_CFG, R.CHK_REC] at hlo hhi ⊢
      omega
    have he := effect_chkConfig p v s n.isLt hlo hhi
    rw [chkConfig_eq, ← hw] at he
    refine completes_chkHost (exec_registerWrite hplace.2) ht he hplace.1 (chkConfigFree_ldr n k w s)
      (fun howned => ?_) (fun hfree => ?_)
    · rw [if_pos howned]
      obtain ⟨hcoll, -, hregs⟩ := setColl_spec s n
      exact ⟨hcoll, hregs⟩
    · rw [if_neg (by simp [hfree]), hu, if_congr chkRefused_iff.symm rfl rfl]
      exact chkConfigFree_spec n k w s

end Sys2Proof.Machine
end

section
/-! The rings of the queues (R310): the arithmetic of their indices, the registers in which a ring stands, and which operations
leave every ring as it is or keep its occupancy within its depth. -/

namespace Sys2Proof.Machine

/-! ## Ring arithmetic -/

theorem idxSub_lt (a b : Nat) : idxSub a b < 65536 := Nat.mod_lt _ (by decide)

theorem idxSub_succ_self (a : Nat) : idxSub ((a + 1) % 65536) a = 1 := by
  unfold idxSub
  omega

/-- The way from `b` to `c` is at most the way over `a`. -/
theorem idxSub_le_add (a b c : Nat) : idxSub c b ≤ idxSub c a + idxSub a b := by
  unfold idxSub
  omega

/-- An index `c` on the way from `b` to `a` lies no further from `a` than `b` does. -/
theorem idxSub_le_of_between {a b c : Nat} (h : idxSub c b ≤ idxSub a b) : idxSub a c ≤ idxSub a b := by
  unfold idxSub at *
  omega

theorem idxSub_mod_left (a b : Nat) : idxSub (a % 65536) b = idxSub a b := by
  unfold idxSub
  omega

theorem idxSub_mod_right (a b : Nat) : idxSub a (b % 65536) = idxSub a b := by
  unfold idxSub
  omega

/-! ## The registers of a ring -/

/-- The register at `k` is none of those in which a ring stands: QUE_CFG, QUE_BASE, QUE_PROD and QUE_CONS of the queues. -/
def offRings (k : Nat) : Bool := decide (k < 0x380000) || decide (0x380800 ≤ k) || decide (0x10 ≤ (k - 0x380000) % 0x20)

theorem offRings_eventRegs : ∀ k ∈ eventRegs, offRings k = true := by decide

theorem offRings_iff {k : Nat} : offRings k = true ↔ k < 0x380000 ∨ 0x380800 ≤ k ∨ 0x10 ≤ (k - 0x380000) % 0x20 := by
  simp only [offRings, Bool.or_eq_true, decide_eq_true_eq, or_assoc]

section

variable (n : Nat)

theorem offRings_stat : offRings (R.QUE_STAT n) = true := offRings_iff.2 (by simp only [R.QUE_STAT]; omega)
theorem offRings_alv : offRings (R.QUE_ALV n) = true := offRings_iff.2 (by simp only [R.QUE_ALV]; omega)
theorem offRings_tfault : offRings (R.QUE_TFAULT n) = true := offRings_iff.2 (by simp only [R.QUE_TFAULT]; omega)
theorem offRings_tfsticky : offRings (R.QUE_TFSTICKY n) = true := offRings_iff.2 (by simp only [R.QUE_TFSTICKY]; omega)
theorem offRings_hpCnt (p : Fin 2) : offRings (R.PCR_HP_CNT p) = true := offRings_iff.2 (by simp only [R.PCR_HP_CNT]; omega)

end

/-! ## Rings that stay -/

/-- The rings of all queues stand in `t` as in `s`. -/
structure SameRings (s t : State) : Prop where
  reg : ∀ k, offRings k = false → t.reg k = s.reg k

namespace SameRings

variable {r s t : State}

theorem refl (s : State) : SameRings s s := ⟨fun _ _ => rfl⟩

theorem trans (h : SameRings r s) (h' : SameRings s t) : SameRings r t := ⟨fun k hk => (h'.reg k hk).trans (h.reg k hk)⟩

theorem same (h : SameRings r s) (hr : t.regs = s.regs) : SameRings r t :=
  h.trans ⟨fun k _ => by unfold State.reg; rw [hr]⟩

theorem of_regsBut {l : List Nat} (h : s.regsBut t l) (hl : ∀ k ∈ l, offRings k = true) : SameRings s t :=
  ⟨fun k hk => h k fun hm => by simp [hl k hm] at hk⟩

theorem setFld (h : SameRings r s) (f : Fld) (v : Nat) (hf : offRings f.addr = true) : SameRings r (s.setFld f v) :=
  h.trans ⟨fun _ hj => State.reg_setFld_other _ _ (by rintro rfl; simp [hf] at hj)⟩

theorem setFlag (h : SameRings r s) (f : Fld) (b : Bool) (hf : offRings f.addr = true) : SameRings r (s.setFlag f b) := h.setFld f _ hf

theorem setBit (h : SameRings r s) (f : Fld) (i : Nat) (b : Bool) (hf : offRings f.addr = true) : SameRings r (s.setBit f i b) :=
  h.setFld f _ hf

theorem bump (h : SameRings r s) (f : Fld) (k : Nat) (hf : offRings f.addr = true) : SameRings r (s.bump f k) := h.setFld f _ hf

theorem ite {c : Prop} [Decidable c] (hs : SameRings r s) (ht : SameRings r t) : SameRings r (if c then s else t) := by
  split <;> assumption

theorem raise (h : SameRings r s) (src pay : Nat) : SameRings r (raise src pay s) :=
  h.trans (of_regsBut (served_raise (.refl s) src pay).regs offRings_eventRegs)

theorem answer (h : SameRings r s) (p : Fin 2) (c : Nat) (l : List Word) : SameRings r (answer p c l s) := h.same rfl

theorem notBound (h : SameRings r s) (p : Fin 2) : SameRings r (notBound p s) := (h.bump _ 1 (offRings_hpCnt p)).answer p 4 []

/-- The first fault of a tenant, with its step. -/
theorem firstFault (h : SameRings r s) (t c : Nat) : SameRings r (if s.fld (F.QUE_TFAULT_FIRST t) = 0 then
    (s.setFld (F.QUE_TFAULT_FIRST t) c).setFld (F.QUE_TFAULT_STEP t) s.stepN else s) :=
  .ite ((h.setFld _ _ (offRings_tfault t)).setFld _ _ (offRings_tfault t)) h

theorem tenFault (h : SameRings r s) (t c : Nat) : SameRings r (tenFault t c s) := (h.firstFault t c).setBit _ _ true (offRings_tfsticky t)

theorem irqLatch (h : SameRings r s) (k : Nat) : SameRings r (irqLatch k s) :=
  (h.setBit (F.PCR_HP_IRQ_SRC 0) k true (by decide)).setBit (F.PCR_HP_IRQ_SRC 1) k true (by decide)

theorem queAudit (h : SameRings r s) (n : Nat) : SameRings r (queAudit n s) := by
  have hstat := h.setFlag (F.QUE_STAT_AUDIT n) true (offRings_stat n)
  exact .ite ((hstat.same (t := State.modQue _ _) rfl).firstFault _ _) h

theorem queOverflow (h : SameRings r s) (n : Nat) : SameRings r (queOverflow n s) :=
  (((h.bump (F.QUE_STAT_OVF_CNT n) 1 (offRings_stat n)).setFlag (F.QUE_STAT_OVF n) true (offRings_stat n)).tenFault _ _).raise _ _

theorem queTimeout (h : SameRings r s) (n : Nat) : SameRings r (queTimeout n s) :=
  .ite h ((((h.setFlag (F.QUE_STAT_TMO n) true (offRings_stat n)).tenFault _ _).irqLatch _).raise _ _)

end SameRings

/-! ## What a ring's registers tell -/

section

variable {s t : State} {n : Nat}

theorem SameRings.fld (h : SameRings s t) {f : Fld} (hf : offRings f.addr = false) : t.fld f = s.fld f := by
  unfold State.fld
  rw [h.reg _ hf]

theorem ring_offRings (h : n < 64) : offRings (R.QUE_CFG n) = false ∧ offRings (R.QUE_PROD n) = false ∧ offRings (R.QUE_CONS n) = false := by
  simp only [Bool.eq_false_iff, ne_eq, offRings_iff, R.QUE_CFG, R.QUE_PROD, R.QUE_CONS]
  omega

theorem SameRings.queDepth (h : SameRings s t) (hn : n < 64) : t.queDepth n = s.queDepth n := by
  unfold State.queDepth
  rw [h.fld (ring_offRings hn).1]

theorem SameRings.queProd (h : SameRings s t) (hn : n < 64) : t.queProd n = s.queProd n := h.fld (ring_offRings hn).2.1

theorem SameRings.queCons (h : SameRings s t) (hn : n < 64) : t.queCons n = s.queCons n := h.fld (ring_offRings hn).2.2

theorem SameRings.queOcc (h : SameRings s t) (hn : n < 64) : t.queOcc n = s.queOcc n := by
  unfold State.queOcc
  rw [h.queProd hn, h.queCons hn]

end

section

variable (s : State) (n v : Nat)

@[simp] theorem queProd_setProd : (s.setFld (F.QUE_PROD_PROD n) v).queProd n = v % 65536 := s.fld_setFld_same v (by simp [F.QUE_PROD_PROD])

@[simp] theorem queCons_setCons : (s.setFld (F.QUE_CONS_CONS n) v).queCons n = v % 65536 := s.fld_setFld_same v (by simp [F.QUE_CONS_CONS])

theorem queOcc_setProd : (s.setFld (F.QUE_PROD_PROD n) v).queOcc n = idxSub v (s.queCons n) := by
  have hcons : (s.setFld (F.QUE_PROD_PROD n) v).queCons n = s.queCons n :=
    s.fld_setFld_other v (by simp [F.QUE_CONS_CONS, F.QUE_PROD_PROD, R.QUE_CONS, R.QUE_PROD])
  rw [State.queOcc, queProd_setProd, hcons, idxSub_mod_left]

theorem queOcc_setCons : (s.setFld (F.QUE_CONS_CONS n) v).queOcc n = idxSub (s.queProd n) v := by
  have hprod : (s.setFld (F.QUE_CONS_CONS n) v).queProd n = s.queProd n :=
    s.fld_setFld_other v (by simp [F.QUE_CONS_CONS, F.QUE_PROD_PROD, R.QUE_CONS, R.QUE_PROD])
  rw [State.queOcc, queCons_setCons, hprod, idxSub_mod_right]

theorem queDepth_setFld {f : Fld} (h : R.QUE_CFG n ≠ f.addr) : (s.setFld f v).queDepth n = s.queDepth n := by
  unfold State.queDepth
  rw [s.fld_setFld_other v h]

end

end Sys2Proof.Machine
end

section
/-! The occupancy of a ring within its depth (R310): an index moves only where the ring has room for it, so the audit that follows
finds nothing, and a command that moves an index of one ring leaves every other ring as it is. -/

namespace Sys2Proof.Machine

section

variable {s : State} {n : Nat}

theorem queAudit_of_le (h : s.queOcc n ≤ s.queDepth n) : queAudit n s = s :=
  if_neg (by simp [Nat.not_lt.2 h])

/-! ## The moves of an index -/

/-- PROD moves to an index that the free slots reach. -/
theorem queOcc_setProd_le (hocc : s.queOcc n ≤ s.queDepth n) {p : Nat} (hp : idxSub p (s.queProd n) ≤ s.queDepth n - s.queOcc n) :
    (s.setFld (F.QUE_PROD_PROD n) p).queOcc n ≤ (s.setFld (F.QUE_PROD_PROD n) p).queDepth n := by
  rw [queOcc_setProd, queDepth_setFld _ _ _ (by simp [F.QUE_PROD_PROD, R.QUE_CFG, R.QUE_PROD])]
  have hway := idxSub_le_add (s.queProd n) (s.queCons n) p
  unfold State.queOcc at *
  omega

/-- CONS moves to an index among those in use. -/
theorem queOcc_setCons_le (hocc : s.queOcc n ≤ s.queDepth n) {c : Nat} (hc : idxSub c (s.queCons n) ≤ s.queOcc n) :
    (s.setFld (F.QUE_CONS_CONS n) c).queOcc n ≤ (s.setFld (F.QUE_CONS_CONS n) c).queDepth n := by
  rw [queOcc_setCons, queDepth_setFld _ _ _ (by simp [F.QUE_CONS_CONS, R.QUE_CFG, R.QUE_CONS])]
  exact (idxSub_le_of_between hc).trans hocc

/-- The next index is in reach where the queue is not full. -/
theorem next_prod_fits (h : s.queOcc n < s.queDepth n) : idxSub ((s.queProd n + 1) % 65536) (s.queProd n) ≤ s.queDepth n - s.queOcc n := by
  rw [idxSub_succ_self]
  omega

/-- The next index is in use where the queue is not empty. -/
theorem next_cons_fits (h : s.queOcc n ≠ 0) : idxSub ((s.queCons n + 1) % 65536) (s.queCons n) ≤ s.queOcc n := by
  rw [idxSub_succ_self]
  omega

theorem setCons_of_le (hocc : s.queOcc n ≤ s.queDepth n) {c : Nat} (hc : idxSub c (s.queCons n) ≤ s.queOcc n) :
    setCons n c s = s.setFld (F.QUE_CONS_CONS n) c := queAudit_of_le (queOcc_setCons_le hocc hc)

theorem bellWrite_of_le (hocc : s.queOcc n ≤ s.queDepth n) {p : Nat} (hp : idxSub p (s.queProd n) ≤ s.queDepth n - s.queOcc n) :
    bellWrite n p s = (s.setFld (F.QUE_PROD_PROD n) p).modQue (fun q => { q with waiting := q.waiting ++ [(n, p)] }) :=
  queAudit_of_le (s := State.modQue _ _) (queOcc_setProd_le hocc hp)

end

/-! ## Occupancies kept -/

/-- The occupancy of queue `n` stays within its depth from `s` to `t`. -/
structure KeepsRing (n : Nat) (s t : State) : Prop where
  occ : s.queOcc n ≤ s.queDepth n → t.queOcc n ≤ t.queDepth n

section

variable {r s t : State} {n : Nat}

theorem KeepsRing.trans (h : KeepsRing n r s) (h' : KeepsRing n s t) : KeepsRing n r t := ⟨h'.occ ∘ h.occ⟩

theorem SameRings.keeps (h : SameRings s t) (hn : n < 64) : KeepsRing n s t :=
  ⟨fun hocc => by rwa [h.queOcc hn, h.queDepth hn]⟩

variable (m : Nat)

/-- A write of PROD or CONS of another queue. -/
theorem queOcc_setFld_other {f : Fld} (v : Nat) (hf : f.addr = R.QUE_PROD m ∨ f.addr = R.QUE_CONS m) (h : m ≠ n)
    (hocc : s.queOcc n ≤ s.queDepth n) : (s.setFld f v).queOcc n ≤ (s.setFld f v).queDepth n := by
  simp only [R.QUE_PROD, R.QUE_CONS] at hf
  have hprod : (s.setFld f v).queProd n = s.queProd n := s.fld_setFld_other v (by simp only [F.QUE_PROD_PROD, R.QUE_PROD]; omega)
  have hcons : (s.setFld f v).queCons n = s.queCons n := s.fld_setFld_other v (by simp only [F.QUE_CONS_CONS, R.QUE_CONS]; omega)
  rw [State.queOcc, hprod, hcons, queDepth_setFld _ _ _ (by simp only [R.QUE_CFG]; omega)]
  exact hocc

theorem keepsRing_setProd {p : Nat} (hp : idxSub p (s.queProd m) ≤ s.queDepth m - s.queOcc m) :
    KeepsRing n s (s.setFld (F.QUE_PROD_PROD m) p) := by
  refine ⟨fun hocc => ?_⟩
  by_cases h : m = n
  · subst h
    exact queOcc_setProd_le hocc hp
  · exact queOcc_setFld_other m p (.inl rfl) h hocc

theorem keepsRing_setCons {c : Nat} (hc : idxSub c (s.queCons m) ≤ s.queOcc m) : KeepsRing n s (s.setFld (F.QUE_CONS_CONS m) c) := by
  refine ⟨fun hocc => ?_⟩
  by_cases h : m = n
  · subst h
    exact queOcc_setCons_le hocc hc
  · exact queOcc_setFld_other m c (.inr rfl) h hocc

end

end Sys2Proof.Machine
end

section
/-! ENQ, DEQ and PEEK (R311, R313): when a request goes on, what it does then, and that a refused one answers its status alone. -/

namespace Sys2Proof.Machine

/-! ## Answers -/

/-- A request that only answers. -/
theorem answer_sameBut (p : Fin 2) (c : Nat) (l : List Word) (s : State) : s.sameBut (answer p c l s) p := by
  obtain ⟨r, -, -, he⟩ := answer_eq p c l s
  unfold State.sameBut
  rw [he]
  simp [State.modPort]

theorem answerWords_answer (p : Fin 2) (c : Nat) (l : List Word) (s : State) : answerWords (answer p c l s) p = some l := by
  obtain ⟨r, -, hr, he⟩ := answer_eq p c l s
  rw [answerWords, he]
  simp [State.modPort, hr]

theorem frame_hears {s : State} {p : Fin 2} (h : s.hears p = true) (f : State → State) : frame p true f s = f s := by
  have hd : (s.ports.get p).deaf = false := by simpa [State.hears] using h
  simp [frame, hd]

/-! ## Memory and events -/

/-- Bytes that were written read back. -/
theorem memRead_memWrite (m : SMap Byte) (k : Nat) (bs : List Byte) : memRead (memWrite m k bs) k bs.length = bs := by
  refine List.ext_getElem (by simp [memRead]) fun i _ h => ?_
  simp [memRead, memGet_memWrite_same m k bs h]

theorem length_flatMap_leBytes (k : Nat) (ws : List Word) : (ws.flatMap (fun w => leBytes k w.toNat)).length = k * ws.length := by
  induction ws with
  | nil => rfl
  | cons w ws ih =>
    rw [List.flatMap_cons, List.length_append, ih]
    simp [leBytes, Nat.mul_add, Nat.add_comm]

@[simp] theorem raise_que (src pay : Nat) (s : State) : (raise src pay s).que = s.que := (served_raise (.refl s) src pay).near.same .que rfl

@[simp] theorem raise_gran (src pay : Nat) (s : State) : (raise src pay s).gran = s.gran := (served_raise (.refl s) src pay).near.same .gran rfl

/-- What a queue's event adds to the counts does not rest on the registers. -/
theorem heard_quePut {s t : State} (ht : t.tasks = s.tasks) (hr : t.routes = s.routes) (n pay : Nat) :
    s.heard (raise (Ev.quePut n) pay t) (Ev.quePut n) := by
  intro c
  have hc := raise_heard t (Ev.quePut n) pay c
  have hput : 0x80 ≤ Ev.quePut n := by simp only [Ev.quePut]; omega
  rw [if_pos (.inl hput)] at hc ⊢
  rw [hc]
  simp only [State.task, State.routeCount, ht, hr]

/-! ## The checks of a request -/

/-- A chain of refusals goes on where none of its conditions holds. -/
theorem ite_refusal_eq_zero {c : Prop} [Decidable c] {k x : Nat} (hk : k ≠ 0) : (if c then k else x) = 0 ↔ ¬c ∧ x = 0 := by
  by_cases h : c <;> simp [h, hk]

section

variable {s : State} {p : Fin 2} {n : Nat} {z2h : Bool}

/-- R304, R311, R313: what a request that goes on has met. -/
theorem queCheck_eq_zero : s.queCheck p n z2h = 0 ↔
    n < 64 ∧ s.pd 2 = true ∧ s.bound p (s.queTenant n) = true ∧ s.queRole n z2h = true ∧ n ∉ s.que.stopped
      ∧ (z2h = false → s.inReset (s.queTenant n) = false) ∧ (if z2h then s.queOcc n ≠ 0 else s.queOcc n < s.queDepth n) := by
  unfold State.queCheck
  simp (disch := decide) only [ite_refusal_eq_zero]
  cases z2h <;> simp [and_assoc]

theorem queCheck_lt : s.queCheck p n z2h < 64 := by
  unfold State.queCheck
  split_ifs <;> decide

/-- The status of a request whose length is checked first. -/
theorem queStatus_eq_zero {c : Prop} [Decidable c] : (if c then s.queCheck p n z2h else 3) = 0 ↔ c ∧ s.queCheck p n z2h = 0 := by
  by_cases h : c <;> simp [h]

theorem queStatus_lt {c : Prop} [Decidable c] : (if c then s.queCheck p n z2h else 3) < 64 := by
  split
  · exact queCheck_lt
  · decide

theorem queCheck_of_open (h : queOpen s p n z2h) (hocc : if z2h then s.queOcc n ≠ 0 else s.queOcc n < s.queDepth n) :
    s.queCheck p n z2h = 0 := by
  obtain ⟨hn, hpd, hbound, hrole, hstop, hreset, -⟩ := h
  exact queCheck_eq_zero.2 ⟨hn, hpd, hbound, hrole, hstop, hreset, hocc⟩

end

/-! ## ENQ -/

section

variable {s : State} {n : Nat}

/-- The descriptor stands in its slot, PROD has advanced, and the doorbell is registered or waits behind another. -/
def enqPut (n : Nat) (d : List Byte) (s : State) : State :=
  let p := (s.queProd n + 1) % 65536
  let t := (granWrite (s.queSlot n (s.queProd n)) d s).setFld (F.QUE_PROD_PROD n) p
  if s.que.waiting.any (fun w => w.1 == n) then t.modQue (fun q => { q with waiting := q.waiting ++ [(n, p)] }) else setBell n p t

theorem enqDesc_eq (d : List Byte) : enqDesc n d s = queAudit n (raise (Ev.quePut n) ((s.queProd n + 1) % 65536) (enqPut n d s)) := rfl

theorem enqPut_regs (d : List Byte) : (enqPut n d s).regs = (s.setFld (F.QUE_PROD_PROD n) ((s.queProd n + 1) % 65536)).regs := by
  unfold enqPut
  dsimp only
  split <;> rfl

theorem enqPut_same (d : List Byte) : (enqPut n d s).tasks = s.tasks ∧ (enqPut n d s).routes = s.routes
    ∧ (enqPut n d s).gran = memWrite s.gran (s.queSlot n (s.queProd n)) d := by
  unfold enqPut
  dsimp only
  split <;> exact ⟨rfl, rfl, rfl⟩

theorem enqPut_bell (d : List Byte) (h : ∀ w ∈ s.que.waiting, w.1 ≠ n) : (enqPut n d s).queBell n = (s.queProd n + 1) % 65536 := by
  unfold enqPut
  dsimp only
  rw [if_neg (by simpa only [List.any_eq_true, beq_iff_eq, not_exists, not_and] using h)]
  exact (SMap.get_put ..).trans (if_pos rfl)

/-- The rings as an enqueue leaves them: one PROD has advanced. -/
theorem enq_rings (d : List Byte) : SameRings (s.setFld (F.QUE_PROD_PROD n) ((s.queProd n + 1) % 65536))
    (raise (Ev.quePut n) ((s.queProd n + 1) % 65536) (enqPut n d s)) := ((SameRings.refl _).same (enqPut_regs d)).raise _ _

theorem enqDesc_of_lt (hn : n < 64) (h : s.queOcc n < s.queDepth n) (d : List Byte) :
    enqDesc n d s = raise (Ev.quePut n) ((s.queProd n + 1) % 65536) (enqPut n d s) := by
  rw [enqDesc_eq]
  exact queAudit_of_le (((enq_rings d).keeps hn).occ (queOcc_setProd_le h.le (next_prod_fits h)))

/-- R311: what an enqueue into a queue with room leaves. -/
theorem enqDesc_spec (hn : n < 64) (h : s.queOcc n < s.queDepth n) {d : List Byte} (hd : d.length = 32) :
    (enqDesc n d s).queProd n = (s.queProd n + 1) % 65536
      ∧ memRead (enqDesc n d s).gran (s.queSlot n (s.queProd n)) 32 = d
      ∧ sameOutside s.gran (enqDesc n d s).gran (s.queSlot n (s.queProd n)) 32
      ∧ ((∀ w ∈ s.que.waiting, w.1 ≠ n) → (enqDesc n d s).queBell n = (s.queProd n + 1) % 65536)
      ∧ s.heard (enqDesc n d s) (Ev.quePut n) ∧ s.regsBut (enqDesc n d s) (R.QUE_PROD n :: eventRegs) := by
  obtain ⟨htasks, hroutes, hgran⟩ := enqPut_same (s := s) (n := n) d
  rw [enqDesc_of_lt hn h d, raise_gran, hgran]
  refine ⟨?prod, ?slot, ?outside, fun hw => ?bell, heard_quePut htasks hroutes n _, ?frame⟩
  case prod => rw [(enq_rings d).queProd hn, queProd_setProd, Nat.mod_mod]
  case slot => exact hd ▸ memRead_memWrite s.gran _ d
  case outside => exact fun j hj => memGet_memWrite_other s.gran _ d (by omega)
  case bell => rw [State.queBell, raise_que]; exact enqPut_bell d hw
  case frame =>
    have hprod : s.regsBut (enqPut n d s) (R.QUE_PROD n :: eventRegs) :=
      ((s.regsBut_refl _).setFld (F.QUE_PROD_PROD n) _ List.mem_cons_self).same (enqPut_regs d)
    exact hprod.raise _ _ fun k hk => List.mem_cons_of_mem _ hk

end

/-! ## DEQ and PEEK -/

section

variable (s : State) (n : Nat)

theorem regsBut_granCount (ce ue : List Nat) : s.regsBut (granCount ce ue none s) [R.FLD_GRN_ECC, R.FLD_GRN_ERR, R.FLD_STAT] := by
  have hce := (s.regsBut_refl [R.FLD_GRN_ECC, R.FLD_GRN_ERR, R.FLD_STAT]).bump F.FLD_GRN_ECC_CE ce.length (by decide)
  unfold granCount
  dsimp only
  cases ue.getLast? with
  | none => exact hce
  | some w => exact ((hce.bump F.FLD_GRN_ECC_UE _ (by decide)).setFlag F.FLD_STAT_GRN_UE _ (by decide)).setFld F.FLD_GRN_ERR_OFFSET _ (by decide)

/-- The head is read, and nothing but the counts of the read differs. -/
theorem queHead_spec : (queHead n s).1 = zeroWords (wordsIn s.field.grnUE (s.queSlot n (s.queCons n)) 32) (s.queSlot n (s.queCons n))
      (memRead s.gran (s.queSlot n (s.queCons n)) 32)
    ∧ s.regsBut (queHead n s).2 [R.FLD_GRN_ECC, R.FLD_GRN_ERR, R.FLD_STAT] ∧ (queHead n s).2.gran = s.gran :=
  ⟨rfl, regsBut_granCount s _ _, (near_granCount (l := 0x83125d) rfl (.refl _ s) _ _ none).same .gran rfl⟩

theorem queHead_rings : SameRings s (queHead n s).2 := .of_regsBut (queHead_spec s n).2.1 (by decide)

variable {s n}

/-- R313: CONS advances where the queue holds a descriptor. -/
theorem deq_advances (hn : n < 64) (hocc : s.queOcc n ≤ s.queDepth n) (h : s.queOcc n ≠ 0) :
    setCons n ((s.queCons n + 1) % 65536) (queHead n s).2 = (queHead n s).2.setFld (F.QUE_CONS_CONS n) ((s.queCons n + 1) % 65536) := by
  have hr := queHead_rings s n
  refine setCons_of_le (by rwa [hr.queOcc hn, hr.queDepth hn]) ?_
  rw [hr.queOcc hn, hr.queCons hn]
  exact next_cons_fits h

end

/-! ## The frames -/

section

variable {s : State} {p : Fin 2} {n : Nat}

theorem queRefuse_eq {c : Nat} (h : c ≠ 4) : queRefuse p c s = answer p c [] s := if_neg h

theorem refused_spec {c : Nat} (h : c < 64) : (answer p c [] s).answered p c ∧ s.sameBut (answer p c [] s) p :=
  ⟨answer_answered p h [] s, answer_sameBut p c [] s⟩

theorem exec_enq {ws : List Word} (hwf : (Instr.enq p true n ws).wf = true) (hh : s.hears p = true) :
    exec (.enq p true n ws) s = .next (enqFrame p n ws s) := (if_pos hwf).trans (by rw [frame_hears hh])

theorem exec_deq {len : Nat} (hn : n < 2 ^ 32) (hl : len < 64) (hh : s.hears p = true) :
    exec (.deq p true n len) s = .next (deqFrame p n len true s) ∧ exec (.peek p true n len) s = .next (deqFrame p n len false s) := by
  have hwf : (addrWf n && decide (len < 64)) = true := by simp only [addrWf, hn, hl, decide_true, Bool.and_self]
  exact ⟨(if_pos hwf).trans (by rw [frame_hears hh]), (if_pos hwf).trans (by rw [frame_hears hh])⟩

theorem enqFrame_goes {ws : List Word} (hl : ws.length = 8) (h : s.queCheck p n false = 0) :
    enqFrame p n ws s = answer p 0 [] (enqDesc n (ws.flatMap (fun w => leBytes 4 w.toNat)) s) := by
  simp [enqFrame, hl, h]

theorem deqFrame_goes (h : s.queCheck p n true = 0) (consume : Bool) : deqFrame p n 7 consume s = answer p 0 (wordsOf (queHead n s).1)
    (if consume then setCons n ((s.queCons n + 1) % 65536) (queHead n s).2 else (queHead n s).2) := by
  simp [deqFrame, h]

theorem enqFrame_refused {ws : List Word} {c : Nat} (hc : (if ws.length = 8 then s.queCheck p n false else 3) = c) (h0 : c ≠ 0) :
    enqFrame p n ws s = queRefuse p c s := by
  unfold enqFrame
  rw [hc]
  exact if_neg h0

theorem deqFrame_refused {len c : Nat} (hc : (if len = 7 then s.queCheck p n true else 3) = c) (h0 : c ≠ 0) (consume : Bool) :
    deqFrame p n len consume s = queRefuse p c s := by
  unfold deqFrame
  rw [hc]
  exact if_neg h0

end

end Sys2Proof.Machine
end

section
/-! Index writes (R312, R313): a doorbell that is accepted waits for the engine, one that the engine has fetched is registered, and a
write that reaches no ring of its own leaves the rings. -/

namespace Sys2Proof.Machine

/-! ## A write that is taken -/

section

variable {s : State} {p : Fin 2} {v : Word}

theorem que_ne_rstCtrl {k : Nat} (h : R.QUE_CFG 0 ≤ k) : k ≠ R.PCR_RST_CTRL := by
  rintro rfl
  exact absurd h (by decide)

/-- A write that is taken completes with the answer of its effect. -/
theorem completes_write {i : Instr} {k c : Nat} {t : State} {P : State → Prop} (hi : exec i s = .next (hostWrite p k v s))
    (ht : s.takes p k v = true) (hk : R.QUE_CFG 0 ≤ k) (he : regEffect p (homeKey k) v s = (c, t)) (hl : t.ldr = s.ldr)
    (hP : P (answer p c [] t)) : Completes i s P :=
  ⟨_, hi.trans (congrArg _ (hostWrite_effect ht he hl (que_ne_rstCtrl hk))), hP⟩

theorem setRefused_spec (n : Nat) : (s.setFlag (F.QUE_STAT_REFUSED n) true).flag (F.QUE_STAT_REFUSED n) = true
    ∧ s.regsBut (s.setFlag (F.QUE_STAT_REFUSED n) true) [R.QUE_STAT n] :=
  ⟨s.flag_setFlag_same true (by simp [F.QUE_STAT_REFUSED]) (by simp [F.QUE_STAT_REFUSED]),
    (s.regsBut_refl _).setFlag _ _ (by simp [F.QUE_STAT_REFUSED])⟩

theorem consOk_iff {n c : Nat} : s.consOk n c = true ↔ s.queRole n true = true ∧ idxSub c (s.queCons n) ≤ s.queOcc n := by
  simp [State.consOk]

theorem bellOk_iff {n x : Nat} : s.bellOk n x = true ↔ idxSub x (s.queProd n) ≤ s.queDepth n - s.queOcc n := by
  simp [State.bellOk]

/-- The rings as an accepted doorbell leaves them: one PROD has moved. -/
theorem bellWrite_rings (n x : Nat) : SameRings (s.setFld (F.QUE_PROD_PROD n) x) (bellWrite n x s) := by
  have hwaits := (SameRings.refl (s.setFld (F.QUE_PROD_PROD n) x)).same
    (t := (s.setFld (F.QUE_PROD_PROD n) x).modQue (fun q => { q with waiting := q.waiting ++ [(n, x)] })) rfl
  exact hwaits.queAudit n

/-- The index of a queue has 16 bits, so it is its own remainder. -/
theorem idxSub_fld {f : Fld} (hf : f.width = 16) (x : Nat) : idxSub x (s.fld f) = (x + 65536 - s.fld f) % 65536 := by
  have hlt : s.fld f < 65536 := by
    have := s.fld_lt f
    rwa [hf] at this
  rw [idxSub, Nat.mod_eq_of_lt hlt]

theorem idxSub_queProd (n x : Nat) : idxSub x (s.queProd n) = (x + 65536 - s.queProd n) % 65536 := idxSub_fld rfl x

theorem idxSub_queCons (n x : Nat) : idxSub x (s.queCons n) = (x + 65536 - s.queCons n) % 65536 := idxSub_fld rfl x

end

/-! ## The engine's fetch -/

section

variable {s : State} {n : Nat}

theorem bellRegister_none (h : s.que.waiting.find? (fun w => w.1 == n) = none) : bellRegister n s = s := by
  unfold bellRegister
  rw [h]

theorem exec_doorbell {n : Fin 64} : exec (.doorbellRegistered n) s = .next (bellRegister n s) := rfl

/-- The oldest waiting doorbell of queue `n` is registered up to `q`, and what it announces is staged. -/
def bellFetch (n m q : Nat) (new : List Staged) (s : State) : State :=
  setBell n q (s.modQue (fun x => { x with waiting := x.waiting.erase (m, q), staging := x.staging ++ new }))

/-- R312: the doorbell waits where what it announces finds no room beside what is staged. -/
theorem bellRegister_some {m q : Nat} (h : s.que.waiting.find? (fun w => w.1 == n) = some (m, q)) {new : List Staged}
    (hnew : new = stageCopy n (s.queBell n) (idxSub q (s.queBell n)) s) : bellRegister n s =
      if s.que.staging ≠ [] ∧ 4096 < s.staged + (new.map (fun e => e.desc.length + e.block.length)).sum then s
      else raise (Ev.quePut n) q (bellFetch n n q new s) := by
  subst hnew
  unfold bellRegister
  rw [h]
  refine if_congr ?_ rfl rfl
  simp

theorem bellRegister_rings : SameRings s (bellRegister n s) := by
  cases h : s.que.waiting.find? (fun w => w.1 == n) with
  | none => rw [bellRegister_none h]; exact .refl s
  | some w =>
    rw [bellRegister_some h rfl]
    exact .ite (.refl s) (((SameRings.refl s).same (t := bellFetch ..) rfl).raise _ _)

theorem bellFetch_spec (n q : Nat) (new : List Staged) :
    (raise (Ev.quePut n) q (bellFetch n n q new s)).queBell n = q
      ∧ (raise (Ev.quePut n) q (bellFetch n n q new s)).que.waiting = s.que.waiting.erase (n, q)
      ∧ (raise (Ev.quePut n) q (bellFetch n n q new s)).que.staging = s.que.staging ++ new
      ∧ s.heard (raise (Ev.quePut n) q (bellFetch n n q new s)) (Ev.quePut n)
      ∧ s.regsBut (raise (Ev.quePut n) q (bellFetch n n q new s)) eventRegs := by
  refine ⟨?_, by rw [raise_que]; rfl, by rw [raise_que]; rfl, heard_quePut rfl rfl n q,
    ((s.regsBut_refl _).same (t := bellFetch n n q new s) rfl).raise _ _ fun _ hk => hk⟩
  rw [State.queBell, raise_que]
  exact (SMap.get_put ..).trans (if_pos rfl)

end

/-! ## A write, taken or not -/

section

variable {s : State} {p : Fin 2} {k : Nat} {v : Word}

/-- A LIVE declaration that covers a register of the queues is none of those that act at once (R233): it changes no ring. -/
theorem SameRings.liveField {r : State} (h : SameRings r s) {d : LiveDecl} (hd : 0x380000 ≤ homeKey d.addr) :
    SameRings r (liveField (some p) v s d) := by
  have hrule : ¬(R.SCW_RULE_B 0 ≤ d.addr ∧ d.addr ≤ R.SCW_RULE_B 31) := by
    rintro ⟨-, hhi⟩
    have hlow : d.addr < 0x100000 := lt_of_le_of_lt hhi (by decide)
    rw [homeKey, if_neg (by omega)] at hd
    omega
  have hrefuse : SameRings r (liveRefuse s) := (h.setFlag F.PCR_IMG_STATUS_LIVE_REJ true (by decide)).bump F.PCR_LIVE_REJ_COUNT 1 (by decide)
  unfold Machine.liveField
  extract_lets now tag q late s1
  have hnow : ¬(now = true) := by simpa [now] using hrule
  exact .ite hrefuse (by rw [if_neg hnow]; exact .ite hrefuse (h.same rfl))

theorem SameRings.liveWrite {r : State} (h : SameRings r s) (hk : 0x380000 ≤ homeKey k) : SameRings r (liveWrite (some p) k v s) := by
  unfold Machine.liveWrite State.each
  have hcover : ∀ d ∈ s.ldr.live.filter (fun d => homeKey d.addr == homeKey k), homeKey d.addr = homeKey k :=
    fun d hd => by simpa using (List.mem_filter.1 hd).2
  revert hcover
  generalize s.ldr.live.filter (fun d => homeKey d.addr == homeKey k) = l
  intro hcover
  induction l generalizing s with
  | nil => exact h
  | cons d l ih => exact ih (h.liveField (hcover d List.mem_cons_self ▸ hk)) fun e he => hcover e (List.mem_cons_of_mem d he)

theorem writeWords_single : (writeWords p [(k, v)] s).2 = (regWrite (some p) p k v s).2 := by
  simp only [writeWords]
  split <;> rfl

/-- R310: a write at a register of the queues keeps a ring that its effect keeps, whether it is taken or not. -/
theorem keepsRing_hostWrite {n : Nat} (hn : n < 64) (hk : 0x380000 ≤ homeKey k)
    (he : KeepsRing n s (regEffect p (homeKey k) v s).2) : KeepsRing n s (hostWrite p k v s) := by
  have hrefl := SameRings.refl s
  have hreg : KeepsRing n s (regWrite (some p) p k v s).2 := by
    unfold regWrite
    dsimp only
    split
    · exact hrefl.keeps hn
    · exact he.trans (((SameRings.refl _).liveWrite hk).keeps hn)
  have hws : (wordAddrs k [v].length).zip [v] = [(k, v)] := by simp [wordAddrs]
  simp only [hostWrite, frame, writeFrame, hws, if_true]
  split_ifs
  · exact hrefl.keeps hn
  · exact (hrefl.answer ..).keeps hn
  · exact (hrefl.notBound p).keeps hn
  · exact (writeWords_single ▸ hreg).trans (((SameRings.refl _).answer ..).keeps hn)

end

end Sys2Proof.Machine
end

section
/-! The commands of the queues, one by one: each keeps every occupancy within its depth (R310), and the requests and index writes
do what R311 to R313 say. -/

namespace Sys2Proof.Machine

section

variable {s t : State} {p : Fin 2} {n : Nat}

/-! ## Every ring within its depth -/

theorem whenWf_next {i : Instr} {row : String} (h : whenWf i row s = .next t) : t = s := by
  unfold whenWf at h
  split at h
  · injection h with h
    exact h.symm
  · cases h

theorem KeepsRing.frame {f : State → State} (hn : n < 64) (h : KeepsRing n s (f s)) (ok : Bool) : KeepsRing n s (frame p ok f s) := by
  have hcrc : SameRings s (s.bump (F.PCR_HP_CNT_CRC p) 1) := (SameRings.refl s).bump _ 1 (offRings_hpCnt p)
  unfold Machine.frame
  split_ifs
  · exact (SameRings.refl s).keeps hn
  · exact h
  · exact (hcrc.answer p 1 []).keeps hn

theorem queRefuse_rings (c : Nat) : SameRings s (queRefuse p c s) := .ite ((SameRings.refl s).notBound p) ((SameRings.refl s).answer p c [])

theorem keepsRing_enqFrame (hn : n < 64) (m : Nat) (ws : List Word) : KeepsRing n s (enqFrame p m ws s) := by
  by_cases h : ws.length = 8 ∧ s.queCheck p m false = 0
  · obtain ⟨-, -, -, -, -, -, hroom⟩ := queCheck_eq_zero.1 h.2
    rw [enqFrame_goes h.1 h.2, enqDesc_eq]
    exact (keepsRing_setProd m (next_prod_fits hroom)).trans ((((enq_rings _).queAudit m).answer p 0 []).keeps hn)
  · rw [enqFrame_refused rfl (mt queStatus_eq_zero.1 h)]
    exact (queRefuse_rings _).keeps hn

theorem keepsRing_deqFrame (hn : n < 64) (m : Nat) (len : Nat) (consume : Bool) : KeepsRing n s (deqFrame p m len consume s) := by
  by_cases h : len = 7 ∧ s.queCheck p m true = 0
  · obtain ⟨rfl, hc⟩ := h
    obtain ⟨hm, -, -, -, -, -, hsome⟩ := queCheck_eq_zero.1 hc
    have hr := queHead_rings s m
    have hfits : idxSub ((s.queCons m + 1) % 65536) ((queHead m s).2.queCons m) ≤ (queHead m s).2.queOcc m := by
      rw [hr.queOcc hm, hr.queCons hm]
      exact next_cons_fits hsome
    rw [deqFrame_goes hc]
    cases consume with
    | false => exact (hr.answer ..).keeps hn
    | true => exact (hr.keeps hn).trans ((keepsRing_setCons m hfits).trans ((((SameRings.refl _).queAudit m).answer ..).keeps hn))
  · rw [deqFrame_refused rfl (mt queStatus_eq_zero.1 h)]
    exact (queRefuse_rings _).keeps hn

theorem keepsRing_queDb (hn : n < 64) (m : Fin 64) (v : Word) : KeepsRing n s (hostWrite p (R.QUE_DB m) v s) := by
  have hrefl := SameRings.refl s
  have hk : homeKey (R.QUE_DB m) = R.QUE_DB m := if_neg (by simp only [R.QUE_DB]; omega)
  refine keepsRing_hostWrite hn (by rw [hk]; simp only [R.QUE_DB]; omega) ?_
  rw [effect_queDb]
  split_ifs with hrole hreset hok
  · exact hrefl.keeps hn
  · exact hrefl.keeps hn
  · exact (keepsRing_setProd m (bellOk_iff.1 hok)).trans ((bellWrite_rings m _).keeps hn)
  · exact (hrefl.setFlag _ true (offRings_stat m)).keeps hn

theorem keepsRing_queCons (hn : n < 64) (m : Fin 64) (v : Word) : KeepsRing n s (hostWrite p (R.QUE_CONS m) v s) := by
  have hk : homeKey (R.QUE_CONS m) = R.QUE_CONS m := if_neg (by simp only [R.QUE_CONS]; omega)
  refine keepsRing_hostWrite hn (by rw [hk]; simp only [R.QUE_CONS]; omega) ?_
  rw [effect_queCons]
  split_ifs with hok
  · exact (keepsRing_setCons m (consOk_iff.1 hok).2).trans (((SameRings.refl _).queAudit m).keeps hn)
  · exact ((SameRings.refl s).setFlag _ true (offRings_stat m)).keeps hn

/-- The alive counter of the next descriptor of the Zauri in queue `m` ("Outgoing queues"). -/
def State.nextAlive (s : State) (m : Nat) : Nat := if s.que.wrote.contains m then (s.fld (F.QUE_ALV_OUT_LAST m) + 1) % 16 else 0

/-- The descriptor stands in its slot, and its alive counter and PROD have moved. -/
def postPut (m : Nat) (d : List Byte) (s : State) : State :=
  let t := ((granWrite (s.queSlot m (s.queProd m)) d s).setFld (F.QUE_ALV_OUT_LAST m) (s.nextAlive m)).setFld (F.QUE_PROD_PROD m) (s.queProd m + 1)
  if t.que.wrote.contains m then t else t.modQue (fun q => { q with wrote := q.wrote ++ [m] })

theorem regs_setFld {x y : State} (h : x.regs = y.regs) (f : Fld) (v : Nat) : (x.setFld f v).regs = (y.setFld f v).regs := by
  simp only [State.setFld, State.setReg, State.reg, h]

theorem postPut_regs {m : Nat} (d : List Byte) : (postPut m d s).regs
    = ((s.setFld (F.QUE_ALV_OUT_LAST m) (s.nextAlive m)).setFld (F.QUE_PROD_PROD m) (s.queProd m + 1)).regs := by
  have hput := regs_setFld (regs_setFld (show (granWrite (s.queSlot m (s.queProd m)) d s).regs = s.regs from rfl)
    (F.QUE_ALV_OUT_LAST m) (s.nextAlive m)) (F.QUE_PROD_PROD m) (s.queProd m + 1)
  unfold postPut
  dsimp only
  split <;> exact hput

/-- R308: a queue with room takes the descriptor. -/
theorem postDesc_room {m : Nat} (htakes : s.queTakes m = true) (hroom : s.queOcc m < s.queDepth m) (typ tenant len step : Nat)
    (pay : List Byte) (flags status : Nat) : postDesc m typ tenant len step pay flags status s = raise (Ev.quePut m)
      ((s.queProd m + 1) % 65536) (postPut m (descBytes typ tenant len step pay (s.nextAlive m) flags status) s) := by
  unfold postDesc
  rw [if_neg (by simp [htakes]), if_neg (Nat.not_le.2 hroom)]
  rfl

/-- A descriptor of the Zauri goes into a queue that has room for it. -/
theorem keepsRing_postDesc (hn : n < 64) {m : Nat} (hm : m < 64) (typ tenant len step : Nat) (pay : List Byte) (flags status : Nat) :
    KeepsRing n s (postDesc m typ tenant len step pay flags status s) := by
  have hrefl := SameRings.refl s
  by_cases htakes : s.queTakes m = true
  · by_cases hfull : s.queDepth m ≤ s.queOcc m
    · have hover : postDesc m typ tenant len step pay flags status s = queOverflow m s := by
        unfold postDesc
        rw [if_neg (by simp [htakes]), if_pos hfull]
      rw [hover]
      exact (hrefl.queOverflow m).keeps hn
    · have halive : SameRings s (s.setFld (F.QUE_ALV_OUT_LAST m) (s.nextAlive m)) := hrefl.setFld _ _ (offRings_alv m)
      have hfits := next_prod_fits (Nat.lt_of_not_le hfull)
      rw [idxSub_mod_left, ← halive.queProd hm, ← halive.queDepth hm, ← halive.queOcc hm] at hfits
      have hregs := postPut_regs (s := s) (m := m) (descBytes typ tenant len step pay (s.nextAlive m) flags status)
      rw [← halive.queProd hm] at hregs
      rw [postDesc_room htakes (Nat.lt_of_not_le hfull)]
      exact (halive.keeps hn).trans ((keepsRing_setProd m hfits).trans ((((SameRings.refl _).same hregs).raise _ _).keeps hn))
  · have hskip : postDesc m typ tenant len step pay flags status s = s := by
      unfold postDesc
      rw [if_pos (by simp [htakes])]
    rw [hskip]
    exact hrefl.keeps hn

theorem keepsRing_eventPost (hn : n < 64) {m : Nat} (hm : m < 64) : KeepsRing n s (eventPost m s) := by
  unfold eventPost
  dsimp only
  split
  · exact (SameRings.refl s).keeps hn
  · exact (((SameRings.refl s).same (t := State.setTask ..) rfl).keeps hn).trans (keepsRing_postDesc hn hm ..)

end

/-- R310: every command of the queues keeps every occupancy within its depth. -/
theorem keepsRing_exec {s t : State} {i : Instr} {n : Nat} (hn : n < 64)
    (hi : (∃ p ok m ws, i = .enq p ok m ws) ∨ (∃ p ok m len, i = .deq p ok m len ∨ i = .peek p ok m len)
      ∨ (∃ p m v, i = .queDb p m v ∨ i = .queCons p m v)
      ∨ (∃ m, i = .doorbellRegistered m ∨ i = .queueTimeout m ∨ i = .queueEventPost m))
    (ht : exec i s = .next t) : KeepsRing n s t := by
  rcases hi with ⟨p, ok, m, ws, rfl⟩ | ⟨p, ok, m, len, rfl | rfl⟩ | ⟨p, m, v, rfl | rfl⟩ | ⟨m, rfl | rfl | rfl⟩
  · rw [whenWf_next ht]
    exact (keepsRing_enqFrame hn m ws).frame hn ok
  · rw [whenWf_next ht]
    exact (keepsRing_deqFrame hn m len true).frame hn ok
  · rw [whenWf_next ht]
    exact (keepsRing_deqFrame hn m len false).frame hn ok
  · injection ht with ht
    exact ht ▸ keepsRing_queDb hn m v
  · injection ht with ht
    exact ht ▸ keepsRing_queCons hn m v
  · injection ht with ht
    exact ht ▸ bellRegister_rings.keeps hn
  · injection ht with ht
    exact ht ▸ ((SameRings.refl s).queTimeout m).keeps hn
  · injection ht with ht
    exact ht ▸ keepsRing_eventPost hn m.isLt

/-! ## Requests -/

section

variable {s : State} {p : Fin 2} {n : Nat}

/-- R311: an ENQ that meets nothing against it. -/
theorem completes_enq (hh : s.hears p = true) (hn : n < 2 ^ 32) {ws : List Word} (hl : ws.length = 8) (hopen : queOpen s p n false)
    (hroom : s.queOcc n < s.queDepth n) : Completes (.enq p true n ws) s fun t =>
      t.answered p 0 ∧ t.queProd n = (s.queProd n + 1) % 65536
      ∧ memRead t.gran (s.queSlot n (s.queProd n)) 32 = ws.flatMap (fun w => leBytes 4 w.toNat)
      ∧ sameOutside s.gran t.gran (s.queSlot n (s.queProd n)) 32
      ∧ ((∀ w ∈ s.que.waiting, w.1 ≠ n) → t.queBell n = (s.queProd n + 1) % 65536)
      ∧ s.heard t (Ev.quePut n) ∧ s.regsBut t (R.QUE_PROD n :: eventRegs) := by
  have hwf : (Instr.enq p true n ws).wf = true := by
    change (addrWf n && countWf ws.length) = true
    simp only [addrWf, countWf, hn, hl]
    rfl
  have hd : (ws.flatMap (fun w => leBytes 4 w.toNat)).length = 32 := by rw [length_flatMap_leBytes, hl]
  have hgo := enqFrame_goes hl (queCheck_of_open hopen hroom)
  exact ⟨_, (exec_enq hwf hh).trans (congrArg _ hgo), answer_answered p (by decide) [] _, enqDesc_spec hopen.1 hroom hd⟩

/-- R313: a DEQ or PEEK that meets nothing against it. -/
theorem completes_deq (hh : s.hears p = true) (hn : n < 2 ^ 32) (hopen : queOpen s p n true) (hsome : s.queOcc n ≠ 0) {ws : List Word}
    (hws : ws = wordsOf (queHead n s).1) {ks : List Nat} (hks : ks = [R.FLD_GRN_ECC, R.FLD_GRN_ERR, R.FLD_STAT]) :
    Completes (.deq p true n 7) s (fun t => t.answered p 0 ∧ answerWords t p = some ws ∧ t.queCons n = (s.queCons n + 1) % 65536
        ∧ t.gran = s.gran ∧ s.regsBut t (R.QUE_CONS n :: ks))
      ∧ Completes (.peek p true n 7) s (fun t => t.answered p 0 ∧ answerWords t p = some ws ∧ s.regsBut t ks ∧ t.gran = s.gran) := by
  have hgo := deqFrame_goes (queCheck_of_open hopen hsome)
  obtain ⟨hq, -, -, -, -, -, hocc⟩ := hopen
  obtain ⟨hdeq, hpeek⟩ := exec_deq (len := 7) hn (by decide) hh
  obtain ⟨-, hregs, hgran⟩ := queHead_spec s n
  subst hks hws
  refine ⟨⟨_, hdeq.trans (congrArg _ (hgo true)), answer_answered p (by decide) _ _, answerWords_answer .., ?_⟩,
    ⟨_, hpeek.trans (congrArg _ (hgo false)), answer_answered p (by decide) _ _, answerWords_answer .., hregs, hgran⟩⟩
  rw [if_pos rfl, deq_advances hq hocc hsome]
  exact ⟨(queCons_setCons ..).trans (Nat.mod_mod ..), hgran,
    (hregs.mono fun k hk => List.mem_cons_of_mem _ hk).setFld (F.QUE_CONS_CONS n) _ List.mem_cons_self⟩

theorem completes_enq_refused (hh : s.hears p = true) {c : Nat} (h0 : c ≠ 0) (h4 : c ≠ 4) {ws : List Word}
    (hwf : (Instr.enq p true n ws).wf = true) (hc : (if ws.length = 8 then s.queCheck p n false else 3) = c) :
    Completes (.enq p true n ws) s fun t => t.answered p c ∧ s.sameBut t p :=
  ⟨_, (exec_enq hwf hh).trans (congrArg _ ((enqFrame_refused hc h0).trans (queRefuse_eq h4))), refused_spec (hc ▸ queStatus_lt)⟩

theorem completes_deq_refused (hh : s.hears p = true) (hn : n < 2 ^ 32) {c : Nat} (h0 : c ≠ 0) (h4 : c ≠ 4) {len : Nat} (hlen : len < 64)
    (hc : (if len = 7 then s.queCheck p n true else 3) = c) :
    Completes (.deq p true n len) s (fun t => t.answered p c ∧ s.sameBut t p)
      ∧ Completes (.peek p true n len) s (fun t => t.answered p c ∧ s.sameBut t p) := by
  have hgo := fun b => (deqFrame_refused hc h0 b).trans (queRefuse_eq h4)
  have hlt : c < 64 := hc ▸ queStatus_lt
  obtain ⟨hdeq, hpeek⟩ := exec_deq hn hlen hh
  exact ⟨⟨_, hdeq.trans (congrArg _ (hgo true)), refused_spec hlt⟩, ⟨_, hpeek.trans (congrArg _ (hgo false)), refused_spec hlt⟩⟩

end

/-! ## Index writes -/

section

variable {s : State} {p : Fin 2} {n : Fin 64} {v : Word} {x : Nat}

/-- R312: a write of QUE_DB[n] that is taken. -/
theorem completes_queDb (hx : x = fieldGet v 0 16) (hocc : s.queOcc n ≤ s.queDepth n) (ht : s.takes p (R.QUE_DB n) v = true) :
    Completes (.queDb p n v) s fun t =>
      if s.queRole n false = false then t.answered p 0xB ∧ s.sameBut t p
      else if s.inReset (s.queTenant n) = true then t.answered p 0xC ∧ s.sameBut t p
      else if (x + 65536 - s.queProd n) % 65536 ≤ s.queDepth n - s.queOcc n then
        t.answered p 0 ∧ t.queProd n = x ∧ t.que = { s.que with waiting := s.que.waiting ++ [(n.val, x)] } ∧ s.regsBut t [R.QUE_PROD n]
      else t.answered p 0xD ∧ t.flag (F.QUE_STAT_REFUSED n) = true ∧ t.que = s.que ∧ s.regsBut t [R.QUE_STAT n] := by
  have hplace : R.QUE_CFG 0 ≤ R.QUE_DB n := by simp only [R.QUE_CFG, R.QUE_DB]; omega
  have he := effect_queDb p v s n
  rw [← hx] at he
  rw [← idxSub_queProd]
  split_ifs with hrole hreset hfits
  · rw [if_pos (by simp [hrole])] at he
    exact completes_write rfl ht hplace he rfl (refused_spec (by decide))
  · rw [if_neg (by simpa using hrole), if_pos hreset] at he
    exact completes_write rfl ht hplace he rfl (refused_spec (by decide))
  · rw [if_neg (by simpa using hrole), if_neg hreset, if_pos (bellOk_iff.2 hfits), bellWrite_of_le hocc hfits] at he
    have hprod : x % 65536 = x := Nat.mod_eq_of_lt (hx ▸ fieldGet_lt v 0 16)
    exact completes_write rfl ht hplace he rfl ⟨answer_answered p (by decide) [] _, (queProd_setProd ..).trans hprod, rfl,
      ((s.regsBut_refl _).setFld (F.QUE_PROD_PROD n) _ List.mem_cons_self).same rfl⟩
  · rw [if_neg (by simpa using hrole), if_neg hreset, if_neg (mt bellOk_iff.1 hfits)] at he
    obtain ⟨hflag, hregs⟩ := setRefused_spec (s := s) n
    exact completes_write rfl ht hplace he rfl ⟨answer_answered p (by decide) [] _, hflag, rfl, hregs⟩

/-- R313: a write of QUE_CONS[n] that is taken. -/
theorem completes_queCons (hx : x = fieldGet v 0 16) (hocc : s.queOcc n ≤ s.queDepth n) (ht : s.takes p (R.QUE_CONS n) v = true) :
    Completes (.queCons p n v) s fun t =>
      if s.queRole n true = true ∧ (x + 65536 - s.queCons n) % 65536 ≤ s.queOcc n then
        t.answered p 0 ∧ t.queCons n = x ∧ s.regsBut t [R.QUE_CONS n]
      else t.answered p 0xD ∧ t.flag (F.QUE_STAT_REFUSED n) = true ∧ s.regsBut t [R.QUE_STAT n] := by
  have hplace : R.QUE_CFG 0 ≤ R.QUE_CONS n := by simp only [R.QUE_CFG, R.QUE_CONS]; omega
  have he := effect_queCons p v s n
  rw [← hx] at he
  rw [← idxSub_queCons]
  split_ifs with hfits
  · rw [if_pos (consOk_iff.2 hfits), setCons_of_le hocc hfits.2] at he
    have hcons : x % 65536 = x := Nat.mod_eq_of_lt (hx ▸ fieldGet_lt v 0 16)
    exact completes_write rfl ht hplace he rfl ⟨answer_answered p (by decide) [] _, (queCons_setCons ..).trans hcons,
      (s.regsBut_refl _).setFld (F.QUE_CONS_CONS n) _ List.mem_cons_self⟩
  · rw [if_neg (mt consOk_iff.1 hfits)] at he
    obtain ⟨hflag, hregs⟩ := setRefused_spec (s := s) n
    exact completes_write rfl ht hplace he rfl ⟨answer_answered p (by decide) [] _, hflag, hregs⟩

end

/-- Settles O49: a request meets `queCheck`, an index write `bellOk` or `consOk`, and each that goes on moves its index within the
room of the ring. -/
theorem queueFramesMoveTheRings : Obligations.QueueFramesMoveTheRings := by
  unfold Obligations.QueueFramesMoveTheRings
  refine ⟨fun s p n hh hn => ⟨fun ws hl hopen hroom => completes_enq hh hn hl hopen hroom,
      fun hopen hsome ws ks hws hks => completes_deq hh hn hopen hsome hws hks,
      fun c h0 h4 => ⟨fun ws hwf hc => completes_enq_refused hh h0 h4 hwf hc, fun len hlen hc => completes_deq_refused hh hn h0 h4 hlen hc⟩⟩,
    fun s p n v x hx hocc => ⟨completes_queDb hx hocc, completes_queCons hx hocc, ?registered⟩,
    fun s t i n hi hocc ht => (keepsRing_exec n.isLt hi ht).occ hocc⟩
  case registered =>
    cases hw : s.que.waiting.find? (fun w => w.1 == n.val) with
    | none => exact exec_doorbell.trans (congrArg _ (bellRegister_none hw))
    | some w =>
      obtain ⟨m, q⟩ := w
      intro new hnew
      have hreg := bellRegister_some hw hnew
      split_ifs at hreg ⊢ with hfull
      · exact exec_doorbell.trans (congrArg _ hreg)
      · exact ⟨_, exec_doorbell.trans (congrArg _ hreg), bellFetch_spec n q new⟩

end Sys2Proof.Machine
end

section
/-! What the events of a step leave of the link (R320): they write no register of the link but the status of the bulk descriptors,
and a bulk descriptor's status only where a route leads to its GO. -/

namespace Sys2Proof.Machine

/-! ## Registers of the link -/

/-- No service of an event writes a register of the link but the status of a bulk descriptor. -/
theorem eventRegs_link : ∀ k ∈ eventRegs, k < 0x3C0000 ∨ 0x3C0110 ≤ k ∧ k < 0x3C0200 := by decide

/-- A register of the link apart from the bulk descriptors'. -/
def linkReg (k : Nat) : Bool := decide (0x3C0000 ≤ k) && (decide (k < 0x3C0110) || decide (0x3C0200 ≤ k))

theorem linkReg_iff {k : Nat} : linkReg k = true ↔ 0x3C0000 ≤ k ∧ (k < 0x3C0110 ∨ 0x3C0200 ≤ k) := by
  simp [linkReg]

theorem linkReg_events {k : Nat} (h : linkReg k = true) : k ∉ eventRegs := fun hk => by
  have hplace := eventRegs_link k hk
  have hown := linkReg_iff.1 h
  omega

/-- An address below the link's registers. -/
def belowLink (k : Nat) : Bool := decide (k < 0x3C0000)

theorem belowLink_iff {k : Nat} : belowLink k = true ↔ k < 0x3C0000 := by simp [belowLink]

theorem linkReg_tile (k : Nat) : linkReg (R.TRL_TILE_ST k) = true := linkReg_iff.2 (by simp only [R.TRL_TILE_ST]; omega)

section

variable (src pay : Nat) (s : State)

@[simp] theorem raise_link : (raise src pay s).link = s.link := (served_raise (.refl s) src pay).near.same .link rfl
@[simp] theorem raise_routes : (raise src pay s).routes = s.routes := (served_raise (.refl s) src pay).near.same .routes rfl

variable {src pay s}

theorem raise_fld {f : Fld} (h : linkReg f.addr = true) : (raise src pay s).fld f = s.fld f :=
  (served_raise (.refl s) src pay).regs.fld (linkReg_events h)

theorem raise_tileState (k : Nat) : (raise src pay s).tileState k = s.tileState k := raise_fld (linkReg_tile k)

/-- What a link event adds to the counts rests on the routes and on the counts before alone. -/
theorem heard_link {s t : State} (ht : t.tasks = s.tasks) (hr : t.routes = s.routes) (n pay : Nat) :
    s.heard (raise (Ev.link n) pay t) (Ev.link n) := by
  intro c
  have hc := raise_heard t (Ev.link n) pay c
  have hlink : 0x80 ≤ Ev.link n := by simp only [Ev.link]; omega
  rw [if_pos (.inl hlink)] at hc ⊢
  rw [hc]
  simp only [State.task, State.routeCount, ht, hr]

/-- A later update of other parts leaves what was heard. -/
theorem heard_same {s t u : State} {n : Nat} (h : s.heard t n) (ht : u.tasks = t.tasks) : s.heard u n := by
  intro c
  rw [State.task, ht]
  exact h c

end

/-! ## A bulk descriptor while events are served -/

/-- Bulk descriptor `i` stands in `t` as in `s`: its status, its place in the Turnstile, the link's traffic, and the routes. -/
structure BulkSame (i : Nat) (s t : State) : Prop where
  stat : t.reg (R.TRL_BULK_STAT i) = s.reg (R.TRL_BULK_STAT i)
  live : t.linkLive = s.linkLive
  trn : t.trnHas (.bulk i) = s.trnHas (.bulk i)
  routes : t.routes = s.routes

namespace BulkSame

variable {i : Nat} {r s t : State}

theorem refl (s : State) : BulkSame i s s := ⟨rfl, rfl, rfl, rfl⟩

theorem trans (h : BulkSame i r s) (h' : BulkSame i s t) : BulkSame i r t :=
  ⟨h'.stat.trans h.stat, h'.live.trans h.live, h'.trn.trans h.trn, h'.routes.trans h.routes⟩

/-- The state of the descriptor and its result. -/
theorem fld (h : BulkSame i s t) {f : Fld} (hf : f.addr = R.TRL_BULK_STAT i) : t.fld f = s.fld f := by
  unfold State.fld
  rw [hf, h.stat]

/-- An update of parts other than the registers. -/
theorem same (h : BulkSame i r s) (hr : t.regs = s.regs) (ht : t.trn = s.trn) (hroutes : t.routes = s.routes) : BulkSame i r t := by
  have hreg : ∀ k, t.reg k = s.reg k := fun k => by unfold State.reg; rw [hr]
  refine h.trans ⟨hreg _, ?_, ?_, hroutes⟩
  · unfold State.linkLive State.fld; rw [hreg]
  · unfold State.trnHas; rw [ht]

theorem modPwm (h : BulkSame i r s) (a : Fin 4) (f : PwmAx → PwmAx) : BulkSame i r (s.modPwm a f) := h.same rfl rfl rfl
theorem modLoop (h : BulkSame i r s) (a : Fin 4) (f : LoopAx → LoopAx) : BulkSame i r (s.modLoop a f) := h.same rfl rfl rfl
theorem modField (h : BulkSame i r s) (f : FieldSt → FieldSt) : BulkSame i r (s.modField f) := h.same rfl rfl rfl
theorem modLink (h : BulkSame i r s) (f : LinkSt → LinkSt) : BulkSame i r (s.modLink f) := h.same rfl rfl rfl

/-- A write of another field that is not the link's state. -/
theorem setFld (h : BulkSame i r s) (f : Fld) (v : Nat) (hf : f.addr ≠ R.TRL_BULK_STAT i)
    (hs : f.addr ≠ R.TRL_STAT ∨ f.lo + f.width ≤ 28) : BulkSame i r (s.setFld f v) := by
  refine h.trans ⟨State.reg_setFld_other s v hf.symm, ?_, rfl, rfl⟩
  have hst : (s.setFld f v).fld F.TRL_STAT_STATE = s.fld F.TRL_STAT_STATE := by
    rcases hs with hs | hs
    · exact State.fld_setFld_other s v hs.symm
    · exact State.fld_setFld_apart s v (.inr hs)
  unfold State.linkLive
  rw [hst]

theorem setFlag (h : BulkSame i r s) (f : Fld) (b : Bool) (hf : f.addr ≠ R.TRL_BULK_STAT i)
    (hs : f.addr ≠ R.TRL_STAT ∨ f.lo + f.width ≤ 28) : BulkSame i r (s.setFlag f b) := h.setFld f _ hf hs

/-- A request of another unit. -/
theorem request (h : BulkSame i r s) {w : TrnWho} (hw : w ≠ .bulk i) (t c : Nat) : BulkSame i r (trnRequest w t c s) :=
  h.trans ⟨rfl, rfl, by simp [State.trnHas, trnRequest, hw], rfl⟩

/-- A write of a field outside the link. -/
theorem setLow (h : BulkSame i r s) (f : Fld) (v : Nat) (hf : belowLink f.addr = true) : BulkSame i r (s.setFld f v) := by
  have hlow := belowLink_iff.1 hf
  exact h.setFld f v (by simp only [R.TRL_BULK_STAT]; omega) (.inl (by simp only [R.TRL_STAT]; omega))

theorem setLowFlag (h : BulkSame i r s) (f : Fld) (b : Bool) (hf : belowLink f.addr = true) : BulkSame i r (s.setFlag f b) := h.setLow f _ hf

theorem outputsMoved (h : BulkSame i r s) (a : Fin 4) (was : BitVec 8) : BulkSame i r (outputsMoved a was s) := by
  unfold Machine.outputsMoved
  extract_lets s1 m
  have h1 : BulkSame i r s1 := by
    simp only [s1]
    split
    · exact h.setLowFlag _ _ (by fin_cases a <;> decide)
    · exact h
  clear_value s1
  split
  · exact h1
  · exact (h1.modPwm a _).setLowFlag (F.SCW_SPIN_HOLD a) true (by fin_cases a <;> decide)

theorem snsStart (h : BulkSame i r s) (a : Fin 4) (j : Nat) (early : Bool) : BulkSame i r (snsStart a j early s) := by
  unfold Machine.snsStart
  dsimp only
  split
  · exact h.setLowFlag _ _ (by fin_cases a <;> decide)
  · exact h.same rfl rfl rfl

theorem maskSel (h : BulkSame i r s) (a : Fin 4) (p : Nat) : BulkSame i r (maskSel a p s) := by
  unfold Machine.maskSel
  split
  · exact h
  · exact (h.setLow _ _ (by fin_cases a <;> decide)).outputsMoved _ _

theorem bankSwapReq (h : BulkSame i r s) (a : Fin 4) : BulkSame i r (bankSwapReq a s) := by
  unfold Machine.bankSwapReq
  split
  · exact h
  · exact (h.setLowFlag (F.LPE_BANK_CTRL_LOCK a) true (by fin_cases a <;> decide)).modLoop a _

theorem scanStop (h : BulkSame i r s) {c : Nat} (hc : c < 4) (st why : Nat) : BulkSame i r (scanStop c st why s) := by
  have hlow : belowLink (R.HRW_CH_STAT c) = true := belowLink_iff.2 (by simp only [R.HRW_CH_STAT]; omega)
  exact (h.setLow (F.HRW_CH_STAT_STATE c) st hlow).setLow (F.HRW_CH_STAT_WHY c) why hlow

theorem scanGo (h : BulkSame i r s) {c : Nat} (hc : c < 4) : BulkSame i r (scanGo c s) := by
  have hdone : belowLink (R.HRW_CH_DONE c) = true := belowLink_iff.2 (by simp only [R.HRW_CH_DONE]; omega)
  have hunit : belowLink (R.CHK_STAT (s.fld (F.HRW_CH_CFG_UNIT c))) = true := belowLink_iff.2 <| by
    have := State.fld_lt s (F.HRW_CH_CFG_UNIT c)
    simp only [F.HRW_CH_CFG_UNIT] at this
    simp only [R.CHK_STAT, F.HRW_CH_CFG_UNIT]
    omega
  unfold Machine.scanGo
  dsimp only
  split
  · exact h
  split
  · exact h.scanStop hc _ _
  split
  · exact h.scanStop hc _ _
  split
  · exact h.scanStop hc _ _
  · exact (((((h.scanStop hc 1 0).setLow (F.HRW_CH_DONE_ELEMS c) 0 hdone).setLow (F.CHK_STAT_OWNER _) 2 hunit).setLow
      (F.CHK_STAT_CH _) c hunit).setLowFlag (F.CHK_STAT_BUSY _) true hunit).request (by simp) _ _

theorem cutSwapReq (h : BulkSame i r s) {c : Nat} (hc : c < 32) (twin : Bool) : BulkSame i r (cutSwapReq c twin s) := by
  have hlow : belowLink (R.FLD_CSET_CTRL c) = true := belowLink_iff.2 (by simp only [R.FLD_CSET_CTRL]; omega)
  unfold Machine.cutSwapReq
  split
  · exact h
  · exact ((h.setLowFlag (F.FLD_CSET_CTRL_LOCK c) true hlow).setLowFlag (F.FLD_CSET_CTRL_TWIN c) twin hlow).modField _

/-- Another bulk descriptor is set. -/
theorem bulkSet (h : BulkSame i r s) {j : Nat} (hj : j < 8) (hi : j ≠ i) (st res : Nat) : BulkSame i r (bulkSet j st res s) := by
  have hstat : R.TRL_BULK_STAT j ≠ R.TRL_BULK_STAT i := by simp only [R.TRL_BULK_STAT]; omega
  have hlink : R.TRL_BULK_STAT j ≠ R.TRL_STAT := by simp only [R.TRL_BULK_STAT, R.TRL_STAT]; omega
  exact (h.setFld (F.TRL_BULK_STAT_STATE j) st hstat (.inl hlink)).setFld (F.TRL_BULK_STAT_RESULT j) res hstat (.inl hlink)

theorem bulkGo (h : BulkSame i r s) {j : Nat} (hj : j < 8) (hi : j ≠ i) : BulkSame i r (bulkGo j s) := by
  unfold Machine.bulkGo
  dsimp only
  split
  · exact h
  split
  · exact h.bulkSet hj hi _ _
  split
  · exact h.bulkSet hj hi _ _
  · exact (h.bulkSet hj hi 1 0).request (by simpa using hi) _ _

/-- The service of a task input other than its GO. -/
theorem taskServe (h : BulkSame i r s) {c : Nat} (hc : c ≠ 0x70 + i) (pay : Nat) (early : Bool) : BulkSame i r (taskServe c pay early s) := by
  unfold Machine.taskServe
  split
  · dsimp only
    split
    · exact h.snsStart _ _ _
    split
    · exact h.maskSel _ _
    · exact h.bankSwapReq _
  split
  · exact h.same rfl rfl rfl
  split
  · exact h.scanGo (by omega)
  split
  · exact h.cutSwapReq (by omega) _
  · unfold linkTask
    split
    · exact h.bulkGo ‹_› (by omega)
    · exact h

theorem setTask (h : BulkSame i r s) (c : Nat) (t : Task) : BulkSame i r (s.setTask c t) := h.same rfl rfl rfl

end BulkSame

/-- A property of states that rests on bulk descriptor `i` alone, and that a GO by a route of `r` keeps. -/
structure BulkKept (i : Nat) (r : List Route) (K : State → Prop) : Prop where
  routes : ∀ {s}, K s → s.routes = r
  same : ∀ {s t}, BulkSame i s t → K s → K t
  go : (∃ q ∈ r, q.dst = 0x70 + i) → ∀ {s}, K s → K (bulkGo i s)

namespace BulkKept

variable {i : Nat} {r : List Route} {K : State → Prop} {s : State}

theorem taskServe (h : BulkKept i r K) (hi : i < 8) {c : Nat} (hc : c = 0x70 + i → ∃ q ∈ r, q.dst = 0x70 + i) (pay : Nat) (early : Bool)
    (hs : K s) : K (taskServe c pay early s) := by
  by_cases hgo : c = 0x70 + i
  · have hserve : Machine.taskServe c pay early s = bulkGo i s := by
      subst hgo
      simp (disch := omega) only [Machine.taskServe, dif_neg, if_neg, linkTask, Nat.add_sub_cancel_left, if_pos]
    rw [hserve]
    exact h.go (hc hgo) hs
  · exact h.same ((BulkSame.refl s).taskServe hgo pay early) hs

/-- Updates of the counts and of the Square's status. -/
theorem task (h : BulkKept i r K) (c : Nat) (t : Task) (hs : K s) : K (s.setTask c t) := h.same ((BulkSame.refl s).setTask c t) hs

theorem sqr (h : BulkKept i r K) (f : Fld) (v : Nat) (hf : f.addr = R.SQR_STAT) (hs : K s) : K (s.setFld f v) :=
  h.same ((BulkSame.refl s).setLow f v (by rw [hf]; decide)) hs

theorem taskEvent (h : BulkKept i r K) (hi : i < 8) (src : Nat) {c : Nat} (hc : c = 0x70 + i → ∃ q ∈ r, q.dst = 0x70 + i) (pay : Nat)
    (again early : Bool) (hs : K s) : K (taskEvent src c pay again early s) := by
  unfold Machine.taskEvent
  dsimp only
  split
  · exact h.sqr F.SQR_STAT_DISC _ rfl (h.task _ _ hs)
  split
  · split
    · exact h.task _ _ hs
    · exact h.sqr F.SQR_STAT_DROP _ rfl (h.task _ _ hs)
  · split
    · exact h.taskServe hi hc _ _ (h.task _ _ hs)
    split
    · exact h.task _ _ hs
    · exact h.sqr F.SQR_STAT_DROP _ rfl (h.task _ _ hs)
  · split
    · exact h.task _ _ hs
    · split <;> exact h.taskServe hi hc _ _ (h.task _ _ hs)

theorem auditTask (h : BulkKept i r K) (c : Nat) (hs : K s) : K (auditTask c s) := by
  unfold Machine.auditTask
  dsimp only
  split
  · exact hs
  · exact h.sqr F.SQR_STAT_TASK _ rfl (h.sqr F.SQR_STAT_AUDIT_ERR _ rfl hs)

theorem ovfServe (h : BulkKept i r K) (hi : i < 8) (a : Fin 4) (hs : K s) : K (ovfServe (0x10 * a.val + 4) s) := by
  unfold Machine.ovfServe
  dsimp only
  split
  · exact hs
  · exact h.taskServe hi (by omega) _ _ (h.task _ _ hs)

theorem deliver (h : BulkKept i r K) (hi : i < 8) (early : Bool) {l : List (Nat × Nat × Nat)}
    (hl : ∀ e ∈ l, e.2.1 = 0x70 + i → ∃ q ∈ r, q.dst = 0x70 + i) (seen : List Nat) (hs : K s) : K (deliver early l seen s) := by
  induction l generalizing s seen with
  | nil => exact hs
  | cons e l ih =>
    exact ih (fun e' he' => hl e' (List.mem_cons_of_mem _ he')) _
      (h.auditTask _ (h.taskEvent hi _ (hl e List.mem_cons_self) _ _ _ hs))

theorem raise (h : BulkKept i r K) (hi : i < 8) (src pay : Nat) (hs : K s) : K (raise src pay s) := by
  unfold Machine.raise raiseAll
  dsimp only
  have hov : ∀ (l : List (Fin 4)) {s : State}, K s → K (s.each l (fun s a => Machine.ovfServe (0x10 * a.val + 4) s)) := by
    intro l
    induction l with
    | nil => exact id
    | cons a l ih => exact fun hs => ih (h.ovfServe hi a hs)
  have hs' := hov allAxes hs
  refine h.deliver hi false (fun e he hdst => ?_) [] hs'
  rw [List.mem_flatMap] at he
  obtain ⟨ev, -, he⟩ := he
  obtain ⟨d, hd, rfl⟩ := List.mem_map.1 he
  obtain ⟨q, hq, rfl⟩ := List.mem_map.1 hd
  exact ⟨q, h.routes hs' ▸ (List.mem_filter.1 hq).1, hdst⟩

end BulkKept

/-- Without a route to its GO, a bulk descriptor stands as it did. -/
theorem bulkKept_same {s : State} {i : Nat} (h : noRouteTo s i) : BulkKept i s.routes (BulkSame i s) where
  routes hx := hx.routes
  same hxy hx := hx.trans hxy
  go := fun ⟨q, hq, hd⟩ => absurd hd (h q hq)

/-- A GO leaves a descriptor that waits or runs. -/
theorem bulkKept_active {s : State} {i : Nat} (h : s.fld (F.TRL_BULK_STAT_STATE i) = 1 ∨ s.fld (F.TRL_BULK_STAT_STATE i) = 2) :
    BulkKept i s.routes (BulkSame i s) where
  routes hx := hx.routes
  same hxy hx := hx.trans hxy
  go := fun _ {x} hx => by
    have hgo : bulkGo i x = x := if_pos (by rwa [hx.fld rfl])
    rwa [hgo]

theorem fld_bulkSet_state (i st res : Nat) (s : State) : (bulkSet i st res s).fld (F.TRL_BULK_STAT_STATE i) = st % 16 := by
  unfold bulkSet
  rw [State.fld_setFld_apart _ _ (by simp [F.TRL_BULK_STAT_STATE, F.TRL_BULK_STAT_RESULT]), State.fld_setFld_same _ _ (by simp [F.TRL_BULK_STAT_STATE])]
  rfl

theorem fld_bulkSet_result (i st res : Nat) (s : State) : (bulkSet i st res s).fld (F.TRL_BULK_STAT_RESULT i) = res % 16 := by
  unfold bulkSet
  rw [State.fld_setFld_same _ _ (by simp [F.TRL_BULK_STAT_RESULT])]
  rfl

/-- With the link off, a descriptor that has ended stays ended: a GO is refused. -/
theorem bulkKept_ended (i : Nat) (r : List Route) :
    BulkKept i r (fun x => x.routes = r ∧ x.linkLive = false ∧ x.fld (F.TRL_BULK_STAT_STATE i) = 4) where
  routes hx := hx.1
  same hxy hx := ⟨hxy.routes.trans hx.1, hxy.live.trans hx.2.1, (hxy.fld rfl).trans hx.2.2⟩
  go := fun _ {x} hx => by
    obtain ⟨hr, hlive, hst⟩ := hx
    have hkeep (res : Nat) : (bulkSet i 4 res x).routes = r ∧ (bulkSet i 4 res x).linkLive = false
        ∧ (bulkSet i 4 res x).fld (F.TRL_BULK_STAT_STATE i) = 4 := by
      refine ⟨hr, ?_, fld_bulkSet_state i 4 res x⟩
      have hstat : F.TRL_STAT_STATE.addr ≠ R.TRL_BULK_STAT i := by simp only [F.TRL_STAT_STATE, R.TRL_STAT, R.TRL_BULK_STAT]; omega
      unfold State.linkLive bulkSet at *
      rwa [State.fld_setFld_other _ _ hstat, State.fld_setFld_other _ _ hstat]
    unfold bulkGo
    dsimp only
    rw [if_neg (by omega)]
    split
    · exact hkeep 11
    · rw [if_pos (by simp [hlive])]
      exact hkeep 7

end Sys2Proof.Machine
end

section
/-! The ends of bulk descriptors, the states of tiles, and the link going off (R351): one step after another, as `linkOff` takes them. -/

namespace Sys2Proof.Machine

/-! ## Bulk descriptors that end -/

section

variable {i j : Nat} {r : List Route} {K : State → Prop} {s : State}

theorem trnHas_trnEnd_same (w : TrnWho) (s : State) : (trnEnd w s).trnHas w = false := by
  simp [State.trnHas, trnEnd]

theorem trnHas_trnEnd_other {w w' : TrnWho} (h : w ≠ w') (s : State) : (trnEnd w' s).trnHas w = s.trnHas w := by
  have hwho (q : TrnReq) : (!decide (q.who = w') && decide (q.who = w)) = decide (q.who = w) := by
    by_cases hq : q.who = w
    · simp [hq, h]
    · simp [hq]
  simp [State.trnHas, trnEnd, List.any_filter, hwho]

theorem BulkSame.trnEnd {t : State} (h : BulkSame i t s) {w : TrnWho} (hw : .bulk i ≠ w) : BulkSame i t (trnEnd w s) :=
  h.trans ⟨rfl, rfl, trnHas_trnEnd_other hw s, rfl⟩

theorem noRouteTo_same {t : State} (h : noRouteTo s i) (hr : t.routes = s.routes) : noRouteTo t i := by
  unfold noRouteTo
  rwa [hr]

/-- A bulk descriptor ends, up to the event that says so. -/
def bulkStop (i st res : Nat) (s : State) : State :=
  (trnEnd (.bulk i) (bulkSet i st res s)).modLink (fun l => { l with fetches := l.fetches.filter (fun f => f.desc != i) })

theorem bulkEnd_eq (i st res : Nat) (s : State) : bulkEnd i st res s = raise (Ev.link 6) i (bulkStop i st res s) := rfl

theorem bulkStop_tasks (i st res : Nat) (s : State) : (bulkStop i st res s).tasks = s.tasks := by simp [bulkStop, trnEnd, bulkSet]

theorem bulkStop_routes (i st res : Nat) (s : State) : (bulkStop i st res s).routes = s.routes := by simp [bulkStop, trnEnd, bulkSet]

theorem bulkStop_regs (i st res : Nat) (s : State) : (bulkStop i st res s).regs = (bulkSet i st res s).regs := rfl

theorem regsBut_bulkSet (i st res : Nat) (s : State) : s.regsBut (bulkSet i st res s) [R.TRL_BULK_STAT i] :=
  ((s.regsBut_refl _).setFld (F.TRL_BULK_STAT_STATE i) st (by simp [F.TRL_BULK_STAT_STATE])).setFld (F.TRL_BULK_STAT_RESULT i) res
    (by simp [F.TRL_BULK_STAT_RESULT])

theorem regsBut_bulkEnd (i st res : Nat) (s : State) : s.regsBut (bulkEnd i st res s) (R.TRL_BULK_STAT i :: eventRegs) := by
  have hset : s.regsBut (bulkStop i st res s) (R.TRL_BULK_STAT i :: eventRegs) :=
    ((regsBut_bulkSet i st res s).mono (by simp)).same (bulkStop_regs ..)
  exact hset.raise _ _ fun k hk => List.mem_cons_of_mem _ hk

@[simp] theorem bulkEnd_link (i st res : Nat) (s : State) :
    (bulkEnd i st res s).link = { s.link with fetches := s.link.fetches.filter (fun f => f.desc != i) } := by
  rw [bulkEnd_eq, raise_link]
  rfl

theorem bulkEnd_routes (i st res : Nat) (s : State) : (bulkEnd i st res s).routes = s.routes :=
  (raise_routes ..).trans (bulkStop_routes ..)

theorem bulkEnd_heard (i st res : Nat) (s : State) : s.heard (bulkEnd i st res s) (Ev.link 6) :=
  heard_link (bulkStop_tasks ..) (bulkStop_routes ..) 6 i

theorem bulkEnd_fetches (i st res : Nat) (s : State) : ∀ f ∈ (bulkEnd i st res s).link.fetches, f.desc ≠ i := by
  rw [bulkEnd_link]
  intro f hf
  simpa using (List.mem_filter.1 hf).2

theorem bulkSame_bulkStop (hj : j < 8) (hij : j ≠ i) (st res : Nat) (s : State) : BulkSame i s (bulkStop j st res s) := by
  have hset := (BulkSame.refl (i := i) s).bulkSet hj hij st res
  exact (hset.trnEnd (by simpa using hij.symm)).modLink _

theorem bulkStop_trnHas (i st res : Nat) (s : State) : (bulkStop i st res s).trnHas (.bulk i) = false := by
  unfold bulkStop State.trnHas
  rw [State.modLink_trn]
  exact trnHas_trnEnd_same _ _

theorem bulkStop_state (i st res : Nat) (s : State) : (bulkStop i st res s).fld (F.TRL_BULK_STAT_STATE i) = st % 16 :=
  fld_bulkSet_state i st res s

theorem bulkStop_result (i st res : Nat) (s : State) : (bulkStop i st res s).fld (F.TRL_BULK_STAT_RESULT i) = res % 16 :=
  fld_bulkSet_result i st res s

theorem bulkStop_live (i st res : Nat) (s : State) : (bulkStop i st res s).linkLive = s.linkLive := by
  have hst : (bulkStop i st res s).fld F.TRL_STAT_STATE = s.fld F.TRL_STAT_STATE :=
    ((regsBut_bulkSet i st res s).same (bulkStop_regs ..)).fld (by simp only [F.TRL_STAT_STATE, R.TRL_STAT, R.TRL_BULK_STAT, List.mem_singleton]; omega)
  unfold State.linkLive
  rw [hst]

/-- R360: where no route leads to its GO, a descriptor that has ended shows its state and its result, and has given up its tokens. -/
theorem bulkEnd_shows (hi : i < 8) (h : noRouteTo s i) (st res : Nat) : (bulkEnd i st res s).fld (F.TRL_BULK_STAT_STATE i) = st % 16
    ∧ (bulkEnd i st res s).fld (F.TRL_BULK_STAT_RESULT i) = res % 16 ∧ (bulkEnd i st res s).trnHas (.bulk i) = false := by
  have hsame : BulkSame i (bulkStop i st res s) (bulkEnd i st res s) :=
    (bulkKept_same (noRouteTo_same h (bulkStop_routes ..))).raise hi _ _ (.refl _)
  exact ⟨(hsame.fld rfl).trans (bulkStop_state ..), (hsame.fld rfl).trans (bulkStop_result ..), hsame.trn.trans (bulkStop_trnHas ..)⟩

/-- With the link off, a descriptor that ends in state 4 shows it, whatever its own event asks for. -/
theorem bulkEnd_ended (hi : i < 8) (h : s.linkLive = false) (res : Nat) : (bulkEnd i 4 res s).linkLive = false
    ∧ (bulkEnd i 4 res s).fld (F.TRL_BULK_STAT_STATE i) = 4 :=
  ((bulkKept_ended i s.routes).raise hi _ _
    ⟨bulkStop_routes i 4 res s, (bulkStop_live ..).trans h, bulkStop_state ..⟩).2

/-- The descriptor waits or runs. -/
def State.bulkBusy (s : State) (i : Nat) : Prop := s.fld (F.TRL_BULK_STAT_STATE i) = 1 ∨ s.fld (F.TRL_BULK_STAT_STATE i) = 2

theorem bulkDrop_busy (h : s.bulkBusy i) (st res : Nat) : bulkDrop i st res s = bulkEnd i st res s := if_pos h

theorem bulkDrop_idle (h : ¬s.bulkBusy i) (st res : Nat) : bulkDrop i st res s = s := if_neg h

theorem bulkBusy_same {t : State} (h : BulkSame i s t) : t.bulkBusy i ↔ s.bulkBusy i := by
  unfold State.bulkBusy
  rw [h.fld rfl]

/-- What rests on a descriptor that does not end stays when another one ends. -/
theorem BulkKept.bulkDrop (h : BulkKept i r K) (hi : i < 8) (hj : j < 8) (hij : j = i → ¬s.bulkBusy i) (st res : Nat) (hs : K s) :
    K (bulkDrop j st res s) := by
  by_cases hb : s.bulkBusy j
  · have hne : j ≠ i := fun he => hij he (he ▸ hb)
    rw [bulkDrop_busy hb]
    exact h.raise hi _ _ (h.same (bulkSame_bulkStop hj hne st res s) hs)
  · rwa [bulkDrop_idle hb]

theorem BulkKept.each_bulkDrop (h : BulkKept i r K) (hi : i < 8) {l : List Nat} (hl : ∀ j ∈ l, j < 8)
    (hb : ∀ x, K x → i ∈ l → ¬x.bulkBusy i) (st res : Nat) (hs : K s) : K (s.each l (fun s j => Machine.bulkDrop j st res s)) := by
  unfold State.each
  induction l generalizing s with
  | nil => exact hs
  | cons j l ih =>
    refine ih (fun m hm => hl m (List.mem_cons_of_mem _ hm)) (fun x hx hm => hb x hx (List.mem_cons_of_mem _ hm)) ?_
    exact h.bulkDrop hi (hl j List.mem_cons_self) (fun he => hb s hs (he ▸ List.mem_cons_self)) st res hs

/-- The descriptors under way end as the link goes off. -/
def bulksDrop (s : State) : State := s.each (List.range 8) (fun s i => bulkDrop i 4 7 s)

theorem bulksDrop_idle (h : ∀ i < 8, ¬s.bulkBusy i) : bulksDrop s = s := by
  have hl : ∀ l : List Nat, (∀ i ∈ l, i < 8) → s.each l (fun s i => bulkDrop i 4 7 s) = s := by
    intro l hl
    unfold State.each
    induction l with
    | nil => rfl
    | cons i l ih =>
      rw [List.foldl_cons, bulkDrop_idle (h i (hl i List.mem_cons_self))]
      exact ih fun j hj => hl j (List.mem_cons_of_mem _ hj)
  exact hl _ fun i hi => List.mem_range.1 hi

/-- R351: with the link off each descriptor under way has ended in state 4, and with LINK where no route leads to its GO. -/
theorem bulksDrop_ends (hlive : s.linkLive = false) (hi : i < 8) (hb : s.bulkBusy i) : (bulksDrop s).fld (F.TRL_BULK_STAT_STATE i) = 4
    ∧ (noRouteTo s i → (bulksDrop s).fld (F.TRL_BULK_STAT_RESULT i) = 7) := by
  obtain ⟨before, after, hl, hmem⟩ := List.eq_append_cons_of_mem (List.mem_range.2 hi)
  have hlt : ∀ j ∈ before ++ i :: after, j < 8 := fun j hj => List.mem_range.1 (hl ▸ hj)
  have hbefore : BulkSame i s (s.each before (fun s j => bulkDrop j 4 7 s)) :=
    (bulkKept_active hb).each_bulkDrop hi (fun j hj => hlt j (List.mem_append_left _ hj)) (fun _ _ hm => absurd hm hmem) 4 7 (.refl s)
  have hafter : ∀ j ∈ after, j < 8 := fun j hj => hlt j (List.mem_append_right _ (List.mem_cons_of_mem _ hj))
  have hdrop : bulksDrop s = (bulkEnd i 4 7 (s.each before (fun s j => bulkDrop j 4 7 s))).each after (fun s j => bulkDrop j 4 7 s) := by
    rw [← bulkDrop_busy ((bulkBusy_same hbefore).2 hb)]
    simp only [bulksDrop, State.each, hl, List.foldl_append, List.foldl_cons]
  rw [hdrop]
  generalize s.each before (fun s j => bulkDrop j 4 7 s) = x at hbefore ⊢
  have hended := bulkEnd_ended hi (hbefore.live.trans hlive) 7
  constructor
  · exact ((bulkKept_ended i (bulkEnd i 4 7 x).routes).each_bulkDrop hi hafter
      (fun y hy _ hyb => by unfold State.bulkBusy at hyb; omega) 4 7 ⟨rfl, hended⟩).2.2
  · intro hno
    have hx : noRouteTo x i := noRouteTo_same hno hbefore.routes
    have hkept := (bulkKept_same (noRouteTo_same hx (bulkEnd_routes i 4 7 x))).each_bulkDrop hi hafter
      (fun y hy _ hyb => by have := (bulkBusy_same hy).1 hyb; unfold State.bulkBusy at this; omega) 4 7 (.refl _)
    exact (hkept.fld rfl).trans (bulkEnd_shows hi hx 4 7).2.1

theorem regsBut_bulksDrop (s : State) : s.regsBut (bulksDrop s) ((List.range 8).map (fun i => R.TRL_BULK_STAT i) ++ eventRegs) := by
  refine (s.regsBut_refl _).each fun x i hi hx => ?_
  by_cases hb : x.bulkBusy i
  · rw [bulkDrop_busy hb]
    refine hx.trans ((regsBut_bulkEnd i 4 7 x).mono fun k hk => ?_)
    rcases List.mem_cons.1 hk with rfl | hk
    · exact List.mem_append_left _ (List.mem_map_of_mem hi)
    · exact List.mem_append_right _ hk
  · rwa [bulkDrop_idle hb]

theorem bulksDrop_link (s : State) : ∃ l, (bulksDrop s).link = { s.link with fetches := l } := by
  unfold bulksDrop State.each
  generalize List.range 8 = l
  induction l generalizing s with
  | nil => exact ⟨_, rfl⟩
  | cons i l ih =>
    rw [List.foldl_cons]
    obtain ⟨f, hf⟩ := ih (bulkDrop i 4 7 s)
    by_cases hb : s.bulkBusy i
    · exact ⟨f, hf.trans (by rw [bulkDrop_busy hb, bulkEnd_link])⟩
    · exact ⟨f, hf.trans (by rw [bulkDrop_idle hb])⟩

end

/-! ## Tiles -/

section

variable (s : State) (k : Nat)

theorem tileState_setTile (st j : Nat) : (setTile k st s).tileState j = if j = k then st % 16 else s.tileState j := by
  by_cases h : j = k
  · subst h
    rw [if_pos rfl]
    exact s.fld_setFld_same st (by simp [F.TRL_TILE_ST_STATE])
  · rw [if_neg h]
    exact s.fld_setFld_other st (by simp only [F.TRL_TILE_ST_STATE, R.TRL_TILE_ST]; omega)

theorem regsBut_setTile (st : Nat) : s.regsBut (setTile k st s) [R.TRL_TILE_ST k] :=
  (s.regsBut_refl _).setFld (F.TRL_TILE_ST_STATE k) st (by simp [F.TRL_TILE_ST_STATE])

/-- The counts of TRL_TILE_AUD for the tiles owned. -/
def tileTally (s : State) : State :=
  let n (st : Nat) : Nat := (s.tilesOwned.filter (fun e => s.tileState e.1 == st)).length
  (((s.setFld F.TRL_TILE_AUD_OWNED s.tilesOwned.length).setFld F.TRL_TILE_AUD_RESIDENT (n 1)).setFld F.TRL_TILE_AUD_EVICTING (n 2)).setFld
    F.TRL_TILE_AUD_SILO (n 3)

/-- R363: the audit of the tiles writes its counts, and where they do not balance sets TILE_ERR with its event. -/
theorem tileAudit_cases : tileAudit s = tileTally s
    ∨ s.tilesOwned ≠ [] ∧ tileAudit s = raise (Ev.link 5) 0 ((tileTally s).setFlag F.TRL_STAT_TILE_ERR true) := by
  unfold tileAudit
  dsimp only
  split
  · exact .inl rfl
  · rename_i h
    refine .inr ⟨fun hnil => h ?_, rfl⟩
    simp [hnil]

theorem regsBut_tileTally : s.regsBut (tileTally s) [R.TRL_TILE_AUD] :=
  ((((s.regsBut_refl _).setFld F.TRL_TILE_AUD_OWNED _ (by decide)).setFld F.TRL_TILE_AUD_RESIDENT _ (by decide)).setFld
    F.TRL_TILE_AUD_EVICTING _ (by decide)).setFld F.TRL_TILE_AUD_SILO _ (by decide)

theorem regsBut_tileAudit : s.regsBut (tileAudit s) ([R.TRL_TILE_AUD, R.TRL_STAT] ++ eventRegs) := by
  have htally : s.regsBut (tileTally s) ([R.TRL_TILE_AUD, R.TRL_STAT] ++ eventRegs) := (regsBut_tileTally s).mono (by simp)
  rcases tileAudit_cases s with h | ⟨-, h⟩ <;> rw [h]
  · exact htally
  · exact (htally.setFlag F.TRL_STAT_TILE_ERR true (by simp [F.TRL_STAT_TILE_ERR])).raise _ _ fun k hk => List.mem_append_right _ hk

/-- A field of TRL_STAT other than TILE_ERR is the same in two states. -/
def StatSame (s t : State) : Prop := ∀ f : Fld, f.addr = R.TRL_STAT → f.lo + f.width ≤ 17 ∨ 18 ≤ f.lo → t.fld f = s.fld f

theorem StatSame.of_regsBut {s t : State} {l : List Nat} (h : s.regsBut t l) (hl : R.TRL_STAT ∉ l) : StatSame s t :=
  fun _ hf _ => h.fld (hf ▸ hl)

theorem StatSame.trans {r s t : State} (h : StatSame r s) (h' : StatSame s t) : StatSame r t :=
  fun f hf hb => (h' f hf hb).trans (h f hf hb)

theorem statSame_tileAudit : StatSame s (tileAudit s) := by
  have htally : StatSame s (tileTally s) := .of_regsBut (regsBut_tileTally s) (by decide)
  rcases tileAudit_cases s with h | ⟨-, h⟩ <;> rw [h]
  · exact htally
  · intro f hf hb
    rw [raise_fld (by rw [hf]; decide), State.setFlag, State.fld_setFld_apart _ _ hb]
    exact htally f hf hb

@[simp] theorem tileAudit_link : (tileAudit s).link = s.link := (near_tileAudit (l := 0x3025d) rfl (.refl _ s)).same .link rfl
@[simp] theorem tileAudit_gran : (tileAudit s).gran = s.gran := (near_tileAudit (l := 0x3025d) rfl (.refl _ s)).same .gran rfl
@[simp] theorem tileAudit_silo : (tileAudit s).silo = s.silo := (near_tileAudit (l := 0x3025d) rfl (.refl _ s)).same .silo rfl

theorem tile_notMem_audit : R.TRL_TILE_ST k ∉ [R.TRL_TILE_AUD, R.TRL_STAT] ++ eventRegs := by
  rw [List.mem_append, not_or]
  exact ⟨by simp only [R.TRL_TILE_ST, R.TRL_TILE_AUD, R.TRL_STAT, List.mem_cons, List.not_mem_nil, or_false]; omega,
    linkReg_events (linkReg_tile k)⟩

theorem tileAudit_tileState : (tileAudit s).tileState k = s.tileState k := (regsBut_tileAudit s).fld (tile_notMem_audit k)

theorem tileAudit_gen : (tileAudit s).fld (F.TRL_TILE_ST_GEN k) = s.fld (F.TRL_TILE_ST_GEN k) := (regsBut_tileAudit s).fld (tile_notMem_audit k)

/-- The twin's tiles held here are stale as the link goes off. -/
def copiesStale (s : State) : State :=
  s.each (List.range s.link.tiles.length) (fun s k => if s.tileState k = 8 then setTile k 9 s else s)

theorem tileState_staleEach (l : List Nat) :
    (s.each l (fun s k => if s.tileState k = 8 then setTile k 9 s else s)).tileState k
      = if k ∈ l ∧ s.tileState k = 8 then 9 else s.tileState k := by
  unfold State.each
  induction l generalizing s with
  | nil => simp
  | cons j l ih =>
    rw [List.foldl_cons, ih]
    by_cases hj : s.tileState j = 8
    · rw [if_pos hj, tileState_setTile]
      by_cases hk : k = j
      · subst hk; simp [hj]
      · simp [hk]
    · rw [if_neg hj]
      by_cases hk : k = j
      · subst hk; simp [hj]
      · simp [hk]

variable {s k} in
theorem tileState_copiesStale (hk : k < s.link.tiles.length) (h : s.tileState k = 8) : (copiesStale s).tileState k = 9 :=
  (tileState_staleEach ..).trans (if_pos ⟨List.mem_range.2 hk, h⟩)

theorem near_copiesStale : Near 1 s (copiesStale s) :=
  .each (fun _ _ h => .ite (near_setTile (l := 1) rfl h _ _) h) (.refl 1 s)

theorem regsBut_copiesStale : s.regsBut (copiesStale s) ((List.range s.link.tiles.length).map (fun k => R.TRL_TILE_ST k)) :=
  (s.regsBut_refl _).each fun _ k hk hx => .ite (hx.setFld (F.TRL_TILE_ST_STATE k) 9 (List.mem_map_of_mem hk)) hx

end

/-! ## The end of an eviction -/

section

variable {s : State}

theorem evictCheck_none (h : s.link.evict = none) : evictCheck s = s := by
  unfold evictCheck
  rw [h]

theorem evictCheck_waits {e : Evict} (h : s.link.evict = some e) (hopen : e.wrote = false ∨ e.acked = false) : evictCheck s = s := by
  unfold evictCheck
  rw [h]
  exact if_neg (by rcases hopen with h | h <;> simp [h])

/-- The eviction of tile-table entry `k` ends: the tile is in the silo. -/
def evictDone (k : Nat) (s : State) : State := tileAudit (setTile k 3 (s.modLink (fun l => { l with evict := none })))

theorem evictCheck_ends {e : Evict} (h : s.link.evict = some e) (hw : e.wrote = true) (ha : e.acked = true) :
    evictCheck s = evictDone e.idx s := by
  unfold evictCheck
  rw [h]
  exact if_pos (by simp [hw, ha])

theorem evictDone_link (k : Nat) (s : State) : (evictDone k s).link = { s.link with evict := none } := tileAudit_link _

theorem tileState_evictDone (k j : Nat) (s : State) : (evictDone k s).tileState j = if j = k then 3 else s.tileState j :=
  (tileAudit_tileState ..).trans (tileState_setTile ..)

theorem regsBut_evictDone (k : Nat) (s : State) : s.regsBut (evictDone k s) (R.TRL_TILE_ST k :: ([R.TRL_TILE_AUD, R.TRL_STAT] ++ eventRegs)) := by
  have hset : s.regsBut (setTile k 3 (s.modLink (fun l => { l with evict := none }))) [R.TRL_TILE_ST k] := regsBut_setTile _ k 3
  exact (hset.mono (by simp)).trans ((regsBut_tileAudit _).mono fun _ hk => List.mem_cons_of_mem _ hk)

theorem statSame_evictDone (k : Nat) (s : State) : StatSame s (evictDone k s) := by
  have hset : StatSame s (setTile k 3 (s.modLink (fun l => { l with evict := none }))) :=
    .of_regsBut (regsBut_setTile _ k 3) (by simp only [R.TRL_STAT, R.TRL_TILE_ST, List.mem_singleton]; omega)
  exact hset.trans (statSame_tileAudit _)

/-- The check of an eviction leaves the link as it is, or ends the eviction. -/
theorem evictCheck_cases (s : State) : evictCheck s = s ∨ ∃ e, s.link.evict = some e ∧ evictCheck s = evictDone e.idx s := by
  cases h : s.link.evict with
  | none => exact .inl (evictCheck_none h)
  | some e =>
    by_cases hdone : e.wrote = true ∧ e.acked = true
    · exact .inr ⟨e, rfl, evictCheck_ends h hdone.1 hdone.2⟩
    · refine .inl (evictCheck_waits h ?_)
      cases hw : e.wrote <;> cases ha : e.acked <;> simp_all

theorem statSame_evictCheck (s : State) : StatSame s (evictCheck s) := by
  rcases evictCheck_cases s with h | ⟨e, -, h⟩ <;> rw [h]
  · exact fun _ _ _ => rfl
  · exact statSame_evictDone _ _

/-- What rests on a bulk descriptor stays through the audit of the tiles. -/
theorem BulkKept.tileAudit {i : Nat} {r : List Route} {K : State → Prop} (h : BulkKept i r K) (hi : i < 8) (hs : K s) : K (tileAudit s) := by
  have haud : R.TRL_TILE_AUD ≠ R.TRL_BULK_STAT i := by simp only [R.TRL_TILE_AUD, R.TRL_BULK_STAT]; omega
  have htally : BulkSame i s (tileTally s) :=
    ((((BulkSame.refl s).setFld F.TRL_TILE_AUD_OWNED _ haud (.inl (by decide))).setFld F.TRL_TILE_AUD_RESIDENT _ haud (.inl (by decide))).setFld
      F.TRL_TILE_AUD_EVICTING _ haud (.inl (by decide))).setFld F.TRL_TILE_AUD_SILO _ haud (.inl (by decide))
  rcases tileAudit_cases s with ha | ⟨-, ha⟩ <;> rw [ha]
  · exact h.same htally hs
  · exact h.raise hi _ _ (h.same (htally.setFlag F.TRL_STAT_TILE_ERR true
      (by simp only [F.TRL_STAT_TILE_ERR, R.TRL_STAT, R.TRL_BULK_STAT]; omega) (.inr (by decide))) hs)

/-- What rests on a bulk descriptor stays through the end of an eviction. -/
theorem BulkKept.evictCheck {i : Nat} {r : List Route} {K : State → Prop} (h : BulkKept i r K) (hi : i < 8) (hs : K s) : K (evictCheck s) := by
  rcases evictCheck_cases s with he | ⟨e, -, he⟩ <;> rw [he]
  · exact hs
  · have htile : R.TRL_TILE_ST e.idx ≠ R.TRL_BULK_STAT i := by simp only [R.TRL_TILE_ST, R.TRL_BULK_STAT]; omega
    have hlink : R.TRL_TILE_ST e.idx ≠ R.TRL_STAT := by simp only [R.TRL_TILE_ST, R.TRL_STAT]; omega
    exact h.tileAudit hi (h.same (((BulkSame.refl s).modLink _).setFld (F.TRL_TILE_ST_STATE e.idx) 3 htile (.inl hlink)) hs)

theorem evictCheck_link (s : State) : ∃ e, (evictCheck s).link = { s.link with evict := e } := by
  rcases evictCheck_cases s with h | ⟨e, -, h⟩ <;> rw [h]
  · exact ⟨_, rfl⟩
  · exact ⟨_, evictDone_link _ _⟩

end

end Sys2Proof.Machine
end

section
/-! The link goes off (R351). -/

namespace Sys2Proof.Machine

section

variable {s : State} {cause : Nat}

/-- A DOUBT or SAFE frame waits to be sent. -/
def State.safetyQueued (s : State) : Bool := (s.link.txq.get 0).any (fun f => f.typ == 2 || f.typ == 4)

/-- The state and the cause of a link that goes off. -/
def offStat (cause : Nat) (s : State) : State :=
  let s := s.setFld F.TRL_STAT_STATE 10
  if cause = 0 then s else s.setFld F.TRL_STAT_CAUSE cause

/-- The link is off: its state, the pair line, and the queues flushed. -/
def linkDown (cause : Nat) (s : State) : State := linkFlush (if s.safetyQueued then pairOut true (offStat cause s) else offStat cause s)

theorem linkOff_off (h : s.fld F.TRL_STAT_STATE = 0 ∨ 10 ≤ s.fld F.TRL_STAT_STATE) : linkOff cause s = s := if_pos h

theorem offStat_link (cause : Nat) (s : State) : (offStat cause s).link = s.link := by
  unfold offStat
  dsimp only
  split <;> simp

theorem linkOff_on (h : 1 ≤ s.fld F.TRL_STAT_STATE) (h' : s.fld F.TRL_STAT_STATE ≤ 9) :
    linkOff cause s = raise (Ev.link 2) 0 (evictCheck (copiesStale (bulksDrop (linkDown cause s)))) := by
  have hsafety : s.safetyQueued = ((offStat cause s).link.txq.get 0).any (fun f => f.typ == 2 || f.typ == 4) := by
    rw [offStat_link]
    rfl
  unfold linkDown
  rw [hsafety]
  exact if_neg (by omega)

/-! ## The registers -/

theorem regsBut_offStat (cause : Nat) (s : State) : s.regsBut (offStat cause s) [R.TRL_STAT] := by
  have hst := (s.regsBut_refl [R.TRL_STAT]).setFld F.TRL_STAT_STATE 10 (by decide)
  exact .ite hst (hst.setFld F.TRL_STAT_CAUSE cause (by decide))

theorem regsBut_linkDown (cause : Nat) (s : State) : s.regsBut (linkDown cause s) [R.TRL_STAT] := by
  have h := regsBut_offStat cause s
  have hpair : s.regsBut (if s.safetyQueued then pairOut true (offStat cause s) else offStat cause s) [R.TRL_STAT] :=
    .ite (h.setFlag F.TRL_STAT_PS_O _ (by decide)) h
  exact hpair.same rfl

theorem near_linkDown (cause : Nat) (s : State) : Near 0x800001 s (linkDown cause s) := by
  have hst : Near 0x800001 s (offStat cause s) := by
    have h := (Near.refl 0x800001 s).setFld F.TRL_STAT_STATE 10 rfl
    exact .ite h (h.setFld F.TRL_STAT_CAUSE cause rfl)
  exact near_linkFlush (l := 0x800001) rfl (.ite (near_pairOut (l := 0x800001) rfl hst true) hst)

theorem linkDown_link (cause : Nat) (s : State) : (linkDown cause s).link = { s.link with
    txq := Quad.all [], rx := [], cut := none, recs := [], hold := [], evict := s.link.evict.map (fun e => { e with acked := true }) } := by
  have hlink : (if s.safetyQueued then pairOut true (offStat cause s) else offStat cause s).link = s.link := by
    split
    · exact offStat_link cause s
    · exact offStat_link cause s
  unfold linkDown linkFlush
  rw [State.modLink_link, hlink]

theorem offStat_stat (hc : cause < 256) : (offStat cause s).fld F.TRL_STAT_STATE = 10
    ∧ (cause ≠ 0 → (offStat cause s).fld F.TRL_STAT_CAUSE = cause) := by
  have hst : (s.setFld F.TRL_STAT_STATE 10).fld F.TRL_STAT_STATE = 10 := s.fld_setFld_same 10 (by decide)
  unfold offStat
  dsimp only
  split
  · exact ⟨hst, fun h => absurd ‹_› h⟩
  · rw [State.fld_setFld_apart _ _ (by decide)]
    exact ⟨hst, fun _ => (State.fld_setFld_same _ cause (by decide)).trans (Nat.mod_eq_of_lt hc)⟩

theorem linkDown_stat (hc : cause < 256) : (linkDown cause s).fld F.TRL_STAT_STATE = 10
    ∧ (cause ≠ 0 → (linkDown cause s).fld F.TRL_STAT_CAUSE = cause) := by
  obtain ⟨hst, hcause⟩ := offStat_stat (s := s) hc
  unfold linkDown linkFlush
  simp only [State.modLink_fld]
  split
  · unfold pairOut State.setFlag
    rw [State.fld_setFld_apart _ _ (by decide), State.fld_setFld_apart _ _ (by decide)]
    exact ⟨hst, hcause⟩
  · exact ⟨hst, hcause⟩

theorem linkDown_pair (h : s.safetyQueued = true) (ht : s.twin = true) : (linkDown cause s).flag F.TRL_STAT_PS_O = true := by
  have htwin : (offStat cause s).twin = s.twin := by
    unfold offStat State.twin State.applied
    dsimp only
    split <;> simp
  unfold linkDown linkFlush
  rw [State.modLink_flag, if_pos h, pairOut, htwin, ht]
  exact State.flag_setFlag_same _ true (by decide) (by decide)

theorem linkDown_live (hc : cause < 256) : (linkDown cause s).linkLive = false := by
  unfold State.linkLive
  rw [(linkDown_stat hc).1]
  rfl

theorem fld_linkDown {f : Fld} (hf : f.addr ≠ R.TRL_STAT) : (linkDown cause s).fld f = s.fld f :=
  (regsBut_linkDown cause s).fld (by simpa using hf)

theorem regsBut_evictCheck (s : State) : s.regsBut (evictCheck s)
    (s.link.evict.toList.map (fun e => R.TRL_TILE_ST e.idx) ++ ([R.TRL_TILE_AUD, R.TRL_STAT] ++ eventRegs)) := by
  rcases evictCheck_cases s with h | ⟨e, he, h⟩ <;> rw [h]
  · exact s.regsBut_refl _
  · exact (regsBut_evictDone e.idx s).mono (by simp [he])

/-- The registers that the link's going off may write: those of its state machine but its counters and its timing. -/
def linkOffRegs (s : State) : List Nat :=
  [R.TRL_STAT, R.TRL_TILE_AUD] ++ (List.range 8).map (fun i => R.TRL_BULK_STAT i)
    ++ (List.range s.link.tiles.length).map (fun k => R.TRL_TILE_ST k) ++ s.link.evict.toList.map (fun e => R.TRL_TILE_ST e.idx) ++ eventRegs

theorem mem_linkOffRegs {k : Nat} : k ∈ linkOffRegs s ↔ k ∈ [R.TRL_STAT, R.TRL_TILE_AUD]
    ∨ k ∈ (List.range 8).map (fun i => R.TRL_BULK_STAT i) ∨ k ∈ (List.range s.link.tiles.length).map (fun k => R.TRL_TILE_ST k)
    ∨ k ∈ s.link.evict.toList.map (fun e => R.TRL_TILE_ST e.idx) ∨ k ∈ eventRegs := by
  unfold linkOffRegs
  simp only [List.mem_append, or_assoc]

theorem linkOffRegs_events : ∀ k ∈ eventRegs, k ∈ linkOffRegs s := fun _ hk => mem_linkOffRegs.2 (.inr (.inr (.inr (.inr hk))))

/-- The registers of the link's counters, its timing and its peer lie apart from those. -/
theorem notMem_linkOffRegs {k : Nat} (h : linkReg k = true) (hlow : R.TRL_STAT < k) (hhigh : k < R.TRL_BULK_STAT 0) : k ∉ linkOffRegs s := by
  rw [mem_linkOffRegs]
  have hev := linkReg_events h
  simp only [R.TRL_STAT, R.TRL_BULK_STAT] at hlow hhigh
  simp only [List.mem_cons, List.not_mem_nil, List.mem_map, List.mem_range, R.TRL_STAT, R.TRL_TILE_AUD, R.TRL_BULK_STAT, R.TRL_TILE_ST, hev,
    or_false, not_or, not_exists, not_and]
  refine ⟨⟨by omega, by omega⟩, fun _ _ => by omega, fun _ _ => by omega, fun _ _ => by omega⟩

theorem linkRegs_same {t : State} (ht : t.link.tiles = s.link.tiles) (he : t.link.evict = s.link.evict) : linkRegs t = linkRegs s := by
  unfold linkRegs
  rw [ht, he]

theorem linkOffRegs_sub : ∀ k ∈ linkOffRegs s, k ∈ linkRegs s := by
  intro k hk
  unfold linkRegs
  simp only [List.mem_append, or_assoc]
  exact (mem_linkOffRegs.1 hk).imp_left fun h => by simp only [List.mem_cons, List.not_mem_nil, or_false] at h ⊢; tauto

/-- The link's state with the bulk descriptors ended and the copies stale. -/
def linkWoundDown (cause : Nat) (s : State) : State := copiesStale (bulksDrop (linkDown cause s))

theorem linkWoundDown_link (cause : Nat) (s : State) :
    ∃ l, (linkWoundDown cause s).link = { (linkDown cause s).link with fetches := l } := by
  obtain ⟨l, hl⟩ := bulksDrop_link (linkDown cause s)
  exact ⟨l, ((near_copiesStale _).same .link rfl).trans hl⟩

theorem linkWoundDown_routes (cause : Nat) (s : State) : (linkWoundDown cause s).routes = s.routes := by
  have hdrop : Near 0x83025d (linkDown cause s) (bulksDrop (linkDown cause s)) :=
    .each (fun _ i h => near_bulkDrop (l := 0x83025d) rfl h i 4 7) (.refl _ _)
  exact ((((near_linkDown cause s).mono (l' := 0x83025d) rfl).trans hdrop).trans ((near_copiesStale _).mono rfl)).same .routes rfl

theorem regsBut_linkWoundDown (cause : Nat) (s : State) : s.regsBut (linkWoundDown cause s) (linkOffRegs s) := by
  obtain ⟨l, hl⟩ := bulksDrop_link (linkDown cause s)
  have hdown : s.regsBut (linkDown cause s) (linkOffRegs s) :=
    (regsBut_linkDown cause s).mono fun k hk => mem_linkOffRegs.2 (.inl (List.mem_cons.2 (.inl (List.mem_singleton.1 hk))))
  have hdrop : s.regsBut (bulksDrop (linkDown cause s)) (linkOffRegs s) := hdown.trans ((regsBut_bulksDrop _).mono fun k hk => by
    rcases List.mem_append.1 hk with hk | hk
    · exact mem_linkOffRegs.2 (.inr (.inl hk))
    · exact linkOffRegs_events k hk)
  refine hdrop.trans ((regsBut_copiesStale _).mono fun k hk => mem_linkOffRegs.2 (.inr (.inr (.inl ?_))))
  rwa [hl, linkDown_link] at hk

/-- R351: only registers of the link and of the events it raises change as the link goes off. -/
theorem regsBut_linkOff (cause : Nat) (s : State) : s.regsBut (linkOff cause s) (linkOffRegs s) := by
  by_cases hst : s.fld F.TRL_STAT_STATE = 0 ∨ 10 ≤ s.fld F.TRL_STAT_STATE
  · rw [linkOff_off hst]
    exact s.regsBut_refl _
  · rw [linkOff_on (by omega) (by omega)]
    refine ((regsBut_linkWoundDown cause s).trans ((regsBut_evictCheck _).mono fun k hk => mem_linkOffRegs.2 ?_)).raise _ _ linkOffRegs_events
    obtain ⟨l, hl⟩ := linkWoundDown_link cause s
    change k ∈ (linkWoundDown cause s).link.evict.toList.map _ ++ _ at hk
    rw [hl, linkDown_link] at hk
    rcases List.mem_append.1 hk with hk | hk
    · exact .inr (.inr (.inr (.inl (by cases he : s.link.evict <;> simp_all))))
    · rcases List.mem_append.1 hk with hk | hk
      · exact .inl (by simp only [List.mem_cons, List.not_mem_nil, or_false] at hk ⊢; tauto)
      · exact .inr (.inr (.inr (.inr hk)))

/-! ## What stands afterwards -/

theorem statSame_linkWoundDown (cause : Nat) (s : State) : StatSame (linkDown cause s) (linkWoundDown cause s) := by
  have hdrop : StatSame (linkDown cause s) (bulksDrop (linkDown cause s)) := .of_regsBut (regsBut_bulksDrop _) (by decide)
  refine hdrop.trans (.of_regsBut (regsBut_copiesStale _) ?_)
  simp only [List.mem_map, not_exists, not_and, R.TRL_TILE_ST, R.TRL_STAT]
  omega

theorem bulkStat_notMem_tiles (i n : Nat) (hi : i < 8) : R.TRL_BULK_STAT i ∉ (List.range n).map (fun k => R.TRL_TILE_ST k) := by
  simp only [List.mem_map, not_exists, not_and, R.TRL_TILE_ST, R.TRL_BULK_STAT]
  omega

/-- The bulk descriptors that were under way have ended (R351). -/
theorem linkWoundDown_bulk (hc : cause < 256) {i : Nat} (hi : i < 8) (hb : s.bulkBusy i) :
    (linkWoundDown cause s).fld (F.TRL_BULK_STAT_STATE i) = 4
      ∧ (noRouteTo s i → (linkWoundDown cause s).fld (F.TRL_BULK_STAT_RESULT i) = 7) := by
  have hstat : (F.TRL_BULK_STAT_STATE i).addr ≠ R.TRL_STAT := by simp only [F.TRL_BULK_STAT_STATE, R.TRL_BULK_STAT, R.TRL_STAT]; omega
  have hb' : (linkDown cause s).bulkBusy i := by unfold State.bulkBusy; rwa [fld_linkDown hstat]
  obtain ⟨hst, hres⟩ := bulksDrop_ends (linkDown_live hc) hi hb'
  have htiles := regsBut_copiesStale (bulksDrop (linkDown cause s))
  exact ⟨(htiles.fld (bulkStat_notMem_tiles i _ hi)).trans hst, fun hno => (htiles.fld (bulkStat_notMem_tiles i _ hi)).trans
    (hres (noRouteTo_same hno ((near_linkDown cause s).same .routes rfl)))⟩

/-- The copies of the twin's tiles are stale (R351). -/
theorem linkWoundDown_tile {k : Nat} (hk : k < s.link.tiles.length) (h : s.tileState k = 8) : (linkWoundDown cause s).tileState k = 9 := by
  obtain ⟨l, hl⟩ := bulksDrop_link (linkDown cause s)
  refine tileState_copiesStale (by rw [hl, linkDown_link]; exact hk) ?_
  have hbulk : R.TRL_TILE_ST k ∉ (List.range 8).map (fun i => R.TRL_BULK_STAT i) ++ eventRegs := by
    rw [List.mem_append, not_or]
    refine ⟨?_, linkReg_events (linkReg_tile k)⟩
    simp only [List.mem_map, List.mem_range, not_exists, not_and, R.TRL_TILE_ST, R.TRL_BULK_STAT]
    omega
  have hdown : (linkDown cause s).tileState k = 8 :=
    (fld_linkDown (by simp only [F.TRL_TILE_ST_STATE, R.TRL_TILE_ST, R.TRL_STAT]; omega)).trans h
  exact ((regsBut_bulksDrop _).fld hbulk).trans hdown

/-- The check of the eviction is of an eviction that awaits no acknowledgement (R351). -/
theorem evict_linkWoundDown (cause : Nat) (s : State) :
    (linkWoundDown cause s).link.evict = s.link.evict.map (fun e => { e with acked := true }) := by
  obtain ⟨l, hl⟩ := linkWoundDown_link cause s
  rw [hl, linkDown_link]

theorem tileState_evictCheck_other {k : Nat} (h : ∀ e, s.link.evict = some e → e.idx ≠ k) : (evictCheck s).tileState k = s.tileState k := by
  rcases evictCheck_cases s with he | ⟨e, hs, he⟩ <;> rw [he]
  rw [tileState_evictDone, if_neg (Ne.symm (h e hs))]

/-- R351: the link has gone off. -/
theorem wentOff_linkOff (h : 1 ≤ s.fld F.TRL_STAT_STATE) (h' : s.fld F.TRL_STAT_STATE ≤ 9) (hc : cause < 256) :
    wentOff cause s (linkOff cause s) := by
  rw [linkOff_on h h']
  change wentOff cause s (raise (Ev.link 2) 0 (evictCheck (linkWoundDown cause s)))
  have hevict := evict_linkWoundDown cause s
  have hstat := (statSame_linkWoundDown cause s).trans (statSame_evictCheck (linkWoundDown cause s))
  have hstatus {f : Fld} (hf : f.addr = R.TRL_STAT) (hb : f.lo + f.width ≤ 17 ∨ 18 ≤ f.lo) :
      (raise (Ev.link 2) 0 (evictCheck (linkWoundDown cause s))).fld f = (linkDown cause s).fld f :=
    (raise_fld (by rw [hf]; decide)).trans (hstat f hf hb)
  have hlink : ∃ l e, (raise (Ev.link 2) 0 (evictCheck (linkWoundDown cause s))).link = { s.link with
      txq := Quad.all [], rx := [], cut := none, recs := [], hold := [], fetches := l, evict := e } := by
    obtain ⟨l, hl⟩ := linkWoundDown_link cause s
    obtain ⟨e, he⟩ := evictCheck_link (linkWoundDown cause s)
    exact ⟨l, e, by rw [raise_link, he, hl, linkDown_link]⟩
  obtain ⟨l, e, hq⟩ := hlink
  refine ⟨(hstatus rfl (by decide)).trans (linkDown_stat hc).1, fun h0 => (hstatus rfl (by decide)).trans ((linkDown_stat hc).2 h0),
    fun v => by rw [hq]; exact Quad.get_all [] v, by rw [hq], by rw [hq], by rw [hq], by rw [hq], fun ht hf => ?pair, fun i hi hb => ?bulk,
    fun k hk h8 hother => ?tile, fun e he => ?evict, fun hidle hnone => ?heard⟩
  case pair =>
    have hsafety : s.safetyQueued = true := by simpa [State.safetyQueued] using hf
    unfold State.flag
    rw [hstatus rfl (by decide)]
    exact linkDown_pair hsafety ht
  case bulk =>
    obtain ⟨hst, hres⟩ := linkWoundDown_bulk hc hi hb
    have hlive : (linkWoundDown cause s).linkLive = false := by
      unfold State.linkLive
      rw [statSame_linkWoundDown cause s F.TRL_STAT_STATE rfl (by decide), (linkDown_stat hc).1]
      rfl
    have hended := bulkKept_ended i (linkWoundDown cause s).routes
    refine ⟨(hended.raise hi _ _ (hended.evictCheck hi ⟨rfl, hlive, hst⟩)).2.2, fun hno => ?_⟩
    have hkept := bulkKept_same (noRouteTo_same hno (linkWoundDown_routes cause s))
    exact ((hkept.raise hi _ _ (hkept.evictCheck hi (.refl _))).fld rfl).trans (hres hno)
  case tile =>
    rw [raise_tileState, tileState_evictCheck_other, linkWoundDown_tile hk h8]
    intro e he
    rw [hevict, Option.map_eq_some_iff] at he
    obtain ⟨e', he', rfl⟩ := he
    exact hother e' he'
  case evict =>
    rw [he] at hevict
    rw [raise_link, raise_tileState]
    split
    · rename_i hw
      rw [evictCheck_ends hevict hw rfl, evictDone_link, tileState_evictDone]
      exact ⟨rfl, if_pos rfl⟩
    · rename_i hw
      rw [evictCheck_waits hevict (.inl (by simpa using hw))]
      exact hevict
  case heard =>
    rw [hnone] at hevict
    rw [evictCheck_none hevict]
    have hdrop : bulksDrop (linkDown cause s) = linkDown cause s := bulksDrop_idle fun i hi hb => by
      unfold State.bulkBusy at hb
      rw [fld_linkDown (by simp only [F.TRL_BULK_STAT_STATE, R.TRL_BULK_STAT, R.TRL_STAT]; omega)] at hb
      rcases hb with hb | hb
      · exact (hidle i hi).1 hb
      · exact (hidle i hi).2 hb
    have hnear : Near 0x800001 s (linkWoundDown cause s) := by
      unfold linkWoundDown
      rw [hdrop]
      exact (near_linkDown cause s).trans ((near_copiesStale _).mono rfl)
    exact heard_link (hnear.same .tasks rfl) (hnear.same .routes rfl) 2 0

end
end Sys2Proof.Machine
end

section
/-! Training and retraining (R342 to R347, R352): what each step of the training machine leaves, and the keyed acknowledgement. -/

namespace Sys2Proof.Machine

section

variable {s : State}

/-! ## The link comes up -/

/-- LINK_DLY is measured: the timing and the late count as they stand before the link is up. -/
def phaseSet (dly : Nat) (s : State) : State :=
  (((s.setFld F.TRL_TIME_LINK_DLY dly).setFld F.TRL_TIME_TX_DLY 200).modLink (fun l => { l with rxExp := dly, offs := [] })).setFld F.TRL_ERR_LATE_RUN 0

theorem linkPhase_fails {dly : Nat} {apart : Bool} (h : 1000 < dly ∨ apart = true) : linkPhase dly apart s = linkOff 6 s := if_pos h

theorem linkPhase_ends {dly : Nat} {apart : Bool} (h : ¬(1000 < dly ∨ apart = true)) : linkPhase dly apart s = linkUp (phaseSet dly s) := if_neg h

theorem fld_linkUp {f : Fld} (hf : linkReg f.addr = true) (hst : f.addr ≠ R.TRL_STAT) : (linkUp s).fld f = s.fld f := by
  unfold linkUp partFlush
  rw [raise_fld hf, State.modLink_fld, State.fld_setFld_other _ _ hst]

theorem linkUp_state (s : State) : (linkUp s).fld F.TRL_STAT_STATE = 7 := by
  unfold linkUp partFlush
  rw [raise_fld (by decide), State.modLink_fld]
  exact s.fld_setFld_same 7 (by decide)

theorem linkUp_link (s : State) : (linkUp s).link = { s.link with txq := s.link.txq.set 2 [] } := by
  unfold linkUp partFlush
  rw [raise_link]
  simp

theorem regsBut_linkUp (s : State) : s.regsBut (linkUp s) (R.TRL_STAT :: eventRegs) := by
  have hst : s.regsBut (partFlush (s.setFld F.TRL_STAT_STATE 7)) (R.TRL_STAT :: eventRegs) :=
    ((s.regsBut_refl _).setFld F.TRL_STAT_STATE 7 List.mem_cons_self).same rfl
  exact hst.raise _ _ fun _ hk => List.mem_cons_of_mem _ hk

/-- What the end of a phase measurement leaves, up to the state of the link: LINK_DLY with TX_DLY and RX_EXP recentred (R336, R347). -/
structure Phased (dly : Nat) (s t : State) : Prop where
  linkDly : t.fld F.TRL_TIME_LINK_DLY = dly
  txDly : t.fld F.TRL_TIME_TX_DLY = 200
  state : t.fld F.TRL_STAT_STATE = 7
  tec : t.fld F.TRL_ERR_TEC = s.fld F.TRL_ERR_TEC
  rec_ : t.fld F.TRL_ERR_REC = s.fld F.TRL_ERR_REC
  rxExp : t.link.rxExp = dly
  tiles : t.link.tiles = s.link.tiles
  evict : t.link.evict = s.link.evict
  heard : s.heard t (Ev.link 0)
  regs : s.regsBut t (linkRegs s)

theorem phaseSet_link (dly : Nat) (s : State) : (phaseSet dly s).link = { s.link with rxExp := dly, offs := [] } := by simp [phaseSet]

theorem phased_linkUp {dly : Nat} (h : dly < 4096) (s : State) : Phased dly s (linkUp (phaseSet dly s)) where
  linkDly := by
    rw [fld_linkUp (by decide) (by decide)]
    unfold phaseSet
    rw [State.fld_setFld_other _ _ (by decide), State.modLink_fld, State.fld_setFld_apart _ _ (by decide)]
    exact (s.fld_setFld_same dly (by decide)).trans (Nat.mod_eq_of_lt h)
  txDly := by
    rw [fld_linkUp (by decide) (by decide)]
    unfold phaseSet
    rw [State.fld_setFld_other _ _ (by decide), State.modLink_fld]
    exact State.fld_setFld_same _ 200 (by decide)
  state := linkUp_state _
  tec := by
    rw [fld_linkUp (by decide) (by decide)]
    unfold phaseSet
    rw [State.fld_setFld_apart _ _ (by decide), State.modLink_fld, State.fld_setFld_other _ _ (by decide), State.fld_setFld_other _ _ (by decide)]
  rec_ := by
    rw [fld_linkUp (by decide) (by decide)]
    unfold phaseSet
    rw [State.fld_setFld_apart _ _ (by decide), State.modLink_fld, State.fld_setFld_other _ _ (by decide), State.fld_setFld_other _ _ (by decide)]
  rxExp := by rw [linkUp_link, phaseSet_link]
  tiles := by rw [linkUp_link, phaseSet_link]
  evict := by rw [linkUp_link, phaseSet_link]
  heard := heard_link (by simp [partFlush, phaseSet]) (by simp [partFlush, phaseSet]) 0 0
  regs := by
    have hset : s.regsBut (phaseSet dly s) (linkRegs s) :=
      ((((s.regsBut_refl (linkRegs s)).setFld F.TRL_TIME_LINK_DLY dly (by simp [F.TRL_TIME_LINK_DLY, linkRegs])).setFld F.TRL_TIME_TX_DLY 200
        (by simp [F.TRL_TIME_TX_DLY, linkRegs])).same (t := State.modLink _ _) rfl).setFld F.TRL_ERR_LATE_RUN 0 (by simp [F.TRL_ERR_LATE_RUN, linkRegs])
    exact hset.trans ((regsBut_linkUp _).mono fun k hk => by
      rcases List.mem_cons.1 hk with rfl | hk
      · simp [linkRegs]
      · exact linkOffRegs_sub k (linkOffRegs_events k hk))

/-! ## The owner's tiles -/

theorem tilesOwned_lt {e : Nat × TileEnt} (h : e ∈ s.tilesOwned) : e.1 < s.link.tiles.length := by
  have hlist : e ∈ s.tileList := by
    unfold State.tilesOwned at h
    split at h
    · exact absurd h (by simp)
    · exact (List.mem_filter.1 h).1
  exact List.mem_range.1 (List.of_mem_zip hlist).1

theorem tilesOwned_nil (h : s.link.tiles = []) : s.tilesOwned = [] := by
  simp [State.tilesOwned, State.tileList, h]

/-- The owner's tiles are resident, before their audit. -/
def tilesResident (s : State) : State := s.each s.tilesOwned (fun s e => if s.tileState e.1 = 0 then setTile e.1 1 s else s)

theorem tileStart_eq (s : State) : tileStart s = tileAudit (tilesResident s) := rfl

theorem near_tilesResident (s : State) : Near 1 s (tilesResident s) :=
  .each (fun _ _ h => .ite (near_setTile (l := 1) rfl h _ _) h) (.refl 1 s)

theorem regsBut_tilesResident (s : State) : s.regsBut (tilesResident s) ((List.range s.link.tiles.length).map (fun k => R.TRL_TILE_ST k)) :=
  (s.regsBut_refl _).each fun _ e he hx =>
    .ite (hx.setFld (F.TRL_TILE_ST_STATE e.1) 1 (List.mem_map_of_mem (List.mem_range.2 (tilesOwned_lt he)))) hx

@[simp] theorem tileStart_link (s : State) : (tileStart s).link = s.link := by
  rw [tileStart_eq, tileAudit_link]
  exact (near_tilesResident s).same .link rfl

theorem regsBut_tileStart (s : State) : s.regsBut (tileStart s) (linkOffRegs s) := by
  refine ((regsBut_tilesResident s).mono fun k hk => mem_linkOffRegs.2 (.inr (.inr (.inl hk)))).trans
    ((regsBut_tileAudit (tilesResident s)).mono fun k hk => ?_)
  rcases List.mem_append.1 hk with hk | hk
  · exact mem_linkOffRegs.2 (.inl (by simp only [List.mem_cons, List.not_mem_nil, or_false] at hk ⊢; tauto))
  · exact linkOffRegs_events k hk

theorem statSame_tileStart (s : State) : StatSame s (tileStart s) := by
  refine StatSame.trans (.of_regsBut (regsBut_tilesResident s) ?_) (statSame_tileAudit _)
  simp only [List.mem_map, not_exists, not_and, R.TRL_TILE_ST, R.TRL_STAT]
  omega

/-- Without tiles there is nothing to audit. -/
theorem tileStart_tasks (h : s.link.tiles = []) : (tileStart s).tasks = s.tasks := by
  have hnil : (tilesResident s).tilesOwned = [] := tilesOwned_nil (by rw [(near_tilesResident s).same .link rfl, h])
  have htally : (tileTally (tilesResident s)).tasks = s.tasks := by
    simp only [tileTally, State.setFld_tasks]
    exact (near_tilesResident s).same .tasks rfl
  rcases tileAudit_cases (tilesResident s) with ha | ⟨hne, -⟩
  · rw [tileStart_eq, ha, htally]
  · exact absurd hnil hne

/-! ## A link that goes off after its peer's capabilities were noted -/

/-- What a link going off leaves rests on the state before but for what CAPABILITY learned. -/
theorem wentOff_same {u t : State} {cause : Nat} (hr : s.regsBut u [R.TRL_PEER_SIG]) (hn : Near 0x800001 s u)
    (hq : u.link.txq = s.link.txq) (ht : u.link.tiles = s.link.tiles) (he : u.link.evict = s.link.evict) (h : wentOff cause u t) :
    wentOff cause s t := by
  have hbulk : ∀ i < 8, u.fld (F.TRL_BULK_STAT_STATE i) = s.fld (F.TRL_BULK_STAT_STATE i) := fun i hi =>
    hr.fld (by simp only [F.TRL_BULK_STAT_STATE, R.TRL_BULK_STAT, R.TRL_PEER_SIG, List.mem_singleton]; omega)
  have htile : ∀ k, u.tileState k = s.tileState k := fun k =>
    hr.fld (by simp only [F.TRL_TILE_ST_STATE, R.TRL_TILE_ST, R.TRL_PEER_SIG, List.mem_singleton]; omega)
  have hroute : u.routes = s.routes := hn.same .routes rfl
  have htasks : u.tasks = s.tasks := hn.same .tasks rfl
  have htwin : u.twin = s.twin := by
    have hldr : u.ldr = s.ldr := hn.same .ldr rfl
    unfold State.twin State.applied
    rw [hldr]
  obtain ⟨hst, hcause, htx, hrx, hcut, hrecs, hhold, hpair, hends, hstale, hevict, hheard⟩ := h
  rw [htwin, hq] at hpair
  rw [ht, he] at hstale
  rw [he] at hevict hheard
  refine ⟨hst, hcause, htx, hrx, hcut, hrecs, hhold, hpair, fun i hi hb => ?_, fun k hk h8 => hstale k hk ((htile k).trans h8), hevict,
    fun hidle hnone c => ?_⟩
  · obtain ⟨h4, h7⟩ := hends i hi (by rwa [hbulk i hi])
    exact ⟨h4, fun hno => h7 (noRouteTo_same hno hroute)⟩
  · have hc := hheard (fun i hi => by rw [hbulk i hi]; exact hidle i hi) hnone c
    simp only [State.task, State.routeCount, htasks, hroute] at hc ⊢
    have h92 : 0x80 ≤ Ev.link 2 := by decide
    rw [if_pos (.inl h92)] at hc ⊢
    exact hc

/-! ## The steps of training -/

theorem training_iff : s.training = true ↔ 1 ≤ s.fld F.TRL_STAT_STATE ∧ s.fld F.TRL_STAT_STATE ≤ 6 := by
  simp [State.training]

theorem linkLive_iff : s.linkLive = true ↔ 7 ≤ s.fld F.TRL_STAT_STATE ∧ s.fld F.TRL_STAT_STATE ≤ 9 := by
  unfold State.linkLive
  simp only [Bool.or_eq_true, beq_iff_eq]
  omega

/-- R343: a step that its state does not await does nothing. -/
theorem trainAdvance_unawaited {x : TrainStep} (h : s.fld F.TRL_STAT_STATE ≠ trainLeaves x) : trainAdvance x s = s := by
  unfold trainAdvance
  split
  iterate 6 exact absurd ‹s.fld F.TRL_STAT_STATE = _› h
  rfl

theorem exec_training {x : TrainStep} (hx : x.wf = true) : exec (.trainingAdvance x) s = .next (trainAdvance x s) := if_pos hx

/-- A step of training that sets the state alone. -/
theorem setState_spec (n : Nat) (hn : n < 16) (s : State) : (s.setFld F.TRL_STAT_STATE n).fld F.TRL_STAT_STATE = n
    ∧ s.regsBut (s.setFld F.TRL_STAT_STATE n) (R.TRL_PEER_SIG :: linkRegs s) :=
  ⟨(s.fld_setFld_same n (by decide)).trans (Nat.mod_eq_of_lt hn),
    (s.regsBut_refl _).setFld F.TRL_STAT_STATE n (by simp [F.TRL_STAT_STATE, linkRegs])⟩

theorem wentOff_live {t : State} {cause : Nat} (h : wentOff cause s t) : t.linkLive = false := by
  unfold State.linkLive
  rw [h.1]
  rfl

/-- A link in training or running that goes off: the cause, and only registers of the link differ. -/
theorem linkOff_spec (h : 1 ≤ s.fld F.TRL_STAT_STATE) (h' : s.fld F.TRL_STAT_STATE ≤ 9) {cause : Nat} (hc : cause < 256) :
    wentOff cause s (linkOff cause s) ∧ s.regsBut (linkOff cause s) (linkRegs s) :=
  ⟨wentOff_linkOff h h' hc, (regsBut_linkOff cause s).mono linkOffRegs_sub⟩

end
end Sys2Proof.Machine
end

section
/-! The training machine settled (R342 to R347, R352). -/

namespace Sys2Proof.Machine

section

variable {s : State}

/-! ## Each step in its state -/

theorem trainAdvance_signal (h : s.fld F.TRL_STAT_STATE = 1) : trainAdvance .signal s = s.setFld F.TRL_STAT_STATE 2 := by
  simp only [trainAdvance, h]

theorem trainAdvance_lock (h : s.fld F.TRL_STAT_STATE = 2) : trainAdvance .lock s = s.setFld F.TRL_STAT_STATE 3 := by
  simp only [trainAdvance, h]

theorem trainAdvance_deskew (h : s.fld F.TRL_STAT_STATE = 3) (swap : Bool) (pol : BitVec 2) (skew : Nat) : trainAdvance (.deskew swap pol skew) s =
    if 16 < skew then s else ((s.setFlag F.TRL_STAT_LANE_SWAP swap).setFld F.TRL_STAT_POL pol.toNat).setFld F.TRL_STAT_STATE 4 := by
  simp only [trainAdvance, h]

theorem trainAdvance_cap (h : s.fld F.TRL_STAT_STATE = 4) (stepping : BitVec 4) (hash : List Word) (sig : Word) (force : BitVec 2) (run : Bool)
    (kept : BitVec 2) : trainAdvance (.cap stepping hash sig force run kept) s
      = trainCap stepping.toNat hash sig force.toNat run kept.toNat s := by
  simp only [trainAdvance, h]

theorem trainAdvance_elect_none (h : s.fld F.TRL_STAT_STATE = 5) {draws : List (Nat × Nat)} (he : s.elected draws = none) :
    trainAdvance (.elect draws) s = trainFail 5 s := by
  simp only [trainAdvance, h, he]

theorem trainAdvance_elect_some (h : s.fld F.TRL_STAT_STATE = 5) {draws : List (Nat × Nat)} {r : Nat} (he : s.elected draws = some r) :
    trainAdvance (.elect draws) s = (s.setFld F.TRL_STAT_ROLE r).setFld F.TRL_STAT_STATE 6 := by
  simp only [trainAdvance, h, he]

theorem trainAdvance_align (h : s.fld F.TRL_STAT_STATE = 6) (dly : BitVec 12) (apart : Bool) : trainAdvance (.align dly apart) s =
    if (linkPhase dly.toNat apart s).linkLive then tileStart ((linkPhase dly.toNat apart s).modLink (fun l => { l with wasUp := true }))
    else linkPhase dly.toNat apart s := by
  simp only [trainAdvance, h]

theorem mem_linkRegs_stat : R.TRL_STAT ∈ linkRegs s := by simp [linkRegs]

theorem trained_deskew (h : s.fld F.TRL_STAT_STATE = 3) (swap : Bool) (pol : BitVec 2) (skew : Nat) (t : State)
    (ht : t = trainAdvance (.deskew swap pol skew) s) : s.regsBut t (R.TRL_PEER_SIG :: linkRegs s) ∧
      if 16 < skew then t = s
      else t.fld F.TRL_STAT_STATE = 4 ∧ t.flag F.TRL_STAT_LANE_SWAP = swap ∧ t.fld F.TRL_STAT_POL = pol.toNat := by
  have hstat : R.TRL_STAT ∈ R.TRL_PEER_SIG :: linkRegs s := List.mem_cons_of_mem _ mem_linkRegs_stat
  rw [trainAdvance_deskew h] at ht
  split at ht
  · rw [if_pos ‹_›]
    exact ⟨ht ▸ s.regsBut_refl _, ht⟩
  · rw [if_neg ‹_›, ht]
    refine ⟨(((s.regsBut_refl _).setFlag F.TRL_STAT_LANE_SWAP swap hstat).setFld F.TRL_STAT_POL pol.toNat hstat).setFld F.TRL_STAT_STATE 4 hstat,
      State.fld_setFld_same _ 4 (by decide), ?swapped, ?polarity⟩
    case swapped =>
      unfold State.flag
      rw [State.fld_setFld_apart _ _ (by decide), State.fld_setFld_apart _ _ (by decide)]
      exact s.flag_setFlag_same swap (by decide) (by decide)
    case polarity =>
      rw [State.fld_setFld_apart _ _ (by decide), State.fld_setFld_same _ _ (by decide)]
      exact Nat.mod_eq_of_lt pol.isLt

theorem trained_elect (h : s.fld F.TRL_STAT_STATE = 5) (draws : List (Nat × Nat)) :
    s.regsBut (trainAdvance (.elect draws) s) (R.TRL_PEER_SIG :: linkRegs s)
      ∧ (s.elected draws = none → wentOff 5 s (trainAdvance (.elect draws) s))
      ∧ ∀ r, s.elected draws = some r → (trainAdvance (.elect draws) s).fld F.TRL_STAT_STATE = 6
        ∧ (trainAdvance (.elect draws) s).fld F.TRL_STAT_ROLE = r % 4 := by
  have hstat : R.TRL_STAT ∈ R.TRL_PEER_SIG :: linkRegs s := List.mem_cons_of_mem _ mem_linkRegs_stat
  cases he : s.elected draws with
  | none =>
    rw [trainAdvance_elect_none h he]
    obtain ⟨hoff, hregs⟩ := linkOff_spec (s := s) (cause := 5) (by omega) (by omega) (by decide)
    exact ⟨hregs.mono fun _ hk => List.mem_cons_of_mem _ hk, fun _ => hoff, fun _ hr => nomatch hr⟩
  | some r =>
    rw [trainAdvance_elect_some h he]
    refine ⟨((s.regsBut_refl _).setFld F.TRL_STAT_ROLE r hstat).setFld F.TRL_STAT_STATE 6 hstat, fun hr => (nomatch hr), fun r' hr => ?_⟩
    obtain rfl := Option.some.inj hr
    refine ⟨State.fld_setFld_same _ 6 (by decide), ?_⟩
    rw [State.fld_setFld_apart _ _ (by decide)]
    exact s.fld_setFld_same r (by decide)

/-- What CAPABILITY notes of the peer. -/
def capNoted (sig : Word) (force : Nat) (run : Bool) (kept : Nat) (s : State) : State :=
  (s.setReg R.TRL_PEER_SIG sig).modLink (fun l => { l with peerForce := force, peerRun := run, peerRole := kept })

theorem trainCap_eq (stepping : Nat) (hash : List Word) (sig : Word) (force : Nat) (run : Bool) (kept : Nat) (s : State) :
    trainCap stepping hash sig force run kept s =
      if hash ≠ s.imgHash then trainFail 3 (capNoted sig force run kept s)
      else if stepping ≠ s.fuses.stepping then trainFail 4 (capNoted sig force run kept s)
      else (capNoted sig force run kept s).setFld F.TRL_STAT_STATE 5 := by
  have hhash : (capNoted sig force run kept s).imgHash = s.imgHash := by simp [State.imgHash, capNoted]
  have hfuses : (capNoted sig force run kept s).fuses = s.fuses := by simp [capNoted]
  rw [← hhash, ← hfuses]
  rfl

theorem capNoted_link (sig : Word) (force : Nat) (run : Bool) (kept : Nat) (s : State) : (capNoted sig force run kept s).link
    = { s.link with peerForce := force, peerRun := run, peerRole := kept } := by simp [capNoted]

theorem regsBut_capNoted (sig : Word) (force : Nat) (run : Bool) (kept : Nat) (s : State) :
    s.regsBut (capNoted sig force run kept s) [R.TRL_PEER_SIG] :=
  ((s.regsBut_refl _).setReg R.TRL_PEER_SIG sig (by simp)).same (t := State.modLink _ _) rfl

/-- What a link that goes off keeps of its peer. -/
theorem linkOff_peer (cause : Nat) (s : State) : (linkOff cause s).link.peerForce = s.link.peerForce ∧ (linkOff cause s).link.peerRun = s.link.peerRun
    ∧ (linkOff cause s).link.peerRole = s.link.peerRole := by
  by_cases hst : s.fld F.TRL_STAT_STATE = 0 ∨ 10 ≤ s.fld F.TRL_STAT_STATE
  · rw [linkOff_off hst]
    exact ⟨rfl, rfl, rfl⟩
  · obtain ⟨l, hl⟩ := linkWoundDown_link cause s
    obtain ⟨e, he⟩ := evictCheck_link (linkWoundDown cause s)
    rw [linkOff_on (by omega) (by omega), raise_link]
    change (evictCheck (linkWoundDown cause s)).link.peerForce = _ ∧ (evictCheck (linkWoundDown cause s)).link.peerRun = _
      ∧ (evictCheck (linkWoundDown cause s)).link.peerRole = _
    rw [he, hl, linkDown_link]
    exact ⟨rfl, rfl, rfl⟩

/-- R345: CAPABILITY notes the peer, and fails on an image or a stepping that differs. -/
theorem trained_cap (h : s.fld F.TRL_STAT_STATE = 4) {stepping : Nat} {hash : List Word} {sig : Word} {force : Nat} {run : Bool} {kept : Nat} {t : State}
    (ht : t = trainCap stepping hash sig force run kept s) : s.regsBut t (R.TRL_PEER_SIG :: linkRegs s)
      ∧ t.reg R.TRL_PEER_SIG = sig ∧ t.link.peerForce = force ∧ t.link.peerRun = run ∧ t.link.peerRole = kept
      ∧ (if hash ≠ s.imgHash then wentOff 3 s t else if stepping ≠ s.fuses.stepping then wentOff 4 s t else t.fld F.TRL_STAT_STATE = 5) := by
  have hnoted := regsBut_capNoted sig force run kept s
  have hlink := capNoted_link sig force run kept s
  have hsig : (capNoted sig force run kept s).reg R.TRL_PEER_SIG = sig := State.reg_setReg_same s _ sig
  have hst : (capNoted sig force run kept s).fld F.TRL_STAT_STATE = 4 := (hnoted.fld (by decide)).trans h
  have hregs : s.regsBut (capNoted sig force run kept s) (R.TRL_PEER_SIG :: linkRegs s) := hnoted.mono (by simp)
  have hlinkRegs : linkRegs (capNoted sig force run kept s) = linkRegs s := linkRegs_same (by rw [hlink]) (by rw [hlink])
  have hfail {cause : Nat} (hc : cause < 256) (htc : t = trainFail cause (capNoted sig force run kept s)) :
      s.regsBut t (R.TRL_PEER_SIG :: linkRegs s) ∧ t.reg R.TRL_PEER_SIG = sig ∧ t.link.peerForce = force ∧ t.link.peerRun = run
        ∧ t.link.peerRole = kept ∧ wentOff cause s t := by
    obtain ⟨hoff, hoffRegs⟩ := linkOff_spec (s := capNoted sig force run kept s) (by omega) (by omega) hc
    obtain ⟨hforce, hrun, hrole⟩ := linkOff_peer cause (capNoted sig force run kept s)
    rw [hlink] at hforce hrun hrole
    rw [htc]
    refine ⟨hregs.trans (hoffRegs.mono fun k hk => List.mem_cons_of_mem _ (hlinkRegs ▸ hk)), ?_, hforce, hrun, hrole,
      wentOff_same hnoted ?_ (by rw [hlink]) (by rw [hlink]) (by rw [hlink]) hoff⟩
    · exact (regsBut_linkOff cause _ _ (notMem_linkOffRegs (by decide) (by decide) (by decide))).trans hsig
    · exact near_modLink (l := 0x800001) rfl ((Near.refl _ s).setReg _ _ rfl) _
  rw [trainCap_eq] at ht
  split at ht
  · rw [if_pos ‹_›]
    exact hfail (by decide) ht
  rw [if_neg ‹_›]
  split at ht
  · rw [if_pos ‹_›]
    exact hfail (by decide) ht
  · rw [if_neg ‹_›, ht, State.setFld_link, hlink]
    exact ⟨hregs.setFld F.TRL_STAT_STATE 5 (List.mem_cons_of_mem _ mem_linkRegs_stat),
      (State.reg_setFld_other _ 5 (by decide)).trans hsig, rfl, rfl, rfl, State.fld_setFld_same _ 5 (by decide)⟩

/-- R336, R347: SLOT_ALIGN brings the link up, or fails with PHASE. -/
theorem trained_align (h : s.fld F.TRL_STAT_STATE = 6) (dly : BitVec 12) (apart : Bool) {t : State} (ht : t = trainAdvance (.align dly apart) s) :
    s.regsBut t (linkRegs s) ∧
      if 1000 < dly.toNat ∨ apart = true then wentOff 6 s t
      else t.fld F.TRL_STAT_STATE = 7 ∧ t.fld F.TRL_TIME_LINK_DLY = dly.toNat ∧ t.link.rxExp = dly.toNat ∧ t.link.wasUp = true
        ∧ (s.link.tiles = [] → s.heard t (Ev.link 0)) := by
  rw [trainAdvance_align h] at ht
  by_cases hfail : 1000 < dly.toNat ∨ apart = true
  · obtain ⟨hoff, hregs⟩ := linkOff_spec (s := s) (cause := 6) (by omega) (by omega) (by decide)
    rw [linkPhase_fails hfail, wentOff_live hoff] at ht
    rw [if_pos hfail]
    exact ht ▸ ⟨hregs, hoff⟩
  · rw [linkPhase_ends hfail] at ht
    rw [if_neg hfail]
    have hup := phased_linkUp dly.isLt s
    generalize linkUp (phaseSet dly.toNat s) = u at hup ht
    rw [if_pos (linkLive_iff.2 (by rw [hup.state]; omega))] at ht
    have hstart := regsBut_tileStart (u.modLink (fun l => { l with wasUp := true }))
    have hoffRegs : linkOffRegs (u.modLink (fun l => { l with wasUp := true })) = linkOffRegs s := by
      unfold linkOffRegs
      rw [State.modLink_link, hup.tiles, hup.evict]
    rw [hoffRegs] at hstart
    have hlink : t.link = { u.link with wasUp := true } := by rw [ht, tileStart_link, State.modLink_link]
    refine ⟨?regs, ?state, ?measured, by rw [hlink]; exact hup.rxExp, by rw [hlink], fun hnil => ?heard⟩
    case regs => exact ht ▸ hup.regs.trans (State.regsBut.mono (s := u) hstart linkOffRegs_sub)
    case state => exact ht ▸ (statSame_tileStart _ F.TRL_STAT_STATE rfl (by decide)).trans hup.state
    case measured => exact ht ▸ (hstart.fld (notMem_linkOffRegs (by decide) (by decide) (by decide))).trans hup.linkDly
    case heard =>
      refine heard_same hup.heard ?_
      rw [ht, tileStart_tasks (by rw [State.modLink_link]; exact hup.tiles.trans hnil), State.modLink_tasks]

/-! ## Time limits, lanes and retraining -/

/-- Where the error counters put a link that has just come up (Table TRL-7). -/
theorem linkJudge_up (h : s.fld F.TRL_STAT_STATE = 7) : linkJudge s =
    if 192 ≤ max (s.fld F.TRL_ERR_TEC) (s.fld F.TRL_ERR_REC) then linkOff 7 s
    else if 96 ≤ max (s.fld F.TRL_ERR_TEC) (s.fld F.TRL_ERR_REC) then raise (Ev.link 1) 0 (s.setFld F.TRL_STAT_STATE 8) else s := by
  have hlive : s.linkLive = true := linkLive_iff.2 (by omega)
  unfold linkJudge
  simp only [hlive, h, Bool.not_true, Bool.false_eq_true, if_false, true_and, Nat.reduceEqDiff, false_and]

theorem linkJudge_off (h : s.linkLive = false) : linkJudge s = s := if_pos (by simp [h])

/-- R342: retraining measures the phase again and ends as the error counters say. -/
theorem retrained (h : s.fld F.TRL_STAT_STATE = 9) {dly : Nat} (hd : dly < 4096) (apart : Bool) {t : State} (ht : t = retrainEnd dly apart s) :
    s.regsBut t (linkRegs s) ∧
      if 1000 < dly ∨ apart = true then wentOff 6 s t
      else t.fld F.TRL_TIME_LINK_DLY = dly ∧ t.fld F.TRL_TIME_TX_DLY = 200
        ∧ t.fld F.TRL_STAT_STATE = if 192 ≤ max (s.fld F.TRL_ERR_TEC) (s.fld F.TRL_ERR_REC) then 10
          else if 96 ≤ max (s.fld F.TRL_ERR_TEC) (s.fld F.TRL_ERR_REC) then 8 else 7 := by
  have hend : t = linkJudge (linkPhase dly apart s) := ht.trans (if_pos h)
  by_cases hfail : 1000 < dly ∨ apart = true
  · obtain ⟨hoff, hregs⟩ := linkOff_spec (s := s) (cause := 6) (by omega) (by omega) (by decide)
    rw [linkPhase_fails hfail, linkJudge_off (wentOff_live hoff)] at hend
    rw [if_pos hfail]
    exact hend ▸ ⟨hregs, hoff⟩
  · rw [linkPhase_ends hfail] at hend
    rw [if_neg hfail]
    have hup := phased_linkUp hd s
    generalize linkUp (phaseSet dly s) = u at hup hend
    rw [linkJudge_up hup.state, hup.tec, hup.rec_] at hend
    have htime : R.TRL_TIME ∉ linkOffRegs u := notMem_linkOffRegs (by decide) (by decide) (by decide)
    have hregs : linkRegs u = linkRegs s := linkRegs_same hup.tiles hup.evict
    split at hend
    · rw [if_pos ‹_›, hend]
      have hoff := regsBut_linkOff 7 u
      exact ⟨hup.regs.trans (hregs ▸ hoff.mono linkOffRegs_sub), (hoff.fld htime).trans hup.linkDly, (hoff.fld htime).trans hup.txDly,
        (wentOff_linkOff (s := u) (cause := 7) (by rw [hup.state]; decide) (by rw [hup.state]; decide) (by decide)).1⟩
    rw [if_neg ‹_›]
    split at hend
    · rw [if_pos ‹_›, hend]
      have hset : u.regsBut (u.setFld F.TRL_STAT_STATE 8) (linkOffRegs u) :=
        (u.regsBut_refl _).setFld F.TRL_STAT_STATE 8 (by simp [F.TRL_STAT_STATE, linkOffRegs])
      have hpassive := hset.raise (Ev.link 1) 0 linkOffRegs_events
      exact ⟨hup.regs.trans (hregs ▸ hpassive.mono linkOffRegs_sub), (hpassive.fld htime).trans hup.linkDly, (hpassive.fld htime).trans hup.txDly,
        (raise_fld (by decide)).trans (u.fld_setFld_same 8 (by decide))⟩
    · rw [if_neg ‹_›, hend]
      exact ⟨hup.regs, hup.linkDly, hup.txDly, hup.state⟩

/-! ## The keyed acknowledgement -/

theorem trainStart_spec (s : State) : (trainStart s).fld F.TRL_STAT_STATE = 1 ∧ (trainStart s).reg R.TRL_ERR = 0
    ∧ (trainStart s).flag F.TRL_STAT_ACK_REJ = s.flag F.TRL_STAT_ACK_REJ
    ∧ (∀ w : Fin 4, ((trainStart s).link.vcs.get w).txc = vcInit w ∧ (trainStart s).link.txq.get w = [])
    ∧ s.regsBut (trainStart s) [R.TRL_CTRL, R.TRL_STAT, R.TRL_ERR] := by
  have hregs : (trainStart s).regs = ((s.setFld F.TRL_STAT_STATE 1).setReg R.TRL_ERR 0).regs := rfl
  have hframe : s.regsBut ((s.setFld F.TRL_STAT_STATE 1).setReg R.TRL_ERR 0) [R.TRL_CTRL, R.TRL_STAT, R.TRL_ERR] :=
    ((s.regsBut_refl _).setFld F.TRL_STAT_STATE 1 (by decide)).setReg R.TRL_ERR 0 (by decide)
  have hreg : ∀ k, (trainStart s).reg k = ((s.setFld F.TRL_STAT_STATE 1).setReg R.TRL_ERR 0).reg k := fun k => by
    unfold State.reg
    rw [hregs]
  refine ⟨?state, (hreg _).trans (State.reg_setReg_same ..), ?rej, fun w => ?books, hframe.same hregs⟩
  case state =>
    unfold State.fld
    rw [hreg, State.reg_setReg_other _ _ (by decide)]
    exact s.fld_setFld_same 1 (by decide)
  case rej =>
    unfold State.flag State.fld
    rw [hreg, State.reg_setReg_other _ _ (by decide)]
    exact congrArg (· != 0) (s.fld_setFld_apart 1 (by decide))
  case books => fin_cases w <;> exact ⟨rfl, rfl⟩

/-- PS_CLR, where it is written, reaches PAIR_SAFE_O alone. -/
theorem psClr_spec (b : Bool) (s : State) : (s.when b psClr).link = s.link ∧ (s.when b psClr).fld F.TRL_STAT_STATE = s.fld F.TRL_STAT_STATE
    ∧ (s.when b psClr).flag F.TRL_STAT_ACK_REJ = s.flag F.TRL_STAT_ACK_REJ ∧ s.regsBut (s.when b psClr) [R.TRL_STAT] := by
  unfold State.when psClr
  split_ifs
  · exact ⟨rfl, rfl, rfl, s.regsBut_refl _⟩
  · unfold pairOut
    exact ⟨State.setFlag_link .., State.fld_setFld_apart _ _ (by decide), State.flag_setFlag_apart _ _ (by decide),
      (s.regsBut_refl _).setFlag _ _ (by decide)⟩
  · exact ⟨rfl, rfl, rfl, s.regsBut_refl _⟩

/-- What an acknowledgement does in its state (R352), the pair line aside. -/
theorem trlAck_spec (s : State) :
    (if s.fld F.TRL_STAT_STATE = 11 then (trlAck s).fld F.TRL_STAT_STATE = 1 ∧ (trlAck s).reg R.TRL_ERR = 0
        ∧ (trlAck s).flag F.TRL_STAT_ACK_REJ = s.flag F.TRL_STAT_ACK_REJ
        ∧ ∀ w : Fin 4, ((trlAck s).link.vcs.get w).txc = vcInit w ∧ (trlAck s).link.txq.get w = []
      else (trlAck s).fld F.TRL_STAT_STATE = s.fld F.TRL_STAT_STATE ∧ (trlAck s).flag F.TRL_STAT_ACK_REJ = true ∧ (trlAck s).link = s.link)
    ∧ s.regsBut (trlAck s) [R.TRL_CTRL, R.TRL_STAT, R.TRL_ERR] := by
  unfold trlAck
  split
  · obtain ⟨hst, herr, hrej, hbooks, hregs⟩ := trainStart_spec s
    exact ⟨⟨hst, herr, hrej, hbooks⟩, hregs⟩
  · exact ⟨⟨State.fld_setFld_apart _ _ (by decide), s.flag_setFlag_same true (by decide) (by decide), State.setFlag_link ..⟩,
      (s.regsBut_refl _).setFlag F.TRL_STAT_ACK_REJ true (by decide)⟩

/-- The word of a keyed acknowledgement has the key and ACK. -/
theorem ackWord_keyed (v : Word) : (fieldGet (v &&& 0x00FFFFFF#32 ||| 0x7E000100#32) 24 8 == 0x7E
    && (v &&& 0x00FFFFFF#32 ||| 0x7E000100#32).getLsbD 8) = true := by
  have hfield : fieldGet (v &&& 0x00FFFFFF#32 ||| 0x7E000100#32) 24 8 = 0x7E := by
    refine Nat.eq_of_testBit_eq fun i => ?_
    rw [fieldGet_testBit]
    by_cases hi : i < 8
    · interval_cases i <;> simp [Nat.testBit_eq_decide_div_mod_eq]
    · rw [Nat.testBit_lt_two_pow (x := 0x7E) (lt_of_lt_of_le (by decide : 0x7E < 2 ^ 8) (Nat.pow_le_pow_right (by decide) (by omega)))]
      simp [hi]
  simp [hfield]

/-- R352: a keyed ACK starts training in OFF_READY, and sets ACK_REJ elsewhere; PS_CLR in the same word releases the pair line alone. -/
theorem completes_trlAck {p : Fin 2} {v : Word} (h : s.takes p R.TRL_CTRL (v &&& 0x00FFFFFF#32 ||| 0x7E000100#32) = true) :
    Completes (.trlAck p v) s fun t =>
      (if s.fld F.TRL_STAT_STATE = 11 then t.fld F.TRL_STAT_STATE = 1 ∧ t.reg R.TRL_ERR = 0
          ∧ t.flag F.TRL_STAT_ACK_REJ = s.flag F.TRL_STAT_ACK_REJ ∧ ∀ w : Fin 4, (t.link.vcs.get w).txc = vcInit w ∧ t.link.txq.get w = []
        else t.fld F.TRL_STAT_STATE = s.fld F.TRL_STAT_STATE ∧ t.flag F.TRL_STAT_ACK_REJ = true ∧ t.link = s.link)
      ∧ s.regsBut t [R.TRL_CTRL, R.TRL_STAT, R.TRL_ERR] := by
  generalize hw : v &&& 0x00FFFFFF#32 ||| 0x7E000100#32 = w at h
  have hkey : (fieldGet w 24 8 == 0x7E && w.getLsbD 8) = true := hw ▸ ackWord_keyed v
  have hplain : s.regsBut (plainWrite R.TRL_CTRL w s) [R.TRL_CTRL, R.TRL_STAT, R.TRL_ERR] := (s.regsBut_refl _).setReg _ _ (by decide)
  have hstat {f : Fld} (hf : f.addr = R.TRL_STAT) : (plainWrite R.TRL_CTRL w s).fld f = s.fld f :=
    State.fld_setReg_other _ _ (by rw [hf]; decide)
  have hlink : (plainWrite R.TRL_CTRL w s).link = s.link := State.setReg_link ..
  have hldr : (plainWrite R.TRL_CTRL w s).ldr = s.ldr := State.setReg_ldr ..
  have he := effect_trlCtrl p w s
  generalize plainWrite R.TRL_CTRL w s = u at hplain hstat hlink hldr he
  have hack : u.when (fieldGet w 24 8 == 0x7E && w.getLsbD 8) trlAck = trlAck u := if_pos hkey
  rw [hack] at he
  obtain ⟨hdone, hregs⟩ := trlAck_spec u
  obtain ⟨hpLink, hpState, hpRej, hpRegs⟩ := psClr_spec (w.getLsbD 1) (trlAck u)
  have hnear : Near 0x800001 u ((trlAck u).when (w.getLsbD 1) psClr) :=
    .when (fun _ h => near_psClr (l := 0x800001) rfl h) (near_trlAck (l := 0x800001) rfl (.refl _ u))
  refine completes_write (t := (trlAck u).when (w.getLsbD 1) psClr) (hw ▸ rfl) h (by decide) he ((hnear.same .ldr rfl).trans hldr) ⟨?_,
    (hplain.trans hregs).trans (hpRegs.mono (by decide))⟩
  have hflag : u.flag F.TRL_STAT_ACK_REJ = s.flag F.TRL_STAT_ACK_REJ := by unfold State.flag; rw [hstat rfl]
  simp only [answer_fld, answer_flag, answer_reg, answer_link, hpState, hpRej, hpLink, hpRegs R.TRL_ERR (by decide)]
  rwa [hstat rfl, hflag, hlink] at hdone

end

/-- Settles O56: each step of training has its effect in the state that awaits it, and every failure is `wentOff` with its cause. -/
theorem trainingRunsItsStatesInOrder : Obligations.TrainingRunsItsStatesInOrder := by
  unfold Obligations.TrainingRunsItsStatesInOrder
  intro s
  refine ⟨fun x hx h => (exec_training hx).trans (congrArg _ (trainAdvance_unawaited h)), fun x hx h => ⟨_, exec_training hx, ?step⟩,
    ?timeout, ?loss, fun dly apart => ?retrain, fun p v ht => completes_trlAck ht⟩
  case step =>
    cases x with
    | signal =>
      rw [trainAdvance_signal h]
      exact (setState_spec 2 (by decide) s).symm
    | lock =>
      rw [trainAdvance_lock h]
      exact (setState_spec 3 (by decide) s).symm
    | deskew swap pol skew => exact trained_deskew h swap pol skew _ rfl
    | cap stepping hash sig force run kept => exact trained_cap h (trainAdvance_cap h ..)
    | elect draws =>
      obtain ⟨hregs, hnone, hsome⟩ := trained_elect h draws
      refine ⟨hregs, ?_⟩
      dsimp only
      split
      · exact hnone ‹_›
      · exact hsome _ ‹_›
    | align dly apart =>
      obtain ⟨hregs, hend⟩ := trained_align h dly apart rfl
      exact ⟨hregs.mono fun _ hk => List.mem_cons_of_mem _ hk, hend⟩
  case timeout =>
    split
    · obtain ⟨hlo, hhi⟩ := training_iff.1 ‹_›
      exact ⟨_, congrArg Host.Outcome.next (if_pos ‹_›), linkOff_spec hlo (by omega) (by decide)⟩
    · exact congrArg Host.Outcome.next (if_neg ‹_›)
  case loss =>
    split
    · refine ⟨_, congrArg Host.Outcome.next (if_pos ‹_›), s.fld_setFld_same 1 (by decide), State.setFld_link .., ?_⟩
      exact (s.regsBut_refl _).setFld F.TRL_STAT_STATE 1 (by decide)
    have hloss : laneLoss s = if s.linkLive then linkOff 2 s else s := if_neg ‹_›
    split
    · obtain ⟨hlo, hhi⟩ := linkLive_iff.1 ‹_›
      exact ⟨_, congrArg Host.Outcome.next (hloss.trans (if_pos ‹_›)), linkOff_spec (by omega) hhi (by decide)⟩
    · exact congrArg Host.Outcome.next (hloss.trans (if_neg ‹_›))
  case retrain =>
    split
    · exact congrArg Host.Outcome.next (if_neg ‹_›)
    · exact ⟨_, rfl, retrained (not_not.1 ‹_›) dly.isLt apart rfl⟩

end Sys2Proof.Machine
end

section
/-! Received frames of the bulk channel: what the handling of a frame does before its own meaning (R338), what it queues for the
twin, and the memories that it reads and writes. -/

namespace Sys2Proof.Machine

/-! ## The frame at the front -/

section

variable {s : State} {typ : Nat} {b : List Byte}

/-- The frame `b` has been taken for its handling; the books are `c`. -/
def State.taken (s : State) (b : List Byte) (c : Quad VcSt) : State := s.modLink (fun l => { l with rx := l.rx.erase b, vcs := c })

/-- The books after a frame of channel 3: the credits it returns are held, and its buffer is free with a credit owed. -/
def State.bulkBooks (s : State) (b : List Byte) : Quad VcSt :=
  (linkFree 3 (linkCret b (s.modLink (fun l => { l with rx := l.rx.erase b })))).link.vcs

/-- Nothing but the books of the virtual channels differs. -/
def VcsOnly (s t : State) : Prop := t = s.modLink (fun l => { l with vcs := t.link.vcs })

theorem VcsOnly.trans {r s t : State} (h : VcsOnly r s) (h' : VcsOnly s t) : VcsOnly r t := by
  unfold VcsOnly at *
  generalize t.link.vcs = c at h'
  rw [h', h]
  rfl

theorem vcsOnly_modVc (v : Fin 4) (f : VcSt → VcSt) (s : State) : VcsOnly s (modVc v f s) := rfl

theorem vcsOnly_linkCret (b : List Byte) (s : State) : VcsOnly s (linkCret b s) := by
  unfold linkCret State.each
  simp only [allAxes, List.foldl_cons, List.foldl_nil]
  exact (((vcsOnly_modVc 0 _ s).trans (vcsOnly_modVc 1 _ _)).trans (vcsOnly_modVc 2 _ _)).trans (vcsOnly_modVc 3 _ _)

/-- The books of a handled frame are all that the handling has settled, the frame itself aside. -/
theorem bulkBooks_only (s : State) (b : List Byte) :
    linkFree 3 (linkCret b (s.modLink (fun l => { l with rx := l.rx.erase b }))) = s.taken b (s.bulkBooks b) := by
  have h := (vcsOnly_linkCret b (s.modLink (fun l => { l with rx := l.rx.erase b }))).trans (vcsOnly_modVc 3 (fun c => { c with occ := c.occ - 1, owed := c.owed + 1 }) _)
  exact h

theorem modVc_get (v w : Fin 4) (f : VcSt → VcSt) (s : State) :
    (modVc v f s).link.vcs.get w = if w = v then f (s.link.vcs.get v) else s.link.vcs.get w := by
  simp [modVc]

/-- R338: each channel holds the credits that the frame returns, and no other book but what it received back differs. -/
theorem linkCret_book (b : List Byte) (s : State) (w : Fin 4) : (linkCret b s).link.vcs.get w =
    { s.link.vcs.get w with
      txc := (s.link.vcs.get w).txc + bitsOf (leAt b 10 2) (4 * w.val) 4
      retIn := ((s.link.vcs.get w).retIn + bitsOf (leAt b 10 2) (4 * w.val) 4) % 65536 } := by
  unfold linkCret State.each
  simp only [allAxes, List.foldl_cons, List.foldl_nil, modVc_get]
  fin_cases w <;> simp

theorem bulkBooks_get (s : State) (b : List Byte) (w : Fin 4) :
    ((s.bulkBooks b).get w).txc = (s.link.vcs.get w).txc + bitsOf (leAt b 10 2) (4 * w.val) 4
      ∧ ((s.bulkBooks b).get w).acct = (s.link.vcs.get w).acct
      ∧ if w = 3 then ((s.bulkBooks b).get w).occ = (s.link.vcs.get w).occ - 1 ∧ ((s.bulkBooks b).get w).owed = (s.link.vcs.get w).owed + 1
        else ((s.bulkBooks b).get w).occ = (s.link.vcs.get w).occ ∧ ((s.bulkBooks b).get w).owed = (s.link.vcs.get w).owed := by
  unfold State.bulkBooks linkFree
  rw [modVc_get]
  split
  · rename_i hw
    subst hw
    rw [linkCret_book]
    exact ⟨rfl, rfl, rfl, rfl⟩
  · rw [linkCret_book]
    exact ⟨rfl, rfl, rfl, rfl⟩

/-- A frame of the bulk channel at the front is handled with its books settled. -/
theorem linkHandle_bulk (h : frontFrame s typ b) (hv : frameVc typ = some 3) (h0 : typ ≠ 0) (f : List Byte → State → State) :
    linkHandle typ f s = f b (s.taken b (s.bulkBooks b)) := by
  obtain ⟨hfind, htyp⟩ := h
  have hpop : linkPop typ s = (some b, s.taken b (s.bulkBooks b)) := by
    rw [hv] at hfind
    simp only [h0, if_false] at hfind
    unfold linkPop
    simp only [h0, hv, if_false, hfind, htyp, ne_eq, not_true_eq_false, Option.getD_some]
    rw [bulkBooks_only]
  unfold linkHandle
  rw [hpop]

/-- R338: a handling that leaves the receive queue and the books has done with its frame. -/
theorem frameDone_taken {t : State} (hv : frameVc typ = some 3) (h0 : typ ≠ 0) (hrx : t.link.rx = s.link.rx.erase b)
    (hvcs : t.link.vcs = s.bulkBooks b) : frameDone typ b s t := by
  refine ⟨hrx, fun w => ?_⟩
  obtain ⟨htxc, hacct, hbuf⟩ := bulkBooks_get s b w
  rw [hvcs]
  refine ⟨htxc, hacct, ?_⟩
  have hiff : (typ ≠ 0 ∧ frameVc typ = some w) ↔ w = 3 := by
    rw [hv]
    exact ⟨fun h => (Option.some.inj h.2).symm, fun h => ⟨h0, h ▸ rfl⟩⟩
  rw [if_congr hiff rfl rfl]
  exact hbuf

/-- `t` has the receive queue and the books of `s`. -/
def SameBooks (s t : State) : Prop := t.link.rx = s.link.rx ∧ t.link.vcs = s.link.vcs

theorem SameBooks.of_link {t : State} (h : t.link = s.link) : SameBooks s t := ⟨by rw [h], by rw [h]⟩

/-- A command that handles a frame of the bulk channel completes with its meaning, once the frame is at the front. -/
theorem completes_bulkFrame {i : Instr} {f : List Byte → State → State} {P : State → Prop} (hi : exec i s = .next (linkHandle typ f s))
    (h : frontFrame s typ b) (hv : frameVc typ = some 3) (h0 : typ ≠ 0)
    (hb : SameBooks (s.taken b (s.bulkBooks b)) (f b (s.taken b (s.bulkBooks b)))) (hP : P (f b (s.taken b (s.bulkBooks b)))) :
    Completes i s fun t => frameDone typ b s t ∧ P t := by
  rw [linkHandle_bulk h hv h0] at hi
  exact ⟨_, hi, frameDone_taken hv h0 (hb.1.trans rfl) (hb.2.trans rfl), hP⟩

end

/-! ## Frames for the twin -/

section

variable (s : State) (typ : Nat) (first last : Bool) (pay : List Byte)

theorem linkQueue_link : (linkQueue 3 typ first last pay s).link
    = { s.link with txq := s.link.txq.set 3 (s.link.txq.get 3 ++ queuedFrame s typ first last pay) } := by
  unfold linkQueue linkQueueAt queuedFrame
  split
  · rfl
  · rw [List.append_nil]
    rfl

theorem linkQueue_queue : (linkQueue 3 typ first last pay s).link.txq.get 3 = s.link.txq.get 3 ++ queuedFrame s typ first last pay := by
  simp [linkQueue_link]

theorem sameBooks_linkQueue : SameBooks s (linkQueue 3 typ first last pay s) := by
  unfold SameBooks
  rw [linkQueue_link]
  exact ⟨rfl, rfl⟩

theorem near_linkQueue3 : Near 0x800000 s (linkQueue 3 typ first last pay s) := near_linkQueue (l := 0x800000) rfl (.refl _ s) _ _ _ _ _

@[simp] theorem linkQueue_tileState (k : Nat) : (linkQueue 3 typ first last pay s).tileState k = s.tileState k := by
  unfold State.tileState State.fld State.reg
  rw [linkQueue_regs]

theorem leBytes_byte (n : Nat) : leBytes 1 n = [BitVec.ofNat 8 n] := by simp [leBytes]

theorem queuedFrame_same {t : State} (hlive : t.linkLive = s.linkLive) (hstep : t.step = s.step) :
    queuedFrame t typ first last pay = queuedFrame s typ first last pay := by
  unfold queuedFrame State.stepN
  rw [hlive, hstep]

end

/-! ## Granary reads without a tenant -/

section

variable (k n : Nat) (s : State)

theorem near_granCount_none (ce ue : List Nat) : Near 1 s (granCount ce ue none s) := by
  have hce := (Near.refl 1 s).bump F.FLD_GRN_ECC_CE ce.length rfl
  unfold granCount
  dsimp only
  cases ue.getLast? with
  | none => exact hce
  | some w => exact ((hce.bump F.FLD_GRN_ECC_UE _ rfl).setFlag F.FLD_STAT_GRN_UE _ rfl).setFld F.FLD_GRN_ERR_OFFSET _ rfl

theorem near_granRead_none : Near 1 s (granRead none k n s).2 := near_granCount_none s _ _

theorem regsBut_granRead_none : s.regsBut (granRead none k n s).2 [R.FLD_GRN_ECC, R.FLD_GRN_ERR, R.FLD_STAT] := regsBut_granCount s _ _

theorem granRead_bytes (t : Option Nat) : (granRead t k n s).1 = zeroWords (wordsIn s.field.grnUE k n) k (memRead s.gran k n) := rfl

end

end Sys2Proof.Machine
end

section
/-! Bulk descriptors on their own: a GO (R359), the end by a timeout (R360), and the end by a frame of the peer. -/

namespace Sys2Proof.Machine

/-! ## GO and timeout -/

section

variable {i : Nat} {s : State}

theorem bulkGo_busy (h : s.bulkBusy i) : bulkGo i s = s := if_pos h

theorem bulkGo_range (h : ¬s.bulkBusy i) (hr : s.bulkRange i = true) : bulkGo i s = bulkSet i 4 11 s := (if_neg h).trans (if_pos hr)

theorem bulkGo_off (h : ¬s.bulkBusy i) (hr : ¬s.bulkRange i = true) (hl : s.linkLive = false) : bulkGo i s = bulkSet i 4 7 s :=
  (if_neg h).trans ((if_neg hr).trans (if_pos (by simp [hl])))

theorem bulkGo_asks (h : ¬s.bulkBusy i) (hr : ¬s.bulkRange i = true) (hl : ¬s.linkLive = false) :
    bulkGo i s = trnRequest (.bulk i) 4 (s.fld F.TRN_COST_TL_BULK) (bulkSet i 1 0 s) :=
  (if_neg h).trans ((if_neg hr).trans (if_neg (by simpa using hl)))

theorem trnRequest_asks (w : TrnWho) (t c : Nat) (s : State) : (∀ f, (trnRequest w t c s).fld f = s.fld f)
    ∧ (trnRequest w t c s).trn.queue = s.trn.queue ++ [⟨w, t, c, 0⟩] := ⟨fun _ => rfl, rfl⟩

theorem trnRequest_regs (w : TrnWho) (t c : Nat) (s : State) : (trnRequest w t c s).regs = s.regs := rfl

theorem bulkSet_trn (i st res : Nat) (s : State) : (bulkSet i st res s).trn = s.trn := by simp [bulkSet]

/-- A GO that is refused shows why. -/
theorem bulkSet_refuses (i res : Nat) (hres : res < 16) (s : State) : (bulkSet i 4 res s).fld (F.TRL_BULK_STAT_STATE i) = 4
    ∧ (bulkSet i 4 res s).fld (F.TRL_BULK_STAT_RESULT i) = res ∧ (bulkSet i 4 res s).trn = s.trn :=
  ⟨fld_bulkSet_state .., (fld_bulkSet_result ..).trans (Nat.mod_eq_of_lt hres), bulkSet_trn ..⟩

theorem regsBut_bulkGo (i : Nat) (s : State) : s.regsBut (bulkGo i s) [R.TRL_BULK_STAT i] := by
  unfold bulkGo
  dsimp only
  exact .ite (s.regsBut_refl _) (.ite (regsBut_bulkSet i 4 11 s) (.ite (regsBut_bulkSet i 4 7 s) ((regsBut_bulkSet i 1 0 s).same (trnRequest_regs ..))))

end

/-- R359: a GO is refused with RANGE or LINK, else it waits for its tokens. -/
theorem bulkGo_spec (i : Nat) (s : State) :
    if s.fld (F.TRL_BULK_STAT_STATE i) = 1 ∨ s.fld (F.TRL_BULK_STAT_STATE i) = 2 then (bulkGo i s).regs = s.regs ∧ (bulkGo i s).trn = s.trn
    else if s.bulkRange i = true then
      (bulkGo i s).fld (F.TRL_BULK_STAT_STATE i) = 4 ∧ (bulkGo i s).fld (F.TRL_BULK_STAT_RESULT i) = 11 ∧ (bulkGo i s).trn = s.trn
    else if s.linkLive = false then
      (bulkGo i s).fld (F.TRL_BULK_STAT_STATE i) = 4 ∧ (bulkGo i s).fld (F.TRL_BULK_STAT_RESULT i) = 7 ∧ (bulkGo i s).trn = s.trn
    else (bulkGo i s).fld (F.TRL_BULK_STAT_STATE i) = 1
      ∧ (bulkGo i s).trn.queue = s.trn.queue ++ [⟨.bulk i, 4, s.fld F.TRN_COST_TL_BULK, 0⟩] := by
  split_ifs with hbusy hrange hlive
  · rw [bulkGo_busy hbusy]
    exact ⟨rfl, rfl⟩
  · rw [bulkGo_range hbusy hrange]
    exact bulkSet_refuses i 11 (by decide) s
  · rw [bulkGo_off hbusy hrange hlive]
    exact bulkSet_refuses i 7 (by decide) s
  · rw [bulkGo_asks hbusy hrange hlive]
    obtain ⟨hfld, hqueue⟩ := trnRequest_asks (.bulk i) 4 (s.fld F.TRN_COST_TL_BULK) (bulkSet i 1 0 s)
    rw [hfld, hqueue, bulkSet_trn]
    exact ⟨fld_bulkSet_state i 1 0 s, rfl⟩

/-- What completes for a GO is what the GO does. -/
theorem completes_bulkGo {s : State} {p : Fin 2} {i : Fin 8} {v : Word} {P : State → Prop} (h : s.takes p (R.TRL_BULK_CTRL i) (v ||| 1#32) = true)
    (hP : P (answer p 0 [] (bulkGo i s))) : Completes (.bulkGo p i v) s P := by
  have hgo : s.when ((v ||| 1#32).getLsbD 0) (bulkGo i) = bulkGo i s := if_pos (by simp)
  have he := effect_bulkCtrl p (v ||| 1#32) s i
  rw [hgo] at he
  exact completes_write rfl h (by fin_cases i <;> decide) he ((near_bulkGo (l := 0x10001) rfl (.refl _ s) i).same .ldr rfl) hP

/-- R360: a descriptor that has ended: its state and its result, its fetches, and its event. -/
theorem bulkEnd_spec (i : Fin 8) (st res : Nat) (s : State) :
    (noRouteTo s i → (bulkEnd i st res s).fld (F.TRL_BULK_STAT_STATE i) = st % 16
      ∧ (bulkEnd i st res s).fld (F.TRL_BULK_STAT_RESULT i) = res % 16 ∧ (bulkEnd i st res s).trnHas (.bulk i) = false)
    ∧ (∀ f ∈ (bulkEnd i st res s).link.fetches, f.desc ≠ i.val) ∧ s.heard (bulkEnd i st res s) (Ev.link 6)
    ∧ s.regsBut (bulkEnd i st res s) (R.TRL_BULK_STAT i :: eventRegs) :=
  ⟨fun h => bulkEnd_shows i.isLt h st res, bulkEnd_fetches i st res s, bulkEnd_heard i st res s, regsBut_bulkEnd i st res s⟩

theorem bulkTimeout_idle {i : Nat} {s : State} (h : s.fld (F.TRL_BULK_STAT_STATE i) ≠ 2) : bulkTimeout i s = s := if_neg h

theorem bulkTimeout_running {i : Nat} {s : State} (h : s.fld (F.TRL_BULK_STAT_STATE i) = 2) : bulkTimeout i s = bulkEnd i 4 6 s := if_pos h

/-- The end of a descriptor leaves the frames and the books. -/
theorem sameBooks_bulkEnd (i st res : Nat) (s : State) : SameBooks s (bulkEnd i st res s) := by
  unfold SameBooks
  rw [bulkEnd_link]
  exact ⟨rfl, rfl⟩

/-! ## CUT_STAT and TILE_ABSENT -/

section

variable {s : State} {b : List Byte}

/-- The descriptor that a CUT_STAT ends: the first that sends the set named. -/
def State.cutSender (s : State) (b : List Byte) : Option Nat :=
  (List.range 8).find? (fun i => s.fld (F.TRL_BULK_STAT_STATE i) == 2 && s.fld (F.TRL_BULK_CFG_KIND i) == 0
    && s.fld (F.TRL_BULK_CFG_CSET i) == leAt b 12 1)

theorem cutSender_lt {i : Nat} (h : s.cutSender b = some i) : i < 8 := List.mem_range.1 (List.mem_of_find?_eq_some h)

theorem cutStat_none (h : s.cutSender b = none) : cutStat b s = s := by
  unfold cutStat
  unfold State.cutSender at h
  simp only [h]

theorem cutStat_some {i : Nat} (h : s.cutSender b = some i) :
    cutStat b s = bulkEnd i (if leAt b 13 1 % 16 = 1 then 3 else 4) (leAt b 13 1 % 16) s := by
  unfold cutStat
  unfold State.cutSender at h
  simp only [h]

/-- R360: a CUT_STAT ends its descriptor with its result. -/
theorem cutStat_ends {i : Nat} (h : s.cutSender b = some i) : s.heard (cutStat b s) (Ev.link 6)
    ∧ s.regsBut (cutStat b s) (R.TRL_BULK_STAT i :: eventRegs)
    ∧ (noRouteTo s i → (cutStat b s).fld (F.TRL_BULK_STAT_RESULT i) = leAt b 13 1 % 16 ∧ (cutStat b s).trnHas (.bulk i) = false
      ∧ (cutStat b s).fld (F.TRL_BULK_STAT_STATE i) = if leAt b 13 1 % 16 = 1 then 3 else 4) := by
  rw [cutStat_some h]
  obtain ⟨hshows, -, hheard, hregs⟩ := bulkEnd_spec ⟨i, cutSender_lt h⟩ (if leAt b 13 1 % 16 = 1 then 3 else 4) (leAt b 13 1 % 16) s
  refine ⟨hheard, hregs, fun hno => ?_⟩
  obtain ⟨hst, hres, hout⟩ := hshows hno
  exact ⟨hres.trans (Nat.mod_mod ..), hout, hst.trans (by split <;> rfl)⟩

/-- The request that a TILE_ABSENT answers. -/
def State.absentFetch (s : State) (b : List Byte) : Option Fetch :=
  s.link.fetches.find? (fun f => f.id == leAt b 16 1 && f.tile == leAt b 12 2)

theorem tileAbsent_none (h : s.absentFetch b = none) : tileAbsent b s = s := by
  unfold tileAbsent
  unfold State.absentFetch at h
  simp only [h]

theorem tileAbsent_some {f : Fetch} (h : s.absentFetch b = some f) : tileAbsent b s = bulkEnd f.desc 4 9 s := by
  unfold tileAbsent
  unfold State.absentFetch at h
  simp only [h]

/-- R362: a TILE_ABSENT only ends its request. -/
theorem tileAbsent_ends {f : Fetch} (h : s.absentFetch b = some f) : (∀ g ∈ (tileAbsent b s).link.fetches, g.desc ≠ f.desc)
    ∧ s.heard (tileAbsent b s) (Ev.link 6)
    ∧ (f.desc < 8 → noRouteTo s f.desc → (tileAbsent b s).fld (F.TRL_BULK_STAT_STATE f.desc) = 4
      ∧ (tileAbsent b s).fld (F.TRL_BULK_STAT_RESULT f.desc) = 9) := by
  rw [tileAbsent_some h]
  refine ⟨bulkEnd_fetches f.desc 4 9 s, bulkEnd_heard f.desc 4 9 s, fun hlt hno => ?_⟩
  obtain ⟨hst, hres, -⟩ := bulkEnd_shows hlt hno 4 9
  exact ⟨hst, hres⟩

theorem sameBooks_cutStat : SameBooks s (cutStat b s) := by
  cases h : s.cutSender b with
  | none => rw [cutStat_none h]; exact .of_link rfl
  | some i => rw [cutStat_some h]; exact sameBooks_bulkEnd ..

theorem sameBooks_tileAbsent : SameBooks s (tileAbsent b s) := by
  cases h : s.absentFetch b with
  | none => rw [tileAbsent_none h]; exact .of_link rfl
  | some f => rw [tileAbsent_some h]; exact sameBooks_bulkEnd ..

end

end Sys2Proof.Machine
end

section
/-! The owner's side of remote tiles (R361): EVICT and LOAD, the end of an eviction, and the requests that a tile serves. -/

namespace Sys2Proof.Machine

/-! ## Bytes of memories and frames -/

theorem leNat_lt (bs : List Byte) : leNat bs < 256 ^ bs.length := by
  induction bs with
  | nil => exact Nat.one_pos
  | cons b r ih =>
    simp only [leNat, List.length_cons, pow_succ]
    omega

/-- A field of `n` bytes in a frame. -/
theorem leAt_lt (b : List Byte) (o n : Nat) : leAt b o n < 256 ^ n :=
  (leNat_lt _).trans_le (Nat.pow_le_pow_right (by decide) (by simp))

theorem length_memRead (m : SMap Byte) (k n : Nat) : (memRead m k n).length = n := by simp [memRead]

/-- The memory `m'` is `m` with the bytes `bs` from `k`. -/
def Wrote (m m' : SMap Byte) (k : Nat) (bs : List Byte) : Prop := memRead m' k bs.length = bs ∧ sameOutside m m' k bs.length

theorem wrote_memWrite (m : SMap Byte) (k : Nat) (bs : List Byte) : Wrote m (memWrite m k bs) k bs :=
  ⟨memRead_memWrite m k bs, fun _ h => memGet_memWrite_other m k bs h⟩

theorem granWrite_gran (k : Nat) (bs : List Byte) (s : State) : (granWrite k bs s).gran = memWrite s.gran k bs := rfl

theorem near_granWrite1 (k : Nat) (bs : List Byte) (s : State) : Near 0x10a0000 s (granWrite k bs s) := near_granWrite (l := 0x10a0000) rfl (.refl _ s) k bs

theorem granWrite_regs (k : Nat) (bs : List Byte) (s : State) : (granWrite k bs s).regs = s.regs := (near_granWrite1 k bs s).same .regs rfl

theorem granWrite_link (k : Nat) (bs : List Byte) (s : State) : (granWrite k bs s).link = s.link := (near_granWrite1 k bs s).same .link rfl

/-- Equal registers read alike. -/
theorem fld_of_regs {s t : State} (h : t.regs = s.regs) (f : Fld) : t.fld f = s.fld f := by
  unfold State.fld State.reg
  rw [h]

theorem tileState_of_regs {s t : State} (h : t.regs = s.regs) (k : Nat) : t.tileState k = s.tileState k := fld_of_regs h _

/-- The registers of the ECC counts are none of the link's. -/
theorem linkReg_ecc {k : Nat} (h : linkReg k = true) : k ∉ [R.FLD_GRN_ECC, R.FLD_GRN_ERR, R.FLD_STAT] := by
  have hk := linkReg_iff.1 h
  simp only [List.mem_cons, List.not_mem_nil, or_false, R.FLD_GRN_ECC, R.FLD_GRN_ERR, R.FLD_STAT]
  omega

theorem granRead_fld {f : Fld} (h : linkReg f.addr = true) (k n : Nat) (s : State) : (granRead none k n s).2.fld f = s.fld f :=
  (regsBut_granRead_none k n s).fld (linkReg_ecc h)

theorem granRead_link (k n : Nat) (s : State) : (granRead none k n s).2.link = s.link := (near_granRead_none k n s).same .link rfl

theorem linkLive_of_fld {s t : State} (h : t.fld F.TRL_STAT_STATE = s.fld F.TRL_STAT_STATE) : t.linkLive = s.linkLive := by
  unfold State.linkLive
  rw [h]

/-! ## EVICT -/

section

variable (k : Nat) (e : TileEnt) (s : State)

/-- The tile is in the eviction buffer and EVICTING. -/
def evictTaken : State :=
  setTile k 2 ((granRead none e.gran tileBytes s).2.modLink
    (fun l => { l with evict := some ⟨k, false, !s.linkLive, (granRead none e.gran tileBytes s).1⟩ }))

theorem near_evictTaken : Near 0x800001 s (evictTaken k e s) :=
  near_setTile (l := 0x800001) rfl (near_modLink (l := 0x800001) rfl ((near_granRead_none e.gran tileBytes s).mono rfl) _) _ _

theorem evictTaken_fld {f : Fld} (h : linkReg f.addr = true) (hf : f.addr ≠ R.TRL_TILE_ST k ∨ f.lo + f.width ≤ 28) :
    (evictTaken k e s).fld f = s.fld f := by
  have hread := granRead_fld h e.gran tileBytes s
  unfold evictTaken
  generalize granRead none e.gran tileBytes s = r at hread
  rcases hf with hf | hf
  · exact (State.fld_setFld_other _ 2 hf).trans hread
  · exact (State.fld_setFld_apart _ 2 (.inl hf)).trans hread

theorem evictTaken_gen : (evictTaken k e s).fld (F.TRL_TILE_ST_GEN k) = s.fld (F.TRL_TILE_ST_GEN k) :=
  evictTaken_fld k e s (linkReg_tile k) (.inr (by simp [F.TRL_TILE_ST_GEN]))

theorem evictTaken_live : (evictTaken k e s).linkLive = s.linkLive :=
  linkLive_of_fld (evictTaken_fld k e s (by decide) (.inl (by simp only [F.TRL_STAT_STATE, R.TRL_STAT, R.TRL_TILE_ST]; omega)))

theorem evictTaken_link : (evictTaken k e s).link
    = { s.link with evict := some ⟨k, false, !s.linkLive, zeroWords (wordsIn s.field.grnUE e.gran 4096) e.gran (memRead s.gran e.gran 4096)⟩ } := by
  unfold evictTaken setTile
  rw [State.setFld_link, State.modLink_link, granRead_link, granRead_bytes]
  rfl

variable {k e s}

theorem tileEvict_idle (h : ¬(s.tileState k = 1 ∧ s.link.evict = none)) : tileEvict k e s = s :=
  if_pos (by rw [← Option.ne_none_iff_isSome]; tauto)

theorem tileEvict_takes (h : s.tileState k = 1) (hv : s.link.evict = none) : tileEvict k e s
    = tileAudit (linkQueue 3 0x36 true true (tilePay e.tile ((evictTaken k e s).fld (F.TRL_TILE_ST_GEN k)) 0) (evictTaken k e s)) :=
  if_neg (by simp [h, hv])

/-- R361: an EVICT takes the tile to the buffer, EVICTING, and tells the borrower. -/
theorem tileEvict_spec (h : s.tileState k = 1) (hv : s.link.evict = none) : (tileEvict k e s).tileState k = 2 ∧ (tileEvict k e s).gran = s.gran
    ∧ (tileEvict k e s).link.evict
      = some ⟨k, false, !s.linkLive, zeroWords (wordsIn s.field.grnUE e.gran 4096) e.gran (memRead s.gran e.gran 4096)⟩
    ∧ (tileEvict k e s).link.txq.get 3 = s.link.txq.get 3
      ++ queuedFrame s 0x36 true true (leBytes 2 e.tile ++ leBytes 2 (s.fld (F.TRL_TILE_ST_GEN k)) ++ leBytes 1 0) := by
  have hqueued (pay : List Byte) : queuedFrame (evictTaken k e s) 0x36 true true pay = queuedFrame s 0x36 true true pay :=
    queuedFrame_same _ _ _ _ _ (evictTaken_live k e s) ((near_evictTaken k e s).same .step rfl)
  have hlink := evictTaken_link k e s
  have hgran := (near_evictTaken k e s).same .gran rfl
  have hst : (evictTaken k e s).tileState k = 2 := (tileState_setTile ..).trans (if_pos rfl)
  have hsame (pay : List Byte) := (near_linkQueue3 (evictTaken k e s) 0x36 true true pay).same .gran rfl
  rw [tileEvict_takes h hv, evictTaken_gen, tileAudit_tileState, linkQueue_tileState, tileAudit_gran, tileAudit_link, linkQueue_queue, linkQueue_link,
    hqueued]
  refine ⟨hst, (hsame _).trans hgran, ?_, ?_⟩ <;> rw [hlink]
  rfl

end

/-! ## LOAD -/

section

variable {k : Nat} {e : TileEnt} {s : State}

/-- The tile `k` is RESIDENT with a generation one higher. -/
def tileBack (k : Nat) (s : State) : State := (setTile k 1 s).setFld (F.TRL_TILE_ST_GEN k) (s.fld (F.TRL_TILE_ST_GEN k) + 1)

theorem tileBack_spec (k : Nat) (s : State) : (tileBack k s).tileState k = 1
    ∧ (tileBack k s).fld (F.TRL_TILE_ST_GEN k) = (s.fld (F.TRL_TILE_ST_GEN k) + 1) % 65536 := by
  refine ⟨?_, State.fld_setFld_same _ _ (by simp [F.TRL_TILE_ST_GEN])⟩
  have hset : (setTile k 1 s).tileState k = 1 := (tileState_setTile ..).trans (if_pos rfl)
  exact (State.fld_setFld_apart _ _ (.inr (by simp [F.TRL_TILE_ST_STATE, F.TRL_TILE_ST_GEN]))).trans hset

theorem near_tileBack (k : Nat) (s : State) : Near 1 s (tileBack k s) :=
  Near.setFld (near_setTile (l := 1) rfl (.refl _ s) k 1) _ _ rfl

theorem tileLoad_idle (h : s.tileState k ≠ 3) : tileLoad k e s = s := if_pos h

theorem tileLoad_takes (h : s.tileState k = 3) : tileLoad k e s = tileAudit (tileBack k (granWrite e.gran (memRead s.silo e.silo tileBytes) s)) :=
  if_neg (by simp [h])

/-- R361: a LOAD takes the tile back from the silo. -/
theorem tileLoad_spec (h : s.tileState k = 3) : (tileLoad k e s).tileState k = 1
    ∧ (tileLoad k e s).fld (F.TRL_TILE_ST_GEN k) = (s.fld (F.TRL_TILE_ST_GEN k) + 1) % 65536
    ∧ memRead (tileLoad k e s).gran e.gran 4096 = memRead s.silo e.silo 4096 ∧ sameOutside s.gran (tileLoad k e s).gran e.gran 4096
    ∧ (tileLoad k e s).silo = s.silo := by
  obtain ⟨hread, hout⟩ := wrote_memWrite s.gran e.gran (memRead s.silo e.silo tileBytes)
  rw [length_memRead] at hread hout
  have hregs := granWrite_regs e.gran (memRead s.silo e.silo tileBytes) s
  have hsilo := (near_granWrite1 e.gran (memRead s.silo e.silo tileBytes) s).same .silo rfl
  have hgran := granWrite_gran e.gran (memRead s.silo e.silo tileBytes) s
  rw [tileLoad_takes h, tileAudit_tileState, tileAudit_gen, tileAudit_gran, tileAudit_silo, ← fld_of_regs hregs]
  generalize granWrite e.gran (memRead s.silo e.silo tileBytes) s = u at hsilo hgran
  obtain ⟨hst, hgen⟩ := tileBack_spec k u
  have hback : (tileBack k u).gran = memWrite s.gran e.gran (memRead s.silo e.silo tileBytes) := ((near_tileBack k u).same .gran rfl).trans hgran
  rw [hback]
  exact ⟨hst, hgen, hread, hout, ((near_tileBack k u).same .silo rfl).trans hsilo⟩

end

/-! ## TRL_TILE_CMD -/

section

variable {s : State} {op n : Nat}

theorem tileCmd_none (h : s.tileMine n = none) : tileCmd op n s = s := by
  unfold tileCmd
  simp only [h]

theorem tileCmd_some {k : Nat} {e : TileEnt} (h : s.tileMine n = some (k, e)) :
    tileCmd op n s = if op = 1 then tileEvict k e s else if op = 2 then tileLoad k e s else s := by
  unfold tileCmd
  simp only [h]

theorem tileCmd_evict {k : Nat} {e : TileEnt} (h : s.tileMine n = some (k, e)) : tileCmd 1 n s = tileEvict k e s :=
  (tileCmd_some h).trans (if_pos rfl)

theorem tileCmd_load {k : Nat} {e : TileEnt} (h : s.tileMine n = some (k, e)) : tileCmd 2 n s = tileLoad k e s :=
  (tileCmd_some h).trans ((if_neg (by decide)).trans (if_pos rfl))

/-- A command that its tile does not await does nothing. -/
theorem tileCmd_idle {k : Nat} {e : TileEnt} (h : s.tileMine n = some (k, e)) (he : ¬(op = 1 ∧ s.tileState k = 1 ∧ s.link.evict = none))
    (hl : ¬(op = 2 ∧ s.tileState k = 3)) : tileCmd op n s = s := by
  rw [tileCmd_some h]
  split
  · exact tileEvict_idle (by tauto)
  split
  · exact tileLoad_idle (by tauto)
  · rfl

/-- R361: what an EVICT and a LOAD of an owned tile do. -/
theorem tileCmd_acts {k : Nat} {e : TileEnt} (h : s.tileMine n = some (k, e)) :
    if op = 1 ∧ s.tileState k = 1 ∧ s.link.evict = none then
      (tileCmd op n s).tileState k = 2 ∧ (tileCmd op n s).gran = s.gran
      ∧ (tileCmd op n s).link.evict
        = some ⟨k, false, !s.linkLive, zeroWords (wordsIn s.field.grnUE e.gran 4096) e.gran (memRead s.gran e.gran 4096)⟩
      ∧ (tileCmd op n s).link.txq.get 3 = s.link.txq.get 3
        ++ queuedFrame s 0x36 true true (leBytes 2 e.tile ++ leBytes 2 (s.fld (F.TRL_TILE_ST_GEN k)) ++ leBytes 1 0)
    else if op = 2 ∧ s.tileState k = 3 then
      (tileCmd op n s).tileState k = 1 ∧ (tileCmd op n s).fld (F.TRL_TILE_ST_GEN k) = (s.fld (F.TRL_TILE_ST_GEN k) + 1) % 65536
      ∧ memRead (tileCmd op n s).gran e.gran 4096 = memRead s.silo e.silo 4096 ∧ sameOutside s.gran (tileCmd op n s).gran e.gran 4096
      ∧ (tileCmd op n s).silo = s.silo
    else (tileCmd op n s).regs = s.regs ∧ (tileCmd op n s).link = s.link ∧ (tileCmd op n s).gran = s.gran := by
  split_ifs with hevict hload
  · obtain ⟨rfl, hst, hv⟩ := hevict
    rw [tileCmd_evict h]
    exact tileEvict_spec hst hv
  · obtain ⟨rfl, hst⟩ := hload
    rw [tileCmd_load h]
    exact tileLoad_spec hst
  · rw [tileCmd_idle h hevict hload]
    exact ⟨rfl, rfl, rfl⟩

theorem answer_tileState (p : Fin 2) (c : Nat) (l : List Word) (s : State) (k : Nat) : (answer p c l s).tileState k = s.tileState k :=
  answer_fld ..

theorem completes_tileCmd {p : Fin 2} {v : Word} {P : State → Prop} (h : s.takes p R.TRL_TILE_CMD v = true)
    (hP : P (answer p 0 [] (tileCmd (fieldGet v 30 2) (fieldGet v 0 16) s))) : Completes (.tileCmd p v) s P :=
  completes_write rfl h (by decide) (effect_tileCmd p v s) ((near_tileCmd (l := 0x18b125d) rfl (.refl _ s) _ _).same .ldr rfl) hP

end

/-! ## The end of an eviction -/

section

variable {s : State} {v : Evict}

theorem evictWritten_none (h : s.link.evict = none) : evictWritten s = s := by
  unfold evictWritten
  simp only [h]

/-- The eviction of `s` stands as `v`. -/
def evictNow (v : Evict) (s : State) : State := s.modLink (fun l => { l with evict := some v })

theorem evictNow_evict : (evictNow v s).link.evict = some v := rfl

/-- The silo address of the tile that an eviction takes. -/
def State.evictAt (s : State) (v : Evict) : Nat := ((s.link.tiles[v.idx]?).map (fun e => e.silo)).getD 0

theorem evictWritten_some (h : s.link.evict = some v) :
    evictWritten s = evictCheck (evictNow { v with wrote := true } (siloWrite (s.evictAt v) v.buf s)) := by
  unfold evictWritten
  simp only [h]
  rfl

/-- The check of an eviction leaves the silo. -/
theorem evictCheck_silo (s : State) : (evictCheck s).silo = s.silo := (near_evictCheck (l := 0x83025d) rfl (.refl _ s)).same .silo rfl

/-- An eviction that has its silo write and its EVN_ACK ends, with its tile in the silo. -/
theorem evictCheck_over (hv : s.link.evict = some v) (hw : v.wrote = true) (ha : v.acked = true) :
    (evictCheck s).link.evict = none ∧ (evictCheck s).tileState v.idx = 3 := by
  rw [evictCheck_ends hv hw ha, evictDone_link, tileState_evictDone]
  exact ⟨rfl, if_pos rfl⟩

/-- R361: the silo write of an eviction ends it once EVN_ACK has arrived. -/
theorem evictWritten_spec (h : s.link.evict = some v) : Wrote s.silo (evictWritten s).silo (s.evictAt v) v.buf
    ∧ if v.acked then (evictWritten s).link.evict = none ∧ (evictWritten s).tileState v.idx = 3
      else (evictWritten s).link.evict = some { v with wrote := true } ∧ (evictWritten s).regs = s.regs := by
  rw [evictWritten_some h, evictCheck_silo]
  refine ⟨wrote_memWrite .., ?_⟩
  by_cases ha : v.acked = true
  · rw [if_pos ha]
    exact evictCheck_over (v := { v with wrote := true }) evictNow_evict rfl ha
  · rw [if_neg ha, evictCheck_waits evictNow_evict (.inr (by simpa using ha))]
    exact ⟨rfl, rfl⟩

/-- An EVN_ACK of the tile that the eviction takes. -/
def State.acksEvict (s : State) (v : Evict) (b : List Byte) : Bool := (s.link.tiles[v.idx]?).any (fun e => e.tile == leAt b 12 2)

variable {b : List Byte}

theorem evnAck_none (h : s.link.evict = none) : evnAck b s = s := by
  have hkeep (g : LinkSt → Evict → Evict) : (s.modLink fun l => { l with evict := l.evict.map (g l) }) = s := by
    unfold State.modLink
    dsimp only
    rw [h, Option.map_none, ← h]
  exact (congrArg evictCheck (hkeep _)).trans (evictCheck_none h)

theorem evnAck_some (h : s.link.evict = some v) :
    evnAck b s = evictCheck (evictNow (if s.acksEvict v b = true then { v with acked := true } else v) s) := by
  unfold evnAck evictNow State.modLink
  dsimp only
  rw [h]
  rfl

/-- R361: the EVN_ACK of an eviction ends it once its silo write has ended. -/
theorem evnAck_acks (h : s.link.evict = some v) (hb : s.acksEvict v b = true) :
    if v.wrote then (evnAck b s).link.evict = none ∧ (evnAck b s).tileState v.idx = 3
    else (evnAck b s).link.evict = some { v with acked := true } ∧ (evnAck b s).regs = s.regs := by
  rw [evnAck_some h, if_pos hb]
  by_cases hw : v.wrote = true
  · rw [if_pos hw]
    exact evictCheck_over (v := { v with acked := true }) evictNow_evict hw rfl
  · rw [if_neg hw, evictCheck_waits evictNow_evict (.inl (by simpa using hw))]
    exact ⟨rfl, rfl⟩

theorem evnAck_other (h : s.link.evict = some v) (hb : ¬s.acksEvict v b = true) (ho : v.wrote = false ∨ v.acked = false) :
    (evnAck b s).link.evict = some v ∧ (evnAck b s).regs = s.regs := by
  rw [evnAck_some h, if_neg hb, evictCheck_waits evictNow_evict ho]
  exact ⟨rfl, rfl⟩

theorem sameBooks_evnAck : SameBooks s (evnAck b s) := by
  cases h : s.link.evict with
  | none => rw [evnAck_none h]; exact .of_link rfl
  | some v =>
    obtain ⟨e, he⟩ := evictCheck_link (evictNow (if s.acksEvict v b = true then { v with acked := true } else v) s)
    rw [evnAck_some h]
    unfold SameBooks
    rw [he]
    exact ⟨rfl, rfl⟩

end

end Sys2Proof.Machine
end

section
/-! Remote tiles on the wire (R361, R362): the frames that serve a request, the copy that a borrower installs, and the copy that
goes stale. -/

namespace Sys2Proof.Machine

/-! ## RTF_REQ -/

section

variable (typ : Nat) (first last : Nat → Bool) (pay : Nat → List Byte)

/-- The frames queued for the twin one after another. -/
def queueEach (l : List Nat) (s : State) : State := s.each l (fun s k => linkQueue 3 typ (first k) (last k) (pay k) s)

theorem queueEach_nil (s : State) : queueEach typ first last pay [] s = s := rfl

theorem queueEach_cons (k : Nat) (l : List Nat) (s : State) : queueEach typ first last pay (k :: l) s
    = queueEach typ first last pay l (linkQueue 3 typ (first k) (last k) (pay k) s) := rfl

theorem queueEach_queue (l : List Nat) (s : State) : (queueEach typ first last pay l s).link.txq.get 3
    = s.link.txq.get 3 ++ l.flatMap (fun k => queuedFrame s typ (first k) (last k) (pay k)) := by
  induction l generalizing s with
  | nil => simp [queueEach_nil]
  | cons k l ih =>
    have hnear := near_linkQueue3 s typ (first k) (last k) (pay k)
    have hlive := linkLive_of_fld (fld_of_regs (hnear.same .regs rfl) F.TRL_STAT_STATE)
    have hframe (j : Nat) := queuedFrame_same _ typ (first j) (last j) (pay j) hlive (hnear.same .step rfl)
    rw [queueEach_cons, ih, linkQueue_queue]
    simp only [hframe, List.flatMap_cons, List.append_assoc]

theorem sameBooks_queueEach (l : List Nat) (s : State) : SameBooks s (queueEach typ first last pay l s) := by
  induction l generalizing s with
  | nil => exact .of_link rfl
  | cons k l ih =>
    obtain ⟨hrx, hvcs⟩ := ih (linkQueue 3 typ (first k) (last k) (pay k) s)
    obtain ⟨hrx', hvcs'⟩ := sameBooks_linkQueue s typ (first k) (last k) (pay k)
    exact ⟨hrx.trans hrx', hvcs.trans hvcs'⟩

end

section

variable (t g id : Nat) (final : Bool) (bs : List Byte) (s : State)

/-- The payload of the TILE_DATA frame `j` of a tile. -/
def tileDataPay (j : Nat) : List Byte :=
  leBytes 2 t ++ leBytes 2 g ++ leBytes 2 (40 * j) ++ leBytes 1 final.toNat ++ leBytes 1 id ++ (bs.drop (40 * j)).take 40

/-- The TILE_DATA frames of a tile. -/
def tileFrames : List TxFrame :=
  (List.range ((bs.length + 39) / 40)).flatMap (fun j =>
    queuedFrame s 0x35 (decide (j = 0)) (decide (j + 1 = (bs.length + 39) / 40)) (tileDataPay t g id final bs j))

theorem tileQueue_each : tileQueue t g id final bs s = queueEach 0x35 (fun j => decide (j = 0)) (fun j => decide (j + 1 = (bs.length + 39) / 40))
    (tileDataPay t g id final bs) (List.range ((bs.length + 39) / 40)) s := rfl

theorem tileQueue_queue : (tileQueue t g id final bs s).link.txq.get 3 = s.link.txq.get 3 ++ tileFrames t g id final bs s :=
  queueEach_queue ..

theorem near_tileQueue3 : Near 0x800000 s (tileQueue t g id final bs s) := near_tileQueue (l := 0x800000) rfl (.refl _ s) _ _ _ _ _

theorem tileFrames_same {u : State} (hlive : u.linkLive = s.linkLive) (hstep : u.step = s.step) :
    tileFrames t g id final bs u = tileFrames t g id final bs s := by
  have hframe (j : Nat) := queuedFrame_same s 0x35 (decide (j = 0)) (decide (j + 1 = (bs.length + 39) / 40)) (tileDataPay t g id final bs j) hlive hstep
  unfold tileFrames
  simp only [hframe]

variable {s}

theorem tileFrames_off (h : s.linkLive = false) : tileFrames t g id final bs s = [] := by
  simp [tileFrames, queuedFrame, h]

theorem tileFrames_live (h : s.linkLive = true) : tileFrames t g id final bs s = (List.range ((bs.length + 39) / 40)).map (fun j =>
    ⟨0x35, decide (j = 0), decide (j + 1 = (bs.length + 39) / 40), s.stepN,
      (tileDataPay t g id final bs j ++ List.replicate 48 0#8).take 48⟩) := by
  simp only [tileFrames, queuedFrame, if_pos h]
  exact List.map_eq_flatMap.symm

/-- The frames of a tile: 40 bytes in each, the last one marked. -/
theorem tileFrames_each (h : s.linkLive = true) : (tileFrames t g id final bs s).length = (bs.length + 39) / 40
    ∧ ∀ j < (tileFrames t g id final bs s).length, ∃ f, (tileFrames t g id final bs s)[j]? = some f ∧ f.typ = 0x35
      ∧ f.last = decide (j + 1 = (tileFrames t g id final bs s).length)
      ∧ f.pay = (tileDataPay t g id final bs j ++ List.replicate 48 0#8).take 48 := by
  rw [tileFrames_live t g id final bs h]
  simp only [List.length_map, List.length_range]
  refine ⟨trivial, fun j hj => ?_⟩
  rw [List.getElem?_map, List.getElem?_range hj]
  exact ⟨_, rfl, rfl, rfl, rfl⟩

end

section

variable {s : State} {b : List Byte} {k : Nat} {e : TileEnt}

theorem rtfReq_none (h : s.tileMine (leAt b 12 2) = none) : rtfReq b s = s := by
  unfold rtfReq
  simp only [h]

theorem rtfReq_resident (h : s.tileMine (leAt b 12 2) = some (k, e)) (hst : s.tileState k = 1) : rtfReq b s
    = tileQueue (leAt b 12 2) (s.fld (F.TRL_TILE_ST_GEN k)) (leAt b 14 1) false (granRead none e.gran tileBytes s).1 (granRead none e.gran tileBytes s).2 := by
  unfold rtfReq
  simp only [h, hst]

theorem rtfReq_evicting (h : s.tileMine (leAt b 12 2) = some (k, e)) (hst : s.tileState k = 2) : rtfReq b s
    = tileQueue (leAt b 12 2) (s.fld (F.TRL_TILE_ST_GEN k)) (leAt b 14 1) true ((s.link.evict.map (fun v => v.buf)).getD []) s := by
  unfold rtfReq
  simp only [h, hst]

theorem rtfReq_absent (h : s.tileMine (leAt b 12 2) = some (k, e)) (h1 : s.tileState k ≠ 1) (h2 : s.tileState k ≠ 2) : rtfReq b s
    = linkQueue 3 0x38 true true (tilePay (leAt b 12 2) (s.fld (F.TRL_TILE_ST_GEN k)) (leAt b 14 1)) s := by
  unfold rtfReq
  simp only [h]

theorem sameBooks_rtfReq : SameBooks s (rtfReq b s) := by
  cases h : s.tileMine (leAt b 12 2) with
  | none => rw [rtfReq_none h]; exact .of_link rfl
  | some r =>
    obtain ⟨k, e⟩ := r
    by_cases h1 : s.tileState k = 1
    · rw [rtfReq_resident h h1, tileQueue_each]
      have hread : SameBooks s (granRead none e.gran tileBytes s).2 := .of_link (granRead_link ..)
      have hqueue (bs : List Byte) := sameBooks_queueEach 0x35 (fun j => decide (j = 0)) (fun j => decide (j + 1 = (bs.length + 39) / 40))
        (tileDataPay (leAt b 12 2) (s.fld (F.TRL_TILE_ST_GEN k)) (leAt b 14 1) false bs) (List.range ((bs.length + 39) / 40))
        (granRead none e.gran tileBytes s).2
      exact ⟨(hqueue _).1.trans hread.1, (hqueue _).2.trans hread.2⟩
    · by_cases h2 : s.tileState k = 2
      · rw [rtfReq_evicting h h2, tileQueue_each]
        exact sameBooks_queueEach ..
      · rw [rtfReq_absent h h1 h2]
        exact sameBooks_linkQueue ..

/-- What an owner's tile is served from: the granary, else the eviction buffer. -/
def State.tileSource (s : State) (k : Nat) (e : TileEnt) : List Byte :=
  if s.tileState k = 1 then zeroWords (wordsIn s.field.grnUE e.gran 4096) e.gran (memRead s.gran e.gran 4096)
  else (s.link.evict.map (fun v => v.buf)).getD []

/-- The frames that answer a request for an owned tile. -/
def State.tileAnswer (s : State) (b : List Byte) (k : Nat) (e : TileEnt) : List TxFrame :=
  if s.tileState k = 1 ∨ s.tileState k = 2 then
    tileFrames (leAt b 12 2) (s.fld (F.TRL_TILE_ST_GEN k)) (leAt b 14 1) (decide (s.tileState k = 2)) (s.tileSource k e) s
  else queuedFrame s 0x38 true true (tilePay (leAt b 12 2) (s.fld (F.TRL_TILE_ST_GEN k)) (leAt b 14 1))

/-- R361: a request for an owned tile is answered, and nothing but the ECC counts of the read differs beside the queue. -/
theorem rtfReq_answers (h : s.tileMine (leAt b 12 2) = some (k, e)) :
    (rtfReq b s).link.txq.get 3 = s.link.txq.get 3 ++ s.tileAnswer b k e
    ∧ s.regsBut (rtfReq b s) [R.FLD_GRN_ECC, R.FLD_GRN_ERR, R.FLD_STAT] ∧ (rtfReq b s).gran = s.gran := by
  unfold State.tileAnswer State.tileSource
  by_cases h1 : s.tileState k = 1
  · have hlive := linkLive_of_fld (granRead_fld (f := F.TRL_STAT_STATE) (by decide) e.gran tileBytes s)
    have hstep := (near_granRead_none e.gran tileBytes s).same .step rfl
    have hnear := near_tileQueue3 (leAt b 12 2) (s.fld (F.TRL_TILE_ST_GEN k)) (leAt b 14 1) false (granRead none e.gran tileBytes s).1
      (granRead none e.gran tileBytes s).2
    rw [if_pos (.inl h1), if_pos h1, rtfReq_resident h h1, tileQueue_queue, tileFrames_same _ _ _ _ _ _ hlive hstep, granRead_link, h1]
    exact ⟨rfl, (regsBut_granRead_none e.gran tileBytes s).same (hnear.same .regs rfl), (hnear.same .gran rfl).trans ((near_granRead_none ..).same .gran rfl)⟩
  · by_cases h2 : s.tileState k = 2
    · have hnear := near_tileQueue3 (leAt b 12 2) (s.fld (F.TRL_TILE_ST_GEN k)) (leAt b 14 1) true ((s.link.evict.map (fun v => v.buf)).getD []) s
      rw [if_pos (.inr h2), if_neg h1, rtfReq_evicting h h2, tileQueue_queue, h2]
      exact ⟨rfl, (s.regsBut_refl _).same (hnear.same .regs rfl), hnear.same .gran rfl⟩
    · rw [if_neg (by tauto), rtfReq_absent h h1 h2, linkQueue_queue]
      have hnear := near_linkQueue3 s 0x38 true true (tilePay (leAt b 12 2) (s.fld (F.TRL_TILE_ST_GEN k)) (leAt b 14 1))
      exact ⟨rfl, (s.regsBut_refl _).same (hnear.same .regs rfl), hnear.same .gran rfl⟩

theorem tileAnswer_off (h : s.linkLive = false) : s.tileAnswer b k e = [] := by
  unfold State.tileAnswer
  rw [tileFrames_off _ _ _ _ _ h]
  split
  · rfl
  · simp [queuedFrame, h]

/-- R361: the frames that carry the tile, FINAL from the eviction buffer; or TILE_ABSENT. -/
theorem tileAnswer_frames (h : s.linkLive = true) :
    if s.tileState k = 1 ∨ s.tileState k = 2 then
      (s.tileAnswer b k e).length = ((s.tileSource k e).length + 39) / 40
      ∧ ∀ j < (s.tileAnswer b k e).length, ∃ f, (s.tileAnswer b k e)[j]? = some f ∧ f.typ = 0x35
        ∧ f.last = decide (j + 1 = (s.tileAnswer b k e).length)
        ∧ f.pay = ((leBytes 2 (leAt b 12 2) ++ leBytes 2 (s.fld (F.TRL_TILE_ST_GEN k)) ++ leBytes 2 (40 * j)
          ++ [if s.tileState k = 2 then 1#8 else 0#8] ++ leBytes 1 (leAt b 14 1) ++ ((s.tileSource k e).drop (40 * j)).take 40)
          ++ List.replicate 48 0#8).take 48
    else s.tileAnswer b k e = queuedFrame s 0x38 true true
      (leBytes 2 (leAt b 12 2) ++ leBytes 2 (s.fld (F.TRL_TILE_ST_GEN k)) ++ leBytes 1 (leAt b 14 1)) := by
  have hbit : leBytes 1 (decide (s.tileState k = 2)).toNat = [if s.tileState k = 2 then 1#8 else 0#8] := by
    rw [leBytes_byte]
    by_cases h2 : s.tileState k = 2 <;> simp [h2]
  unfold State.tileAnswer
  split
  · rw [← hbit]
    exact tileFrames_each _ _ _ _ _ h
  · rfl

end

/-! ## TILE_DATA -/

section

variable {s : State} {b : List Byte} {f : Fetch} {k : Nat} {e : TileEnt}

/-- The pending request that a TILE_DATA frame answers. -/
def State.dataFetch (s : State) (b : List Byte) : Option Fetch :=
  s.link.fetches.find? (fun f => f.id == leAt b 19 1 && f.tile == leAt b 12 2)

/-- The bytes of a TILE_DATA frame. -/
def tileBytesOf (b : List Byte) : List Byte := ((b.drop 20).take 40).take (4096 - leAt b 16 2)

/-- The bytes of a TILE_DATA frame are in their region. -/
def tileWritten (b : List Byte) (e : TileEnt) (s : State) : State := granWrite (e.gran + leAt b 16 2) (tileBytesOf b) s

/-- The copy `k` is VALID with the generation of the frame. -/
def tileInstalled (b : List Byte) (k : Nat) (s : State) : State := (setTile k 8 s).setFld (F.TRL_TILE_ST_GEN k) (leAt b 14 2)

theorem tileData_none (h : s.dataFetch b = none) : tileData b s = s := by
  unfold tileData
  unfold State.dataFetch at h
  simp only [h]

theorem tileData_unknown (h : s.tileOf (leAt b 12 2) = none) : tileData b s = s := by
  unfold tileData
  simp only [h]
  generalize List.find? _ _ = o
  cases o <;> rfl

/-- A frame that answers no pending request, or is of no tile of the table, does nothing. -/
theorem tileData_unmatched (h : ∀ f k e, s.dataFetch b = some f → s.tileOf (leAt b 12 2) = some (k, e) → False) : tileData b s = s := by
  cases hf : s.dataFetch b with
  | none => exact tileData_none hf
  | some f =>
    cases he : s.tileOf (leAt b 12 2) with
    | none => exact tileData_unknown he
    | some r => exact (h f r.1 r.2 hf he).elim

theorem tileData_some (hf : s.dataFetch b = some f) (he : s.tileOf (leAt b 12 2) = some (k, e)) : tileData b s
    = if !frLast b then tileWritten b e s
      else if (leAt b 18 1).testBit 0 then bulkEnd f.desc 3 8 (tileWritten b e s)
      else bulkEnd f.desc 3 1 (tileInstalled b k (tileWritten b e s)) := by
  unfold tileData
  unfold State.dataFetch at hf
  simp only [hf, he]
  rfl

theorem tileData_more (hf : s.dataFetch b = some f) (he : s.tileOf (leAt b 12 2) = some (k, e)) (hl : frLast b = false) :
    tileData b s = tileWritten b e s :=
  (tileData_some hf he).trans (if_pos (by simp [hl]))

/-- The copy as the last frame of a tile leaves it, before its request ends. -/
def tileReceived (b : List Byte) (k : Nat) (e : TileEnt) (s : State) : State :=
  if (leAt b 18 1).testBit 0 then tileWritten b e s else tileInstalled b k (tileWritten b e s)

theorem tileData_last (hf : s.dataFetch b = some f) (he : s.tileOf (leAt b 12 2) = some (k, e)) (hl : frLast b = true) :
    ∃ res, tileData b s = bulkEnd f.desc 3 res (tileReceived b k e s) := by
  unfold tileReceived
  rw [tileData_some hf he, if_neg (by simp [hl])]
  split
  · exact ⟨8, rfl⟩
  · exact ⟨1, rfl⟩

theorem near_tileInstalled (b : List Byte) (k : Nat) (s : State) : Near 1 s (tileInstalled b k s) :=
  Near.setFld (near_setTile (l := 1) rfl (.refl _ s) k 8) _ _ rfl

theorem near_tileReceived (b : List Byte) (k : Nat) (e : TileEnt) (s : State) : Near 0x10a0001 s (tileReceived b k e s) := by
  have hwrite : Near 0x10a0001 s (tileWritten b e s) := (near_granWrite1 ..).mono rfl
  exact .ite hwrite (hwrite.trans ((near_tileInstalled ..).mono rfl))

theorem tileInstalled_spec (b : List Byte) (k : Nat) (s : State) : (tileInstalled b k s).tileState k = 8
    ∧ (tileInstalled b k s).fld (F.TRL_TILE_ST_GEN k) = leAt b 14 2 := by
  have hset : (setTile k 8 s).tileState k = 8 := (tileState_setTile ..).trans (if_pos rfl)
  exact ⟨(State.fld_setFld_apart _ _ (.inr (by simp [F.TRL_TILE_ST_STATE, F.TRL_TILE_ST_GEN]))).trans hset,
    (State.fld_setFld_same _ _ (by simp [F.TRL_TILE_ST_GEN])).trans (Nat.mod_eq_of_lt (leAt_lt b 14 2))⟩

theorem tileReceived_gran (b : List Byte) (k : Nat) (e : TileEnt) (s : State) :
    (tileReceived b k e s).gran = memWrite s.gran (e.gran + leAt b 16 2) (tileBytesOf b) := by
  unfold tileReceived
  split
  · exact granWrite_gran ..
  · exact ((near_tileInstalled ..).same .gran rfl).trans (granWrite_gran ..)

/-- R362: non-FINAL data make the copy VALID with its generation; FINAL data leave it. -/
theorem tileReceived_spec (b : List Byte) (k : Nat) (e : TileEnt) (s : State) :
    (tileReceived b k e s).tileState k = (if (leAt b 18 1).testBit 0 then s.tileState k else 8)
    ∧ ((leAt b 18 1).testBit 0 = false → (tileReceived b k e s).fld (F.TRL_TILE_ST_GEN k) = leAt b 14 2) := by
  obtain ⟨hst, hgen⟩ := tileInstalled_spec b k (tileWritten b e s)
  unfold tileReceived
  by_cases hfinal : (leAt b 18 1).testBit 0 = true
  · rw [if_pos hfinal, if_pos hfinal]
    exact ⟨tileState_of_regs (granWrite_regs ..) k, fun h => absurd hfinal (by simp [h])⟩
  · rw [if_neg hfinal, if_neg hfinal]
    exact ⟨hst, fun _ => hgen⟩

theorem tile_notMem_bulkEnd {i : Nat} (hi : i < 8) (k : Nat) : R.TRL_TILE_ST k ∉ R.TRL_BULK_STAT i :: eventRegs := by
  rw [List.mem_cons, not_or]
  exact ⟨by simp only [R.TRL_TILE_ST, R.TRL_BULK_STAT]; omega, linkReg_events (linkReg_tile k)⟩

theorem near_bulkEnd3 (i st res : Nat) (s : State) : Near 0x83025d s (bulkEnd i st res s) := near_bulkEnd (l := 0x83025d) rfl (.refl _ s) i st res

/-- The event of a descriptor's end counts as it would have before other updates. -/
theorem bulkEnd_heard_from {u : State} (ht : u.tasks = s.tasks) (hr : u.routes = s.routes) (i st res : Nat) :
    s.heard (bulkEnd i st res u) (Ev.link 6) :=
  heard_link ((bulkStop_tasks ..).trans ht) ((bulkStop_routes ..).trans hr) 6 i

/-- R362: each TILE_DATA frame writes its bytes. -/
theorem tileData_writes (hf : s.dataFetch b = some f) (he : s.tileOf (leAt b 12 2) = some (k, e)) :
    Wrote s.gran (tileData b s).gran (e.gran + leAt b 16 2) (tileBytesOf b) := by
  have hgran : (tileData b s).gran = memWrite s.gran (e.gran + leAt b 16 2) (tileBytesOf b) := by
    cases hl : frLast b with
    | false => rw [tileData_more hf he hl]; exact granWrite_gran ..
    | true =>
      obtain ⟨res, hd⟩ := tileData_last hf he hl
      rw [hd]
      exact ((near_bulkEnd3 ..).same .gran rfl).trans (tileReceived_gran ..)
  rw [hgran]
  exact wrote_memWrite ..

theorem tileData_goesOn (hf : s.dataFetch b = some f) (he : s.tileOf (leAt b 12 2) = some (k, e)) (hl : frLast b = false) :
    (tileData b s).regs = s.regs ∧ (tileData b s).link.fetches = s.link.fetches := by
  rw [tileData_more hf he hl]
  exact ⟨granWrite_regs .., congrArg LinkSt.fetches (granWrite_link ..)⟩

/-- R362: the last TILE_DATA frame installs the copy, or with FINAL only ends the request. -/
theorem tileData_ends (hf : s.dataFetch b = some f) (he : s.tileOf (leAt b 12 2) = some (k, e)) (hl : frLast b = true) :
    (∀ g ∈ (tileData b s).link.fetches, g.desc ≠ f.desc) ∧ s.heard (tileData b s) (Ev.link 6)
    ∧ (f.desc < 8 → (tileData b s).tileState k = (if (leAt b 18 1).testBit 0 then s.tileState k else 8)
      ∧ ((leAt b 18 1).testBit 0 = false → (tileData b s).fld (F.TRL_TILE_ST_GEN k) = leAt b 14 2)
      ∧ (noRouteTo s f.desc → (tileData b s).fld (F.TRL_BULK_STAT_STATE f.desc) = 3)) := by
  obtain ⟨res, hd⟩ := tileData_last hf he hl
  have hnear := near_tileReceived b k e s
  obtain ⟨hst, hgen⟩ := tileReceived_spec b k e s
  rw [hd]
  generalize tileReceived b k e s = u at hnear hst hgen
  refine ⟨bulkEnd_fetches f.desc 3 res u, bulkEnd_heard_from (hnear.same .tasks rfl) (hnear.same .routes rfl) f.desc 3 res, fun hlt => ?_⟩
  have hkeep {x : Fld} (hx : x.addr = R.TRL_TILE_ST k) : (bulkEnd f.desc 3 res u).fld x = u.fld x :=
    (regsBut_bulkEnd f.desc 3 res u).fld (hx ▸ tile_notMem_bulkEnd hlt k)
  exact ⟨(hkeep rfl).trans hst, fun h => (hkeep rfl).trans (hgen h),
    fun hno => (bulkEnd_shows hlt (noRouteTo_same hno (hnear.same .routes rfl)) 3 res).1⟩

theorem sameBooks_tileData : SameBooks s (tileData b s) := by
  cases hf : s.dataFetch b with
  | none => rw [tileData_none hf]; exact .of_link rfl
  | some f =>
    cases he : s.tileOf (leAt b 12 2) with
    | none => rw [tileData_unknown he]; exact .of_link rfl
    | some r =>
      obtain ⟨k, e⟩ := r
      cases hl : frLast b with
      | false => rw [tileData_more hf he hl]; exact .of_link (granWrite_link ..)
      | true =>
        obtain ⟨res, hd⟩ := tileData_last hf he hl
        have hlink := (near_tileReceived b k e s).same .link rfl
        obtain ⟨hrx, hvcs⟩ := sameBooks_bulkEnd f.desc 3 res (tileReceived b k e s)
        rw [hd]
        exact ⟨hrx.trans (congrArg LinkSt.rx hlink), hvcs.trans (congrArg LinkSt.vcs hlink)⟩

end

/-! ## EVN -/

section

variable {s : State} {b : List Byte} {k : Nat} {e : TileEnt}

/-- The copy `k` is STALE, where it was VALID. -/
def copyStale (k : Nat) (s : State) : State := if s.tileState k = 8 then setTile k 9 s else s

theorem copyStale_spec (k : Nat) (s : State) : (copyStale k s).tileState k = (if s.tileState k = 8 then 9 else s.tileState k)
    ∧ s.regsBut (copyStale k s) [R.TRL_TILE_ST k] ∧ Near 1 s (copyStale k s) := by
  unfold copyStale
  split
  · exact ⟨(tileState_setTile ..).trans (if_pos rfl), regsBut_setTile s k 9, near_setTile (l := 1) rfl (.refl _ s) k 9⟩
  · exact ⟨rfl, s.regsBut_refl _, .refl _ s⟩

theorem evnIn_none (h : s.tileOf (leAt b 12 2) = none) : evnIn b s = s := by
  unfold evnIn
  simp only [h]

theorem evnIn_own (h : s.tileOf (leAt b 12 2) = some (k, e)) (ho : e.owner = s.roleBit) : evnIn b s = s := by
  unfold evnIn
  simp only [h, if_pos ho]

theorem evnIn_borrowed (h : s.tileOf (leAt b 12 2) = some (k, e)) (ho : e.owner ≠ s.roleBit) :
    evnIn b s = linkQueue 3 0x37 true true (tilePay (leAt b 12 2) (leAt b 14 2) 0) (copyStale k s) := by
  unfold evnIn
  simp only [h, if_neg ho]
  rfl

/-- R362: an EVN makes a borrowed copy STALE and is acknowledged. -/
theorem evnIn_stales (h : s.tileOf (leAt b 12 2) = some (k, e)) (ho : e.owner ≠ s.roleBit) :
    (evnIn b s).tileState k = (if s.tileState k = 8 then 9 else s.tileState k) ∧ s.regsBut (evnIn b s) [R.TRL_TILE_ST k]
    ∧ (evnIn b s).link.txq.get 3 = s.link.txq.get 3
      ++ queuedFrame s 0x37 true true (leBytes 2 (leAt b 12 2) ++ leBytes 2 (leAt b 14 2) ++ leBytes 1 0) := by
  obtain ⟨hst, hregs, hnear⟩ := copyStale_spec k s
  have hlive : (copyStale k s).linkLive = s.linkLive :=
    linkLive_of_fld (hregs.fld (by simp only [F.TRL_STAT_STATE, R.TRL_STAT, R.TRL_TILE_ST, List.mem_singleton]; omega))
  rw [evnIn_borrowed h ho, linkQueue_tileState, linkQueue_queue, queuedFrame_same _ _ _ _ _ hlive (hnear.same .step rfl), hnear.same .link rfl]
  exact ⟨hst, hregs.same (linkQueue_regs ..), rfl⟩

theorem sameBooks_evnIn : SameBooks s (evnIn b s) := by
  cases h : s.tileOf (leAt b 12 2) with
  | none => rw [evnIn_none h]; exact .of_link rfl
  | some r =>
    obtain ⟨k, e⟩ := r
    by_cases ho : e.owner = s.roleBit
    · rw [evnIn_own h ho]; exact .of_link rfl
    · rw [evnIn_borrowed h ho]
      have hlink := (copyStale_spec k s).2.2.same .link rfl
      obtain ⟨hrx, hvcs⟩ := sameBooks_linkQueue (copyStale k s) 0x37 true true (tilePay (leAt b 12 2) (leAt b 14 2) 0)
      exact ⟨hrx.trans (congrArg LinkSt.rx hlink), hvcs.trans (congrArg LinkSt.vcs hlink)⟩

end

end Sys2Proof.Machine
end

section
/-! Received cutting messages (R207, R359, R360): what CUT_BEGIN stages, where CUT_DATA puts its bytes, and the swap that the last of
them asks for. -/

namespace Sys2Proof.Machine

/-! ## Writes of several fields -/

/-- Of several fields written one after another, one that shares its register with no other reads as written. -/
theorem fld_each_setFld (f : Nat → Fld) (v : Nat → Nat) {k : Nat} {l : List Nat} (hw : (f k).lo + (f k).width ≤ 32)
    (hl : ∀ j ∈ l, j ≠ k → (f j).addr ≠ (f k).addr) (s : State) :
    (s.each l (fun s j => s.setFld (f j) (v j))).fld (f k) = if k ∈ l then v k % 2 ^ (f k).width else s.fld (f k) := by
  unfold State.each
  induction l generalizing s with
  | nil => rfl
  | cons j l ih =>
    rw [List.foldl_cons, ih fun i hi => hl i (List.mem_cons_of_mem _ hi)]
    by_cases hk : k ∈ l
    · rw [if_pos hk, if_pos (List.mem_cons_of_mem _ hk)]
    · by_cases hj : j = k
      · subst hj
        rw [if_neg hk, if_pos List.mem_cons_self, State.fld_setFld_same _ _ hw]
      · rw [if_neg hk, if_neg (by simp [hk, Ne.symm hj]), State.fld_setFld_other _ _ (hl j List.mem_cons_self hj).symm]

/-! ## CUT_BEGIN -/

section

variable (s : State) (b : List Byte) (c : Nat)

/-- The answer to a cutting message of set `c` that is closed. -/
theorem cutAnswer_locked : cutAnswer c 2 s = linkQueue 3 0x33 true true [BitVec.ofNat 8 c, 2#8] s := by
  unfold cutAnswer
  rw [leBytes_byte, leBytes_byte]
  rfl

/-- The signatures of a CUT_BEGIN are staged. -/
def sigsStaged : State := s.each (List.range (min 4 (leAt b 13 1))) (fun s k =>
  s.setFld (F.SAF_TPSIG_STAGE_SIG (leAt b (32 + 6 * k) 2 % 64)) (leAt b (34 + 6 * k) 4))

/-- The set's step tag is written. -/
def cutTagged (t : Nat) : State := (s.setFld (F.FLD_CSET_STEP_LO_STEP_LO c) t).setFld (F.FLD_CSET_STEP_HI_STEP_HI c) (t / 2 ^ 32)

/-- The registers that a CUT_BEGIN of set `c` may write. -/
def beginRegs : List Nat :=
  [R.FLD_CSET_CRC c, R.FLD_CSET_STEP_LO c, R.FLD_CSET_STEP_HI c] ++ (List.range 64).map (fun n => R.SAF_TPSIG_STAGE n)

variable {c}

theorem beginRegs_range (hc : c < 32) {k : Nat} (h : k ∈ beginRegs c) : 0x200000 ≤ k ∧ k < 0x3C0000 := by
  simp only [beginRegs, List.mem_append, List.mem_cons, List.not_mem_nil, or_false, List.mem_map, List.mem_range,
    R.FLD_CSET_CRC, R.FLD_CSET_STEP_LO, R.FLD_CSET_STEP_HI, R.SAF_TPSIG_STAGE] at h
  rcases h with h | ⟨n, hn, rfl⟩ <;> omega

theorem stage_notMem_cset (hc : c < 32) (n : Nat) : R.SAF_TPSIG_STAGE n ≠ R.FLD_CSET_CRC c ∧ R.SAF_TPSIG_STAGE n ≠ R.FLD_CSET_STEP_LO c
    ∧ R.SAF_TPSIG_STAGE n ≠ R.FLD_CSET_STEP_HI c := by
  simp only [R.FLD_CSET_CRC, R.FLD_CSET_STEP_LO, R.FLD_CSET_STEP_HI, R.SAF_TPSIG_STAGE]
  omega

/-- The frame's set data: its signatures and its CRC. -/
def cutHeaded (c : Nat) : State := (sigsStaged s b).setFld (F.FLD_CSET_CRC_CRC c) (leAt b 20 4)

theorem near_cutHeaded (c : Nat) : Near 1 s (cutHeaded s b c) := by
  have hsigs : Near 1 s (sigsStaged s b) := .each (fun _ _ h => h.setFld _ _ rfl) (.refl 1 s)
  exact hsigs.setFld _ _ rfl

theorem regsBut_cutHeaded (c : Nat) : s.regsBut (cutHeaded s b c) (beginRegs c) := by
  have hstage (n : Nat) : R.SAF_TPSIG_STAGE (n % 64) ∈ beginRegs c :=
    List.mem_append_right _ (List.mem_map.2 ⟨n % 64, List.mem_range.2 (Nat.mod_lt _ (by decide)), rfl⟩)
  have hsigs : s.regsBut (sigsStaged s b) (beginRegs c) := (s.regsBut_refl _).each fun _ _ _ h => h.setFld _ _ (hstage _)
  exact hsigs.setFld _ _ (by simp [beginRegs, F.FLD_CSET_CRC_CRC])

variable {b s} in
/-- Each signature of the frame is staged for its network. -/
theorem cutHeaded_sig (hc : c < 32) {k : Nat} (hk : k < min 4 (leAt b 13 1))
    (hne : ∀ j < min 4 (leAt b 13 1), j ≠ k → leAt b (32 + 6 * j) 2 % 64 ≠ leAt b (32 + 6 * k) 2 % 64) :
    (cutHeaded s b c).fld (F.SAF_TPSIG_STAGE_SIG (leAt b (32 + 6 * k) 2 % 64)) = leAt b (34 + 6 * k) 4 := by
  have heach := fld_each_setFld (fun k => F.SAF_TPSIG_STAGE_SIG (leAt b (32 + 6 * k) 2 % 64)) (fun k => leAt b (34 + 6 * k) 4) (k := k)
    (l := List.range (min 4 (leAt b 13 1))) (by simp [F.SAF_TPSIG_STAGE_SIG]) (fun j hj hjk => by
      have := hne j (List.mem_range.1 hj) hjk
      simp only [F.SAF_TPSIG_STAGE_SIG, R.SAF_TPSIG_STAGE]
      omega) s
  rw [if_pos (List.mem_range.2 hk)] at heach
  exact (State.fld_setFld_other _ _ (stage_notMem_cset hc _).1).trans (heach.trans (Nat.mod_eq_of_lt (leAt_lt b _ 4)))

theorem cutHeaded_crc (c : Nat) : (cutHeaded s b c).fld (F.FLD_CSET_CRC_CRC c) = leAt b 20 4 :=
  (State.fld_setFld_same _ _ (by simp [F.FLD_CSET_CRC_CRC])).trans (Nat.mod_eq_of_lt (leAt_lt b 20 4))

theorem localStep_lt (t : Nat) : s.localStep t < 2 ^ 48 := Nat.mod_lt _ (by decide)

variable {s} in
/-- The mode and the step offset rest on registers outside those of a CUT_BEGIN. -/
theorem begin_frame {u : State} (hc : c < 32) (h : s.regsBut u (beginRegs c)) : u.exact = s.exact ∧ ∀ t, u.localStep t = s.localStep t := by
  have hout {f : Fld} (hf : f.addr < 0x200000 ∨ 0x3C0000 ≤ f.addr) : u.fld f = s.fld f :=
    h.fld fun hm => by have := beginRegs_range hc hm; omega
  have hlo : u.fld F.TRL_STEP_OFS_LO_STEP_OFS = s.fld F.TRL_STEP_OFS_LO_STEP_OFS := hout (.inr (by decide))
  have hhi : u.fld F.TRL_STEP_OFS_HI_STEP_OFS = s.fld F.TRL_STEP_OFS_HI_STEP_OFS := hout (.inr (by decide))
  have hexact : u.fld F.PCR_SCHED_MODE_EXACT = s.fld F.PCR_SCHED_MODE_EXACT := hout (.inl (by decide))
  refine ⟨?_, fun t => ?_⟩
  · unfold State.exact State.flag
    rw [hexact]
  · unfold State.localStep State.linkOfs State.tag48
    rw [hlo, hhi]

variable {s} in
/-- A step tag of 48 bits reads back from its two registers. -/
theorem cutTagged_tag {t : Nat} (ht : t < 2 ^ 48) :
    (cutTagged s c t).fld (F.FLD_CSET_STEP_LO_STEP_LO c) + 2 ^ 32 * (cutTagged s c t).fld (F.FLD_CSET_STEP_HI_STEP_HI c) = t := by
  have hhi : (cutTagged s c t).fld (F.FLD_CSET_STEP_HI_STEP_HI c) = t / 2 ^ 32 % 2 ^ 16 :=
    State.fld_setFld_same _ _ (by simp [F.FLD_CSET_STEP_HI_STEP_HI])
  have hlo : (cutTagged s c t).fld (F.FLD_CSET_STEP_LO_STEP_LO c) = t % 2 ^ 32 :=
    (State.fld_setFld_other _ _ (by simp only [F.FLD_CSET_STEP_LO_STEP_LO, F.FLD_CSET_STEP_HI_STEP_HI, R.FLD_CSET_STEP_LO, R.FLD_CSET_STEP_HI]; omega)).trans
      (State.fld_setFld_same _ _ (by simp [F.FLD_CSET_STEP_LO_STEP_LO]))
  rw [hhi, hlo]
  omega

theorem regsBut_cutTagged (c t : Nat) : s.regsBut (cutTagged s c t) [R.FLD_CSET_STEP_LO c, R.FLD_CSET_STEP_HI c] :=
  ((s.regsBut_refl _).setFld (F.FLD_CSET_STEP_LO_STEP_LO c) t (by simp [F.FLD_CSET_STEP_LO_STEP_LO])).setFld
    (F.FLD_CSET_STEP_HI_STEP_HI c) (t / 2 ^ 32) (by simp [F.FLD_CSET_STEP_HI_STEP_HI])

theorem near_cutTagged (c t : Nat) : Near 1 s (cutTagged s c t) := Near.setFld (Near.setFld (.refl 1 s) _ _ rfl) _ _ rfl

/-- What a CUT_BEGIN writes in registers. -/
def cutNamed (c : Nat) : State :=
  if s.exact then cutTagged (cutHeaded s b c) c (s.localStep (leAt b 24 6)) else cutHeaded s b c

variable {s b}

theorem cutBegin_closed (hc : c = leAt b 12 1 % 32) (h : s.cutClosed c = true) : cutBegin b s = cutAnswer c 2 s := by
  subst hc
  exact if_pos h

theorem cutBegin_open (hc : c = leAt b 12 1 % 32) (h : ¬s.cutClosed c = true) :
    cutBegin b s = (cutNamed s b c).modLink (fun l => { l with cut := some ⟨c, leAt b 16 4, []⟩ }) := by
  have hlt : c < 32 := hc ▸ Nat.mod_lt _ (by decide)
  obtain ⟨hexact, hstep⟩ := begin_frame hlt (regsBut_cutHeaded s b c)
  unfold cutNamed
  rw [← hexact, ← hstep]
  subst hc
  exact if_neg h

theorem near_cutNamed (c : Nat) : Near 1 s (cutNamed s b c) := by
  have hhead := near_cutHeaded s b c
  exact .ite (hhead.trans (near_cutTagged ..)) hhead

/-- R207: what a CUT_BEGIN of an open set leaves in the registers: the signatures staged, the set's CRC, and in Exact mode its tag. -/
theorem cutNamed_spec (hc : c < 32) : (cutNamed s b c).fld (F.FLD_CSET_CRC_CRC c) = leAt b 20 4
    ∧ (∀ k < min 4 (leAt b 13 1), (∀ j < min 4 (leAt b 13 1), j ≠ k → leAt b (32 + 6 * j) 2 % 64 ≠ leAt b (32 + 6 * k) 2 % 64) →
      (cutNamed s b c).fld (F.SAF_TPSIG_STAGE_SIG (leAt b (32 + 6 * k) 2 % 64)) = leAt b (34 + 6 * k) 4)
    ∧ (s.exact = true → (cutNamed s b c).fld (F.FLD_CSET_STEP_LO_STEP_LO c) + 2 ^ 32 * (cutNamed s b c).fld (F.FLD_CSET_STEP_HI_STEP_HI c)
      = s.localStep (leAt b 24 6))
    ∧ s.regsBut (cutNamed s b c) (beginRegs c) := by
  have hhead := regsBut_cutHeaded s b c
  have hcrc := cutHeaded_crc s b c
  have hsig (k : Nat) (hk) (hne) := cutHeaded_sig (s := s) (b := b) hc (k := k) hk hne
  unfold cutNamed
  generalize cutHeaded s b c = u at hhead hcrc hsig
  by_cases hexact : s.exact = true
  · have htag := regsBut_cutTagged u c (s.localStep (leAt b 24 6))
    have hcrcOut : R.FLD_CSET_CRC c ∉ [R.FLD_CSET_STEP_LO c, R.FLD_CSET_STEP_HI c] := by
      simp only [R.FLD_CSET_CRC, R.FLD_CSET_STEP_LO, R.FLD_CSET_STEP_HI, List.mem_cons, List.not_mem_nil, or_false]; omega
    have hsigOut (n : Nat) : R.SAF_TPSIG_STAGE n ∉ [R.FLD_CSET_STEP_LO c, R.FLD_CSET_STEP_HI c] := by
      obtain ⟨-, hlo, hhi⟩ := stage_notMem_cset hc n
      simp [hlo, hhi]
    rw [if_pos hexact]
    exact ⟨(htag.fld hcrcOut).trans hcrc, fun k hk hne => (htag.fld (hsigOut _)).trans (hsig k hk hne),
      fun _ => cutTagged_tag (localStep_lt ..), hhead.trans (htag.mono (by simp [beginRegs]))⟩
  · rw [if_neg hexact]
    exact ⟨hcrc, hsig, fun h => absurd h hexact, hhead⟩

/-- R207: a CUT_BEGIN of a closed set is answered LOCKED and changes nothing. -/
theorem cutBegin_answered (hc : c = leAt b 12 1 % 32) (h : s.cutClosed c = true) : (cutBegin b s).link.cut = s.link.cut
    ∧ (cutBegin b s).link.txq.get 3 = s.link.txq.get 3 ++ queuedFrame s 0x33 true true [BitVec.ofNat 8 c, 2#8] ∧ (cutBegin b s).regs = s.regs := by
  rw [cutBegin_closed hc h, cutAnswer_locked, linkQueue_link]
  refine ⟨rfl, ?_, linkQueue_regs ..⟩
  rw [← linkQueue_link]
  exact linkQueue_queue ..

/-- R207: a CUT_BEGIN of an open set begins its message. -/
theorem cutBegin_begins (hc : c = leAt b 12 1 % 32) (h : ¬s.cutClosed c = true) : (cutBegin b s).link.cut = some ⟨c, leAt b 16 4, []⟩
    ∧ (cutBegin b s).fld (F.FLD_CSET_CRC_CRC c) = leAt b 20 4
    ∧ (∀ k < min 4 (leAt b 13 1), (∀ j < min 4 (leAt b 13 1), j ≠ k → leAt b (32 + 6 * j) 2 % 64 ≠ leAt b (32 + 6 * k) 2 % 64) →
      (cutBegin b s).fld (F.SAF_TPSIG_STAGE_SIG (leAt b (32 + 6 * k) 2 % 64)) = leAt b (34 + 6 * k) 4)
    ∧ (s.exact = true → (cutBegin b s).fld (F.FLD_CSET_STEP_LO_STEP_LO c) + 2 ^ 32 * (cutBegin b s).fld (F.FLD_CSET_STEP_HI_STEP_HI c)
      = s.localStep (leAt b 24 6))
    ∧ s.regsBut (cutBegin b s) (beginRegs c) := by
  have hnamed := cutNamed_spec (s := s) (b := b) (hc ▸ Nat.mod_lt _ (by decide) : c < 32)
  rw [cutBegin_open hc h]
  generalize cutNamed s b c = u at hnamed
  exact ⟨rfl, hnamed⟩

theorem sameBooks_cutBegin : SameBooks s (cutBegin b s) := by
  by_cases h : s.cutClosed (leAt b 12 1 % 32) = true
  · rw [cutBegin_closed rfl h, cutAnswer_locked]
    exact sameBooks_linkQueue ..
  · have hlink : (cutNamed s b (leAt b 12 1 % 32)).link = s.link := (near_cutNamed _).same .link rfl
    rw [cutBegin_open rfl h]
    unfold SameBooks
    rw [State.modLink_link, hlink]
    exact ⟨rfl, rfl⟩

end

end Sys2Proof.Machine
end

section
/-! CUT_DATA (R207, R360): its bytes go to the inactive copies of the set's entries, and the last of them asks for the swap. -/

namespace Sys2Proof.Machine

/-! ## What the bytes of a cutting leave -/

/-- `t` is `s` but for the memories, their error words and waiting write-backs, and the ECC counts. -/
structure CutKept (s t : State) : Prop where
  near : Near 0x30a0001 s t
  regs : s.regsBut t [R.FLD_GRN_ECC, R.FLD_GRN_ERR, R.FLD_STAT]
  layers : t.field.layers = s.field.layers
  checks : t.field.csetChk = s.field.csetChk

namespace CutKept

variable {r s t : State}

theorem refl (s : State) : CutKept s s := ⟨.refl _ s, s.regsBut_refl _, rfl, rfl⟩

theorem trans (h : CutKept r s) (h' : CutKept s t) : CutKept r t :=
  ⟨h.near.trans h'.near, h.regs.trans h'.regs, h'.layers.trans h.layers, h'.checks.trans h.checks⟩

theorem granWrite (k : Nat) (bs : List Byte) (s : State) : CutKept s (granWrite k bs s) :=
  ⟨(near_granWrite1 k bs s).mono rfl, (s.regsBut_refl _).same (granWrite_regs k bs s), rfl, rfl⟩

theorem plotWrite (l k : Nat) (bs : List Byte) (s : State) : CutKept s (plotWrite l k bs s) :=
  ⟨near_plotWrite (l := 0x30a0001) rfl (.refl _ s) l k bs, fun _ _ => rfl, rfl, rfl⟩

theorem granRead (k n : Nat) (s : State) : CutKept s (granRead none k n s).2 := by
  have hfield := (near_granRead_none k n s).same .field rfl
  exact ⟨(near_granRead_none k n s).mono rfl, regsBut_granRead_none k n s, congrArg FieldSt.layers hfield, congrArg FieldSt.csetChk hfield⟩

/-- The flags of a cutting set are no ECC count. -/
theorem cset (h : CutKept s t) {f : Fld} {c : Nat} (hf : f.addr = R.FLD_CSET_CTRL c) : t.flag f = s.flag f :=
  h.regs.flag (by
    simp only [hf, R.FLD_CSET_CTRL, R.FLD_GRN_ECC, R.FLD_GRN_ERR, R.FLD_STAT, List.mem_cons, List.not_mem_nil, or_false]
    omega)

theorem closed (h : CutKept s t) (c : Nat) : t.cutClosed c = s.cutClosed c := by
  unfold State.cutClosed
  rw [h.cset (c := c) rfl, h.cset (c := c) rfl]

theorem expands (h : CutKept s t) (e : CutEntry) : t.cutExpands e = s.cutExpands e := by
  unfold State.cutExpands State.cutLayer State.netLayers
  rw [h.layers]

end CutKept

section

variable (s : State) (e : CutEntry) (k : Nat) (bs : List Byte)

/-- The address of byte `k` of the inactive copy of an entry. -/
def State.cutAddr : Nat := e.copy (!s.flag (F.FLD_CSET_CTRL_ALT e.cset)) + k

variable {s e}

theorem cutPut_none (h : s.cutLayer e = none) : cutPut e k bs s = s := by
  unfold cutPut
  simp only [h]

theorem cutPut_some {l : Layer} (h : s.cutLayer e = some l) :
    cutPut e k bs s = if l.granary then granWrite (s.cutAddr e k) bs s else plotWrite (s.netPlot e.tenant e.net) (s.cutAddr e k) bs s := by
  unfold cutPut
  simp only [h]
  rfl

theorem cutKept_cutPut (e : CutEntry) (s : State) : CutKept s (cutPut e k bs s) := by
  cases h : s.cutLayer e with
  | none => rw [cutPut_none k bs h]; exact .refl s
  | some l =>
    rw [cutPut_some k bs h]
    split
    · exact .granWrite ..
    · exact .plotWrite ..

theorem cutPlace_regs (es : List CutEntry) (s : State) : (cutPlace es k bs s).regs = s.regs :=
  (near_cutPlace (l := 0x30a0000) rfl (.refl _ s) es k bs).same .regs rfl

theorem cutKept_cutPlace (es : List CutEntry) (s : State) : CutKept s (cutPlace es k bs s) := by
  induction es generalizing k bs s with
  | nil => exact .refl s
  | cons e es ih =>
    unfold cutPlace
    split
    · exact .refl s
    split
    · exact ih ..
    · exact (cutKept_cutPut ..).trans (ih ..)

theorem cutFinish_none {es : List CutEntry} (h : s.cutLayer e = none) : cutFinish (e :: es) bs s = cutFinish es bs s := by
  rw [cutFinish]
  simp only [h]

/-- The bytes that an expanded entry takes of the message, expanded, with the read of its stock part. -/
def cutExpanded (l : Layer) (e : CutEntry) (bs : List Byte) (s : State) : State :=
  cutPut e 0 (flatStream l (granRead none e.stock l.stockBytes s).1 bs) (granRead none e.stock l.stockBytes s).2

theorem cutFinish_some {es : List CutEntry} {l : Layer} (h : s.cutLayer e = some l) : cutFinish (e :: es) bs s
    = if s.cutExpands e then cutFinish es (bs.drop (parseCutting l (rankR l.rank) true bs).size) (cutExpanded l e bs s)
      else cutFinish es (bs.drop e.bytes) (cutPut e 0 (bs.take e.bytes) s) := by
  rw [cutFinish]
  simp only [h]
  rfl

theorem cutKept_cutFinish (es : List CutEntry) (s : State) : CutKept s (cutFinish es bs s) := by
  induction es generalizing bs s with
  | nil => exact .refl s
  | cons e es ih =>
    cases h : s.cutLayer e with
    | none => rw [cutFinish_none bs h]; exact ih ..
    | some l =>
      rw [cutFinish_some bs h]
      split
      · exact ((CutKept.granRead ..).trans (cutKept_cutPut ..)).trans (ih ..)
      · exact (cutKept_cutPut ..).trans (ih ..)

end

/-! ## The frames -/

section

variable {s : State} {b : List Byte} {m : CutMsg}

/-- The message is over. -/
def cutOver (s : State) : State := s.modLink (fun l => { l with cut := none })

/-- The bytes of a CUT_DATA frame that the message still awaits. -/
def cutBytesOf (b : List Byte) (m : CutMsg) : List Byte := ((b.drop 12).take 48).take (m.total - m.buf.length)

/-- The bytes of the frame are in the copies. -/
def cutPlaced (b : List Byte) (m : CutMsg) (s : State) : State := cutPlace (s.csetEntries m.cset) m.buf.length (cutBytesOf b m) s

/-- The entries from the first that is expanded. -/
def State.cutTail (s : State) (es : List CutEntry) : List CutEntry := es.dropWhile (fun e => !s.cutExpands e)

theorem cutData_none (h : s.link.cut = none) : cutData b s = s := by
  unfold cutData
  simp only [h]

theorem cutData_closed (h : s.link.cut = some m) (hc : s.cutClosed m.cset = true) : cutData b s = cutAnswer m.cset 2 (cutOver s) := by
  unfold cutData
  simp only [h, if_pos hc]
  rfl

theorem cutData_more (h : s.link.cut = some m) (hc : ¬s.cutClosed m.cset = true) (hl : frLast b = false) :
    cutData b s = (cutPlaced b m s).modLink (fun l => { l with cut := some { m with buf := m.buf ++ cutBytesOf b m } }) := by
  unfold cutData
  simp only [h, if_neg hc, hl]
  rfl

theorem cutData_last (h : s.link.cut = some m) (hc : ¬s.cutClosed m.cset = true) (hl : frLast b = true) :
    ∃ bs, cutData b s
      = cutSwapReq m.cset true (cutOver (cutFinish ((cutPlaced b m s).cutTail (s.csetEntries m.cset)) bs (cutPlaced b m s))) := by
  unfold cutData
  simp only [h, if_neg hc, hl]
  exact ⟨_, rfl⟩

theorem cutOver_regs (s : State) : (cutOver s).regs = s.regs := rfl

theorem near_cutAnswer3 (c res : Nat) (s : State) : Near 0x800000 s (cutAnswer c res s) := near_cutAnswer (l := 0x800000) rfl (.refl _ s) c res

/-- R207: data for a set that has been closed since are answered LOCKED and dropped with their message. -/
theorem cutData_answered (h : s.link.cut = some m) (hc : s.cutClosed m.cset = true) : (cutData b s).link.cut = none
    ∧ (cutData b s).link.txq.get 3 = s.link.txq.get 3 ++ queuedFrame s 0x33 true true [BitVec.ofNat 8 m.cset, 2#8]
    ∧ (cutData b s).regs = s.regs ∧ (cutData b s).gran = s.gran ∧ (cutData b s).plots = s.plots := by
  have hnear := near_cutAnswer3 m.cset 2 (cutOver s)
  rw [cutData_closed h hc]
  refine ⟨?_, ?_, hnear.same .regs rfl, hnear.same .gran rfl, hnear.same .plots rfl⟩ <;> rw [cutAnswer_locked]
  · rw [linkQueue_link]
    rfl
  · exact linkQueue_queue ..

/-- The copy of set `c` is locked for a swap that the interface asks for. -/
def swapLocked (c : Nat) (s : State) : State := (s.setFlag (F.FLD_CSET_CTRL_LOCK c) true).setFlag (F.FLD_CSET_CTRL_TWIN c) true

theorem swapLocked_lock (c : Nat) (s : State) : (swapLocked c s).flag (F.FLD_CSET_CTRL_LOCK c) = true :=
  (State.flag_setFlag_apart _ _ (.inr (by simp [F.FLD_CSET_CTRL_TWIN, F.FLD_CSET_CTRL_LOCK]))).trans
    (State.flag_setFlag_same _ _ (by simp [F.FLD_CSET_CTRL_LOCK]) (by simp [F.FLD_CSET_CTRL_LOCK]))

theorem swapLocked_twin (c : Nat) (s : State) : (swapLocked c s).flag (F.FLD_CSET_CTRL_TWIN c) = true :=
  State.flag_setFlag_same _ _ (by simp [F.FLD_CSET_CTRL_TWIN]) (by simp [F.FLD_CSET_CTRL_TWIN])

theorem regsBut_swapLocked (c : Nat) (s : State) : s.regsBut (swapLocked c s) [R.FLD_CSET_CTRL c] :=
  ((s.regsBut_refl _).setFlag (F.FLD_CSET_CTRL_LOCK c) true (by simp [F.FLD_CSET_CTRL_LOCK])).setFlag (F.FLD_CSET_CTRL_TWIN c) true
    (by simp [F.FLD_CSET_CTRL_TWIN])

theorem swapLocked_field (c : Nat) (s : State) : (swapLocked c s).field = s.field := by simp [swapLocked]

/-- The check of set `c` is asked for. -/
def checkAsked (c : Nat) (s : State) : State := s.modField (fun f => { f with csetChk := f.csetChk ++ [c] })

theorem checkAsked_spec (c : Nat) (s : State) : (∀ f, (checkAsked c s).flag f = s.flag f) ∧ (checkAsked c s).regs = s.regs
    ∧ (checkAsked c s).field.csetChk = s.field.csetChk ++ [c] := ⟨fun _ => rfl, rfl, rfl⟩

theorem cutSwapReq_asks {c : Nat} (hc : ¬s.cutClosed c = true) : cutSwapReq c true s = checkAsked c (swapLocked c s) := if_neg hc

/-- A swap request of an open set locks it, says who asks, and starts the check. -/
theorem cutSwapReq_spec {c : Nat} (hc : ¬s.cutClosed c = true) : (cutSwapReq c true s).flag (F.FLD_CSET_CTRL_LOCK c) = true
    ∧ (cutSwapReq c true s).flag (F.FLD_CSET_CTRL_TWIN c) = true ∧ (cutSwapReq c true s).field.csetChk = s.field.csetChk ++ [c]
    ∧ s.regsBut (cutSwapReq c true s) [R.FLD_CSET_CTRL c] := by
  obtain ⟨hflag, hregs, hchk⟩ := checkAsked_spec c (swapLocked c s)
  rw [cutSwapReq_asks hc, hflag, hflag, hchk, swapLocked_field]
  exact ⟨swapLocked_lock c s, swapLocked_twin c s, rfl, (regsBut_swapLocked c s).same hregs⟩

theorem near_cutSwapReq1 (c : Nat) (twin : Bool) (s : State) : Near 0x20001 s (cutSwapReq c twin s) := near_cutSwapReq (l := 0x20001) rfl (.refl _ s) c twin

/-- The state in which the swap is asked for. -/
theorem cutKept_finished (s : State) (b : List Byte) (m : CutMsg) (es : List CutEntry) (bs : List Byte) :
    CutKept s (cutFinish es bs (cutPlaced b m s)) := (cutKept_cutPlace ..).trans (cutKept_cutFinish ..)

/-- R207: data that are not the last of their message are kept. -/
theorem cutData_kept (h : s.link.cut = some m) (hc : ¬s.cutClosed m.cset = true) (hl : frLast b = false) :
    (cutData b s).link.cut = some { m with buf := m.buf ++ cutBytesOf b m } ∧ (cutData b s).regs = s.regs := by
  rw [cutData_more h hc hl]
  exact ⟨rfl, cutPlace_regs ..⟩

/-- R207: with the last data the message is over, and the swap is asked for. -/
theorem cutData_swaps (h : s.link.cut = some m) (hc : ¬s.cutClosed m.cset = true) (hl : frLast b = true) : (cutData b s).link.cut = none
    ∧ ((cutData b s).flag (F.FLD_CSET_CTRL_LOCK m.cset) = true ∧ (cutData b s).flag (F.FLD_CSET_CTRL_TWIN m.cset) = true
      ∧ (cutData b s).field.csetChk = s.field.csetChk ++ [m.cset])
    ∧ s.regsBut (cutData b s) [R.FLD_CSET_CTRL m.cset, R.FLD_GRN_ECC, R.FLD_GRN_ERR, R.FLD_STAT] := by
  obtain ⟨bs, hd⟩ := cutData_last h hc hl
  have hkept := cutKept_finished s b m ((cutPlaced b m s).cutTail (s.csetEntries m.cset)) bs
  rw [hd]
  generalize cutFinish _ bs _ = u at hkept
  have hopen : ¬(cutOver u).cutClosed m.cset = true := by
    have := hkept.closed m.cset
    unfold State.cutClosed at *
    rwa [cutOver, State.modLink_flag, State.modLink_flag, this]
  obtain ⟨hlock, htwin, hchk, hregs⟩ := cutSwapReq_spec hopen
  have hcut : (cutSwapReq m.cset true (cutOver u)).link = (cutOver u).link := (near_cutSwapReq1 ..).same .link rfl
  refine ⟨by rw [hcut]; rfl, ⟨hlock, htwin, hchk.trans (by rw [← hkept.checks]; rfl)⟩, ?_⟩
  have hover : s.regsBut (cutOver u) [R.FLD_GRN_ECC, R.FLD_GRN_ERR, R.FLD_STAT] := hkept.regs.same (cutOver_regs u)
  exact (hover.mono fun k hk => List.mem_cons_of_mem _ hk).trans (hregs.mono (by simp))

theorem sameBooks_cutData : SameBooks s (cutData b s) := by
  cases h : s.link.cut with
  | none => rw [cutData_none h]; exact .of_link rfl
  | some m =>
    by_cases hc : s.cutClosed m.cset = true
    · rw [cutData_closed h hc, cutAnswer_locked]
      exact sameBooks_linkQueue ..
    · cases hl : frLast b with
      | false =>
        have hlink : (cutPlaced b m s).link = s.link := (cutKept_cutPlace ..).near.same .link rfl
        rw [cutData_more h hc hl]
        unfold SameBooks
        rw [State.modLink_link, hlink]
        exact ⟨rfl, rfl⟩
      | true =>
        obtain ⟨bs, hd⟩ := cutData_last h hc hl
        have hlink := (cutKept_finished s b m ((cutPlaced b m s).cutTail (s.csetEntries m.cset)) bs).near.same .link rfl
        rw [hd]
        generalize cutFinish _ bs _ = u at hlink
        have hcut : (cutSwapReq m.cset true (cutOver u)).link = { u.link with cut := none } := (near_cutSwapReq1 ..).same .link rfl
        unfold SameBooks
        rw [hcut, hlink]
        exact ⟨rfl, rfl⟩

/-! ## A set of one entry -/

variable {e : CutEntry} {l : Layer}

/-- With one entry that is not expanded, the end of the message has no more to write. -/
theorem cutData_mems (h : s.link.cut = some m) (hc : ¬s.cutClosed m.cset = true) (hes : s.csetEntries m.cset = [e]) (he : s.cutExpands e = false) :
    (cutData b s).gran = (cutPlaced b m s).gran ∧ (cutData b s).plots = (cutPlaced b m s).plots := by
  cases hl : frLast b with
  | false => rw [cutData_more h hc hl]; exact ⟨rfl, rfl⟩
  | true =>
    obtain ⟨bs, hd⟩ := cutData_last h hc hl
    have hx : (cutPlaced b m s).cutExpands e = false := ((cutKept_cutPlace ..).expands e).trans he
    have htail : (cutPlaced b m s).cutTail [e] = [] := by simp [State.cutTail, hx]
    rw [hes, htail] at hd
    have hnear := near_cutSwapReq1 m.cset true (cutOver (cutPlaced b m s))
    have hfin : cutFinish [] bs (cutPlaced b m s) = cutPlaced b m s := rfl
    rw [hd, hfin]
    exact ⟨hnear.same .gran rfl, hnear.same .plots rfl⟩

/-- With one entry the bytes of a frame go behind those received before, as far as the entry has room. -/
theorem cutPlaced_single (hes : s.csetEntries m.cset = [e]) (he : s.cutExpands e = false)
    (hfit : m.buf.length + (cutBytesOf b m).length ≤ e.bytes) (hroom : m.buf.length < e.bytes) :
    cutPlaced b m s = cutPut e m.buf.length (cutBytesOf b m) s := by
  unfold cutPlaced
  rw [hes, cutPlace, if_neg (by simp [he]), if_neg (by omega), List.take_of_length_le (by omega)]
  rfl

theorem cutPlaced_full (hes : s.csetEntries m.cset = [e]) (he : s.cutExpands e = false) (hroom : e.bytes ≤ m.buf.length) : cutPlaced b m s = s := by
  unfold cutPlaced
  rw [hes, cutPlace, if_neg (by simp [he]), if_pos hroom]
  rfl

theorem wrote_nil (mem : SMap Byte) (k : Nat) {bs : List Byte} (h : bs.length = 0) : Wrote mem mem k bs := by
  obtain rfl := List.length_eq_zero_iff.1 h
  exact ⟨rfl, fun _ _ => rfl⟩

/-- R207: the bytes of a set of one entry, in the granary or in the plot store of its network. -/
theorem cutPlaced_wrote (hes : s.csetEntries m.cset = [e]) (hl : s.cutLayer e = some l) (he : s.cutExpands e = false)
    (hfit : m.buf.length + (cutBytesOf b m).length ≤ e.bytes) :
    if l.granary then Wrote s.gran (cutPlaced b m s).gran (s.cutAddr e m.buf.length) (cutBytesOf b m) ∧ (cutPlaced b m s).plots = s.plots
    else Wrote s.plots (cutPlaced b m s).plots (0x40000 * s.netPlot e.tenant e.net + s.cutAddr e m.buf.length) (cutBytesOf b m)
      ∧ (cutPlaced b m s).gran = s.gran := by
  by_cases hroom : e.bytes ≤ m.buf.length
  · have hnil : (cutBytesOf b m).length = 0 := by omega
    rw [cutPlaced_full hes he hroom]
    split
    · exact ⟨wrote_nil _ _ hnil, rfl⟩
    · exact ⟨wrote_nil _ _ hnil, rfl⟩
  · rw [cutPlaced_single hes he hfit (by omega), cutPut_some _ _ hl]
    split
    · exact ⟨wrote_memWrite .., rfl⟩
    · exact ⟨wrote_memWrite .., rfl⟩

/-- Bytes outside an area that holds those written are the same. -/
theorem Wrote.outside {mem mem' : SMap Byte} {a n k : Nat} {bs : List Byte} (h : Wrote mem mem' k bs) (hk : k = a + n) :
    sameOutside mem mem' a (n + bs.length) := fun j hj => h.2 j (by omega)

/-- R207: the bytes of a frame for a set of one entry stand behind those received before. -/
theorem cutData_single (h : s.link.cut = some m) (hc : ¬s.cutClosed m.cset = true) (hes : s.csetEntries m.cset = [e]) (hl : s.cutLayer e = some l)
    (he : s.cutExpands e = false) (hfit : m.buf.length + (cutBytesOf b m).length ≤ e.bytes) {k : Nat} (hk : k = s.cutAddr e m.buf.length) :
    if l.granary then
      memRead (cutData b s).gran k (cutBytesOf b m).length = cutBytesOf b m
      ∧ sameOutside s.gran (cutData b s).gran (e.copy (!s.flag (F.FLD_CSET_CTRL_ALT e.cset))) (m.buf.length + (cutBytesOf b m).length)
      ∧ (cutData b s).plots = s.plots
    else ∀ j, j = 0x40000 * s.netPlot e.tenant e.net + k →
      memRead (cutData b s).plots j (cutBytesOf b m).length = cutBytesOf b m ∧ (cutData b s).gran = s.gran := by
  subst hk
  obtain ⟨hgran, hplots⟩ := cutData_mems (b := b) h hc hes he
  have hwrote := cutPlaced_wrote (b := b) hes hl he hfit
  rw [hgran, hplots]
  split at hwrote
  · obtain ⟨hw, hp⟩ := hwrote
    rw [if_pos ‹_›]
    exact ⟨hw.1, hw.outside rfl, hp⟩
  · obtain ⟨hw, hg⟩ := hwrote
    rw [if_neg ‹_›]
    rintro j rfl
    exact ⟨hw.1, hg⟩

end

end Sys2Proof.Machine
end

section
/-! The frames of the bulk channel as the commands handle them, and the cutting messages and tiles together. -/

namespace Sys2Proof.Machine

section

variable {s : State} {b : List Byte} {P : State → Prop}

/-- The state in which the frame `b` of the bulk channel is handled. -/
def State.handling (s : State) (b : List Byte) : State := s.taken b (s.bulkBooks b)

theorem completes_cutBegin (h : frontFrame s 0x30 b) (hP : P (cutBegin b (s.handling b))) :
    Completes .cutBegin s fun t => frameDone 0x30 b s t ∧ P t := completes_bulkFrame rfl h rfl (by decide) sameBooks_cutBegin hP

theorem completes_cutData (h : frontFrame s 0x31 b) (hP : P (cutData b (s.handling b))) :
    Completes .cutData s fun t => frameDone 0x31 b s t ∧ P t := completes_bulkFrame rfl h rfl (by decide) sameBooks_cutData hP

theorem completes_cutStat (h : frontFrame s 0x33 b) (hP : P (cutStat b (s.handling b))) :
    Completes .cutStat s fun t => frameDone 0x33 b s t ∧ P t := completes_bulkFrame rfl h rfl (by decide) sameBooks_cutStat hP

theorem completes_rtfReq (h : frontFrame s 0x34 b) (hP : P (rtfReq b (s.handling b))) :
    Completes .rtfReq s fun t => frameDone 0x34 b s t ∧ P t := completes_bulkFrame rfl h rfl (by decide) sameBooks_rtfReq hP

theorem completes_tileData (h : frontFrame s 0x35 b) (hP : P (tileData b (s.handling b))) :
    Completes .tileData s fun t => frameDone 0x35 b s t ∧ P t := completes_bulkFrame rfl h rfl (by decide) sameBooks_tileData hP

theorem completes_evn (h : frontFrame s 0x36 b) (hP : P (evnIn b (s.handling b))) :
    Completes .evn s fun t => frameDone 0x36 b s t ∧ P t := completes_bulkFrame rfl h rfl (by decide) sameBooks_evnIn hP

theorem completes_evnAck (h : frontFrame s 0x37 b) (hP : P (evnAck b (s.handling b))) :
    Completes .evnAck s fun t => frameDone 0x37 b s t ∧ P t := completes_bulkFrame rfl h rfl (by decide) sameBooks_evnAck hP

theorem completes_tileAbsent (h : frontFrame s 0x38 b) (hP : P (tileAbsent b (s.handling b))) :
    Completes .tileAbsent s fun t => frameDone 0x38 b s t ∧ P t := completes_bulkFrame rfl h rfl (by decide) sameBooks_tileAbsent hP

end

/-- Settles O60: a GO, a timeout and each frame of the bulk channel have the effect of their own lemma. -/
theorem cuttingMessagesAndTiles : Obligations.CuttingMessagesAndTiles := by
  unfold Obligations.CuttingMessagesAndTiles
  refine ⟨fun s => ⟨fun p i v ht => completes_bulkGo ht ⟨bulkGo_spec i s, regsBut_bulkGo i s⟩, fun i => ?timeout, fun b h => completes_cutStat h ?cutStat,
      fun b c h hc => completes_cutBegin h ?cutBegin, fun b h => completes_cutData h ?cutData⟩,
    fun s => ⟨fun p v op n ht hop hn => completes_tileCmd ht ?tileCmd, ?siloEnd, fun b h => completes_evnAck h ?evnAck,
      fun b h => completes_rtfReq h ?rtfReq, fun b h => completes_tileData h ?tileData, fun b h => completes_evn h ?evn,
      fun b h => completes_tileAbsent h ?absent⟩⟩
  case timeout =>
    split
    · exact congrArg Host.Outcome.next (bulkTimeout_idle ‹_›)
    · exact ⟨_, congrArg Host.Outcome.next (bulkTimeout_running (not_not.1 ‹_›)), bulkEnd_spec i 4 6 s⟩
  case cutStat =>
    split
    next hf => rw [cutStat_none (s := s.handling b) hf]; rfl
    next i hf => exact cutStat_ends (s := s.handling b) hf
  case cutBegin =>
    split
    · exact cutBegin_answered (s := s.handling b) hc ‹_›
    · exact cutBegin_begins (s := s.handling b) hc ‹_›
  case cutData =>
    split
    next hm => rw [cutData_none (s := s.handling b) hm]; exact ⟨rfl, rfl, rfl, rfl⟩
    next m hm =>
      split
      · exact cutData_answered (s := s.handling b) hm ‹_›
      next hopen =>
        rintro bs rfl
        refine ⟨fun hl => cutData_kept (s := s.handling b) hm hopen hl, fun hl => ?_, fun e l hes hlay hexp hfit k hk => ?_⟩
        · obtain ⟨hcut, hasked, hregs⟩ := cutData_swaps (s := s.handling b) hm hopen hl
          exact ⟨hcut, fun _ => hasked, hregs⟩
        · exact cutData_single (s := s.handling b) hm hopen hes hlay hexp hfit hk
  case tileCmd =>
    rw [← hop, ← hn]
    simp only [answer_tileState, answer_fld, answer_regs, answer_link, answer_gran, answer_silo]
    split
    next hmine => rw [tileCmd_none hmine]; exact ⟨rfl, rfl, rfl⟩
    next k e hmine => exact tileCmd_acts hmine
  case siloEnd =>
    split
    next hv => exact congrArg Host.Outcome.next (evictWritten_none hv)
    next v hv =>
      rintro k rfl
      obtain ⟨⟨hread, hout⟩, hrest⟩ := evictWritten_spec hv
      exact ⟨_, rfl, hread, hout, hrest⟩
  case evnAck =>
    split
    next hv => rw [evnAck_none (s := s.handling b) hv]; exact ⟨hv, rfl⟩
    next v hv =>
      split
      · exact evnAck_acks (s := s.handling b) hv ‹_›
      · exact evnAck_other (s := s.handling b) hv ‹_›
  case rtfReq =>
    split
    next hmine => rw [rtfReq_none (s := s.handling b) hmine]; exact ⟨rfl, rfl⟩
    next k e hmine =>
      obtain ⟨hqueue, hregs, hgran⟩ := rtfReq_answers (s := s.handling b) hmine
      refine ⟨_, hqueue, hregs, hgran, fun hoff => tileAnswer_off (s := s.handling b) hoff, ?_⟩
      rintro bs rfl hlive
      exact tileAnswer_frames (s := s.handling b) hlive
  case tileData =>
    split
    next f k e hf he =>
      rintro off bs rfl rfl
      obtain ⟨hread, hout⟩ := tileData_writes (s := s.handling b) hf he
      exact ⟨hread, hout, fun hl => tileData_goesOn (s := s.handling b) hf he hl, fun hl => tileData_ends (s := s.handling b) hf he hl⟩
    next hno => rw [tileData_unmatched (s := s.handling b) hno]; exact ⟨rfl, rfl, rfl⟩
  case evn =>
    split
    next hof => rw [evnIn_none (s := s.handling b) hof]; exact ⟨rfl, rfl⟩
    next k e hof =>
      split
      · rw [evnIn_own (s := s.handling b) hof ‹_›]; exact ⟨rfl, rfl⟩
      · exact evnIn_stales (s := s.handling b) hof ‹_›
  case absent =>
    split
    next hf => rw [tileAbsent_none (s := s.handling b) hf]; exact ⟨rfl, rfl⟩
    next f hf => exact tileAbsent_ends (s := s.handling b) hf

end Sys2Proof.Machine
end

section
/-! Single bits of a field: what a bit reads as once another bit, one of several, or a mask of bits has been written. -/

namespace Sys2Proof.Machine

/-! ## Bits of a number -/

/-- Taking away a power of two that a number holds clears that bit alone. -/
theorem testBit_sub_two_pow {n i : Nat} (h : n.testBit i = true) (x : Nat) :
    (n - 2 ^ i).testBit x = (n.testBit x && decide (x ≠ i)) := by
  have hodd : n / 2 ^ i % 2 = 1 := by rwa [Nat.testBit_eq_decide_div_mod_eq, decide_eq_true_eq] at h
  have hsplit := Nat.div_add_mod n (2 ^ i)
  have hlow : n % 2 ^ i < 2 ^ i := Nat.mod_lt _ (by positivity)
  obtain ⟨q, hq⟩ : ∃ q, n / 2 ^ i = q + 1 := 
    Nat.exists_eq_succ_of_ne_zero fun h0 => by rw [h0] at hodd; cases hodd
  rw [hq] at hsplit hodd
  have hcleared : n - 2 ^ i = 2 ^ i * q + n % 2 ^ i :=
    Nat.sub_eq_of_eq_add (hsplit.symm.trans (Nat.add_right_comm ..))
  rw [hcleared, ← congrArg (Nat.testBit · x) hsplit, Nat.testBit_two_pow_mul_add _ hlow, Nat.testBit_two_pow_mul_add _ hlow]
  rcases Nat.lt_trichotomy x i with hx | rfl | hx
  · simp [hx, hx.ne]
  · simp; omega
  · obtain ⟨d, hd⟩ : ∃ d, x - i = d + 1 := ⟨x - i - 1, by omega⟩
    have hhalf : q / 2 = (q + 1) / 2 := by omega
    simp [hx.not_gt, hx.ne', hd, Nat.testBit_succ, hhalf]

/-- The sum of the powers of two of a rising list holds the bits of the list. -/
theorem testBit_sum_two_pow {l : List Nat} (h : l.SortedLT) (x : Nat) : (l.map (fun j => 2 ^ j)).sum.testBit x = decide (x ∈ l) := by
  rw [Bool.eq_iff_iff, ← Nat.mem_bitIndices, Nat.bitIndices_sum_map_two_pow h, decide_eq_true_iff]

/-! ## Bits of a field -/

/-- Two fields share no bit. -/
abbrev Fld.Apart (f g : Fld) : Prop := g.addr ≠ f.addr ∨ g.lo + g.width ≤ f.lo ∨ f.lo + f.width ≤ g.lo

namespace State

variable (s : State)

theorem bit_setBit_apart {f g : Fld} (h : f.Apart g) (i : Nat) (b : Bool) (x : Nat) : (s.setBit f i b).bit g x = s.bit g x := by
  unfold State.bit
  rcases h with h | h
  · rw [fld_setBit_other s i b h]
  · rw [fld_setBit_apart s i b h]

/-- A bit that is written leaves the other bits of its field. -/
theorem bit_setBit_other {f : Fld} (h : f.lo + f.width ≤ 32) {i x : Nat} (hx : x ≠ i) (b : Bool) : (s.setBit f i b).bit f x = s.bit f x := by
  have hin : s.fld f % 2 ^ f.width = s.fld f := Nat.mod_eq_of_lt (s.fld_lt f)
  have hval : ∀ v, v.testBit x = (s.fld f).testBit x → (v % 2 ^ f.width).testBit x = (s.fld f).testBit x := fun v hv => by
    rw [Nat.testBit_mod_two_pow, hv, ← Nat.testBit_mod_two_pow, hin]
  rw [State.bit, State.setBit, fld_setFld_same s _ h]
  refine hval _ ?_
  split
  · rw [Nat.testBit_or, Nat.testBit_two_pow_of_ne hx.symm, Bool.or_false]
  · split
    · simp [testBit_sub_two_pow ‹_›, hx]
    · rfl

theorem bit_setBit {n i : Nat} (hi : i < n) {f : Fld} (hf : n ≤ f.width ∧ f.lo + f.width ≤ 32) (b : Bool) (x : Nat) :
    (s.setBit f i b).bit f x = if x = i then b else s.bit f x := by
  split
  next hx => subst hx; exact s.bit_setBit_same x b hf.2 (hi.trans_le hf.1)
  next hx => exact s.bit_setBit_other hf.2 hx b

/-- A bit that is set where `c` holds. -/
theorem bit_ite_setBit {n i : Nat} (hi : i < n) {f : Fld} (hf : n ≤ f.width ∧ f.lo + f.width ≤ 32) (c : Bool) (x : Nat) :
    (if c = true then s.setBit f i true else s).bit f x = (s.bit f x || c && decide (x = i)) := by
  cases c
  · simp
  · by_cases hx : x = i <;> simp [s.bit_setBit hi hf, hx]

theorem bit_ite_setBit_apart {f g : Fld} (h : f.Apart g) (c : Bool) (i : Nat) (b : Bool) (x : Nat) :
    (if c = true then s.setBit f i b else s).bit g x = s.bit g x := by
  split
  · exact s.bit_setBit_apart h i b x
  · rfl

/-- The bits of a list are set one after another. -/
theorem bit_each_setBit {n : Nat} {l : List Nat} (hl : ∀ j ∈ l, j < n) {f : Fld} (hf : n ≤ f.width ∧ f.lo + f.width ≤ 32) (x : Nat) :
    (s.each l (fun s j => s.setBit f j true)).bit f x = (s.bit f x || decide (x ∈ l)) := by
  unfold State.each
  induction l generalizing s with
  | nil => simp
  | cons j l ih =>
    obtain ⟨hj, hrest⟩ := List.forall_mem_cons.1 hl
    rw [List.foldl_cons, ih _ hrest, s.bit_setBit hj hf]
    by_cases hx : x = j <;> simp [hx]

theorem bit_each_setBit_apart {f g : Fld} (h : f.Apart g) (l : List Nat) (x : Nat) :
    (s.each l (fun s j => s.setBit f j true)).bit g x = s.bit g x := by
  unfold State.each
  induction l generalizing s with
  | nil => rfl
  | cons j l ih => rw [List.foldl_cons, ih, s.bit_setBit_apart h]

end State

end Sys2Proof.Machine
end

section
/-! The Aux controller by pairs (R365 to R372): which registers its operations write, which pairs they touch, and what a kill leaves of
an output. -/

namespace Sys2Proof.Machine

/-! ## Its registers and fields -/

/-- The registers that the Aux controller writes. -/
def auxRegs : List Nat := [R.AUX_STAT, R.AUX_REQ, R.AUX_FLAG]

/-- The fields with one bit for each load. -/
def auxLoadFlds : List Fld :=
  [F.AUX_REQ_REQ, F.AUX_STAT_LSD_ON, F.AUX_FLAG_KILLED, F.AUX_FLAG_BUDGET, F.AUX_FLAG_DROPPED, F.AUX_FLAG_REFUSED]

/-- The fields with one bit for each pair. -/
def auxPairFlds : List Fld := [F.AUX_STAT_HSD_ON, F.AUX_STAT_DELAY]

theorem auxLoadFlds_regs : ∀ f ∈ auxLoadFlds, f.addr ∈ auxRegs := by decide

theorem auxPairFlds_regs : ∀ f ∈ auxPairFlds, f.addr ∈ auxRegs := by decide

theorem auxFlds_fit : ∀ f ∈ auxLoadFlds ++ auxPairFlds, f.lo + f.width ≤ 32 := by decide

theorem auxFlds_apart : ∀ f ∈ auxLoadFlds ++ auxPairFlds, ∀ g ∈ auxLoadFlds ++ auxPairFlds, f = g ∨ f.Apart g := by decide

theorem auxLoad_apart_auxPair : ∀ f ∈ auxLoadFlds, ∀ g ∈ auxPairFlds, f.Apart g ∧ g.Apart f := by decide

/-- A bit of these fields leaves every other. -/
theorem bit_setBit_aux {f g : Fld} (hf : f ∈ auxLoadFlds ++ auxPairFlds) (hg : g ∈ auxLoadFlds ++ auxPairFlds) {i x : Nat}
    (hx : f = g → x ≠ i) (s : State) (b : Bool) : (s.setBit f i b).bit g x = s.bit g x := by
  by_cases h : f = g
  · subst h; exact s.bit_setBit_other (auxFlds_fit f hf) (hx rfl) b
  · exact s.bit_setBit_apart ((auxFlds_apart f hf g hg).resolve_left h) i b x

theorem auxPairCfg_notMem {k : Nat} (h : k < 4) : R.AUX_PAIR k ∉ auxRegs := by
  interval_cases k <;> decide

theorem auxLsdCfg_notMem {j : Nat} (h : j < 8) : R.AUX_LSD j ∉ auxRegs := by
  interval_cases j <;> decide

theorem tenCtrl_notMem_auxRegs (t : Nat) : R.QUE_TEN_CTRL t ∉ auxRegs := by
  have hbelow : ∀ k ∈ auxRegs, k < R.QUE_TEN_CTRL 0 := by decide
  exact fun h => (hbelow _ h).not_ge (by simp [R.QUE_TEN_CTRL])

/-- No kill cause stands in the controller's own registers. -/
theorem auxKilled_of_regsBut {s t : State} (h : s.regsBut t auxRegs) {j : Nat} (hj : j < 8) : t.auxKilled j = s.auxKilled j := by
  have hstat : R.SAF_STAT ∉ auxRegs := by decide
  have hcfg := auxLsdCfg_notMem hj
  simp only [State.auxKilled, State.resetWritten, State.inReset, h.flag (f := F.SAF_STAT_SAFE) hstat, h.flag (f := F.SAF_STAT_STO_STOP) hstat,
    h.bit (f := F.SAF_STAT_AXSTOP) hstat, h.fld (f := F.AUX_LSD_OWNER j) hcfg, h.flag (f := F.AUX_LSD_KILL_STO j) hcfg,
    h.flag (f := F.AUX_LSD_KILL_AXSTOP j) hcfg, h.flag (f := F.QUE_TEN_CTRL_IN_RESET _) (tenCtrl_notMem_auxRegs _),
    h.flag (f := F.QUE_TEN_CTRL_RST _) (tenCtrl_notMem_auxRegs _)]

/-! ## Pairs that stand -/

/-- From `r` to `s` the Aux controller moves outputs of the pairs of `P` alone, and its own registers alone change. -/
structure AuxMoves (P : Nat → Prop) (r s : State) : Prop where
  regs : r.regsBut s auxRegs
  load : ∀ f ∈ auxLoadFlds, ∀ x, ¬ P (x / 2) → s.bit f x = r.bit f x
  pair : ∀ f ∈ auxPairFlds, ∀ k, ¬ P k → s.bit f k = r.bit f k
  ask : ∀ x, ¬ P (x / 2) → s.auxAsk x = r.auxAsk x

namespace AuxMoves

variable {P : Nat → Prop} {r s t : State}

theorem refl (P : Nat → Prop) (s : State) : AuxMoves P s s :=
  ⟨s.regsBut_refl _, fun _ _ _ _ => rfl, fun _ _ _ _ => rfl, fun _ _ => rfl⟩

theorem trans (h : AuxMoves P r s) (h' : AuxMoves P s t) : AuxMoves P r t :=
  ⟨h.regs.trans h'.regs, fun f hf x hx => (h'.load f hf x hx).trans (h.load f hf x hx),
    fun f hf k hk => (h'.pair f hf k hk).trans (h.pair f hf k hk), fun x hx => (h'.ask x hx).trans (h.ask x hx)⟩

theorem mono {Q : Nat → Prop} (h : AuxMoves P r s) (hq : ∀ k, P k → Q k) : AuxMoves Q r s :=
  ⟨h.regs, fun f hf x hx => h.load f hf x fun hp => hx (hq _ hp), fun f hf k hk => h.pair f hf k fun hp => hk (hq _ hp),
    fun x hx => h.ask x fun hp => hx (hq _ hp)⟩

theorem ite {c : Prop} [Decidable c] (hs : AuxMoves P r s) (ht : AuxMoves P r t) : AuxMoves P r (if c then s else t) := by
  split <;> assumption

theorem each {α : Type} {f : State → α → State} {l : List α} (hf : ∀ x, ∀ a ∈ l, AuxMoves P x (f x a)) (s : State) :
    AuxMoves P s (s.each l f) :=
  List.foldlRecOn l f (refl P s) fun x hx a ha => hx.trans (hf x a ha)

theorem setLoad (h : AuxMoves P r s) {f : Fld} (hf : f ∈ auxLoadFlds) {i : Nat} (hi : P (i / 2)) (b : Bool) : AuxMoves P r (s.setBit f i b) where
  regs := h.regs.setBit f i b (auxLoadFlds_regs f hf)
  load g hg x hx := (bit_setBit_aux (List.mem_append_left _ hf) (List.mem_append_left _ hg)
    (fun _ => by rintro rfl; exact hx hi) s b).trans (h.load g hg x hx)
  pair g hg k hk := (s.bit_setBit_apart (auxLoad_apart_auxPair f hf g hg).1 i b k).trans (h.pair g hg k hk)
  ask := h.ask

theorem setPair (h : AuxMoves P r s) {f : Fld} (hf : f ∈ auxPairFlds) {i : Nat} (hi : P i) (b : Bool) : AuxMoves P r (s.setBit f i b) where
  regs := h.regs.setBit f i b (auxPairFlds_regs f hf)
  load g hg x hx := (s.bit_setBit_apart (auxLoad_apart_auxPair g hg f hf).2 i b x).trans (h.load g hg x hx)
  pair g hg k hk := (bit_setBit_aux (List.mem_append_right _ hf) (List.mem_append_right _ hg)
    (fun _ => by rintro rfl; exact hk hi) s b).trans (h.pair g hg k hk)
  ask := h.ask

section

variable (h : AuxMoves P r s) {k : Nat} (hP : ¬ P k)

include h hP

theorem even {f : Fld} (hf : f ∈ auxLoadFlds) : s.bit f (2 * k) = r.bit f (2 * k) :=
  h.load f hf _ (by rwa [show 2 * k / 2 = k by omega])

theorem odd {f : Fld} (hf : f ∈ auxLoadFlds) : s.bit f (2 * k + 1) = r.bit f (2 * k + 1) :=
  h.load f hf _ (by rwa [show (2 * k + 1) / 2 = k by omega])

theorem ask_even : s.auxAsk (2 * k) = r.auxAsk (2 * k) := h.ask _ (by rwa [show 2 * k / 2 = k by omega])

theorem ask_odd : s.auxAsk (2 * k + 1) = r.auxAsk (2 * k + 1) := h.ask _ (by rwa [show (2 * k + 1) / 2 = k by omega])

end

end AuxMoves

/-! ## A kill -/

/-- A waiting write once output `j` is killed: a request no longer names it. -/
def unask (j : Nat) (w : Bool × Nat) : Bool × Nat := if w.1 && w.2.testBit j then (true, w.2 - 2 ^ j) else w

theorem unask_fst (j : Nat) (w : Bool × Nat) : (unask j w).1 = w.1 := by
  unfold unask
  split
  next h => exact (Bool.and_eq_true_iff.1 h).1.symm
  next => rfl

theorem unask_testBit (j : Nat) (w : Bool × Nat) (x : Nat) : (unask j w).2.testBit x = (w.2.testBit x && !(w.1 && decide (x = j))) := by
  unfold unask
  split
  next h =>
    obtain ⟨hreq, hbit⟩ := Bool.and_eq_true_iff.1 h
    simp [testBit_sub_two_pow hbit, hreq]
  next h =>
    by_cases hx : x = j
    · subst hx; cases hreq : w.1 <;> simp_all
    · simp [hx]

/-- The other outputs are asked for as before. -/
theorem auxAsk_unask {s : State} {j x : Nat} (hx : x ≠ j) :
    (s.modAux (fun y => { y with waiting := y.waiting.map (unask j) })).auxAsk x = s.auxAsk x := by
  have hnames : ((fun w : Bool × Nat => w.2.testBit x) ∘ unask j) = fun w => w.2.testBit x := by
    funext w; simp [unask_testBit, hx]
  have hkind : ((fun w : Bool × Nat => w.1) ∘ unask j) = fun w => w.1 := funext (unask_fst j)
  simp only [State.auxAsk, State.modAux_aux, ← List.map_reverse, List.find?_map, Option.map_map, hnames, hkind]

/-- Output `j` falls and loses its request. -/
def auxLow (j : Nat) (s : State) : State :=
  ((s.setBit F.AUX_REQ_REQ j false).setBit F.AUX_STAT_LSD_ON j false).setBit F.AUX_FLAG_KILLED j true

/-- `auxKillOne` where the output is asked for or on. -/
def auxDrop (j : Nat) (s : State) : State :=
  let s := (auxLow j s).modAux (fun y => { y with waiting := y.waiting.map (unask j) })
  if j % 2 = 0 then s.setBit F.AUX_STAT_DELAY (j / 2) false else s

theorem auxKillOne_eq (j : Nat) (s : State) : auxKillOne j s =
    if s.bit F.AUX_REQ_REQ j || s.bit F.AUX_STAT_LSD_ON j || s.aux.waiting.any (fun w => w.1 && w.2.testBit j) then auxDrop j s else s := rfl

theorem auxMoves_unask (j : Nat) (s : State) : AuxMoves (· = j / 2) s (s.modAux (fun y => { y with waiting := y.waiting.map (unask j) })) :=
  ⟨(s.regsBut_refl _).same rfl, fun _ _ _ _ => rfl, fun _ _ _ _ => rfl, fun _ hx => auxAsk_unask fun hxj => hx (congrArg (· / 2) hxj)⟩

theorem auxMoves_auxDrop (j : Nat) (s : State) : AuxMoves (· = j / 2) s (auxDrop j s) := by
  have hlow : AuxMoves (· = j / 2) s (auxLow j s) := (((AuxMoves.refl (· = j / 2) s).setLoad (f := F.AUX_REQ_REQ) (by decide) rfl false).setLoad
    (f := F.AUX_STAT_LSD_ON) (by decide) rfl false).setLoad (f := F.AUX_FLAG_KILLED) (by decide) rfl true
  have hwrites := hlow.trans (auxMoves_unask j _)
  exact .ite (hwrites.setPair (f := F.AUX_STAT_DELAY) (by decide) rfl false) hwrites

theorem auxMoves_auxKillOne (j : Nat) (s : State) : AuxMoves (· = j / 2) s (auxKillOne j s) := by
  rw [auxKillOne_eq]
  exact .ite (auxMoves_auxDrop j s) (.refl _ s)

/-- A kill moves no bit but those of the output, its flag, and the off-delay that it ends. -/
theorem auxDrop_bit {f : Fld} (h : F.AUX_STAT_DELAY.Apart f) (j : Nat) (s : State) (x : Nat) : (auxDrop j s).bit f x = (auxLow j s).bit f x := by
  unfold auxDrop
  dsimp only
  split
  · rw [State.bit_setBit_apart _ h, State.modAux_bit]
  · rw [State.modAux_bit]

section

variable {j : Nat} (hj : j < 8) (s : State)

include hj

theorem auxDrop_req (x : Nat) : (auxDrop j s).bit F.AUX_REQ_REQ x = (s.bit F.AUX_REQ_REQ x && decide (x ≠ j)) := by
  rw [auxDrop_bit (by decide), auxLow]
  simp (disch := decide) only [State.bit_setBit_apart, State.bit_setBit _ hj]
  split <;> simp [*]

theorem auxDrop_lsdOn (x : Nat) : (auxDrop j s).bit F.AUX_STAT_LSD_ON x = (s.bit F.AUX_STAT_LSD_ON x && decide (x ≠ j)) := by
  rw [auxDrop_bit (by decide), auxLow]
  simp (disch := decide) only [State.bit_setBit_apart, State.bit_setBit _ hj]
  split <;> simp [*]

end

theorem auxDrop_hsdOn (j : Nat) (s : State) (x : Nat) : (auxDrop j s).bit F.AUX_STAT_HSD_ON x = s.bit F.AUX_STAT_HSD_ON x := by
  rw [auxDrop_bit (by decide), auxLow]
  simp (disch := decide) only [State.bit_setBit_apart]

theorem auxDrop_waiting (j : Nat) (s : State) : (auxDrop j s).aux.waiting = s.aux.waiting.map (unask j) := by
  unfold auxDrop
  dsimp only
  split <;> rfl

/-- Output `j` is low, and no request for it stands or waits. -/
structure AuxDead (j : Nat) (s : State) : Prop where
  req : s.bit F.AUX_REQ_REQ j = false
  low : s.bit F.AUX_STAT_LSD_ON j = false
  ask : ∀ w ∈ s.aux.waiting, w.1 = true → w.2.testBit j = false

namespace AuxDead

variable {i j : Nat} {s : State}

/-- A kill of any output leaves it so. -/
theorem auxDrop (h : AuxDead j s) (hi : i < 8) : AuxDead j (auxDrop i s) where
  req := by rw [auxDrop_req hi, h.req, Bool.false_and]
  low := by rw [auxDrop_lsdOn hi, h.low, Bool.false_and]
  ask w hw hreq := by
    rw [auxDrop_waiting] at hw
    obtain ⟨v, hv, rfl⟩ := List.mem_map.1 hw
    rw [unask_fst] at hreq
    rw [unask_testBit, h.ask v hv hreq, Bool.false_and]

theorem of_auxDrop (hj : j < 8) (s : State) : AuxDead j (Machine.auxDrop j s) where
  req := by simp [auxDrop_req hj]
  low := by simp [auxDrop_lsdOn hj]
  ask w hw hreq := by
    rw [auxDrop_waiting] at hw
    obtain ⟨v, -, rfl⟩ := List.mem_map.1 hw
    rw [unask_fst] at hreq
    simp [unask_testBit, hreq]

theorem auxKillOne (h : AuxDead j s) (hi : i < 8) : AuxDead j (auxKillOne i s) := by
  rw [auxKillOne_eq]
  split
  · exact h.auxDrop hi
  · exact h

/-- What is not asked for and not on is dead already; all else is dropped. -/
theorem of_auxKillOne (hj : j < 8) (s : State) : AuxDead j (Machine.auxKillOne j s) := by
  rw [auxKillOne_eq]
  split
  next => exact of_auxDrop hj s
  next h =>
    simp only [Bool.or_eq_true, not_or, Bool.not_eq_true, List.any_eq_false, Bool.and_eq_true, not_and] at h
    obtain ⟨⟨hreq, hlow⟩, hask⟩ := h
    exact ⟨hreq, hlow, hask⟩

theorem auxAsk (h : AuxDead j s) : s.auxAsk j ≠ some true := by
  rw [State.auxAsk, ne_eq, Option.map_eq_some_iff]
  rintro ⟨w, hw, hreq⟩
  have hbit := List.find?_some hw
  rw [h.ask w (List.mem_reverse.1 (List.mem_of_find?_eq_some hw)) hreq] at hbit
  cases hbit

end AuxDead

/-! ## All kills -/

theorem each_append_cons {α : Type} (f : State → α → State) (before : List α) (a : α) (after : List α) (s : State) :
    s.each (before ++ a :: after) f = (f (s.each before f) a).each after f := by
  simp only [State.each, List.foldl_append, List.foldl_cons]

/-- The outputs that a kill cause holds low. -/
def State.auxDying (s : State) : List Nat := (List.range 8).filter (fun j => s.auxKilled j)

theorem mem_auxDying {s : State} {j : Nat} : j ∈ s.auxDying ↔ j < 8 ∧ s.auxKilled j = true := by
  simp [State.auxDying]

/-- Outside a debug halt the outputs with a kill cause are killed one after another: no kill adds or ends a cause. -/
theorem auxKillNow_eq {s : State} (h : s.anyHalted = false) : auxKillNow s = s.each s.auxDying (fun s j => auxKillOne j s) := by
  have hfold : ∀ (l : List Nat) (x : State), (∀ j ∈ l, j < 8) → s.regsBut x auxRegs →
      x.each l (fun s j => if s.auxKilled j then auxKillOne j s else s) = x.each (l.filter fun j => s.auxKilled j) (fun s j => auxKillOne j s) := by
    intro l
    induction l with
    | nil => exact fun _ _ _ => rfl
    | cons j l ih =>
      intro x hl hx
      obtain ⟨hj, hrest⟩ := List.forall_mem_cons.1 hl
      have hcause := auxKilled_of_regsBut hx hj
      unfold State.each at ih ⊢
      rw [List.foldl_cons, hcause, List.filter_cons]
      split
      · exact ih _ hrest (hx.trans (auxMoves_auxKillOne j x).regs)
      · exact ih x hrest hx
  unfold auxKillNow
  rw [h]
  exact hfold _ s (fun j hj => List.mem_range.1 hj) (s.regsBut_refl _)

section

variable {s : State} (h : s.anyHalted = false)

include h

/-- Only the pairs of killed outputs move. -/
theorem auxMoves_auxKillNow : AuxMoves (fun k => ∃ j, s.auxKilled j = true ∧ j / 2 = k) s (auxKillNow s) := by
  rw [auxKillNow_eq h]
  exact .each (fun x j hj => (auxMoves_auxKillOne j x).mono fun k hk => ⟨j, (mem_auxDying.1 hj).2, hk.symm⟩) s

/-- A killed output is dead from its own kill on. -/
theorem auxDead_auxKillNow {j : Nat} (hj : j < 8) (hk : s.auxKilled j = true) : AuxDead j (auxKillNow s) := by
  obtain ⟨before, after, hsplit⟩ := List.append_of_mem (mem_auxDying.2 ⟨hj, hk⟩)
  have hafter : ∀ i ∈ after, i < 8 := fun i hi => (mem_auxDying.1 (hsplit ▸ List.mem_append_right _ (List.mem_cons_of_mem _ hi))).1
  rw [auxKillNow_eq h, hsplit, each_append_cons]
  exact List.foldlRecOn after _ (AuxDead.of_auxKillOne hj _) fun _ hx i hi => hx.auxKillOne (hafter i hi)

/-- A kill lets no low side rise and leaves every high side. -/
theorem auxKillNow_outputs : (∀ x, (auxKillNow s).bit F.AUX_STAT_LSD_ON x = true → s.bit F.AUX_STAT_LSD_ON x = true)
    ∧ ∀ x, (auxKillNow s).bit F.AUX_STAT_HSD_ON x = s.bit F.AUX_STAT_HSD_ON x := by
  rw [auxKillNow_eq h]
  refine List.foldlRecOn (motive := fun u : State => (∀ x, u.bit F.AUX_STAT_LSD_ON x = true → s.bit F.AUX_STAT_LSD_ON x = true)
    ∧ ∀ x, u.bit F.AUX_STAT_HSD_ON x = s.bit F.AUX_STAT_HSD_ON x) _ _ ⟨fun _ => id, fun _ => rfl⟩ fun u hu j hj => ?_
  obtain ⟨hlsd, hhsd⟩ := hu
  rw [auxKillOne_eq]
  split
  · have hj8 := (mem_auxDying.1 hj).1
    refine ⟨fun x hx => hlsd x ?_, fun x => (auxDrop_hsdOn j u x).trans (hhsd x)⟩
    rw [auxDrop_lsdOn hj8] at hx
    exact (Bool.and_eq_true_iff.1 hx).1
  · exact ⟨hlsd, hhsd⟩

end

end Sys2Proof.Machine
end

section
/-! The decision over a pair (R367 to R371): what the policies choose, and what the pair's bits read once the choice is made. -/

namespace Sys2Proof.Machine

/-! ## The choice -/

section

variable {fits dly e o ne no : Bool}

/-- SHARE grants a second load within the budget alone, and flags what it does not grant (R367, R371). -/
theorem auxChoice_share (he : (e && ne) = false) (ho : (o && no) = false) :
    (auxChoice 0 fits dly e o ne no).req = (e || ne && (!o || fits), o || no && (!(e || ne && (!o || fits)) || fits))
    ∧ (auxChoice 0 fits dly e o ne no).bud
      = (ne && !(auxChoice 0 fits dly e o ne no).req.1, no && !(auxChoice 0 fits dly e o ne no).req.2) := by
  revert fits dly e o ne no
  decide

/-- FIRST grants a load while the other is off alone (R368, R371). -/
theorem auxChoice_first (he : (e && ne) = false) (ho : (o && no) = false) :
    (auxChoice 1 fits dly e o ne no).req = (e || ne && !o, o || no && !(e || ne && !o))
    ∧ (auxChoice 1 fits dly e o ne no).ref
      = (ne && !(auxChoice 1 fits dly e o ne no).req.1, no && !(auxChoice 1 fits dly e o ne no).req.2) := by
  revert fits dly e o ne no
  decide

/-- PRIORITY: the even load drops the odd one and waits for its off-delay (R369, R371). -/
theorem auxChoice_priority {p : Nat} (h0 : p ≠ 0) (h1 : p ≠ 1) (ho : (o && no) = false) :
    (auxChoice p fits dly e o ne no).req = (e || ne, o && !ne || no && !(e || ne || dly))
    ∧ (auxChoice p fits dly e o ne no).drop = (ne && o)
    ∧ (auxChoice p fits dly e o ne no).ref = (false, no && !(auxChoice p fits dly e o ne no).req.2)
    ∧ (ne = true → o = true → (auxChoice p fits dly e o ne no).wait = true) := by
  simp only [auxChoice, if_neg h0, if_neg h1]
  revert dly e o ne no
  decide

/-- No policy grants an even load that is neither on nor asked for. -/
theorem auxChoice_even_off (p : Nat) : (auxChoice p fits dly false o false no).req.1 = false := by
  unfold auxChoice
  split
  · rfl
  · split <;> rfl

/-- No policy grants an odd load that is neither on nor asked for. -/
theorem auxChoice_odd_off (p : Nat) : (auxChoice p fits dly e false ne false).req.2 = false := by
  unfold auxChoice
  split
  · rfl
  · split <;> simp

end

/-! ## What a pair asks for -/

namespace State

variable (s : State) (k : Nat)

/-- The request of load `i` stands after the releases. -/
def auxWas (i : Nat) : Bool := s.bit F.AUX_REQ_REQ i && s.auxAsk i != some false

/-- Load `i` is asked for anew. -/
def auxNew (i : Nat) : Bool := !s.auxWas i && s.auxAsk i == some true

/-- Both loads of the pair fit its budget. -/
def auxFits : Bool := decide (s.fld (F.AUX_PAIR_ILOAD_EVEN k) + s.fld (F.AUX_PAIR_ILOAD_ODD k) ≤ s.fld (F.AUX_PAIR_BUDGET k))

/-- The choice of the pair's policy. -/
def auxPicks : AuxChoice :=
  auxChoice (s.fld (F.AUX_PAIR_POLICY k)) (s.auxFits k) (s.bit F.AUX_STAT_DELAY k) (s.auxWas (2 * k)) (s.auxWas (2 * k + 1))
    (s.auxNew (2 * k)) (s.auxNew (2 * k + 1))

/-- The loads of the pair that are wanted on now: an off-delay holds both. -/
def auxWants : Bool × Bool := ((s.auxPicks k).req.1 && !(s.auxPicks k).wait, (s.auxPicks k).req.2 && !(s.auxPicks k).wait)

/-- A low side of the pair falls. -/
def auxFell : Bool :=
  (s.bit F.AUX_STAT_LSD_ON (2 * k) && !(s.auxWants k).1) || (s.bit F.AUX_STAT_LSD_ON (2 * k + 1) && !(s.auxWants k).2)

/-- Low side `i` of the pair is on where it is wanted: it stays, or rises after its high side (R366). -/
def auxRises (i : Nat) : Bool := s.bit F.AUX_STAT_LSD_ON i || (s.bit F.AUX_STAT_HSD_ON k && !s.auxFell k)

/-- The high side of the pair is on: a load is wanted, or a low side has just fallen. -/
def auxHigh : Bool := (s.auxWants k).1 || (s.auxWants k).2 || (s.bit F.AUX_STAT_HSD_ON k && s.auxFell k)

theorem auxWas_auxNew (i : Nat) : (s.auxWas i && s.auxNew i) = false := by
  unfold auxNew
  cases s.auxWas i <;> rfl

end State

/-! ## What is written of it -/

/-- The requests of the pair. -/
def auxPutReq (k : Nat) (c : AuxChoice) (s : State) : State :=
  (s.setBit F.AUX_REQ_REQ (2 * k) c.req.1).setBit F.AUX_REQ_REQ (2 * k + 1) c.req.2

/-- The REFUSED flags of the pair. -/
def auxPutRef (k : Nat) (c : AuxChoice) (s : State) : State :=
  let s := if c.ref.1 then s.setBit F.AUX_FLAG_REFUSED (2 * k) true else s
  if c.ref.2 then s.setBit F.AUX_FLAG_REFUSED (2 * k + 1) true else s

/-- The BUDGET and DROPPED flags of the pair. -/
def auxPutBud (k : Nat) (c : AuxChoice) (s : State) : State :=
  let s := if c.bud.1 then s.setBit F.AUX_FLAG_BUDGET (2 * k) true else s
  let s := if c.bud.2 then s.setBit F.AUX_FLAG_BUDGET (2 * k + 1) true else s
  if c.drop then s.setBit F.AUX_FLAG_DROPPED (2 * k + 1) true else s

/-- The outputs of the pair: its off-delay, its low sides and its high side. -/
def auxPutStat (k : Nat) (wait even odd high : Bool) (s : State) : State :=
  (((s.setBit F.AUX_STAT_DELAY k wait).setBit F.AUX_STAT_LSD_ON (2 * k) even).setBit F.AUX_STAT_LSD_ON (2 * k + 1) odd).setBit
    F.AUX_STAT_HSD_ON k high

theorem auxPair_eq (k : Nat) (s : State) : auxPair k s =
    auxPutStat k (s.auxPicks k).wait ((s.auxWants k).1 && s.auxRises k (2 * k)) ((s.auxWants k).2 && s.auxRises k (2 * k + 1)) (s.auxHigh k)
      (auxPutBud k (s.auxPicks k) (auxPutRef k (s.auxPicks k) (auxPutReq k (s.auxPicks k) s))) := rfl

theorem auxMoves_auxPair (k : Nat) (s : State) : AuxMoves (· = k) s (auxPair k s) := by
  have heven : 2 * k / 2 = k := by omega
  have hodd : (2 * k + 1) / 2 = k := by omega
  have hmark : ∀ {f : Fld} {u : State} {i : Nat} (c : Bool), f ∈ auxLoadFlds → i / 2 = k → AuxMoves (· = k) s u →
      AuxMoves (· = k) s (if c then u.setBit f i true else u) := fun _ hf hi hu => .ite (hu.setLoad hf hi true) hu
  have hreq := ((AuxMoves.refl (· = k) s).setLoad (f := F.AUX_REQ_REQ) (by decide) heven (s.auxPicks k).req.1).setLoad
    (f := F.AUX_REQ_REQ) (by decide) hodd (s.auxPicks k).req.2
  have href := hmark (s.auxPicks k).ref.2 (f := F.AUX_FLAG_REFUSED) (by decide) hodd
    (hmark (s.auxPicks k).ref.1 (f := F.AUX_FLAG_REFUSED) (by decide) heven hreq)
  have hbud := hmark (s.auxPicks k).bud.2 (f := F.AUX_FLAG_BUDGET) (by decide) hodd
    (hmark (s.auxPicks k).bud.1 (f := F.AUX_FLAG_BUDGET) (by decide) heven href)
  have hdrop := hmark (s.auxPicks k).drop (f := F.AUX_FLAG_DROPPED) (by decide) hodd hbud
  rw [auxPair_eq]
  exact (((hdrop.setPair (f := F.AUX_STAT_DELAY) (by decide) rfl _).setLoad (f := F.AUX_STAT_LSD_ON) (by decide) heven _).setLoad
    (f := F.AUX_STAT_LSD_ON) (by decide) hodd _).setPair (f := F.AUX_STAT_HSD_ON) (by decide) rfl _

section

variable {k : Nat} (hk : k < 4) (s : State)

include hk

/-- The requests of the pair are those chosen. -/
theorem auxPair_req : (auxPair k s).bit F.AUX_REQ_REQ (2 * k) = (s.auxPicks k).req.1
    ∧ (auxPair k s).bit F.AUX_REQ_REQ (2 * k + 1) = (s.auxPicks k).req.2 := by
  have heven : 2 * k < 8 := by omega
  have hodd : 2 * k + 1 < 8 := by omega
  constructor <;>
    simp (disch := decide) [auxPair_eq, auxPutStat, auxPutBud, auxPutRef, auxPutReq, State.bit_setBit_apart, State.bit_ite_setBit_apart,
      State.bit_setBit _ heven, State.bit_setBit _ hodd]

/-- The flags of the pair are set where the choice says so. -/
theorem auxPair_flags :
    (auxPair k s).bit F.AUX_FLAG_REFUSED (2 * k) = (s.bit F.AUX_FLAG_REFUSED (2 * k) || (s.auxPicks k).ref.1)
    ∧ (auxPair k s).bit F.AUX_FLAG_REFUSED (2 * k + 1) = (s.bit F.AUX_FLAG_REFUSED (2 * k + 1) || (s.auxPicks k).ref.2)
    ∧ (auxPair k s).bit F.AUX_FLAG_BUDGET (2 * k) = (s.bit F.AUX_FLAG_BUDGET (2 * k) || (s.auxPicks k).bud.1)
    ∧ (auxPair k s).bit F.AUX_FLAG_BUDGET (2 * k + 1) = (s.bit F.AUX_FLAG_BUDGET (2 * k + 1) || (s.auxPicks k).bud.2)
    ∧ (auxPair k s).bit F.AUX_FLAG_DROPPED (2 * k + 1) = (s.bit F.AUX_FLAG_DROPPED (2 * k + 1) || (s.auxPicks k).drop) := by
  have heven : 2 * k < 8 := by omega
  have hodd : 2 * k + 1 < 8 := by omega
  refine ⟨?_, ?_, ?_, ?_, ?_⟩ <;>
    simp (disch := decide) [auxPair_eq, auxPutStat, auxPutBud, auxPutRef, auxPutReq, State.bit_setBit_apart, State.bit_ite_setBit_apart,
      State.bit_ite_setBit _ heven, State.bit_ite_setBit _ hodd]

/-- The outputs of the pair. -/
theorem auxPair_stat :
    (auxPair k s).bit F.AUX_STAT_DELAY k = (s.auxPicks k).wait
    ∧ (auxPair k s).bit F.AUX_STAT_LSD_ON (2 * k) = ((s.auxWants k).1 && s.auxRises k (2 * k))
    ∧ (auxPair k s).bit F.AUX_STAT_LSD_ON (2 * k + 1) = ((s.auxWants k).2 && s.auxRises k (2 * k + 1))
    ∧ (auxPair k s).bit F.AUX_STAT_HSD_ON k = s.auxHigh k := by
  have heven : 2 * k < 8 := by omega
  have hodd : 2 * k + 1 < 8 := by omega
  rw [auxPair_eq, auxPutStat]
  refine ⟨?_, ?_, ?_, ?_⟩ <;>
    simp (disch := decide) [State.bit_setBit_apart, State.bit_setBit _ hk, State.bit_setBit _ heven, State.bit_setBit _ hodd]

end

end Sys2Proof.Machine
end

section
/-! The Aux controller's commands (R365 to R376, R378): the writes of AUX_SET and AUX_CLR, the tick, the end of an off-delay, and a
Hall code. -/

namespace Sys2Proof.Machine

/-! ## Requests and releases -/

theorem fieldGet_word_byte (v : BitVec 8) : fieldGet (word v.toNat) 0 8 = v.toNat := by
  have hv : v.toNat < 256 := v.isLt
  simp only [fieldGet, bitsOf, word, BitVec.toNat_ofNat]
  omega

/-- A write that the controller takes completes with its effect and an answer. -/
theorem completes_auxWrite {i : Instr} {s t : State} {p : Fin 2} {k : Nat} {v : Word} {P : State → Prop}
    (hi : exec i s = .next (hostWrite p k v s)) (ht : s.takes p k v = true) (hk : k ≠ R.PCR_RST_CTRL)
    (he : regEffect p (homeKey k) v s = (0, t)) (hl : t.ldr = s.ldr) (hP : P (answer p 0 [] t)) : Completes i s P :=
  ⟨_, hi.trans (congrArg _ (hostWrite_effect ht he hl hk)), hP⟩

section

variable (v : Nat) (s : State)

/-- The outputs that a write names and a kill cause holds. -/
def State.auxAskedDead : List Nat := ((List.range 8).filter (fun j => v.testBit j)).filter (fun j => s.auxKilled j)

/-- The outputs that a write names, without a kill cause, that are not in use. -/
def State.auxAskedOff : List Nat :=
  ((List.range 8).filter (fun j => v.testBit j)).filter (fun j => !s.auxKilled j && !s.flag (F.AUX_LSD_EN j))

/-- The outputs that a write names and that may be asked for. -/
def State.auxAskedLive : List Nat :=
  ((List.range 8).filter (fun j => v.testBit j)).filter (fun j => !s.auxKilled j && s.flag (F.AUX_LSD_EN j))

/-- AUX_FLAG once the outputs that are not to be had are refused. -/
def auxRefuse : State :=
  (s.each (s.auxAskedDead v) (fun s j => s.setBit F.AUX_FLAG_KILLED j true)).each (s.auxAskedOff v)
    (fun s j => s.setBit F.AUX_FLAG_REFUSED j true)

theorem auxSet_eq : auxSet v s =
    (auxRefuse v s).modAux (fun x => { x with waiting := x.waiting ++ [(true, ((s.auxAskedLive v).map (fun j => 2 ^ j)).sum)] }) := rfl

theorem auxAskedDead_lt : ∀ j ∈ s.auxAskedDead v, j < 8 := by simp +contextual [State.auxAskedDead]

theorem auxAskedOff_lt : ∀ j ∈ s.auxAskedOff v, j < 8 := by simp +contextual [State.auxAskedOff]

theorem regsBut_auxRefuse : s.regsBut (auxRefuse v s) [R.AUX_FLAG] := by
  have hset : ∀ {f : Fld} (l : List Nat) (u : State), f.addr = R.AUX_FLAG → u.regsBut (u.each l fun s j => s.setBit f j true) [R.AUX_FLAG] :=
    fun _ u hf => .each (fun _ j _ hx => hx.setBit _ j true (by simp [hf])) (u.regsBut_refl _)
  exact (hset _ s rfl).trans (hset _ _ rfl)

theorem aux_auxRefuse : (auxRefuse v s).aux = s.aux := by
  have hset : ∀ (f : Fld) (l : List Nat) (u : State), (u.each l fun s j => s.setBit f j true).aux = u.aux := fun f l u =>
    (Near.each (l := 1) (fun _ j h => h.setBit f j true rfl) (.refl _ u)).same .aux rfl
  unfold auxRefuse
  rw [hset, hset]

/-- KILLED comes before REFUSED (R373, as log 73 reads it), and the other flags stand. -/
theorem auxRefuse_flags (j : Nat) :
    (auxRefuse v s).bit F.AUX_FLAG_KILLED j = (s.bit F.AUX_FLAG_KILLED j || decide (j ∈ s.auxAskedDead v))
    ∧ (auxRefuse v s).bit F.AUX_FLAG_REFUSED j = (s.bit F.AUX_FLAG_REFUSED j || decide (j ∈ s.auxAskedOff v))
    ∧ (auxRefuse v s).bit F.AUX_FLAG_BUDGET j = s.bit F.AUX_FLAG_BUDGET j
    ∧ (auxRefuse v s).bit F.AUX_FLAG_DROPPED j = s.bit F.AUX_FLAG_DROPPED j := by
  simp (disch := decide) only [auxRefuse, State.bit_each_setBit_apart, State.bit_each_setBit _ (auxAskedDead_lt v s),
    State.bit_each_setBit _ (auxAskedOff_lt v s), and_self]

theorem auxAskedLive_testBit (j : Nat) : ((s.auxAskedLive v).map (fun j => 2 ^ j)).sum.testBit j = decide (j ∈ s.auxAskedLive v) :=
  testBit_sum_two_pow (((List.sortedLT_range 8).pairwise.filter _).filter _).sortedLT j

end

/-- A taken write of AUX_SET refuses what is not to be had and lets the rest wait (R373). -/
theorem auxSet_spec (v : BitVec 8) (s : State) :
    (∀ j : Fin 8,
      (auxSet v.toNat s).bit F.AUX_FLAG_KILLED j = (s.bit F.AUX_FLAG_KILLED j || v.getLsbD j && s.auxKilled j)
      ∧ (auxSet v.toNat s).bit F.AUX_FLAG_REFUSED j = (s.bit F.AUX_FLAG_REFUSED j || v.getLsbD j && !s.auxKilled j && !s.flag (F.AUX_LSD_EN j))
      ∧ (auxSet v.toNat s).bit F.AUX_FLAG_BUDGET j = s.bit F.AUX_FLAG_BUDGET j
      ∧ (auxSet v.toNat s).bit F.AUX_FLAG_DROPPED j = s.bit F.AUX_FLAG_DROPPED j)
    ∧ (∃ m, (auxSet v.toNat s).aux.waiting = s.aux.waiting ++ [(true, m)]
      ∧ ∀ j : Fin 8, m.testBit j = (v.getLsbD j && !s.auxKilled j && s.flag (F.AUX_LSD_EN j)))
    ∧ s.regsBut (auxSet v.toNat s) [R.AUX_FLAG] := by
  rw [auxSet_eq]
  refine ⟨fun j => ?_, ⟨((s.auxAskedLive v.toNat).map (fun j => 2 ^ j)).sum, ?_, fun j => ?_⟩,
    (regsBut_auxRefuse _ s).same (State.modAux_regs _ _)⟩
  · obtain ⟨hkilled, hrefused, hbudget, hdropped⟩ := auxRefuse_flags v.toNat s j
    simp only [State.modAux_bit]
    refine ⟨hkilled.trans ?_, hrefused.trans ?_, hbudget, hdropped⟩
    · simp [State.auxAskedDead, BitVec.testBit_toNat, Bool.and_comm]
    · simp [State.auxAskedOff, BitVec.testBit_toNat, Bool.and_assoc, Bool.and_comm, Bool.and_left_comm]
  · rw [State.modAux_aux, aux_auxRefuse]
  · rw [auxAskedLive_testBit]
    simp [State.auxAskedLive, BitVec.testBit_toNat, Bool.and_assoc, Bool.and_comm, Bool.and_left_comm]

/-! ## The tick -/

/-- The decisions of the other pairs stand apart from that of pair `k`. -/
theorem auxPairs_at {k : Nat} (hk : k < 4) (s : State) : ∃ u, AuxMoves (· ≠ k) s u
    ∧ AuxMoves (· ≠ k) (auxPair k u) (s.each (List.range 4) (fun s k => auxPair k s)) := by
  obtain ⟨before, after, hsplit⟩ := List.append_of_mem (List.mem_range.2 hk)
  have honce : k ∉ before ++ after := (List.nodup_cons.1 (List.nodup_middle.1 (hsplit ▸ List.nodup_range))).1
  have hothers : ∀ (l : List Nat), k ∉ l → ∀ x : State, AuxMoves (· ≠ k) x (x.each l fun s k => auxPair k s) := fun l hl x =>
    .each (fun y a ha => (auxMoves_auxPair a y).mono fun _ he => he ▸ fun hak => hl (hak ▸ ha)) x
  rw [hsplit, each_append_cons]
  exact ⟨_, hothers before (fun hm => honce (List.mem_append_left _ hm)) s, hothers after (fun hm => honce (List.mem_append_right _ hm)) _⟩

/-- What the choice of pair `k` rests on stands where the pair does not move. -/
theorem AuxMoves.auxPicks {P : Nat → Prop} {s u : State} (h : AuxMoves P s u) {k : Nat} (hk : k < 4) (hP : ¬ P k) :
    u.auxPicks k = s.auxPicks k := by
  have hcfg : R.AUX_PAIR k ∉ auxRegs := auxPairCfg_notMem hk
  simp only [State.auxPicks, State.auxNew, State.auxWas, State.auxFits, h.ask_even hP, h.ask_odd hP,
    h.even hP (f := F.AUX_REQ_REQ) (by decide), h.odd hP (f := F.AUX_REQ_REQ) (by decide), h.pair F.AUX_STAT_DELAY (by decide) _ hP,
    h.regs.fld (f := F.AUX_PAIR_POLICY k) hcfg,
    h.regs.fld (f := F.AUX_PAIR_ILOAD_EVEN k) hcfg, h.regs.fld (f := F.AUX_PAIR_ILOAD_ODD k) hcfg, h.regs.fld (f := F.AUX_PAIR_BUDGET k) hcfg]

/-- The bits of pair `k` stand in `t` as the decision of the pair from `u` leaves them. -/
structure AuxTicked (k : Nat) (u t : State) : Prop where
  load : ∀ f ∈ auxLoadFlds, ∀ x, x / 2 = k → t.bit f x = (auxPair k u).bit f x
  pair : ∀ f ∈ auxPairFlds, t.bit f k = (auxPair k u).bit f k

/-- In READY and outside a debug halt the kills come first, then each pair decides (R365). -/
theorem auxDecision_ready {s : State} (hh : s.anyHalted = false) (hr : s.flag F.PCR_PWR_STATE_READY = true) :
    auxDecision s = ((auxKillNow s).each (List.range 4) (fun s k => auxPair k s)).modAux (fun x => { x with waiting := [] }) := by
  unfold auxDecision
  rw [hh, hr]
  rfl

section

variable {s : State} (hh : s.anyHalted = false) (hr : s.flag F.PCR_PWR_STATE_READY = true)

include hh hr

theorem regsBut_auxDecision : s.regsBut (auxDecision s) auxRegs := by
  rw [auxDecision_ready hh hr]
  have hpairs : (auxKillNow s).regsBut ((auxKillNow s).each (List.range 4) fun s k => auxPair k s) auxRegs :=
    .each (fun x k _ hx => hx.trans (auxMoves_auxPair k x).regs) (State.regsBut_refl _ _)
  exact ((auxMoves_auxKillNow hh).regs.trans hpairs).same (State.modAux_regs _ _)

theorem auxDecision_waiting : (auxDecision s).aux.waiting = [] := by
  rw [auxDecision_ready hh hr, State.modAux_aux]

/-- A tick decides each pair from what the kills leave of it. -/
theorem auxDecision_ticks {k : Nat} (hk : k < 4) : ∃ u, AuxMoves (· ≠ k) (auxKillNow s) u ∧ AuxTicked k u (auxDecision s) := by
  obtain ⟨u, hbefore, hafter⟩ := auxPairs_at hk (auxKillNow s)
  rw [auxDecision_ready hh hr]
  refine ⟨u, hbefore, fun f hf x hx => ?_, fun f hf => ?_⟩
  · rw [State.modAux_bit, hafter.load f hf x (not_not.2 hx)]
  · rw [State.modAux_bit, hafter.pair f hf k (not_not.2 rfl)]

end

namespace AuxTicked

variable {k : Nat} {u t : State} (h : AuxTicked k u t) (hk : k < 4)

include h hk

theorem req : t.bit F.AUX_REQ_REQ (2 * k) = (u.auxPicks k).req.1 ∧ t.bit F.AUX_REQ_REQ (2 * k + 1) = (u.auxPicks k).req.2 := by
  rw [h.load F.AUX_REQ_REQ (by decide) _ (by omega), h.load F.AUX_REQ_REQ (by decide) _ (by omega)]
  exact auxPair_req hk u

theorem flags :
    t.bit F.AUX_FLAG_REFUSED (2 * k) = (u.bit F.AUX_FLAG_REFUSED (2 * k) || (u.auxPicks k).ref.1)
    ∧ t.bit F.AUX_FLAG_REFUSED (2 * k + 1) = (u.bit F.AUX_FLAG_REFUSED (2 * k + 1) || (u.auxPicks k).ref.2)
    ∧ t.bit F.AUX_FLAG_BUDGET (2 * k) = (u.bit F.AUX_FLAG_BUDGET (2 * k) || (u.auxPicks k).bud.1)
    ∧ t.bit F.AUX_FLAG_BUDGET (2 * k + 1) = (u.bit F.AUX_FLAG_BUDGET (2 * k + 1) || (u.auxPicks k).bud.2)
    ∧ t.bit F.AUX_FLAG_DROPPED (2 * k + 1) = (u.bit F.AUX_FLAG_DROPPED (2 * k + 1) || (u.auxPicks k).drop) := by
  rw [h.load F.AUX_FLAG_REFUSED (by decide) _ (by omega), h.load F.AUX_FLAG_REFUSED (by decide) _ (by omega),
    h.load F.AUX_FLAG_BUDGET (by decide) _ (by omega), h.load F.AUX_FLAG_BUDGET (by decide) _ (by omega),
    h.load F.AUX_FLAG_DROPPED (by decide) _ (by omega)]
  exact auxPair_flags hk u

theorem stat :
    t.bit F.AUX_STAT_DELAY k = (u.auxPicks k).wait
    ∧ t.bit F.AUX_STAT_LSD_ON (2 * k) = ((u.auxWants k).1 && u.auxRises k (2 * k))
    ∧ t.bit F.AUX_STAT_LSD_ON (2 * k + 1) = ((u.auxWants k).2 && u.auxRises k (2 * k + 1))
    ∧ t.bit F.AUX_STAT_HSD_ON k = u.auxHigh k := by
  rw [h.load F.AUX_STAT_LSD_ON (by decide) _ (by omega), h.load F.AUX_STAT_LSD_ON (by decide) _ (by omega),
    h.pair F.AUX_STAT_DELAY (by decide), h.pair F.AUX_STAT_HSD_ON (by decide)]
  exact auxPair_stat hk u

/-- A low side that is on has its high side and its request, and was on before or had its high side (R366). -/
theorem lsd_on {x : Nat} (hx : x = 2 * k ∨ x = 2 * k + 1) (hon : t.bit F.AUX_STAT_LSD_ON x = true) :
    t.bit F.AUX_STAT_HSD_ON k = true ∧ t.bit F.AUX_REQ_REQ x = true
    ∧ (u.bit F.AUX_STAT_LSD_ON x = true ∨ u.bit F.AUX_STAT_HSD_ON k = true) := by
  obtain ⟨hreqE, hreqO⟩ := h.req hk
  obtain ⟨-, heven, hodd, hhigh⟩ := h.stat hk
  have hrises : ∀ i, u.auxRises k i = true → u.bit F.AUX_STAT_LSD_ON i = true ∨ u.bit F.AUX_STAT_HSD_ON k = true := fun i hi =>
    (Bool.or_eq_true_iff.1 hi).imp_right fun hb => (Bool.and_eq_true_iff.1 hb).1
  rcases hx with rfl | rfl
  · obtain ⟨hwant, hrise⟩ := Bool.and_eq_true_iff.1 (heven ▸ hon)
    exact ⟨by rw [hhigh, State.auxHigh, hwant]; rfl, hreqE ▸ (Bool.and_eq_true_iff.1 hwant).1, hrises _ hrise⟩
  · obtain ⟨hwant, hrise⟩ := Bool.and_eq_true_iff.1 (hodd ▸ hon)
    exact ⟨by rw [hhigh, State.auxHigh, hwant, Bool.or_true]; rfl, hreqO ▸ (Bool.and_eq_true_iff.1 hwant).1, hrises _ hrise⟩

/-- An output that no request is for gets none. -/
theorem req_dead {x : Nat} (hx : x = 2 * k ∨ x = 2 * k + 1) (hreq : u.bit F.AUX_REQ_REQ x = false) (hask : u.auxAsk x ≠ some true) :
    t.bit F.AUX_REQ_REQ x = false := by
  have hwas : u.auxWas x = false := by rw [State.auxWas, hreq, Bool.false_and]
  have hnew : u.auxNew x = false := by rw [State.auxNew, beq_eq_false_iff_ne.2 hask, Bool.and_false]
  obtain ⟨heven, hodd⟩ := h.req hk
  rcases hx with rfl | rfl
  · rw [heven, State.auxPicks, hwas, hnew, auxChoice_even_off]
  · rw [hodd, State.auxPicks, hwas, hnew, auxChoice_odd_off]

end AuxTicked

end Sys2Proof.Machine
end

section
/-! A tick by policy (R367 to R371), for a pair whose outputs no kill cause holds, and the statement about the Aux controller. -/

namespace Sys2Proof.Machine

/-! ## By policy -/

namespace AuxTicked

variable {P : Nat → Prop} {k : Nat} {s u t : State} (h : AuxTicked k u t) (hk : k < 4) (hm : AuxMoves P s u) (hP : ¬ P k)

include h hk hm hP

theorem share (hp : s.fld (F.AUX_PAIR_POLICY k) = 0) :
    t.bit F.AUX_REQ_REQ (2 * k) = (s.auxWas (2 * k) || s.auxNew (2 * k) && (!s.auxWas (2 * k + 1) || s.auxFits k))
    ∧ t.bit F.AUX_REQ_REQ (2 * k + 1) = (s.auxWas (2 * k + 1) || s.auxNew (2 * k + 1)
      && (!(s.auxWas (2 * k) || s.auxNew (2 * k) && (!s.auxWas (2 * k + 1) || s.auxFits k)) || s.auxFits k))
    ∧ t.bit F.AUX_FLAG_BUDGET (2 * k) = (s.bit F.AUX_FLAG_BUDGET (2 * k) || s.auxNew (2 * k) && !t.bit F.AUX_REQ_REQ (2 * k))
    ∧ t.bit F.AUX_FLAG_BUDGET (2 * k + 1) = (s.bit F.AUX_FLAG_BUDGET (2 * k + 1) || s.auxNew (2 * k + 1) && !t.bit F.AUX_REQ_REQ (2 * k + 1)) := by
  obtain ⟨hreqE, hreqO⟩ := h.req hk
  obtain ⟨-, -, hbudE, hbudO, -⟩ := h.flags hk
  obtain ⟨hreq, hbud⟩ := auxChoice_share (fits := s.auxFits k) (dly := s.bit F.AUX_STAT_DELAY k)
    (s.auxWas_auxNew (2 * k)) (s.auxWas_auxNew (2 * k + 1))
  have hpicks : u.auxPicks k = _ := (hm.auxPicks hk hP).trans (by rw [State.auxPicks, hp])
  rw [hpicks] at hreqE hreqO hbudE hbudO
  rw [hbudE, hbudO, hbud, hreqE, hreqO, hreq, hm.even hP (f := F.AUX_FLAG_BUDGET) (by decide),
    hm.odd hP (f := F.AUX_FLAG_BUDGET) (by decide)]
  exact ⟨rfl, rfl, rfl, rfl⟩

theorem first (hp : s.fld (F.AUX_PAIR_POLICY k) = 1) :
    t.bit F.AUX_REQ_REQ (2 * k) = (s.auxWas (2 * k) || s.auxNew (2 * k) && !s.auxWas (2 * k + 1))
    ∧ t.bit F.AUX_REQ_REQ (2 * k + 1) = (s.auxWas (2 * k + 1) || s.auxNew (2 * k + 1)
      && !(s.auxWas (2 * k) || s.auxNew (2 * k) && !s.auxWas (2 * k + 1)))
    ∧ t.bit F.AUX_FLAG_REFUSED (2 * k) = (s.bit F.AUX_FLAG_REFUSED (2 * k) || s.auxNew (2 * k) && !t.bit F.AUX_REQ_REQ (2 * k))
    ∧ t.bit F.AUX_FLAG_REFUSED (2 * k + 1)
      = (s.bit F.AUX_FLAG_REFUSED (2 * k + 1) || s.auxNew (2 * k + 1) && !t.bit F.AUX_REQ_REQ (2 * k + 1)) := by
  obtain ⟨hreqE, hreqO⟩ := h.req hk
  obtain ⟨hrefE, hrefO, -⟩ := h.flags hk
  obtain ⟨hreq, href⟩ := auxChoice_first (fits := s.auxFits k) (dly := s.bit F.AUX_STAT_DELAY k)
    (s.auxWas_auxNew (2 * k)) (s.auxWas_auxNew (2 * k + 1))
  have hpicks : u.auxPicks k = _ := (hm.auxPicks hk hP).trans (by rw [State.auxPicks, hp])
  rw [hpicks] at hreqE hreqO hrefE hrefO
  rw [hrefE, hrefO, href, hreqE, hreqO, hreq, hm.even hP (f := F.AUX_FLAG_REFUSED) (by decide),
    hm.odd hP (f := F.AUX_FLAG_REFUSED) (by decide)]
  exact ⟨rfl, rfl, rfl, rfl⟩

theorem priority (h0 : s.fld (F.AUX_PAIR_POLICY k) ≠ 0) (h1 : s.fld (F.AUX_PAIR_POLICY k) ≠ 1) :
    t.bit F.AUX_REQ_REQ (2 * k) = (s.auxWas (2 * k) || s.auxNew (2 * k))
    ∧ t.bit F.AUX_REQ_REQ (2 * k + 1) = (s.auxWas (2 * k + 1) && !s.auxNew (2 * k)
      || s.auxNew (2 * k + 1) && !(s.auxWas (2 * k) || s.auxNew (2 * k) || s.bit F.AUX_STAT_DELAY k))
    ∧ t.bit F.AUX_FLAG_DROPPED (2 * k + 1) = (s.bit F.AUX_FLAG_DROPPED (2 * k + 1) || s.auxNew (2 * k) && s.auxWas (2 * k + 1))
    ∧ t.bit F.AUX_FLAG_REFUSED (2 * k + 1)
      = (s.bit F.AUX_FLAG_REFUSED (2 * k + 1) || s.auxNew (2 * k + 1) && !t.bit F.AUX_REQ_REQ (2 * k + 1))
    ∧ (s.auxNew (2 * k) = true → s.auxWas (2 * k + 1) = true → t.bit F.AUX_STAT_DELAY k = true ∧ t.bit F.AUX_STAT_LSD_ON (2 * k) = false
      ∧ t.bit F.AUX_STAT_LSD_ON (2 * k + 1) = false) := by
  obtain ⟨hreqE, hreqO⟩ := h.req hk
  obtain ⟨-, hrefO, -, -, hdropO⟩ := h.flags hk
  obtain ⟨hdelay, heven, hlow, -⟩ := h.stat hk
  obtain ⟨hreq, hdrop, href, hwait⟩ := auxChoice_priority (fits := s.auxFits k) (dly := s.bit F.AUX_STAT_DELAY k) (e := s.auxWas (2 * k))
    (ne := s.auxNew (2 * k)) h0 h1 (s.auxWas_auxNew (2 * k + 1))
  have hpicks : u.auxPicks k = auxChoice _ _ _ _ _ _ _ := hm.auxPicks hk hP
  rw [hpicks] at hreqE hreqO hrefO hdropO hdelay
  rw [hrefO, hdropO, hdrop, href, hreqE, hreqO, hreq, hm.odd hP (f := F.AUX_FLAG_REFUSED) (by decide),
    hm.odd hP (f := F.AUX_FLAG_DROPPED) (by decide)]
  refine ⟨rfl, rfl, rfl, rfl, fun hne ho => ?_⟩
  have hw := hwait hne ho
  have hnone : u.auxWants k = (false, false) := by simp only [State.auxWants, hpicks, hw, Bool.not_true, Bool.and_false]
  rw [hdelay, heven, hlow, hnone]
  exact ⟨hw, rfl, rfl⟩

end AuxTicked

/-! ## A tick outside READY, the off-delay and the Hall inputs -/

theorem auxDecision_halted {s : State} (h : s.anyHalted = true) : auxDecision s = s := if_pos h

theorem auxDecision_off {s : State} (h : s.anyHalted = false) (hr : s.flag F.PCR_PWR_STATE_READY = false) : auxDecision s = auxOff s := by
  unfold auxDecision
  rw [h, hr]
  rfl

theorem auxOff_spec (s : State) :
    (auxOff s).reg R.AUX_STAT = 0 ∧ (auxOff s).fld F.AUX_REQ_REQ = 0 ∧ (auxOff s).aux.waiting = []
    ∧ s.regsBut (auxOff s) [R.AUX_STAT, R.AUX_REQ] := by
  unfold auxOff
  rw [State.modAux_reg, State.modAux_fld, State.modAux_aux]
  refine ⟨State.reg_setReg_same _ _ _, ?_, rfl, ?_⟩
  · rw [State.fld_setReg_other _ _ (by decide), State.fld_setFld_same _ _ (by decide)]; rfl
  · exact (((s.regsBut_refl _).setFld F.AUX_REQ_REQ 0 (by decide)).setReg R.AUX_STAT 0 (by decide)).same (State.modAux_regs _ _)

theorem offDelayEnd_held {s : State} {k : Nat} (h : s.anyHalted = true ∨ s.bit F.AUX_STAT_DELAY k = false) : offDelayEnd k s = s :=
  if_pos (by simpa using h)

/-- The off-delay's end raises the high side alone (R369). -/
theorem offDelayEnd_spec {s : State} {k : Nat} (hk : k < 4) (h : ¬ (s.anyHalted = true ∨ s.bit F.AUX_STAT_DELAY k = false)) :
    (offDelayEnd k s).bit F.AUX_STAT_DELAY k = false ∧ (offDelayEnd k s).bit F.AUX_STAT_HSD_ON k = true
    ∧ (∀ x, (offDelayEnd k s).bit F.AUX_STAT_LSD_ON x = s.bit F.AUX_STAT_LSD_ON x) ∧ s.regsBut (offDelayEnd k s) [R.AUX_STAT] := by
  have hends : offDelayEnd k s = (s.setBit F.AUX_STAT_DELAY k false).setBit F.AUX_STAT_HSD_ON k true := if_neg (by simpa using h)
  rw [hends]
  refine ⟨?_, State.bit_setBit_same _ _ _ (by decide) hk, fun x => ?_,
    ((s.regsBut_refl _).setBit F.AUX_STAT_DELAY k false (by decide)).setBit F.AUX_STAT_HSD_ON k true (by decide)⟩
  · rw [State.bit_setBit_apart _ (by decide), State.bit_setBit_same _ _ _ (by decide) hk]
  · rw [State.bit_setBit_apart _ (by decide), State.bit_setBit_apart _ (by decide)]

/-- The counts of an axis event rest on the tasks, the routes and the tenants' resets. -/
theorem heard_of_same {s t u : State} {n : Nat} (ht : t.tasks = s.tasks) (hr : t.routes = s.routes) (hin : ∀ a, t.inReset a = s.inReset a)
    (h : t.heard u n) : s.heard u n := by
  intro c
  rw [h c, hin]
  simp only [State.task, State.routeCount, ht, hr]

theorem hall_notMem_eventRegs (a : Fin 4) : R.AUX_HALL a ∉ eventRegs := by
  fin_cases a <;> decide

theorem tenCtrl_ne_hall (t : Nat) (a : Fin 4) : R.QUE_TEN_CTRL t ≠ R.AUX_HALL a := by
  have hbelow : ∀ a : Fin 4, R.AUX_HALL a < R.QUE_TEN_CTRL 0 := by decide
  exact ((hbelow a).trans_le (by simp [R.QUE_TEN_CTRL])).ne'

/-- A Hall code that differs is shown and raises HALL of its axis (R378). -/
theorem hallChange_spec {s : State} {a : Fin 4} {code : BitVec 3} (h : s.flag (F.AUX_HALL_EN a) = true ∧ s.fld (F.AUX_HALL_CODE a) ≠ code.toNat) :
    (hallChange a code s).fld (F.AUX_HALL_CODE a) = code.toNat ∧ s.heard (hallChange a code s) (0x20 * a.val + Ev.hall)
    ∧ s.regsBut (hallChange a code s) (R.AUX_HALL a :: eventRegs) := by
  have hraises : hallChange a code s = raiseAx a Ev.hall code.toNat (s.setFld (F.AUX_HALL_CODE a) code.toNat) := if_pos (by simpa using h)
  rw [hraises]
  refine ⟨?_, heard_of_same (t := s.setFld (F.AUX_HALL_CODE a) code.toNat) (State.setFld_tasks ..) (State.setFld_routes ..)
      (fun t => ?_) (raiseAx_heard _ a Ev.hall code.toNat),
    ((s.regsBut_refl _).setFld (F.AUX_HALL_CODE a) _ List.mem_cons_self).raiseAx a Ev.hall _ fun _ => List.mem_cons_of_mem _⟩
  · rw [(served_raiseAx (.refl _) a Ev.hall code.toNat).regs.fld (hall_notMem_eventRegs a), State.fld_setFld_same _ _ (by simp [F.AUX_HALL_CODE])]
    exact Nat.mod_eq_of_lt code.isLt
  · exact congrArg (· != 0) (State.fld_setFld_other s code.toNat (tenCtrl_ne_hall t a))

theorem hallChange_ignored {s : State} {a : Fin 4} {code : BitVec 3}
    (h : ¬ (s.flag (F.AUX_HALL_EN a) = true ∧ s.fld (F.AUX_HALL_CODE a) ≠ code.toNat)) : hallChange a code s = s :=
  if_neg (by simpa using h)

/-! ## The statement -/

/-- The tick in READY: killed outputs end low, and each pair follows its policy. -/
theorem auxDecision_spec {s : State} (hh : s.anyHalted = false) (hr : s.flag F.PCR_PWR_STATE_READY = true) {k : Nat} (hk : k < 4) :
    ∃ u, AuxTicked k u (auxDecision s) ∧ AuxMoves (fun i => (∃ j, s.auxKilled j = true ∧ j / 2 = i) ∨ i ≠ k) s u
      ∧ (∀ j, j < 8 → j / 2 = k → s.auxKilled j = true → u.bit F.AUX_REQ_REQ j = false ∧ u.auxAsk j ≠ some true)
      ∧ (∀ x, x / 2 = k → u.bit F.AUX_STAT_LSD_ON x = true → s.bit F.AUX_STAT_LSD_ON x = true)
      ∧ u.bit F.AUX_STAT_HSD_ON k = s.bit F.AUX_STAT_HSD_ON k := by
  obtain ⟨u, hu, ht⟩ := auxDecision_ticks hh hr hk
  obtain ⟨hlsd, hhsd⟩ := auxKillNow_outputs hh
  refine ⟨u, ht, ((auxMoves_auxKillNow hh).mono fun _ => .inl).trans (hu.mono fun _ => .inr), fun j hj hjk hd => ?_, fun x hx hon => ?_, ?_⟩
  · have hdead := auxDead_auxKillNow hh hj hd
    exact ⟨(hu.load F.AUX_REQ_REQ (by decide) j (not_not.2 hjk)).trans hdead.req, by rw [hu.ask j (not_not.2 hjk)]; exact hdead.auxAsk⟩
  · exact hlsd x ((hu.load F.AUX_STAT_LSD_ON (by decide) x (not_not.2 hx)).symm.trans hon)
  · exact (hu.pair F.AUX_STAT_HSD_ON (by decide) k (not_not.2 rfl)).trans (hhsd k)

/-- A tick leaves a killed output low and without a request. -/
theorem auxDecision_killed {s : State} (hh : s.anyHalted = false) (hr : s.flag F.PCR_PWR_STATE_READY = true) {j : Nat} (hj : j < 8)
    (hd : s.auxKilled j = true) : (auxDecision s).bit F.AUX_REQ_REQ j = false ∧ (auxDecision s).bit F.AUX_STAT_LSD_ON j = false := by
  have hk : j / 2 < 4 := by omega
  have hload : j = 2 * (j / 2) ∨ j = 2 * (j / 2) + 1 := by omega
  obtain ⟨u, ht, -, hdead, -⟩ := auxDecision_spec hh hr hk
  obtain ⟨hreq, hask⟩ := hdead j hj rfl hd
  have hnone := ht.req_dead hk hload hreq hask
  refine ⟨hnone, Bool.eq_false_iff.2 fun hon => ?_⟩
  obtain ⟨-, hreq', -⟩ := ht.lsd_on hk hload hon
  rw [hnone] at hreq'
  cases hreq'

/-- Settles O55: the writes wait or are refused, a tick kills and then decides pair by pair, and the off-delay and the Hall inputs act
by lemmas of their own. -/
theorem auxPairsSwitchByTheirPolicy : Obligations.AuxPairsSwitchByTheirPolicy := by
  unfold Obligations.AuxPairsSwitchByTheirPolicy
  refine ⟨fun s p v => ⟨fun ht => ?set, fun ht => ?clear⟩, fun s => ⟨fun hh => ?halted, fun hh hr => ?off, fun hh hr => ?tick⟩,
    fun s => ⟨fun k => ?delay, fun a code => ?hall⟩⟩
  case set =>
    refine completes_auxWrite rfl ht (by decide) (effect_auxSet ..) ((near_auxSet (l := 0x400001) rfl (.refl _ s) _).same .ldr rfl) ?_
    rw [fieldGet_word_byte]
    exact auxSet_spec v s
  case clear =>
    refine completes_auxWrite rfl ht (by decide) (effect_auxClr ..) rfl ?_
    rw [fieldGet_word_byte, answer_aux, answer_regs, auxClr, Nat.mod_eq_of_lt v.isLt]
    exact ⟨rfl, rfl⟩
  case halted => exact congrArg Host.Outcome.next (auxDecision_halted hh)
  case off => exact ⟨_, congrArg Host.Outcome.next (auxDecision_off hh hr), auxOff_spec s⟩
  case tick =>
    refine ⟨_, rfl, auxDecision_waiting hh hr, regsBut_auxDecision hh hr, fun j hd => auxDecision_killed hh hr j.isLt hd, ?_⟩
    rintro k j i pol e o ne no fits hk rfl rfl rfl rfl rfl rfl rfl rfl
    obtain ⟨u, ht, hm, -, hlsd, hhsd⟩ := auxDecision_spec hh hr hk
    refine ⟨fun hon => ?_, fun x hx hon => ?_, fun hdE hdO => ?_⟩
    · rcases hon with hon | hon
      · exact (ht.lsd_on hk (.inl rfl) hon).1
      · exact (ht.lsd_on hk (.inr rfl) hon).1
    · obtain ⟨-, hreq, hbefore⟩ := ht.lsd_on hk hx hon
      exact ⟨hreq, hbefore.imp (hlsd x (by omega)) hhsd.symm.trans⟩
    · have hstands : ¬ ((∃ j, s.auxKilled j = true ∧ j / 2 = k) ∨ k ≠ k) := by
        rintro (⟨j, hj, hjk⟩ | hne)
        · obtain rfl | rfl : j = 2 * k ∨ j = 2 * k + 1 := by omega
          · rw [hdE] at hj; cases hj
          · rw [hdO] at hj; cases hj
        · exact hne rfl
      split
      next h0 => exact ht.share hk hm hstands h0
      next h0 =>
        split
        next h1 => exact ht.first hk hm hstands h1
        next h1 => exact ht.priority hk hm hstands h0 h1
  case delay =>
    split
    next h => exact congrArg Host.Outcome.next (offDelayEnd_held h)
    next h =>
      obtain ⟨hdelay, hhigh, hlow, hregs⟩ := offDelayEnd_spec k.isLt h
      exact ⟨_, rfl, hdelay, hhigh, fun j => hlow j, hregs⟩
  case hall =>
    split
    next h => exact ⟨_, rfl, hallChange_spec h⟩
    next h => exact congrArg Host.Outcome.next (hallChange_ignored h)

end Sys2Proof.Machine
end
